-- ==== Sys2Proof/Word.lean ====
section
/-! DEFINITION. The word types of the PJV-7302 model and their plainest arithmetic. -/

namespace Sys2Proof

/-- One byte as it stands in a frame, a record or an object. -/
abbrev Byte := BitVec 8
/-- A 16-bit word of a frame or an object (UNSIGNED16). -/
abbrev W16 := BitVec 16
/-- A 32-bit word of a frame or an object (UNSIGNED32). -/
abbrev W32 := BitVec 32
/-- A 64-bit word: a pair of 32-bit check values, or an UNSIGNED64 object. -/
abbrev W64 := BitVec 64

/-- A vital channel, A to D (R7, R8). -/
inductive Ch where
  | a | b | c | d
  deriving DecidableEq, Repr

/-- The channel's index: 0 A, 1 B, 2 C, 3 D (R14 SRC). -/
def Ch.idx : Ch → Nat
  | .a => 0 | .b => 1 | .c => 2 | .d => 3

/-- The four channels in letter order. -/
def Ch.all : List Ch := [.a, .b, .c, .d]

/-- The channel a 2-bit field names (R14, R209, R212). -/
def Ch.ofIdx (n : Nat) : Ch :=
  match n % 4 with
  | 0 => .a | 1 => .b | 2 => .c | _ => .d

/-- One value for each of the four channels, or for each of the four banks. -/
structure Quad (α : Type) where
  a : α
  b : α
  c : α
  d : α
  deriving DecidableEq, Repr

namespace Quad
variable {α β : Type}

/-- The value of channel `ch`. -/
def get (q : Quad α) : Ch → α
  | .a => q.a | .b => q.b | .c => q.c | .d => q.d

/-- `q` with the value of channel `ch` replaced. -/
def set (q : Quad α) (ch : Ch) (v : α) : Quad α :=
  match ch with
  | .a => { q with a := v }
  | .b => { q with b := v }
  | .c => { q with c := v }
  | .d => { q with d := v }

/-- `q` with the value of channel `ch` changed by `f`. -/
def modify (q : Quad α) (ch : Ch) (f : α → α) : Quad α := q.set ch (f (q.get ch))

/-- The same value four times. -/
def all (v : α) : Quad α := ⟨v, v, v, v⟩

/-- The four values in order. -/
def toList (q : Quad α) : List α := [q.a, q.b, q.c, q.d]

/-- `f` applied to each of the four values. -/
def map (f : α → β) (q : Quad α) : Quad β := ⟨f q.a, f q.b, f q.c, f q.d⟩

@[simp] theorem get_set_same (q : Quad α) (ch : Ch) (v : α) : (q.set ch v).get ch = v := by
  cases ch <;> rfl

@[simp] theorem get_set_ne (q : Quad α) (ch e : Ch) (v : α) (h : e ≠ ch) :
    (q.set ch v).get e = q.get e := by
  cases ch <;> cases e <;> first | rfl | exact absurd rfl h

@[simp] theorem get_modify_same (q : Quad α) (ch : Ch) (f : α → α) :
    (q.modify ch f).get ch = f (q.get ch) := by
  cases ch <;> rfl

@[simp] theorem get_modify_ne (q : Quad α) (ch e : Ch) (f : α → α) (h : e ≠ ch) :
    (q.modify ch f).get e = q.get e := by
  cases ch <;> cases e <;> first | rfl | exact absurd rfl h

@[simp] theorem get_all (v : α) (ch : Ch) : (Quad.all v).get ch = v := by
  cases ch <;> rfl

end Quad
end Sys2Proof
end

