-- ==== Sys2Proof/Syntax.lean ====
section
/-! DEFINITION. The commands of the PJV-7302 block: one constructor per row of spec/opcode_table.json,
with the operands a command brings from outside (a frame as it came over its line, a value an object write
carries, a measured value). The table gives no fields, so the operands are the model's (assumption 1). -/

namespace Sys2Proof

/-! ## Names -/

/-- A sensor processor: X serves system 1 of every head, Y system 2 (R8). -/
inductive Sp where
  | x | y
  deriving DecidableEq, Repr

/-- A field bank, FLD1 to FLD4 (R8, R208). -/
inductive Bank where
  | b1 | b2 | b3 | b4
  deriving DecidableEq, Repr

/-- A network engine, NET-A or NET-B (R8). -/
inductive Net where
  | a | b
  deriving DecidableEq, Repr

/-- A Stratus port (R236). -/
inductive RingPort where
  | e | w
  deriving DecidableEq, Repr

/-- A client of the object dictionary, by node-id or by IPv4 address (R300). -/
inductive Client where
  | can (node : Nat)
  | udp (ip : Nat)
  deriving DecidableEq, Repr

/-- A phase of the vital cycle (R17). -/
inductive Phase where
  | p1 | p2 | p3 | p4 | p5 | p6
  deriving DecidableEq, Repr

/-- A receive deadline of the Tenon round (R62). -/
inductive TenonStage where
  | tenon1 | attempt1 | attempt2
  deriving DecidableEq, Repr

/-- A producer of stream and sensor entries (R58). -/
inductive Producer where
  | snsX | snsY | netA | netB | str | svc
  deriving DecidableEq, Repr

/-- An egress engine (R65). -/
inductive Egress where
  | netA | netB | str | twin
  deriving DecidableEq, Repr

/-- A time-stamp unit (R309). -/
inductive Tsu where
  | na | nb | can | svc
  deriving DecidableEq, Repr

/-- A source of device time, in priority order (R311); `none` is 0x00 of 0x2A01.01. -/
inductive TimeSource where
  | none | ptpA | ptpB | can | calendar
  deriving DecidableEq, Repr

/-- An image type (R397). -/
inductive ImageType where
  | vch | svc | net | str | cane | sns | fld | sdi | pst
  deriving DecidableEq, Repr

/-- A comparator path of an input, or its UNDEF flag (R215). -/
inductive InPath where
  | i | j | undef
  deriving DecidableEq, Repr

/-- The detector whose failure a bank self-check reports (R211). -/
inductive BankCheck where
  | voters | pump | clock | config
  deriving DecidableEq, Repr

/-- The P or the M switch of a vital output (R222). -/
inductive OutSwitch where
  | p | m
  deriving DecidableEq, Repr

/-- Who reads an SW1 contact set (R379). -/
inductive SwReader where
  | ch (ch : Ch)
  | svc
  deriving DecidableEq, Repr

/-! ## Frames and records as they arrive -/

/-- A mesh frame as it stands on a link, after the comma delimiter, without its payload (R14). -/
structure MeshHead where
  typ     : BitVec 4
  src     : BitVec 2
  low     : BitVec 2
  seq     : Byte
  len     : Nat
  cycle   : Nat
  crc     : W32
  deriving DecidableEq, Repr

/-- A mesh frame with its payload (R14). -/
structure MeshFrame where
  head    : MeshHead
  payload : List Byte
  deriving DecidableEq, Repr

/-- What a core of a channel presents on a clock edge, group by group, the bits in the order the table lists them, msb first
(R24): G0 FETCH_ADDR; G1 fetch valid, privilege, speculative; G2 LS_ADDR; G3 access valid, read/write, size, byte enables; G4
STORE_DATA; G5 exception valid, cause, halt request. -/
structure Bundle where
  fetchAddr : W32
  fetchCtl  : BitVec 4
  lsAddr    : W32
  lsCtl     : Byte
  storeData : W32
  exc       : BitVec 7
  deriving DecidableEq, Repr

/-- A store of a leader core: byte address in the channel's SRAM, data, byte enables (R26). -/
structure StoreReq where
  addr : Nat
  data : W32
  be   : BitVec 4
  deriving DecidableEq, Repr

/-- A 32-bit word of a channel's SRAM as it is read back, with its seven check bits (R29). -/
structure EccWord where
  word  : W32
  check : BitVec 7
  deriving DecidableEq, Repr

/-- The TENON2 payload (R60). -/
structure Tenon2 where
  attempt : Nat
  used    : BitVec 4
  flags   : Byte
  hash    : W64
  cutSum  : W32
  deriving DecidableEq, Repr

/-- The VOTE payload (R63). -/
structure VotePayload where
  outHash : W64
  cmds    : Quad W16
  deriving DecidableEq, Repr

/-- A sensor event record (R197), its four words after SEQ as the processor delivered them. -/
structure SensorRec where
  seq   : Nat
  kind  : Byte
  head  : Byte
  flags : Byte
  b7    : Byte
  w8    : W32
  w12   : W32
  deriving DecidableEq, Repr

/-- The agreed content of one bank input frame, without FRAME_SEQ and line fields (R209). -/
structure BankImage where
  stat  : Byte
  iPath : BitVec 24
  jPath : BitVec 24
  wire  : BitVec 24
  undef : BitVec 24
  rbP   : Byte
  rbM   : Byte
  rbN   : BitVec 4
  deriving DecidableEq, Repr

/-- A bank input frame as a channel's line delivers it, `crc` the CRC field (R209). -/
structure InputFrame where
  typ      : BitVec 2
  dest     : BitVec 2
  bank     : BitVec 2
  echo     : Byte
  frameSeq : Nat
  img      : BankImage
  crc      : W32
  deriving DecidableEq, Repr

/-- What holds the output terminals of a bank from outside, beside the bank's own switches: the P and M terminals above UF/2 and
those at or below it (R223). -/
structure Terminals where
  pHigh : Byte
  pLow  : Byte
  mHigh : Byte
  mLow  : Byte
  deriving DecidableEq, Repr

/-- A sampling instant of a bank (R209): what holds the vital terminals at the instant, what holds them when a test off-pulse's
samples are taken (R224), and the non-vital terminals held above UF/2 and at or below it (R229). -/
structure BankInstant where
  bank  : Bank
  ext   : Terminals
  pulse : Terminals
  nHigh : BitVec 4
  nLow  : BitVec 4
  deriving DecidableEq, Repr

/-- A raw input current as the sense element of a comparator path reads it, in microamperes, and how long the raw value it gives has
held (R214, R215). -/
structure InputHold where
  uA     : Nat
  heldUs : Nat
  deriving DecidableEq, Repr

/-- A command frame as a bank's line delivers it, `crc` the CRC field (R212). -/
structure CmdFrame where
  typ     : BitVec 2
  src     : BitVec 2
  bank    : BitVec 2
  test    : BitVec 2
  seq     : Byte
  qv      : Byte
  dr      : W16
  nv      : BitVec 4
  testOut : BitVec 3
  crc     : W32
  deriving DecidableEq, Repr

/-- A configuration frame: ITEM, the three VALUE bytes and the CRC field (R213). -/
structure CfgFrame where
  typ   : BitVec 2
  src   : BitVec 2
  bank  : BitVec 2
  test  : BitVec 2
  seq   : Byte
  item  : Byte
  v0    : Byte
  v1    : Byte
  v2    : Byte
  crc   : W32
  deriving DecidableEq, Repr

/-- A safe telegram, field by field (R269); `wire` is false when its length does not fit LEN and the TAG. -/
structure Telegram where
  version : Byte
  typ     : Byte
  srcId   : W32
  dstId   : W32
  session : Nat
  flags   : Byte
  seq     : Nat
  confSeq : Nat
  timeMs  : Nat
  echoMs  : Nat
  payload : List Byte
  scC     : W32
  scH     : W32
  tag     : Option W64
  wire    : Bool
  deriving DecidableEq, Repr

/-- A received UDP datagram carrying a telegram (R265, R273). -/
structure Datagram where
  srcIp : W32
  dstIp : W32
  port  : Nat
  frag  : Bool
  opts  : Bool
  sumOk : Bool
  tel   : Telegram
  deriving DecidableEq, Repr

/-- An SCC record (R137). -/
structure SccRec where
  kind      : Byte
  r1        : Byte
  op        : Nat
  target    : Nat
  requestId : Nat
  challenge : Nat
  slot      : Nat
  r11       : Byte
  result    : Nat
  r14       : Nat
  deriving DecidableEq, Repr

/-- An Ethernet frame at an external port of an internal switch (R260 to R263); `idle` when the egress port is, and
`resNs` the residence a cut-through takes. -/
structure EthFrame where
  dst    : Nat
  src    : Nat
  pcp    : Nat
  len    : Nat
  fcsOk  : Bool
  pause  : Bool
  ptp    : Bool
  idle   : Bool
  resNs  : Nat
  deriving DecidableEq, Repr

/-- A PTP message as the ordinary or the transparent clock sees it (R266, R267). -/
inductive PtpMsg where
  | announce (master : Nat) (better : Bool) (utcValid : Bool) (utcOffset : Int)
  | sync (port : Nat) (seq : Nat) (twoStep : Bool) (offsetNs : Int)
  | followUp (port : Nat) (seq : Nat) (offsetNs : Int)
  | delayReq (port : Nat) (seq : Nat)
  | delayResp (port : Nat) (seq : Nat) (offsetNs : Int)
  | pdelay
  | other
  deriving DecidableEq, Repr

/-- A PTP message as it arrives (R266, R267): its domain, IEEE 802.3 or UDP transport, and the external port it came in by. -/
structure PtpIn where
  domain : Nat
  ieee   : Bool
  inPort : Nat
  msg    : PtpMsg
  deriving DecidableEq, Repr

/-- A Stratus frame as it arrives at a port (R239); `arriveNs` is the arrival of its start delimiter on the node's
own ring time, counted from the node's own cycle start, and `fcs` the four bytes of the FCS as they arrived. -/
structure RingFrame where
  typ        : BitVec 3
  dir        : Bool
  node       : Nat
  slot       : Nat
  loopRole   : BitVec 2
  syncNode   : Bool
  nodeState  : Nat
  len        : Nat
  ringCycle  : Nat
  scheduleId : W16
  linkNs     : Nat
  payload    : List Byte
  safety     : W32
  fcs        : W32
  port       : RingPort
  arriveNs   : Int
  deriving DecidableEq, Repr

/-- A CAN frame as the controller receives it (R287, R290). -/
structure CanFrame where
  ext    : Bool
  ident  : Nat
  remote : Bool
  fd     : Bool
  data   : List Byte
  error  : Option Bool
  deriving DecidableEq, Repr

/-- A reference message and its receive stamp (R293, R294). -/
structure RefMsg where
  priority  : Nat
  seq       : Nat
  prevValid : Bool
  fromPtp   : Bool
  prevNs    : Nat
  prevS     : Nat
  stamp     : Nat
  deriving DecidableEq, Repr

/-- How a CAN transmission attempt ended (R291, R292); `tec` is the transmit error counter of ISO 11898-1 after it. -/
inductive TxResult where
  | acked (stamp : Nat)
  | ackError (dominant : Bool)
  | otherError (arbStuff : Bool)
  | lostArbitration
  deriving DecidableEq, Repr

/-- A feed record of a heartbeat (R325). -/
structure FeedRec where
  head  : Nat
  freqs : Byte
  ampl  : Byte
  ph1   : W16
  ph2   : W16
  deriving DecidableEq, Repr

/-- A twin heartbeat (R325): `crc` is its CRC field, `link` the check value of its link unit (R324). -/
structure Heartbeat where
  position : Nat
  role     : Nat
  modState : Nat
  ladder   : Nat
  flags    : Byte
  hbSeq    : Nat
  station  : W32
  sdiCrc   : W32
  sent     : Nat
  ack      : Nat
  version  : Nat
  feeds    : List FeedRec
  crc      : W32
  link     : W32
  deriving DecidableEq, Repr

/-- One page of a Veneer frame (R328). -/
structure VPage where
  index : Nat
  value : W32
  data  : List Byte
  deriving DecidableEq, Repr

/-- A Veneer frame (R328), with the check values of the link units it came in (R324). -/
structure Veneer where
  version    : Nat
  offer      : Bool
  taken      : Bool
  overlap    : Bool
  position   : Nat
  cycle      : Nat
  station    : W32
  offerCycle : Nat
  ladder     : Nat
  backlog    : Nat
  hash       : W64
  cmd        : Quad W16
  changed    : List VPage
  refresh    : List VPage
  unitCrcs   : List W32
  deriving DecidableEq, Repr

/-- An excitation command a channel sends to a sensor processor (R187, R199): a keep-alive, and for each head it
names whether it is excited, its code and its amplitude. -/
structure ExcCmd where
  heads : List (Nat × Bool × Nat × Nat)
  change : Bool
  deriving DecidableEq, Repr

/-- One raw sample of a system's converter (R188): its signed 16-bit value, and whether the clamp conducted while it was taken (R198). -/
structure RawSample where
  adc     : Int
  conduct : Bool
  deriving DecidableEq, Repr

/-- What forms one envelope sample (R188): the raw samples since the last one, fifty of them, and the count of CLK_SNS at the last. -/
structure EnvSample where
  raws  : List RawSample
  ticks : Nat
  deriving DecidableEq, Repr

/-- A configuration word of a source and its complement as a scan reads them (R349). -/
structure CfgPair where
  source : Nat
  word   : W32
  inv    : W32
  deriving DecidableEq, Repr

/-- What the collector's acknowledgement word carries (R344). -/
structure AckWord where
  code    : Byte
  applied : Nat
  channel : Ch
  source  : Nat
  deriving DecidableEq, Repr

/-- Who acknowledges a fault source: SVC, or channels with their words (R344). -/
inductive AckBy where
  | svc
  | chans (chs : List Ch) (identical : Bool)
  deriving DecidableEq, Repr

/-- A launch as an object dictionary client writes it (R144); the operation is the command's own. -/
structure Launch where
  client : Client
  target : Nat
  slot   : Nat
  flags  : Byte
  r6     : W16
  seqNow : W32
  param  : List Byte
  deriving DecidableEq, Repr

/-- What a channel's comparator showed at its 115 injections, in the order G0 to G5, each group from its lowest bit (R27):
whether the flag rose within 2 ns, whether the pair reset stayed suppressed, and whether the sentinel was unchanged. -/
structure Injections where
  flagged    : BitVec 115
  suppressed : BitVec 115
  sentinel   : BitVec 115
  deriving DecidableEq, Repr

/-- One channel's own observations at a start (R27, R84, R87, R379, R387, R435): whether its own start tests passed, the
injections into its comparator, the longest measured evaluation of the image in each SDI slot, its SW1 word and path faults,
and the arrival of the MARK frames of the alignment on its own time base, ns. -/
structure ChStart where
  testsPass : Bool
  dovetail  : Injections
  evalNs    : Nat × Nat
  sw1       : Byte
  sw1Path   : Byte
  align     : Quad Int
  deriving DecidableEq, Repr

/-- An engine that boots from an image the channels relay (R398). -/
inductive Relayed where
  | sp (sp : Sp)
  | bank (bk : Bank)
  deriving DecidableEq, Repr

/-- One block of an image that a channel relays to an engine at start step 2 (R398). -/
structure RelayBlock where
  target : Relayed
  ch     : Ch
  offset : Nat
  data   : List Byte
  deriving DecidableEq, Repr

/-- What a start observes outside the state (R15, R27, R84, R314, R315, R351, R361, R376, R379, R382, R386, R387, R398): each
channel's own observations, the measured round trips of a channel pair (ten each), SVC's SW1 word and the positions whose contacts
read invalid, the calendar, the copies of the life-cycle state and of the seal whose CRC is wrong (0 SVC, 1 to 4 channels A to D),
whether every lock-out copy is readable, whether the recorder's pointers agree, which self-test slices failed (test bit and port,
bank or rail), how long the start took, the input voltage, and the image blocks as they reached the sensor processors and the
banks. -/
structure StartObs where
  chans    : Quad ChStart
  linkRtt  : List (List Nat)
  sw1Svc   : Byte
  svcPath  : Byte
  lcBad    : List Nat
  sealBad  : List Nat
  rtcValid : Bool
  rtcNs    : Nat
  lockRead : Bool
  pointersOk : Bool
  failed   : List (Nat × Nat)
  durationMs : Nat
  mv       : Nat
  relay    : List RelayBlock
  deriving DecidableEq, Repr

/-- What a channel's own hardware reports with a cycle mark (R12, R14, R16, R18, R19, R22, R30, R89): the time since its last
mark, the mark, the wait of its MARK frame on each link, the duration of P2 and P3, the state pages the kernel writes, the
link ports that fail their loop-back test, the words the scrub of this cycle reads, the bytes of the station-data block
of this cycle that read otherwise than they were loaded, the queue entries it finds uncorrectable (stream and sequence
number; 0x10000 and 0x10001 name the two sensor queues), and the phases whose work is unfinished when their window closes. -/
structure MarkObs where
  elapsedNs : Nat
  markNs    : Int
  waitNs    : Quad Nat
  p2Us      : Nat
  p3Us      : Nat
  pages     : List Nat
  loopFail  : List Ch
  scrub     : List (Nat × EccWord)
  sdiRead   : List (Nat × Byte)
  spoilt    : List (Nat × Nat)
  late      : List Phase
  deriving DecidableEq, Repr

/-- One of the two contacts readings of an SW1 contact set (R379). -/
structure Contact where
  no : Bool
  nc : Bool
  deriving DecidableEq, Repr

/-- The result of a self-test slice (R382). -/
structure SliceResult where
  ok    : Bool
  where_ : Nat
  deriving DecidableEq, Repr

/-! ## The commands -/

/-- A command of the block: one constructor per row of spec/opcode_table.json. -/
inductive Instr where
  -- start, vital cycle and mesh (R14 to R64)
  | powerOn (o : StartObs)
  | startTimeout
  | vitalCycleMark (ch : Ch) (o : MarkObs)
  | phaseOverrun (ch : Ch) (ph : Phase)
  | tenonDeadline (ch : Ch) (st : TenonStage)
  | voteDeadline (ch : Ch)
  | markFrame (rx tx : Ch) (h : MeshHead) (arrivalNs : Int) (waitNs : Nat)
  | tenon1 (rx tx : Ch) (h : MeshHead) (part parts : Nat) (data : List Byte)
  | tenon2 (rx tx : Ch) (h : MeshHead) (p : Tenon2)
  | vote (rx tx : Ch) (h : MeshHead) (p : VotePayload)
  | deltaReqStart (rx tx : Ch) (h : MeshHead) (ckptCycle : Nat) (ckptHash : W64) (map : List Nat)
  | deltaReqRepair (rx tx : Ch) (h : MeshHead) (round : Nat) (map : List Nat)
  | deltaPage (rx tx : Ch) (h : MeshHead) (round page : Nat) (crc : W32) (data : List Byte)
  | deltaEnd (rx tx : Ch) (h : MeshHead) (round count : Nat) (hash : W64) (map : List Nat)
  | idleFrame (rx tx : Ch) (h : MeshHead)
  | linkEndSilence (rx tx : Ch)
  | dovetailMismatch (ch : Ch) (stores : List StoreReq) (edge : Bundle × Bundle)
  | sramReadError (ch : Ch) (addr : Nat) (w : EccWord)
  | pairResetRelease (ch : Ch)
  | channelReady (ch : Ch)
  | deltaRoundDeadline (ch : Ch)
  | resetWindowExpiry (ch : Ch)
  | dualLimitReached
  | dualAccumulatorClear
  -- enables, banks and barrier lines (R66 to R68, R208 to R235)
  | enableGeneratorTimeout (ch : Ch) (bk : Bank)
  | bankEnableInvalid (bk : Bank) (ch : Ch)
  | chargePumpDecay (bk : Bank)
  | chargePumpReady (bk : Bank)
  | bankLineStale (bk : Bank) (ch : Ch)
  | commandFrameRepeat (ch : Ch) (bk : Bank)
  | commandFrameReceive (bk : Bank) (ch : Ch) (f : CmdFrame)
  | configurationFrame (bk : Bank) (ch : Ch) (f : CfgFrame)
  | bankInputFrameSend (i : BankInstant)
  | inputFrameReceive (ch : Ch) (bk : Bank) (f : InputFrame)
  | inputDebounce (bk : Bank) (inp : Nat) (path : InPath) (h : InputHold)
  | testPulse (bk : Bank) (src : Nat) (carrying : List Nat)
  | wireBreakFlag (bk : Bank) (inp : Nat)
  | wireBreakClear (bk : Bank) (inp : Nat)
  | bankSelfFault (bk : Bank) (chk : BankCheck)
  | bankLineFaultClear (bk : Bank) (ch : Ch)
  | ufWarn (bk : Bank) (below : Bool)
  | ufLow (bk : Bank) (below : Bool)
  | ufCut (bk : Bank)
  | ufCutRecovery (bk : Bank)
  | nvSilence (bk : Bank) (out : Nat)
  | discrepancyTimeout (first : Nat)
  | undefLatch (inp : Nat)
  | undefLatchClear (inp : Nat)
  | supplyHoldExpiry (bk : Bank)
  | outputTestDue (out : Nat)
  | bankAbsentFailed (bk : Bank)
  | fieldResetTarget (cl : Client) (target : W16)
  | fieldResetConfirm (cl : Client) (code : W16)
  | fieldResetTimeout
  -- sensor processors and heads (R159 to R206)
  | pulseStart (sp : Sp) (head : Nat) (startUs : W32) (rsStart : Bool)
  | pulseEnd (sp : Sp) (head : Nat) (endUs : W32) (rsEnd : Bool)
  | timebaseStrobe (sp : Sp) (sendUs : W32)
  | peerStrobeReceive (sp : Sp) (stampUs : W32)
  | upRange (sp : Sp) (head : Nat)
  | downRange (sp : Sp) (head : Nat)
  | coilMeasurement (sp : Sp) (head : Nat) (loopMilliohm : Nat) (timeUs : W32)
  | driveFault (sp : Sp) (head : Nat) (timeUs : W32)
  | keepaliveCommand (sp : Sp) (ch : Ch) (cmd : ExcCmd) (timeUs : W32)
  | keepaliveLoss (sp : Sp) (timeUs : W32)
  | systemSettled (sp : Sp) (head : Nat) (mean : Int) (timeUs : W32)
  | settleTimeout (sp : Sp) (head : Nat) (timeUs : W32)
  | clampInterference (sp : Sp) (head : Nat) (timeUs : W32)
  | interferenceRecovery (sp : Sp) (head : Nat) (timeUs : W32)
  | faultRecovery (sp : Sp) (head : Nat) (timeUs : W32)
  | adcReferenceFault (sp : Sp) (head : Nat) (timeUs : W32)
  | partnerDriveAbsent (head : Nat) (timeUs : W32)
  | partnerDrivePresent (head : Nat)
  | lockLost (head : Nat) (timeUs : W32)
  | lockAcquired (head : Nat)
  | joinRequest (head : Nat) (idle : Bool) (timeUs : W32)
  | joinRampEnd (head : Nat) (timeUs : W32)
  | sensorProcessorFailed (sp : Sp)
  | remoteSilent (head : Nat)
  | staleHold (head : Nat)
  | clearDelayExpiry (el : Nat)
  -- routes, points and elements (R93 to R142)
  | routeSet (l : Launch)
  | routeCancel (l : Launch)
  | routeEmergencyRelease (slot : Nat)
  | overlapTimerExpiry (route : Nat)
  | approachTimerExpiry (route : Nat)
  | emergencyTimerExpiry (route : Nat)
  | pointThrow (l : Launch)
  | pointEmergencyThrow (slot : Nat)
  | throwTimeout (el : Nat)
  | detectionGraceExpiry (el : Nat)
  | lampProofJudgement (el : Nat)
  | block (cl : Client) (el : Nat)
  | unblock (cl : Client) (el : Nat)
  | faultReset (cl : Client) (el : Nat)
  | keyGrant (cl : Client) (el : Nat)
  | keyWithdraw (cl : Client) (el : Nat)
  | keyRemovalTimeout (el : Nat)
  | keyReturn (el : Nat)
  | lxCloseTimeout (el : Nat)
  | lxRecovery (el : Nat)
  | acPrepReset (slot : Nat)
  | acDirectReset (slot : Nat)
  | sccConfirm (session : Nat) (r : SccRec)
  | sccConfirmTimeout (slot : Nat)
  -- operations and slots (R143 to R158)
  | bistRun (l : Launch)
  | imageTransfer (l : Launch)
  | activateSchedule (l : Launch)
  | recExport (l : Launch)
  | twinSwitchover (l : Launch)
  | headExcitationChange (l : Launch)
  | shutdown (l : Launch)
  | slotSuspend (cl : Client) (slot : Nat)
  | slotResume (cl : Client) (slot : Nat)
  | slotCancel (cl : Client) (slot : Nat)
  | slotRelease (cl : Client) (slot : Nat)
  | queueTimeout (slot : Nat)
  | slotAutoRelease (slot : Nat)
  | launchGiveUp (cl : Client)
  -- telegrams and networks (R260 to R286)
  | netDatagramReceive (net : Net) (dg : Datagram)
  | skewTimerExpiry (partner session seq : Nat)
  | connReq (partner : Nat) (t : Telegram)
  | connResp (idx : Nat) (t : Telegram)
  | dataTelegram (idx : Nat) (t : Telegram)
  | headReport (idx : Nat) (t : Telegram)
  | disc (idx : Nat) (t : Telegram)
  | pathMismatchNotice (partner : Nat)
  | sessionTimeout (idx : Nat)
  | connReqRepeat (idx : Nat)
  | responderTimeout (idx : Nat)
  | holdOffExpiry (idx : Nat)
  | egressEntry (eng : Egress) (ch : Ch) (entry : List Byte)
  | egressConfirmTimeout (eng : Egress)
  | ethernetFrameForward (net : Net) (port : Nat) (f : EthFrame)
  | macAgeing (net : Net) (mac : Nat)
  | arpRequest (net : Net) (ip : W32)
  | icmpEcho (net : Net) (ip : W32)
  | ptpSlaveMessage (net : Net) (m : PtpIn) (stamp : W32)
  | ptpTcForward (net : Net) (m : PtpIn) (residenceNs : Nat)
  | residenceHoldExpiry (net : Net) (port seq : Nat)
  -- Stratus (R236 to R259)
  | stratusSlotStart (slot : Nat)
  | stratusData (f : RingFrame)
  | stratusNull (f : RingFrame)
  | sync (f : RingFrame)
  | coldstart (f : RingFrame)
  | echoReq (f : RingFrame)
  | echo (f : RingFrame) (roundTripNs : Nat)
  | probe (f : RingFrame)
  | guardianTruncation (node : Nat)
  | listenTimeout
  | clockCorrection
  | coldstartLimit (noReturn : Bool)
  | integrationComplete
  | integrationLost
  | silentReintegrate
  | linkBreak (port : RingPort)
  | loopOpen
  | linkDelayRemeasure
  | statusFrameSelf
  -- CAN and the object dictionary (R287 to R307)
  | canFrameReceive (f : CanFrame) (stamp : Nat)
  | nmtStart
  | nmtStop
  | nmtResetNode
  | nmtResetCommunication
  | referenceMessageReceive (m : RefMsg)
  | canTransmitComplete (r : TxResult)
  | aloneSend
  | busOffRecovery
  | canHeartbeat
  | referenceSend
  | timeRoleWExpiry
  | usdoSegmentTimeout (cl : Client)
  | emcySend
  | objectWrite (cl : Client) (idx sub : Nat) (data : List Byte)
  | resetMaxima (cl : Client) (v : Byte)
  | resetCounts (cl : Client) (v : Byte)
  | loginRequest (cl : Client) (level : Byte)
  | loginResponse (cl : Client) (resp : W64)
  | challengeExpiry (cl : Client)
  | loginBlockExpiry (cl : Client)
  | idleLogout (cl : Client)
  -- time (R308 to R321)
  | tsuSnapshot (u : Tsu) (counter : W32) (arrival : W32)
  | snapshotTimeout (u : Tsu)
  | timeMeasurement (offsetNs : Int)
  | sourceHoldExpiry
  | sourceQualified (src : TimeSource)
  | calendarCompare (calendarNs : Nat)
  | autoCalibration (rateErr : Int)
  | scheduledActivation (o : StartObs)
  | setTime (cl : Client) (ns sec : Nat)
  -- twin (R322 to R339)
  | twinHeartbeatSend (feeds : List FeedRec)
  | twinHeartbeatReceive (lane : Bool) (hb : Heartbeat)
  | twinStatusEntry
  | veneerFrameReceive (lane : Bool) (v : Veneer)
  | switchoverNotTaken
  | switchoverNoStandby
  -- fault collection (R340 to R359)
  | faultSourceAssert (src : Nat) (by_ : Option Ch)
  | escalationExpiry (src : Nat)
  | ackHandled (w : AckWord) (who : AckBy)
  | ackLowered (w : AckWord) (who : AckBy)
  | ackDismissed (w : AckWord) (who : AckBy)
  | ackRedirect (w : AckWord) (who : AckBy)
  | configScan (bad : List CfgPair)
  | noMajorityHw
  | forceWrite (cl : Client) (v : Byte)
  | overrideWrite (cl : Client) (word : W32)
  | restart (cl : Client) (v : W16) (o : StartObs)
  | resetButtonPress (ms : Nat) (svc : Bool) (chans : List Ch) (o : StartObs)
  | resetHold (svc : Bool) (chans : List Ch)
  | lockoutResetConfirm (cl : Client) (code : W16) (o : StartObs)
  | lockoutResetWindowExpiry
  -- recorder (R360 to R375)
  | tokenRefill (code : Nat)
  | recorderScrub (bad : List Nat) (corrected : Nat)
  | marker (cl : Client) (v : W16)
  | recorderClear (cl : Client) (v : W16)
  | advanceNext (cl : Client)
  | advanceOldest (cl : Client)
  | advanceNewest (cl : Client)
  | cursor (cl : Client) (rseq : W32)
  | revert (cl : Client) (v : Byte)
  | exportIdle
  -- life cycle, switches, self-test, images, supply (R376 to R428)
  | lcRequest (cl : Client) (v : Byte)
  | sw1Change (rd : SwReader) (pos : Nat) (c : Contact)
  | sw1WordEntry
  | sw1Mismatch (ch : Ch)
  | selftestSliceEnd (r : SliceResult)
  | cvuKat (unit : Nat) (result : W64)
  | blockWrite (cl : Client) (offset : Nat) (data : List Byte)
  | imageWriteComplete (failed : List SwReader)
  | transferIdle
  | imageConfirm (cl : Client) (typ : Byte)
  | imageWithdraw (cl : Client) (typ : Byte)
  | autoConfirm (typ : ImageType)
  | supplyLow (mv : Nat)
  | supplyHigh (mv : Nat)
  | powerFail (mv : Nat)
  | temperatureRead (dc : List Int)
  | sccRequest (session : Nat) (r : SccRec)
  | entryRepeatWrite (p : Producer) (n : Nat)
  | meshIdleSend (tx rx : Ch)
  | dynamicEnableEdge (bk : Bank) (ch : Ch) (halfUs : Nat)
  | envelopeSample (sp : Sp) (head : Nat) (e : EnvSample)
  | switchCurrentLimit (out : Nat) (sw : OutSwitch)
  | ethernetLinkChange (net : Net) (port : Nat) (speed : Nat)
  | stratusPortLinkChange (port : RingPort) (up : Bool)
  | gratuitousArpRepeat (net : Net)
  | announceReceiptTimeout (net : Net)
  deriving DecidableEq, Repr

end Sys2Proof
end

