-- ==== Sys2Proof/Machine/SdiTypes.lean ====
section
/-! DEFINITION. The station-data image once it is read: its header and its nine tables as records (R70 to R83). -/

namespace Sys2Proof.Machine

/-- A rule profile (R73). -/
structure Profile where
  id         : Nat
  flags      : Nat
  ovlPolicy  : Nat
  apprModel  : Nat
  ovlS       : Nat
  apprS      : Nat
  emergS     : Nat
  throwMs    : Nat
  flankDepth : Nat
  ovlSpeed   : Nat
  mask       : Nat
  rank       : Nat
  tag        : List Byte
  deriving DecidableEq, Repr

/-- Bytes 16 to 31 of an element record, by type (R75). A list index of none is 0xFFFF, as in the image. -/
inductive ElemSpec where
  | ts (source flags acSection lengthM clearDelay : Nat)
  | pt (flags coupled throwLimit grace flankN flankR fouling : Nat)
  | sg (kind flags maxAspect approach protSection master : Nat)
  | dr (flags protects throwLimit : Nat)
  | kl (locked pos : Nat)
  | lx (flags closeS strike : Nat)
  | bd (partner remote : Nat)
  | bk (flags partner blockSection : Nat)
  deriving DecidableEq, Repr

/-- The address of a binding, by kind (R78). -/
inductive BindAddr where
  | input (bank inp : Nat) (invert wire : Bool) (src : Nat) (test : Bool) (debounce : Nat)
  | pair (bank i1 i2 : Nat) (anti wire test : Bool) (debounce discr : Nat)
  | vout (bank out : Nat) (parallel test : Bool) (period : Nat)
  | nv (bank out safe silence : Nat)
  | head (idx : Nat) (pos neg fault : Bool)
  | stratus (node slot off bit width fresh : Nat)
  | field (partner off bit width : Nat)
  deriving DecidableEq, Repr

/-- A binding record (R78). -/
structure Binding where
  element : Nat
  attr    : Nat
  kind    : Nat
  addr    : BindAddr
  deriving DecidableEq, Repr

/-- An element record with its bindings (R74, R75). -/
structure Elem where
  id      : Nat
  profile : Nat
  flags   : Nat
  linkA   : Nat
  linkB   : Nat
  linkC   : Nat
  spec    : ElemSpec
  binds   : List Binding
  deriving DecidableEq, Repr

/-- A route record (R76). -/
structure Route where
  id         : Nat
  entry      : Nat
  exit_      : Nat
  cls        : Nat
  flags      : Nat
  aspect     : Nat
  profileSet : Nat
  speed      : Nat
  overlap    : Nat
  points     : List (Nat × Nat)
  sections   : List Nat
  others     : List (Nat × Nat)
  conflicts  : List Nat
  deriving DecidableEq, Repr

/-- One item of a list: an element id, its required position bit and its depth (R77). -/
structure ListItem where
  id    : Nat
  pos   : Nat
  depth : Nat
  deriving DecidableEq, Repr

/-- A flank, overlap or area list (R77). -/
structure SList where
  index   : Nat
  kind    : Nat
  nextAlt : Nat
  items   : List ListItem
  deriving DecidableEq, Repr

/-- A partner record (R80). -/
structure Partner where
  index      : Nat
  id         : W32
  cls        : Nat
  flags      : Nat
  port       : Nat
  ipA        : W32
  ipB        : W32
  timeoutMs  : Nat
  skewMs     : Nat
  maxPayload : Nat
  keySlot    : Nat
  periodMs   : Nat
  deriving DecidableEq, Repr

/-- A head record (R81). -/
structure HeadRec where
  index   : Nat
  kind    : Nat
  flags   : Nat
  spacing : Nat
  freq1   : Nat
  freq2   : Nat
  ampl    : Nat
  overlap : Nat
  source  : Nat
  deriving DecidableEq, Repr

/-- A section record: its index and its heads with SENSE (R82). -/
structure SectionRec where
  index : Nat
  heads : List (Nat × Bool)
  deriving DecidableEq, Repr

/-- The budget record (R83). -/
structure Budget where
  totalNs : Nat
  fixedNs : Nat
  elemNs  : Nat
  routeNs : Nat
  axleNs  : Nat
  items   : Nat
  tool    : Nat
  cycleMs : Nat
  deriving DecidableEq, Repr

/-- A station-data image as the module reads it (R71 to R83). -/
structure Sdi where
  format    : Nat
  stationId : W32
  revision  : W32
  buildTime : Nat
  cycleMs   : Nat
  dualMin   : Nat
  keyId     : W32
  crcC      : W32
  crcH      : W32
  profiles  : List Profile
  elems     : List Elem
  routes    : List Route
  lists     : List SList
  partners  : List Partner
  heads     : List HeadRec
  sections  : List SectionRec
  budget    : Budget
  deriving DecidableEq, Repr

/-- The element with id `n`. -/
def Sdi.elem (d : Sdi) (n : Nat) : Option Elem := d.elems.find? (·.id == n)
/-- The route with id `n`. -/
def Sdi.route (d : Sdi) (n : Nat) : Option Route := d.routes.find? (·.id == n)
/-- The list at index `n`. -/
def Sdi.list (d : Sdi) (n : Nat) : Option SList := d.lists.find? (·.index == n)
/-- The head record with index `n`. -/
def Sdi.head (d : Sdi) (n : Nat) : Option HeadRec := d.heads.find? (·.index == n)
/-- The section record with index `n`. -/
def Sdi.section_ (d : Sdi) (n : Nat) : Option SectionRec := d.sections.find? (·.index == n)
/-- The partner record with index `n`. -/
def Sdi.partner (d : Sdi) (n : Nat) : Option Partner := d.partners.find? (·.index == n)
/-- The profile with id `n` (1 to 3). -/
def Sdi.profile (d : Sdi) (n : Nat) : Option Profile := d.profiles.find? (·.id == n)
/-- Every binding of the image. -/
def Sdi.bindings (d : Sdi) : List Binding := d.elems.flatMap (·.binds)

end Sys2Proof.Machine
end

