-- ==== Sys2Proof/Machine/KernelTypes.lean ====
section
/-! DEFINITION. The state the voting channels agree on: what the interlocking kernel keeps in the state region
(R28), one copy for all channels that agree (assumption 4). -/

namespace Sys2Proof.Machine

/-- A route's state (R104, R115). -/
inductive RState where
  | idle | checking | setting | locked | proceed | inUse | cancelling
  deriving DecidableEq, Repr

/-- Which timer a route runs (R115 .06). -/
inductive RTimer where
  | overlap | approach | emergency
  deriving DecidableEq, Repr

/-- One flank item a route holds: the point it protects, the element, and the position it requires, none for a
signal (R99, R101). -/
structure FlankHold where
  forPoint : Nat
  el       : Nat
  pos      : Option Nat
  deriving DecidableEq, Repr

/-- The state of one route (R93, R104, R115): `mustMove` are the elements that had to move when its locks were taken, with their
positions, and `throwing` those of them whose throw has been commanded (R101, R112). -/
structure RouteSt where
  id         : Nat
  state      : RState
  armed      : Bool
  dropped    : Bool
  autoWork   : Bool
  emergency  : Bool
  ovlHeld    : Bool
  slot       : Option Nat
  ovlAlt     : Option Nat
  ovlLocked  : Bool
  flank      : List FlankHold
  timer      : Option (RTimer × Nat)
  everProceed : Bool
  seen       : List Nat
  passed     : List Nat
  released   : List Nat
  ptsReleased : List Nat
  mustMove   : List (Nat × Nat)
  throwing   : List Nat
  newSet     : Bool
  lastResult : Nat
  lastDetail : Nat
  deriving DecidableEq, Repr

/-- A point's or derailer's state; for a derailer `normal` is ON_RAIL and `reverse` OFF_RAIL (R124, R127). -/
inductive PState where
  | normal | reverse | moving | lost
  deriving DecidableEq, Repr

/-- A key lock's state (R131). -/
inductive KState where
  | keyIn | released | keyOut | fault
  deriving DecidableEq, Repr

/-- A level crossing's state (R132). -/
inductive LState where
  | open_ | closing | protected_ | failed
  deriving DecidableEq, Repr

/-- A boundary element's state (R134). -/
inductive BdState where
  | unavailable | idle | requested | consented | granting
  deriving DecidableEq, Repr

/-- A block interface's derived state (R133). -/
inductive BkState where
  | unavailable | outClear | outOccupied | changing | inbound
  deriving DecidableEq, Repr

/-- A track section's vacancy state (R171, R172). -/
inductive TState where
  | clear | occupied | disturbed | sweep
  deriving DecidableEq, Repr

/-- A track section's state (R172): the vacancy state, the evaluations in a row it has been CLEAR, the view of route
logic, and SOURCE_FAULT. -/
structure TsSt where
  state       : TState
  clearRun    : Nat
  routeClear  : Bool
  sourceFault : Bool
  deriving DecidableEq, Repr

/-- A point's or derailer's state (R123, R124): the target and the cycle the throw timer expires in while `MOVING`,
the evaluations in a row without own detection, FAULT [3:0], the last throw time, and whether the first evaluation
after a cold start is still to come (R432). -/
structure PtSt where
  state       : PState
  target      : Option Nat
  deadline    : Nat
  start       : Int
  missing     : Nat
  timeout     : Bool
  conflict    : Bool
  uncommanded : Bool
  missingSeen : Bool
  lastMs      : Nat
  fresh       : Bool
  deriving DecidableEq, Repr

/-- A signal's state (R128, R129): shown and demanded code, the vital time of the last change, and its latches. -/
structure SgSt where
  shown        : Nat
  demand       : Nat
  changedAt    : Int
  lampFault    : Bool
  stopUnproven : Bool
  wrongProof   : Bool
  deriving DecidableEq, Repr

/-- A key lock's state (R131): since when it is in its state, and since when KEY_IN has been 1. -/
structure KlSt where
  state    : KState
  since    : Int
  keySince : Option Int
  deriving DecidableEq, Repr

/-- A level crossing's state (R132). -/
structure LxSt where
  state        : LState
  deadline     : Nat
  provedSince  : Option Int
  closeTimeout : Bool
  faultSeen    : Bool
  deriving DecidableEq, Repr

/-- A block interface's derived state (R133). -/
structure BkSt where
  state      : BkState
  dirRequest : Bool
  deriving DecidableEq, Repr

/-- The type-specific state of an element (R116 to R134, R172). -/
inductive ElemKind where
  | ts (t : TsSt)
  | pt (p : PtSt)
  | sg (g : SgSt)
  | kl (l : KlSt)
  | lx (x : LxSt)
  | bd (b : BdState)
  | bk (b : BkSt)
  deriving DecidableEq, Repr

/-- The state of one element: BLOCKED and the type's own state (R142). Its locks are the routes' (R101, R142). -/
structure ElemSt where
  id      : Nat
  blocked : Bool
  kind    : ElemKind
  deriving DecidableEq, Repr

/-- An in-attribute's value in this evaluation, and whether its binding yielded a valid agreed value (R117). -/
structure AttrVal where
  el    : Nat
  attr  : Nat
  val   : Nat
  valid : Bool
  deriving DecidableEq, Repr

/-- Why a section was last disturbed (R180 .05). -/
inductive DCause where
  | none | coldStart | negative | overflow | headNotActive | reject | sweepAbort | unaligned
  deriving DecidableEq, Repr

/-- The state of an axle-counter section (R171, R180). -/
structure SectionSt where
  index   : Nat
  state   : TState
  count   : Int
  swept   : Bool
  aligned : Bool
  stale   : Bool
  cause   : DCause
  causeHead : Option Nat
  axlesIn : Nat
  axlesOut : Nat
  disturbedAt : Nat
  resets  : Nat
  slot    : Option Nat
  deriving DecidableEq, Repr

/-- A head's or a system's state (R181, R198). -/
inductive HState where
  | off | settling | active | interfered | fault
  deriving DecidableEq, Repr

/-- Why a sequence was rejected (R181 .08). -/
inductive Reject where
  | flagged | handover | noTimebase | overlap | tooFast | tooShort | ratio | settlingActivity
  deriving DecidableEq, Repr

/-- Why a head is in FAULT (R181 .0B). -/
inductive HCause where
  | none | systemSilent | remoteGap | remoteSilent | sensorProcessor | reported
  deriving DecidableEq, Repr

/-- One pulse of a sequence, on the X time base, in half microseconds (theta is a multiple of 0.5 µs, R161). -/
structure Pulse where
  sys     : Nat
  start   : Int
  stop    : Option Int
  rsStart : Bool
  rsEnd   : Bool
  flag    : Bool
  deriving DecidableEq, Repr

/-- The evaluator's state of one head (R163 to R170, R181): `pendX` and `pendY` count the agreed PULSE_STARTs of systems 1 and 2 that lie
beyond the horizon (R162). -/
structure HeadSt where
  index  : Nat
  state  : HState
  sys1   : HState
  sys2   : HState
  busy1  : Bool
  busy2  : Bool
  pendX  : Nat
  pendY  : Nat
  pulses : List Pulse
  flagged : Bool
  lastStep : Option Int
  stepReject : Bool
  noTb   : Bool
  sawPos : Bool
  sawNeg : Bool
  pos    : Nat
  neg    : Nat
  rock   : Nat
  partial_ : Nat
  rejected : Nat
  lastReject : Option Reject
  lastSpeed : Nat
  lastOverlap : Nat
  cause  : HCause
  silentSys : Nat
  silentRun : Nat
  remoteSeq : Option Nat
  reportAt : Option Int
  horizon : Int
  quietAt : Option Int
  idleRun : Nat
  deriving DecidableEq, Repr

/-- The axle evaluator as a whole (R160 to R162, R182); `xSeq` and `ySeq` are the numbers of the last agreed records. -/
structure Evaluator where
  pendX    : List SensorRec
  pendY    : List SensorRec
  tbXs     : List SensorRec
  tbYs     : List SensorRec
  theta    : Option Int
  lastTheta : Int
  delta    : Int
  valid    : Bool
  horizon  : Option Int
  noAdvance : Nat
  invalidRun : Nat
  xStuck   : Nat
  yStuck   : Nat
  xOk      : Bool
  yOk      : Bool
  xSeq     : Option Nat
  ySeq     : Option Nat
  firstY   : Option W32
  deriving DecidableEq, Repr

/-- A slot's state (R149). -/
inductive SlotState where
  | free | queued | running | suspended | done | cancelled | failed
  deriving DecidableEq, Repr

/-- The SCC side of a slot: the session it came from, what CHALLENGE covers, the last cycle of its window, and a
CONFIRM held while it is suspended (R138 to R140). -/
structure SccData where
  session   : Nat
  sessionId : Nat
  requestId : Nat
  challenge : Nat
  window    : Nat
  held      : Option SccRec
  deriving DecidableEq, Repr

/-- An operation slot (R149 to R157). Times since which something lasts are integers: those a takeover brings may lie before the own
vital time 0 (R154). `outMs` counts what SVC has added to its wait outside `RUN` (R155). -/
structure SlotSt where
  op       : Nat
  state    : SlotState
  okind    : Nat
  level    : Nat
  identity : Nat
  stage    : Nat
  cancelPending : Bool
  percent  : Nat
  result   : Nat
  data     : List Byte
  seq      : W32
  started  : Nat
  target   : Nat
  param    : List Byte
  order    : Nat
  wasRunning : Bool
  queuedAt : Int
  finalAt  : Int
  outMs    : Nat
  scc      : Option SccData
  deriving DecidableEq, Repr

/-- A telegram session's state (R277). -/
inductive SessState where
  | unbound | opening | open_ | holdOff
  deriving DecidableEq, Repr

/-- One sending cycle a session remembers (R276). -/
structure SendRec where
  time  : Nat
  first : Nat
  last  : Nat
  deriving DecidableEq, Repr

/-- What a session has to send besides data (R277). -/
inductive SessCtl where
  | none
  | connReq (bind : Bool)
  | connResp (bind : Bool)
  | disc (reason : Nat)
  | unbind
  deriving DecidableEq, Repr

/-- A telegram session index (R275 to R285). -/
structure SessSt where
  state   : SessState
  partner : Nat
  sid     : Nat
  opener  : Bool
  rxSeq   : Nat
  rxAny   : Bool
  confSeq : Nat
  confEcho : Nat
  confAny : Bool
  records : List SendRec
  deadline : Nat
  ctl     : SessCtl
  connAt  : Int
  connSeq : Option Nat
  holdAt  : Int
  ageMax  : Nat
  lost    : Nat
  single  : Nat
  lastClose : Nat
  openings : Nat
  dataIn  : List Byte
  restrictive : Bool
  firstOwn : Nat
  outData : List Byte
  deriving DecidableEq, Repr

/-- What the module keeps of a partner across openings: SEQ, the next SESSION, and SEQ and TIME_MS of the last telegram
accepted from it (R277, R278). -/
structure PartnerSt where
  txSeq   : Nat
  nextSid : Nat
  accSeq  : Nat
  accMs   : Nat
  deriving DecidableEq, Repr

/-- A bank's state in the channels (R232). -/
inductive BankState where
  | running | config | absent | failed | lockedOut
  deriving DecidableEq, Repr

/-- What the channels keep of one bank (R211, R218, R221, R226, R232). -/
structure BankSt where
  img      : BankImage
  lastStat : Byte
  present  : Bool
  unkP     : Byte
  unkM     : Byte
  unkN     : BitVec 4
  frameSeq : Nat
  state    : BankState
  cuts     : List Nat
  cutsTotal : Nat
  lineFaults : Nat
  testFrames : Nat
  cause    : Nat
  absentRun : Nat
  lowSince : Option Nat
  search   : Option (Nat × List Nat)
  waiting  : List Nat
  locked   : Bool
  deriving DecidableEq, Repr

/-- A physical input's state (R218, R233). -/
inductive InState where
  | off | on | invalid | held
  deriving DecidableEq, Repr

/-- What the channels keep of one input (R218, R233); the cause is coded as .03. -/
structure InputSt where
  state   : InState
  value   : Bool
  cause   : Nat
  crossFeed : Bool
  crossAt : Nat
  crossPartner : Option Nat
  undefSince : Option Nat
  undefLatched : Bool
  undefClear : Option Nat
  pathRun : Nat
  deriving DecidableEq, Repr

/-- A dual-channel pair's state (R220). -/
inductive PairState where
  | unknown | agreed | discrepant | fault
  deriving DecidableEq, Repr

/-- What the channels keep of one pair, by its first input's number (R219, R220). -/
structure PairSt where
  first  : Nat
  second : Nat
  anti   : Bool
  limit  : Nat
  state  : PairState
  value  : Option Bool
  since  : Nat
  restrictSince : Option Nat
  deriving DecidableEq, Repr

/-- What the channels keep of one vital output (R224 to R228, R234); the cause is coded as .04. -/
structure VoutSt where
  cmd     : Bool
  twinCmd : Bool
  onRun   : Nat
  sameRun : Nat
  twinRun : Nat
  readback : BitVec 4
  failed  : Bool
  judged  : Bool
  cause   : Nat
  partner : Option Nat
  nextTest : Option Nat
  lastTest : Option Nat
  testGap : Nat
  tests   : Nat
  deriving DecidableEq, Repr

/-- What the channels keep of one non-vital output (R229, R234). -/
structure NvSt where
  cmd  : Bool
  rb   : Bool
  unk  : Bool
  run  : Nat
  counted : Bool
  mismatches : Nat
  deriving DecidableEq, Repr

/-- The pending deliberate reset of field I/O (R230, R235). -/
structure FieldReset where
  client : Option Client
  target : W16
  code   : W16
  since  : Nat
  result : W16
  deriving DecidableEq, Repr

/-- The agreement statistics (R69). -/
structure AgreeStats where
  rounds : Nat
  rawBitDiff : Nat
  restrictive : Nat
  deferred : Nat
  lateFilled : Nat
  excluded : Nat
  attempt2 : Nat
  tenonDissent : Nat
  outputDissent : Nat
  lastUsed : BitVec 4
  deriving DecidableEq, Repr

/-- A twin-status entry (R326): what SVC last received from the twin, whether it is compatible (a cause coded as
0x2B01.0F when it is not), and the module's own ring NODE_STATE. -/
structure TwinEntry where
  valid     : Bool
  hbSeq     : Nat
  role      : Nat
  mstate    : Nat
  ladder    : Nat
  flags     : Byte
  ack       : Nat
  compatible : Bool
  cause     : Nat
  nodeState : Nat
  deriving DecidableEq, Repr

/-- An entry of stream 0x0200 that SVC writes for the channels (R58): a launch with the writer's access level (R145), a control with the
writer and its level (R149), an element command (R120), each under its entry counter; and R274, R326, R379. -/
inductive SvcEntry where
  | launch (no op level : Nat) (l : Launch)
  | control (no : Nat) (cl : Client) (level slot code : Nat)
  | elem (code el : Nat)
  | connReq (partner : Nat) (t : Telegram)
  | mismatch (partner : Nat)
  | twin (e : TwinEntry)
  | sw1 (w : Byte)
  deriving DecidableEq, Repr

/-- The twin side of the kernel (R322 to R339). Roles are coded as R254: 0 SINGLE, 1 ACTIVE, 2 STANDBY,
3 STANDBY_SYNC, 4 ISOLATED. -/
structure TwinK where
  role     : Nat
  position : Nat
  silent   : Nat
  ownerAbsent : Nat
  noEntry  : Nat
  entry    : Option TwinEntry
  ownerNow : Bool
  ownerRun : Nat
  statusOwner : Option Bool
  notActiveRun : Nat
  activeRun : Nat
  compatRun : Nat
  syncRun  : Nat
  degraded : Bool
  frame    : Bool
  hashEq   : Bool
  offer    : Bool
  offerSeen : Bool
  offerCycle : Nat
  takenSeen : Bool
  overlap  : Bool
  request  : Bool
  since    : Nat
  cmdSeen  : Quad W16
  frames   : Nat
  frameAt  : Nat
  sent     : Nat
  takeovers : Nat
  lastCause : Nat
  isolation : Nat
  overlapCycles : Nat
  tookAt   : Option Nat
  pagesLast : Nat
  backlogLast : Nat
  deriving DecidableEq, Repr

/-- An egress entry the kernel has written for the networks: a telegram, or an UNBIND alone (R272, R277, R278). -/
structure OutTel where
  partner : Nat
  index   : Nat
  bind    : Bool
  unbind  : Bool
  tel     : Option Telegram
  deriving DecidableEq, Repr

/-- What an evaluation hands on besides its state: fault sources raised, a REJECT with its head and reason (R166), slots that end, verdicts on entries of SVC (0 accepted,
R146), and notes (R340, R364). -/
inductive Note where
  | source (src : Nat)
  | reject (head reason : Nat)
  | slotFinal (slot : Nat) (op : Nat)
  | verdict (no : Nat) (code : Nat)
  | local_ (what : String) (n : Nat)
  deriving DecidableEq, Repr

/-- The mirrored state of the owner as its pages 0 to 255 give it (R327, R330), with the owner's cycle number and
vital time, in which its timers are counted. Lock-outs stand as failed outputs, CROSS_FEED latches and banks. -/
structure Mirror where
  cycle    : Nat
  vital    : Nat
  routes   : List RouteSt
  elems    : List ElemSt
  sections : List SectionSt
  heads    : List HeadSt
  slots    : List SlotSt
  sess     : List SessSt
  partners : List PartnerSt
  outs     : List (Nat × Nat × Option Nat)
  cross    : List (Nat × Option Nat)
  locks    : List Nat
  excite   : List (Nat × Nat × Nat × Nat)
  deriving DecidableEq, Repr, Inhabited

/-- The agreed kernel state (R28, R55, R94). -/
structure Kernel where
  cycle   : Nat
  vital   : Nat
  first   : Bool
  routes  : List RouteSt
  elems   : List ElemSt
  attrs   : List AttrVal
  sections : List SectionSt
  heads   : List HeadSt
  ev      : Evaluator
  rejects : Nat
  slots   : List SlotSt
  launchNo : Nat
  sess    : List SessSt
  partners : List PartnerSt
  noSession : Nat
  pathMismatch : Nat
  telDiscards : Nat
  startLow : Nat
  replies : List (Nat × Nat × Nat)
  sccIn   : List (Nat × SccRec)
  sccOut  : List (Nat × Nat × SccRec)
  reports : List (Nat × Nat × List Byte)
  banks   : Quad BankSt
  inputs  : List InputSt
  pairs   : List PairSt
  vouts   : List VoutSt
  nvs     : List NvSt
  reset   : FieldReset
  stats   : AgreeStats
  ring    : List (Nat × Nat × Nat × List Byte)
  excite  : List (Nat × Nat × Nat × Nat)
  elemResult : Nat
  elemCommand : Nat
  twin    : TwinK
  cmds    : Quad W16
  tests   : Quad (Option Nat)
  held    : List Nat
  tels    : List OutTel
  ringOut : List (Nat × List Byte)
  notes   : List Note
  mirror  : Option Mirror
  mpages  : List VPage
  base    : List VPage
  pageCyc : List (Nat × Nat)
  backlog : List Nat
  refreshAt : Nat
  veneer  : Option (List Byte)
  halted  : Bool
  deriving DecidableEq, Repr

end Sys2Proof.Machine
end

