-- ==== Sys2Proof/Config.lean ====
section
/-! DEFINITION. What one module fixes at the factory or leaves open: constants without a body, so that no proof can
see a value. -/

namespace Sys2Proof.Config

/-- The serial number 0x1018.04 (factory, R299). -/
opaque serial : W32
/-- The revision number 0x1018.03 (factory, R299). -/
opaque revision : W32
/-- The hardware version string 0x1009 (factory, R299). -/
opaque hwVersion : List Byte
/-- The vendor firmware key identifier 0x2F01.07 (factory, R409). -/
opaque fwKeyId : W32
/-- The vendor firmware public key held in the boot ROM (R399). -/
opaque fwKey : List Byte
/-- The calibrated interrupt entry latency 0x2901.0D (factory, R306). -/
opaque stampLatency : Nat
/-- The factory gain ratios of a head port and system (1 or 2), twelve bytes (R201). -/
opaque gain (port sys : Nat) : List Byte
/-- The lowest SDI format a version of VCH migrates, 0x2F01.05 (image, R409). -/
opaque sdiMigrateMin (version : Nat) : Nat
/-- The PST format of a version of SVC, 0x2F01.06 (image, R409). -/
opaque pstFormat (version : Nat) : Nat
/-- A parameter, by index and sub-index, exists in a PST format (R408). -/
opaque pstKnows (format idx sub : Nat) : Bool

/-- PROVIDES of the factory image of a type, by code (image, R399). -/
opaque provides (typ : Nat) : Nat
/-- The version of the factory image of a type, by code (image, R399). -/
opaque version (typ : Nat) : Nat
/-- The parameters a transferred PST image holds, by index and sub-index: the spec does not lay them out (R399). -/
opaque pstParams (data : List Byte) : List (Nat × Nat × List Byte)

/-- The bytes after the header of a PST image that holds some parameters: the spec does not lay them out (R399). -/
opaque pstBody (params : List (Nat × Nat × List Byte)) : List Byte

/-- Ed25519 verification (RFC 8032): public key, message, signature. -/
opaque ed25519 (key msg sig : List Byte) : Bool
/-- AES-128-CMAC (NIST SP 800-38B): key, message; sixteen bytes. -/
opaque cmac (key msg : List Byte) : List Byte

/-- A login challenge (R302): the spec fixes its length only. A fresh value each time (`n` counts them). -/
opaque challenge (n : Nat) : List Byte
/-- The contents of state page `page` at the end of cycle `cycle`: the spec does not lay out the kernel's state in
the pages (R28, R327). -/
opaque pageData (page cycle : Nat) : List Byte
/-- The mirrored state that pages 0 to 255 stand for: the spec does not lay out the kernel's state in the pages (R327). -/
opaque mirrorOf (pages : List VPage) : Machine.Mirror
/-- The MAC address of the module on a network (0 A, 1 B). -/
opaque mac (net : Nat) : Nat
/-- The rate correction SVC derives at its `n`-th measurement, parts per 10^9: the spec states no rule (R313). -/
opaque rateCorr (n : Nat) : Int
/-- TIME_MS of a DISC MODULE_SAFE, by its SEQ: no evaluation produces it (R276, R279). -/
opaque discMs (seq : Nat) : Nat
/-- A value the spec states no result for, the `n`-th one used. -/
opaque freeNat (n : Nat) : Nat
/-- A coefficient of the demodulator's filter, the first half of a linear-phase filter of 250: the spec states its passband, its stopband
and its length only (R188). -/
opaque tap (n : Nat) : Int
/-- The in-phase and quadrature copies of the carrier of an excitation code at a raw sample (R188). -/
opaque carrier (code n : Nat) : Int × Int
/-- The USDO bytes of an answer to a client's identity: none for a success, else an abort code. They follow CiA 1301 (R296). -/
opaque usdo (client : Nat) (code : Option W32) : List Byte
/-- By how much the receive error counter stands above 119 after a good frame that follows a count above 127: ISO 11898-1 allows 119 to
127 (R291). -/
opaque recGood (n : Nat) : Fin 9
/-- The count by which the microsecond counter of Y leads that of X before a strobe has shown it: they start independently (R182). -/
opaque counterSkew : W32
/-- An edge's time where the samples give none (R195). -/
opaque freeStamp (n : Nat) : W32
/-- The measured phase of a reference carrier a heartbeat's sender does not name (R203). -/
opaque freePhase (n : Nat) : W16
/-- An image's snapshot list for a trigger code outside 0x1000 to 0x11FF (image, R365). -/
opaque snapList (code : Nat) : List W32
/-- The result of an SDI migration from an older format (R408): the migrated image bytes. -/
opaque migrate (data : List Byte) : List Byte

/-- The input power at X1 at an input voltage, 0x2002.02: the spec gives limits and one example only (R420, R428). -/
opaque inputMw (mv : Nat) : Nat
/-- The voltage of the calendar's backup capacitor at a millisecond of CLK_SVC, 0x2A01.09 (R320). -/
opaque supercapMv (ms : Nat) : Nat
/-- The text of 0x100A for a version (R299): the spec does not lay it out. -/
opaque versionText (version : Nat) : List Byte
/-- The spare flash blocks left of an image type, by code, at a millisecond of CLK_SVC: fewest over both slots and all copies (R410
.09). -/
opaque spareBlocks (typ ms : Nat) : Nat
/-- The CRC-32C of the factory image of a type, by code, as its boot check computes it (R394, R399). -/
opaque imageCrc (typ : Nat) : W64

end Sys2Proof.Config
end

