-- ==== Sys2Proof/Machine/Bits.lean ====
section
/-! DEFINITION. Byte strings, bit fields and the two cyclic redundancy checks of the module (R395). -/

namespace Sys2Proof.Machine

/-- The low byte of a number. -/
def byteOf (n : Nat) : Byte := BitVec.ofNat 8 n

/-- `n` as `k` bytes, least significant first. -/
def le : Nat → Nat → List Byte
  | 0, _ => []
  | k + 1, n => byteOf n :: le k (n / 256)

/-- `n` as `k` bytes, most significant first. -/
def be (k n : Nat) : List Byte := (le k n).reverse

/-- The number a byte string spells, least significant byte first. -/
def ofLe : List Byte → Nat
  | [] => 0
  | b :: t => b.toNat + 256 * ofLe t

/-- The number a byte string spells, most significant byte first. -/
def ofBe (l : List Byte) : Nat := ofLe l.reverse

/-- The `n` bytes from offset `o`, shorter at the end of the string. -/
def slice (l : List Byte) (o n : Nat) : List Byte := (l.drop o).take n

/-- Little-endian number of `n` bytes at offset `o`. -/
def leAt (l : List Byte) (o n : Nat) : Nat := ofLe (slice l o n)

/-- Big-endian number of `n` bytes at offset `o`. -/
def beAt (l : List Byte) (o n : Nat) : Nat := ofBe (slice l o n)

/-- Byte `o` of a string, 0 beyond its end. -/
def byteAt (l : List Byte) (o : Nat) : Byte := l.getD o 0

/-- Bit `i` of a number. -/
def bitAt (n i : Nat) : Bool := n.testBit i

/-- Bits [hi:lo] of a number. -/
def field (n hi lo : Nat) : Nat := n / 2 ^ lo % 2 ^ (hi - lo + 1)

/-- A Boolean as 0 or 1. -/
def bit (b : Bool) : Nat := if b then 1 else 0

/-- One bit step of a reflected 32-bit CRC. -/
def crcBit (poly c : W32) : W32 := if c.getLsbD 0 then (c >>> 1) ^^^ poly else c >>> 1

/-- `n` bit steps. -/
def crcBits (poly : W32) : Nat → W32 → W32
  | 0, c => c
  | n + 1, c => crcBits poly n (crcBit poly c)

/-- The register of a reflected 32-bit CRC after a byte string. -/
def crcRun (poly : W32) (c : W32) (l : List Byte) : W32 :=
  l.foldl (fun c b => crcBits poly 8 (c ^^^ b.setWidth 32)) c

/-- CRC-32C (R395): polynomial 0x1EDC6F41, here reflected. -/
def crc32c (l : List Byte) : W32 := crcRun 0x82F63B78 0xFFFFFFFF l ^^^ 0xFFFFFFFF

/-- CRC-32/ISO-HDLC (R395): polynomial 0x04C11DB7, here reflected. -/
def crc32h (l : List Byte) : W32 := crcRun 0xEDB88320 0xFFFFFFFF l ^^^ 0xFFFFFFFF

/-- SAFETY of a DATA frame (R239). -/
def ringSafety (node slot cycle sched : Nat) (payload : List Byte) : W32 :=
  crc32h ([byteOf node, byteOf slot] ++ be 2 payload.length ++ be 4 cycle ++ be 2 sched ++ payload)

/-- The pair of both checks as one 64-bit word, CRC-32C first (R32, R59, R63). -/
def crcPair (l : List Byte) : W64 := (crc32c l ++ crc32h l : BitVec 64)

/-- `a` is later than `b` among sequence numbers modulo 2^bits (R54, R56). -/
def seqLater (bits a b : Nat) : Bool :=
  let d := (a + 2 ^ bits - b % 2 ^ bits) % 2 ^ bits
  1 ≤ d && d ≤ 2 ^ (bits - 1) - 1

/-- Replace entry `i` of a list by `f` of it; unchanged when there is none. -/
def modNth {α : Type} (l : List α) (i : Nat) (f : α → α) : List α :=
  match l, i with
  | [], _ => []
  | a :: t, 0 => f a :: t
  | a :: t, n + 1 => a :: modNth t n f

/-- Entry `i` of a list of a key and a count, one higher; a new entry counts from 0. -/
def bump (l : List (Nat × Nat)) (k : Nat) : List (Nat × Nat) :=
  if l.any (·.1 == k) then l.map (fun p => if p.1 == k then (p.1, p.2 + 1) else p) else (k, 1) :: l

/-- The value of key `k`, 0 when it has none. -/
def lookupD (l : List (Nat × Nat)) (k : Nat) : Nat := ((l.find? (·.1 == k)).map (·.2)).getD 0

/-- Replace the value of key `k`, or add it. -/
def assocSet {α : Type} (l : List (Nat × α)) (k : Nat) (v : α) : List (Nat × α) :=
  if l.any (·.1 == k) then l.map (fun p => if p.1 == k then (k, v) else p) else l ++ [(k, v)]

/-- The integer square root of a number below 2^128. -/
def isqrt (n : Nat) : Nat :=
  (List.range 64).foldr (fun i r => if (r + 2 ^ i) * (r + 2 ^ i) ≤ n then r + 2 ^ i else r) 0

end Sys2Proof.Machine
end

