-- ==== Sys2Proof/Machine/BankTypes.lean ====
section
/-! DEFINITION. The state of a field bank controller beyond the isolation barrier (R66 to R68, R208 to R229). -/

namespace Sys2Proof.Machine

/-- One channel line as the bank sees it (R66, R68, R211). -/
structure BankLine where
  cmd     : Option CmdFrame
  fresh   : Bool
  halves  : Nat
  enable  : Bool
  echo    : Byte
  fault   : Bool
  deriving DecidableEq, Repr

/-- A configuration item a line has delivered, and one the bank has accepted (R213). -/
structure CfgItem where
  item : Byte
  v0   : Byte
  v1   : Byte
  v2   : Byte
  deriving DecidableEq, Repr

/-- An output test the bank runs: the tested output, the readback that stands in the frames (that of the last frame sent before
the request until both samples are taken, and the samples after that), and the frames sent since the request (R224). -/
structure BankTest where
  out    : Nat
  rbP    : Byte
  rbM    : Byte
  held   : Bool
  sent   : Nat
  deriving DecidableEq, Repr

/-- A bank controller (R208 to R229). `lastP` and `lastM` are the readback of the last frame sent (R224), `freeze` the test-pulse
source, 0 or 1, whose inputs are frozen (R215). -/
structure BankHw where
  config    : Bool
  offers    : List (Ch × CfgItem)
  items     : List CfgItem
  commits   : List Ch
  lines     : Quad BankLine
  pumpReady : Bool
  selfFault : Bool
  ufWarn    : Bool
  ufLow     : Bool
  ufCut     : Bool
  frameSeq  : W16
  iPath     : BitVec 24
  jPath     : BitVec 24
  undef     : BitVec 24
  wireBreak : BitVec 24
  pulseFlag : BitVec 24
  pSw       : Byte
  mSw       : Byte
  pOpen     : Byte
  mOpen     : Byte
  nOut      : BitVec 4
  lastP     : Byte
  lastM     : Byte
  freeze    : Option Nat
  test      : Option BankTest
  deriving DecidableEq, Repr

end Sys2Proof.Machine
end

