-- ==== Sys2Proof/Machine/ChannelTypes.lean ====
section
/-! DEFINITION. The state of one vital channel, of the mesh between the channels, and of the group of four
(R7 to R69). -/

namespace Sys2Proof.Machine

/-- A channel's role (R42). -/
inductive Role where
  | off | voting | reserve | resync
  deriving DecidableEq, Repr

/-- The degradation ladder's level (R47). -/
inductive Ladder where
  | full | noReserve | dual | safe
  deriving DecidableEq, Repr

/-- One receiving end of a mesh link, as the receiver judges it (R15). -/
structure LinkEnd where
  up      : Bool
  bad     : Nat
  good    : Nat
  lastSeq : Option Byte
  toTest  : Bool
  tested  : Option Bool
  deriving DecidableEq, Repr

/-- An entry of a stream as a producer writes it into a channel's ingress queue (R52, R58). -/
inductive Entry where
  | tel (t : Telegram)
  | ring (node sched : Nat) (payload : List Byte) (safety : W32)
  | svc (e : SvcEntry)
  | veneer (v : Veneer)
  deriving DecidableEq, Repr

/-- A stream entry with its STREAM id and sequence number (R52). -/
structure StreamEntry where
  stream : Nat
  seq    : Nat
  entry  : Entry
  deriving DecidableEq, Repr

/-- A bank section of the raw image (R52). -/
structure BankSec where
  frameSeq : Nat
  present  : Bool
  img      : BankImage
  deriving DecidableEq, Repr

/-- A sensor section of the raw image (R52). -/
structure SnsSec where
  hwm  : Nat
  recs : List SensorRec
  deriving DecidableEq, Repr

/-- A stream section of the raw image: the digests end at HWM (R52). -/
structure StreamSec where
  stream  : Nat
  hwm     : Nat
  digests : List W32
  deriving DecidableEq, Repr

/-- A channel's raw image (R52). -/
structure RawImage where
  elapsed : Nat
  voting  : Bool
  banks   : Quad BankSec
  snsX    : SnsSec
  snsY    : SnsSec
  streams : List StreamSec
  deriving DecidableEq, Repr

/-- A TENON1 part a channel holds (R53). -/
structure T1Part where
  tx    : Ch
  cycle : Nat
  part  : Nat
  parts : Nat
  data  : List Byte
  deriving DecidableEq, Repr

/-- What a mesh frame carries (R14). -/
inductive MeshOut where
  | mark (waitNs : Nat)
  | tenon1 (part parts : Nat) (data : List Byte)
  | tenon2 (p : Tenon2)
  | vote (p : VotePayload)
  | start (ckptCycle : Nat) (ckptHash : W64) (map : List Nat)
  | repair (round : Nat) (map : List Nat)
  | page (round index : Nat) (crc : W32) (data : List Byte)
  | deltaEnd (round count : Nat) (hash : W64) (map : List Nat)
  | idle
  deriving DecidableEq, Repr

/-- How far a channel is in its vital cycle (R17, R62, R64): not cycling; in P1 with its raw image unfinished; in P2,
waiting for raw images or for TENON2 of an attempt; in P3 with its evaluation unfinished; in P4, waiting for VOTE
frames; in P5 or P6 with the work unfinished; done. -/
inductive CStage where
  | idle
  | sampling
  | awaitT1
  | awaitT2 (attempt : Nat)
  | evaluating
  | awaitVote
  | emitting
  | checkpointing
  | done
  deriving DecidableEq, Repr

/-- A checkpoint descriptor (R33). -/
structure Descriptor where
  cycle : Nat
  hashC : W32
  hashH : W32
  valid : Bool
  full  : Bool
  map   : List Nat
  crc   : W32
  deriving DecidableEq, Repr

/-- A 2 KiB page of the state region that holds something else than the reset contents (R28). -/
structure Page where
  index : Nat
  data  : List Byte
  deriving DecidableEq, Repr

/-- The requester's side of a delta transfer (R37 to R41). -/
structure XferReq where
  supplier : Ch
  start    : Nat
  round    : Nat
  got      : List Page
  fresh    : List Nat
  full     : Bool
  total    : Nat
  deriving DecidableEq, Repr

/-- The supplier's side of a delta transfer (R37 to R41). -/
structure XferSup where
  requester : Ch
  start  : Nat
  round  : Nat
  again  : List Nat
  repair : List Nat
  total  : Nat
  full   : Bool
  deriving DecidableEq, Repr

/-- The newest complete bank input frame in a channel's queue (R18, R209). -/
structure LineFrame where
  frameSeq : Nat
  echo     : Byte
  img      : BankImage
  deriving DecidableEq, Repr

/-- One vital channel (R7 to R69). -/
structure Channel where
  role      : Role
  roleSeen  : Role
  inReset   : Bool
  booting   : Bool
  resets    : List Nat
  confirmed : Bool
  agreed    : Bool
  since     : Nat
  dovetail  : Bool
  storeBuf  : List StoreReq
  rx        : Quad (Option LineFrame)
  latched   : Quad (Option Nat)
  snsX      : List SensorRec
  snsY      : List SensorRec
  queue     : List StreamEntry
  fill      : List (Nat × Nat)
  obs       : Option MarkObs
  marked    : Bool
  raw       : Option RawImage
  t1        : List T1Part
  t2        : List (Ch × Nat × Tenon2)
  votes     : List (Ch × Nat × VotePayload)
  stage     : CStage
  used      : BitVec 4
  myT2      : Option Tenon2
  proceed   : Bool
  myVote    : Option VotePayload
  marks     : Quad (Option Int)
  steer     : Int
  elapsed   : Nat
  overrun   : List Phase
  gens      : Quad Bool
  emitting  : Bool
  cmds      : Quad W16
  tests     : Quad (Option Nat)
  cmdSeq    : Quad Byte
  p5End     : Bool
  dirty     : List Nat
  pages     : List Page
  pageVals  : List (Nat × W32)
  ring      : List Descriptor
  ckpt      : Option Descriptor
  req       : Option XferReq
  sups      : List XferSup
  scrubAt   : Nat
  sdi       : List Byte
  sdiSums   : List W32
  sdiAt     : Nat
  ends      : Quad LinkEnd
  linkDelay : Quad Nat
  txSeq     : Quad Byte
  txq       : Quad (List (Nat × MeshOut))
  egress    : List (Egress × List Byte)
  deriving DecidableEq, Repr

/-- The four channels and what the module keeps of them together (R15 to R69). -/
structure Vital where
  chans      : Quad Channel
  cycle      : Nat
  running    : Bool
  ladder     : Ladder
  left       : Bool
  raised     : List (Nat × Ch)
  lineBad    : List (Ch × Nat)
  lineNow    : List (Ch × Nat)
  cutX       : Nat
  cutY       : Nat
  cuts       : List (Nat × Nat)
  newCuts    : Option (Nat × Nat × List (Nat × Nat))
  evaluated  : Option Nat
  agreedHash : Option W64
  vote       : Option VotePayload
  pages      : List Nat
  dualMs     : Nat
  fullMs     : Nat
  resetsTotal : Nat
  eccCorrected : Nat
  lastPages  : Nat
  discarded  : Nat
  timedAt    : Option Nat
  p2Last     : Nat
  p2Max      : Nat
  p3Last     : Nat
  p3Max      : Nat
  spreadMax  : Nat
  cycleCount : Nat
  deriving DecidableEq, Repr

end Sys2Proof.Machine
end

