-- ==== Sys2Proof/Machine/FaultTypes.lean ====
section
/-! DEFINITION. The fault collector, the lock-out record and the event recorder as data (R340 to R375). -/

namespace Sys2Proof.Machine

/-- A module state (R254, R351). -/
inductive MState where
  | start | run | safe | lockout | shutdown
  deriving DecidableEq, Repr

/-- Device time: seconds and nanoseconds of the 10-byte form (R308). -/
structure DTime where
  s  : Nat
  ns : Nat
  deriving DecidableEq, Repr

/-- A consequence shadow (R350): the channel reset, the cycle of the reset, the reference marks still to come
before it closes, and the reserve promoted in the channel's place. -/
structure Shadow where
  ch       : Ch
  cycle    : Nat
  marks    : Nat
  promoted : Option Ch
  order    : Nat
  deriving DecidableEq, Repr

/-- An open fault record (R348, R357). -/
structure FaultRec where
  source   : Nat
  cfgLevel : Nat
  applied  : Nat
  acked    : Bool
  forced   : Bool
  config   : Bool
  overflow : Bool
  time     : DTime
  cycle    : Nat
  merged   : Nat
  first    : List Nat
  shadow   : Option Shadow
  reacted  : Bool
  deriving DecidableEq, Repr

/-- An escalation that runs: the source, the CLK_SVC millisecond at which the level falls due, and whether a force
bit asserted it (R344). -/
structure Escalation where
  source : Nat
  due    : Nat
  forced : Bool
  deriving DecidableEq, Repr

/-- A lock-out entry (R355). -/
structure LockEntry where
  state     : Nat
  flags     : Nat
  source    : Nat
  detail    : W32
  setTime   : DTime
  cycle     : Nat
  clearTime : DTime
  deriving DecidableEq, Repr

/-- The fault collector (R340 to R359). -/
structure Collector where
  overrides  : List (Nat × W32)
  forces     : List Nat
  asserted   : List Nat
  counts     : List (Nat × Nat)
  escal      : List Escalation
  recs       : List (Option FaultRec)
  isolated   : List Nat
  shadowNo   : Nat
  highest    : Nat
  recsTotal  : Nat
  mergedTotal : Nat
  escalated  : Nat
  configErrs : Nat
  safeCause  : Nat
  select     : Nat
  allClear   : Bool
  about      : Option (Nat × Nat)
  deriving DecidableEq, Repr

/-- The lock-out record, its reset window and the restart object (R353 to R358). -/
structure Lockout where
  pending  : Bool
  entries  : List LockEntry
  total    : Nat
  code     : Nat
  result   : Nat
  window   : Option Nat
  deriving DecidableEq, Repr

/-- A recorder record (R362); `about` is the head and the reason of a REJECT, for which the 64 bytes have no field (R166, assumption
116). -/
structure Rec where
  trigger : Nat
  rep     : Nat
  s       : Nat
  ns      : Nat
  source  : Nat
  flags   : Nat
  vals    : List W32
  rseq    : Nat
  valid   : Byte
  mstate  : Nat
  ladder  : Nat
  cycle   : Nat
  crc     : W32
  about   : Option (Nat × Nat)
  deriving DecidableEq, Repr

/-- A token bucket of a trigger code (R367): its tokens left, and the millisecond of its last refill or since which it is not full. -/
structure Bucket where
  code   : Nat
  tokens : Nat
  at_    : Nat
  deriving DecidableEq, Repr

/-- A client's cursor (R370). -/
structure Cursor where
  client : Client
  rseq   : Nat
  deriving DecidableEq, Repr

/-- A PST replacement of a code's snapshot list and bucket (R365, R375). -/
structure SnapCfg where
  code   : Nat
  list   : List W32
  depth  : Nat
  refill : Nat
  deriving DecidableEq, Repr

/-- The pin of a running export: its slot, the range of RSEQ, the client, and the last advance (R371). -/
structure Pin where
  slot   : Nat
  lo     : Nat
  hi     : Nat
  client : Client
  lastMs : Nat
  deriving DecidableEq, Repr

/-- The event recorder (R360 to R375). A record stands with its place in the ring; `fencedSeq` names the records fences have destroyed. -/
structure Recorder where
  size      : Nat
  recs      : List (Nat × Rec)
  next      : Nat
  rseq      : Nat
  lost      : Nat
  stopped   : Bool
  fenced    : List Nat
  corrected : Nat
  merges    : Nat
  epoch     : Nat
  buckets   : List Bucket
  cursors   : List Cursor
  snaps     : List SnapCfg
  selCode   : Nat
  lr        : List W32
  lrLast    : Nat
  pin       : Option Pin
  pointersOk : Bool
  fencedSeq : List Nat
  deriving DecidableEq, Repr

end Sys2Proof.Machine
end

