-- ==== Sys2Proof/Machine/NetTypes.lean ====
section
/-! DEFINITION. The state of networks A and B, their switches and clocks, the pairing table and the egress
engines (R65, R260 to R286). -/

namespace Sys2Proof.Machine

/-- The state of the PTP ordinary clock (R266, R284 .0A). -/
inductive PtpState where
  | listening | uncalibrated | slave | faulty
  deriving DecidableEq, Repr

/-- A held two-step residence time (R267): the external port the Sync came in by, its source, and when it was forwarded, in ms of
CLK_SVC. -/
structure Residence where
  from_ : Nat
  since : Nat
  port : Nat
  seq  : Nat
  ns   : Nat
  deriving DecidableEq, Repr

/-- What a NET engine keeps of a bound session for DISC MODULE_SAFE (R272, R279). -/
structure Bind where
  index   : Nat
  partner : Nat
  sid     : Nat
  seq     : Nat
  conf    : Nat
  echo    : Nat
  deriving DecidableEq, Repr

/-- An address the switch has learned (R261), with the ms of CLK_SVC at which its source was last seen. -/
structure MacEntry where
  mac   : Nat
  port  : Nat
  since : Nat
  deriving DecidableEq, Repr

/-- A network: its external ports, its switch, its NET engine and its ordinary clock (R260 to R268, R284). -/
structure NetSide where
  port1     : Nat
  port2     : Nat
  macs      : List MacEntry
  bcast     : List (Nat × Nat)
  bcastSec  : Nat
  icmp      : Nat
  icmpSec   : Nat
  service   : Bool
  garpLeft  : Nat
  garpAt    : Nat
  ptpState  : PtpState
  master    : Option Nat
  utcValid  : Bool
  utcOffset : Int
  syncSeq   : Option Nat
  goodSyncs : Nat
  ptpOffset : Int
  residences : List Residence
  binds     : List Bind
  rxValid   : Nat
  txTel     : Nat
  cut       : Nat
  resMax    : Nat
  discards  : Nat
  rejects   : Nat
  egressFail : Nat
  fuUnmatched : Nat
  deriving DecidableEq, Repr

/-- A key of the pairing table (R274); `done` when its skew window has ended, `since` when the first copy came, in ms. -/
structure PairKey where
  since   : Nat
  partner : Nat
  session : Nat
  seq     : Nat
  tel     : Telegram
  second  : Bool
  done    : Bool
  deriving DecidableEq, Repr

/-- An outbound entry an egress engine holds, with the voting channels that have written it (R65). -/
structure EgEntry where
  data    : List Byte
  writers : List Ch
  sent    : Bool
  cycle   : Nat
  deriving DecidableEq, Repr

/-- Both networks, the pairing table, the egress queues and the counters of 0x2800 (R260 to R286). -/
structure Nets where
  a        : NetSide
  b        : NetSide
  keys     : List PairKey
  egA      : List EgEntry
  egB      : List EgEntry
  egStr    : List EgEntry
  egTwin   : List EgEntry
  recent   : List (Producer × StreamEntry × Nat)
  svcSeq   : Nat
  startCount : Nat
  dual     : Nat
  single   : Nat
  late     : Nat
  drops    : Nat
  unbound  : Nat
  deriving DecidableEq, Repr

end Sys2Proof.Machine
end

