-- ==== Sys2Proof/Machine/RingTypes.lean ====
section
/-! DEFINITION. The state of the Stratus node the STR engine runs (R236 to R259). -/

namespace Sys2Proof.Machine

/-- A node's state (R249). -/
inductive NodeState where
  | notConfigured | listen | coldstart | integrating | synced | silent
  deriving DecidableEq, Repr

/-- A node record of the schedule (R242). -/
structure SchedNode where
  node     : Nat
  sync     : Bool
  cold     : Bool
  position : Nat
  keySlot  : Nat
  deriving DecidableEq, Repr

/-- A used slot of the schedule (R242). -/
structure SchedSlot where
  slot   : Nat
  owner  : Nat
  key    : Bool
  status : Bool
  len    : Nat
  start  : Nat
  deriving DecidableEq, Repr

/-- A schedule as STR reads it (R242). -/
structure Schedule where
  id        : Nat
  cycleMs   : Nat
  nodeCount : Nat
  slotCount : Nat
  syncCount : Nat
  coldCount : Nat
  precision : Nat
  offLimit  : Nat
  rateLimit : Nat
  nitUs     : Nat
  nodes     : List SchedNode
  slots     : List SchedSlot
  deriving DecidableEq, Repr

/-- What the module keeps of a ring node (R259). -/
structure NodeInfo where
  node      : Nat
  state     : Nat
  linkNs    : Nat
  deviation : Int
  rejects   : Nat
  frames    : Nat
  lastCycle : Nat
  deriving DecidableEq, Repr

/-- The STR engine's node (R236 to R257). `readE` and `readW` say that a frame of the running cycle showed the role of `loopE` or `loopW`. `coldCycles` counts the own cycles in `COLDSTART` and `noReturn` the own COLDSTART frames sent
since one returned; `syncMiss`, `missE` and `missW` count the own cycles since a SYNC or COLDSTART was accepted and since a valid frame
arrived at a port (R249, R250); `breakAt` is the break the next cycle acts on; `asked` an ECHO_REQ that is not answered (R247). -/
structure Ring where
  state     : NodeState
  own       : Nat
  twin      : Nat
  sched     : Option Schedule
  refusal   : Nat
  cycle     : Nat
  keyDone   : Bool
  coldCycles : Nat
  noReturn  : Nat
  syncMiss  : Nat
  missE     : Nat
  missW     : Nat
  breakAt   : Option RingPort
  silentAt  : Nat
  portE     : Bool
  portW     : Bool
  loopRole  : BitVec 2
  loopE     : Option Nat
  loopW     : Option Nat
  readE     : Bool
  readW     : Bool
  linkNs    : Nat
  measured  : Bool
  asked     : Bool
  echoes    : List Nat
  devEven   : List (Nat × Int)
  devOdd    : List (Nat × Int)
  short     : Nat
  syncVals  : Nat
  offset    : Int
  rate      : Int
  precision : Nat
  doubles   : Nat
  attempts  : Nat
  probeRun  : Nat
  probeSeen : Bool
  peerRun   : Nat
  openAt    : Option Nat
  winRejects : Nat
  truncations : Nat
  fcsErrors : Nat
  fwdDrops  : Nat
  nullDrop  : Nat
  coldAborts : Nat
  reints    : Nat
  heals     : Nat
  nodes     : List NodeInfo
  ready     : List (Nat × List Byte)
  lastVseq  : Nat
  sentAt    : List (Nat × Nat)
  deriving DecidableEq, Repr

/-- The accumulated rate correction in parts per 10^9 (R240, R257). -/
def Ring.ratePpb (r : Ring) : Int :=
  match r.sched with | some c => r.rate * 1000 / Int.ofNat (max 1 c.cycleMs) | none => 0

end Sys2Proof.Machine
end

