-- ==== Sys2Proof/Machine/SensorTypes.lean ====
section
/-! DEFINITION. The state of the two sensor processors and of the dual feed of the local heads (R183 to R207). -/

namespace Sys2Proof.Machine

/-- A raw sample as the filter's span holds it (R188 to R190): its value, the range it was taken at, whether it counts with zero weight,
and whether it was clamped or at full scale. -/
structure HeldRaw where
  adc   : Int
  range : Nat
  zero  : Bool
  clamp : Bool
  deriving DecidableEq, Repr

/-- A range switch that has been decided (R190): it waits for the raw sample that reaches the threshold, or has a number of raw samples
left at the old range. -/
inductive RangeSwitch where
  | none | decided | left (n : Nat)
  deriving DecidableEq, Repr

/-- An envelope sample as an edge is interpolated from it (R195): its CLK_SNS count, the linearised signal and the reference. -/
structure SamplePt where
  ticks : Nat
  y     : Int
  yref  : Int
  deriving DecidableEq, Repr

/-- A crossing of D = 0.30 (R195): the samples on its two sides, and whether a RANGE_STEP sample stands next to it. -/
structure Crossing where
  before : Option SamplePt
  after  : Option SamplePt
  rs     : Bool
  deriving DecidableEq, Repr

/-- One sensor system of a local head, as its processor holds it (R188 to R198): `range` is the range decided and `rawRange` that of the raw
samples, `ages` the raw samples since the last switches, `conducts` the numbers of the last raw samples with clamp conduction, `hist` the
signal of the samples since it began to settle, newest first, `causeUs` when the cause of a fault was last seen. -/
structure SensorSys where
  state    : HState
  exc      : Bool
  freq     : Nat
  ampl     : Nat
  rampEnd  : W32
  range    : Nat
  rawRange : Nat
  switch   : RangeSwitch
  zeroLeft : Nat
  ages     : List Nat
  rawNo    : Nat
  window   : List HeldRaw
  conducts : List Nat
  clampUs  : W32
  lowRun   : Nat
  above    : Bool
  cand     : Option Nat
  active   : Bool
  endRun   : Nat
  prev     : Option SamplePt
  prevRs   : Bool
  edge     : Crossing
  endEdge  : Option Crossing
  start    : W32
  rsStart  : Bool
  pClamp   : Bool
  pUnset   : Bool
  word     : W32
  y        : Int
  yref     : Int
  hist     : List Int
  loop     : Nat
  theta    : Int
  rhoNew   : Bool
  cause    : Nat
  causeUs  : W32
  faults   : List Nat
  unsetTil : Option Nat
  deriving DecidableEq, Repr

/-- Whether a module drives a dual-fed head, and with how much (R204). -/
inductive Drive where
  | none | joining | half | full
  deriving DecidableEq, Repr

/-- The feed of one local head (R202 to R205, R207 .0E); `ramp` is the millisecond of CLK_SVC in which a join ramp began. -/
structure HeadFeed where
  drive    : Drive
  partner  : Bool
  locked   : Bool
  suppress : Bool
  ramp     : Option Nat
  deriving DecidableEq, Repr

/-- A keep-alive or excitation command as one channel delivered it (R187). -/
structure KaCopy where
  ch     : Ch
  cmd    : ExcCmd
  timeUs : W32
  deriving DecidableEq, Repr

/-- One sensor processor (R160, R187 to R198): `agreedUs` is the time of the last agreed keep-alive, `lastUs` the last time it has stamped,
`sendUs` the last strobe it has sent. -/
structure SensorProc where
  seq      : Nat
  sent     : List (SensorRec × Nat)
  sys      : List SensorSys
  ka       : List KaCopy
  agreedUs : Option W32
  lastUs   : W32
  sendUs   : Option W32
  nOwn     : Nat
  nPeer    : Nat
  peerStamp : W32
  deriving DecidableEq, Repr

/-- The calibration of one head port (R201); `c1` and `c2` hold the twelve Q2.29 words of a system in sub-index
order, `gain1` and `gain2` the factory ratios times 2^24. -/
structure HeadCal where
  c1     : List W32
  c2     : List W32
  coil1  : Nat
  coil2  : Nat
  cable1 : Nat
  cable2 : Nat
  gain1  : List W32
  gain2  : List W32
  deriving DecidableEq, Repr

/-- Both sensor processors, the heads' feeds and the calibration (R183 to R207); `skew` is the microsecond counter of Y less that of X as
the last strobe showed it. -/
structure Sensors where
  x     : SensorProc
  y     : SensorProc
  feeds : List HeadFeed
  skew  : Option W32
  cals  : List HeadCal
  deriving DecidableEq, Repr

end Sys2Proof.Machine
end

