-- ==== Sys2Proof/Machine/ServiceTypes.lean ====
section
/-! DEFINITION. The state of SVC's other services: CAN and the object dictionary's clients, time, the twin link, life
cycle, self-test and seal, check-value units, images and the control supply (R287 to R428). -/

namespace Sys2Proof.Machine

/-- The CAN link state (R292). -/
inductive CanLink where
  | online | alone | busOff
  deriving DecidableEq, Repr

/-- The time role on CAN (R295). -/
inductive TimeRole where
  | slave | backup | master
  deriving DecidableEq, Repr

/-- One row of the bit timing table (R288): prescaler, time quanta per bit, sample point in tenths of a percent. -/
structure BitTiming where
  prescaler : Nat
  quanta    : Nat
  sample    : Nat
  deriving DecidableEq, Repr

/-- How a frame goes out (R288): classic, FD, or FD with the data phase at its own rate and, from 2 Mbit/s on, with delay
compensation at the data sample point. -/
inductive CanPhy where
  | classic (nominal : BitTiming)
  | fd (nominal : BitTiming)
  | brs (nominal data : BitTiming) (compensated : Bool)
  deriving DecidableEq, Repr

/-- An emergency message (R304). -/
structure Emcy where
  code   : Nat
  reg    : Byte
  source : Nat
  mstate : Nat
  cycle  : Nat
  deriving DecidableEq, Repr

/-- A frame the CAN engine has to send (R291 to R297). -/
inductive CanOut where
  | heartbeat (stopped : Bool)
  | emcy (e : Emcy)
  | reference (prio seq : Nat) (prevValid fromPtp : Bool) (prevNs prevS : Nat)
  | usdo (client : Client) (code : Option W32)
  deriving DecidableEq, Repr

/-- The CAN engine (R287 to R296, R304, R306): `pair` holds the own device time of the stamp a pair of reference messages gives and the
master's device time for it (R294), `beatAt` and `emcyAt` the times of the last heartbeat and EMCY sent. -/
structure Can where
  link      : CanLink
  stopped   : Bool
  tec       : Nat
  rec_      : Nat
  noAckRun  : Nat
  noAck     : Nat
  errLimit  : Nat
  busOffs   : Nat
  alones    : Nat
  rejects   : Nat
  role      : TimeRole
  masterSeen : Nat
  refSeq    : Nat
  refNext   : Nat
  prevStamp : Option DTime
  refDue    : Nat
  wStart    : Nat
  aloneAt   : Nat
  queue     : List CanOut
  attempts  : Nat
  service   : List CanFrame
  timeq     : List CanFrame
  lastRef   : Option (RefMsg × DTime)
  pairMs    : Option Nat
  pair      : Option (DTime × DTime)
  beatAt    : Option Nat
  emcyAt    : Option Nat
  emcys     : List Emcy
  emcyLost  : Nat
  passive   : Bool
  filters   : List W64
  deriving DecidableEq, Repr

/-- A launch or control of a client whose response is still to go (R146): its slot, whether it is a launch, the counter of SVC's entry,
the time of the write, and the cycle of the kernel's verdict with its code, 0 for an accepted one. -/
structure Waiting where
  slot    : Nat
  launch  : Bool
  entry   : Nat
  ms      : Nat
  verdict : Option (Nat × Nat)
  deriving DecidableEq, Repr

/-- What the object dictionary keeps of a client (R300, R302, R158). -/
structure ClientSt where
  client    : Client
  level     : Nat
  lastReq   : Nat
  challenge : Option (Nat × List Byte × Nat)
  wrong     : List Nat
  blocked   : Option Nat
  result    : Nat
  refusal   : Nat
  launched  : List Waiting
  deriving DecidableEq, Repr

/-- A time-stamp unit as SVC maps it (R309): the device time of its last snapshot, and the device time and the count that passed
between its last two. -/
structure TsuSt where
  valid   : Bool
  run     : Nat
  wraps   : Nat
  counter : W32
  arrival : W32
  lastMs  : Nat
  devAt   : DTime
  devGone : Nat
  gone    : Nat
  deriving DecidableEq, Repr

/-- Device time, its sources and the calendar clock (R308 to R321): `frac` holds the thousandths of a nanosecond device time has run beyond
`now`, `slew` the offset still to be slewed. -/
structure Time where
  now       : DTime
  frac      : Nat
  source    : TimeSource
  offset    : Int
  rate      : Int
  slew      : Int
  steps     : Nat
  switches  : Nat
  calendar  : Nat
  calValid  : Bool
  trimmed   : Bool
  backupLost : Bool
  na        : TsuSt
  nb        : TsuSt
  can       : TsuSt
  svc       : TsuSt
  rejects   : Nat
  lostMs    : Option Nat
  usableMs  : List (TimeSource × Nat)
  ptpMs     : Option Nat
  deriving DecidableEq, Repr

/-- The twin link as SVC runs it (R324 to R326, R339). -/
structure TwinLink where
  hbSeq      : Nat
  last       : Option Heartbeat
  valid      : Bool
  compatible : Bool
  cause      : Nat
  lane0      : Bool
  lane1      : Bool
  sent       : Nat
  ack        : Nat
  gotVeneer  : Option Nat
  deriving DecidableEq, Repr

/-- A seal record (R385). -/
structure Seal where
  run     : Byte
  passed  : Byte
  origin  : Nat
  source  : Nat
  used    : Bool
  serial  : W32
  time    : DTime
  images  : W32
  sdiCrc  : W32
  firstFail : W32
  crcOk   : Bool
  deriving DecidableEq, Repr

/-- The self-test (R382, R389): the slices still to run by test bit and number, and who runs it. -/
structure SelfTest where
  state   : Nat
  run     : Byte
  passed  : Byte
  firstFail : W32
  slices  : Nat
  todo    : List (Nat × Nat)
  failed  : List Nat
  slot    : Option Nat
  cancel  : Bool
  abort   : Bool
  deriving DecidableEq, Repr

/-- Life cycle, sealed switch, self-test, seal and the last start (R376 to R389). The copies stand in the order SVC,
A, B, C, D; `fell` holds that an image check of this start fell back, `bad` the tests its self-test failed, with port or bank. -/
structure Life where
  copies    : List Nat
  state     : Nat
  pending   : Option Nat
  result    : Nat
  count     : Nat
  sw1Svc    : Byte
  sw1Ch     : Quad Byte
  sw1Agreed : Byte
  diffMs    : Quad (Option Nat)
  mismatch  : Bool
  position  : Nat
  test      : SelfTest
  seals     : List (Option Seal)
  lastStart : Nat
  reason    : Nat
  startMs   : Nat
  fell      : Bool
  bad       : List (Nat × Nat)
  deriving DecidableEq, Repr

/-- A check-value unit (R390 to R396): its settings, its registers, its counters and its known-answer state. -/
structure Cvu where
  mode    : Nat
  width   : Nat
  poly    : W64
  init    : W64
  refin   : Bool
  refout  : Bool
  order   : Bool
  xorout  : W64
  tapOff  : Nat
  lenMode : Nat
  lenVal  : Nat
  lenFld  : Nat
  running : W64
  result  : W64
  units   : Nat
  misses  : Nat
  pass    : Bool
  failed  : Bool
  deriving DecidableEq, Repr

/-- The state of an image slot (R397). -/
inductive SlotImg where
  | empty | unchecked | valid | failed | unusable
  deriving DecidableEq, Repr

/-- One slot of an image type (R397): its state, its bytes, the packages in which it is unusable, and the channels whose own
flash holds other bytes (R31), such as one that was `OFF` when the slot was written (R401). -/
structure ImgSlot where
  state  : SlotImg
  data   : List Byte
  bad    : List SwReader
  copies : List (Ch × List Byte)
  deriving DecidableEq, Repr

/-- The bytes a channel's own flash holds of a slot (R31, R397). -/
def ImgSlot.copyOf (x : ImgSlot) (c : Ch) : List Byte := match x.copies.find? (·.1 = c) with | some p => p.2 | none => x.data

/-- The activation of an image type (R403, R405). -/
inductive Activation where
  | none | staged | pending | unconfirmed
  deriving DecidableEq, Repr

/-- One image type (R397, R410). -/
structure Img where
  running : Option Nat
  s0      : ImgSlot
  s1      : ImgSlot
  act     : Activation
  event   : Nat
  prev    : Option Nat
  trial   : Bool
  deriving DecidableEq, Repr

/-- An image transfer that runs (R401, R402). -/
structure Transfer where
  slot    : Nat
  typ     : ImageType
  len     : Nat
  got     : List Byte
  writing : Bool
  lastMs  : Nat
  client  : Client
  deriving DecidableEq, Repr

/-- A value of the parameter store that differs from its default (R300, R397): index, sub-index, bytes. -/
structure PstVal where
  idx  : Nat
  sub  : Nat
  data : List Byte
  deriving DecidableEq, Repr

/-- Images, the transfers that run, oldest first, and activation (R397 to R410); `pstPrev` holds the parameters of the PST slot that ran before, `unbooted`
the sensor processors and banks without a complete image since the last start (R398). -/
structure Update where
  vch      : Img
  svc      : Img
  net      : Img
  str      : Img
  cane     : Img
  sns      : Img
  fld      : Img
  sdi      : Img
  pst      : Img
  transfers : List Transfer
  schedule : Option (Nat × DTime)
  result   : Nat
  migSdi   : Bool
  migPst   : Bool
  pstPrev  : List PstVal
  runMs    : Nat
  unbooted : List Relayed
  deriving DecidableEq, Repr

/-- The control supply and the board temperature (R419, R424, R428). -/
structure Supply where
  on       : Bool
  mv       : Nat
  minMv    : Nat
  low      : Bool
  high     : Bool
  temp     : Int
  tempMax  : Int
  tempHigh : Bool
  tempCrit : Bool
  hoursMs  : Nat
  cycles   : Nat
  deriving DecidableEq, Repr

end Sys2Proof.Machine
end

