-- ==== Sys2Proof/Machine/OutTypes.lean ====
section
/-! DEFINITION. What a command sends on the block's lines, ports and pins. -/

namespace Sys2Proof.Machine

/-- One thing sent. -/
inductive Out where
  | mesh (tx rx : Ch) (f : MeshFrame)
  | cmdFrame (bk : Bank) (f : CmdFrame)
  | cfgFrame (bk : Bank) (f : CfgFrame)
  | inputFrame (bk : Bank) (ch : Ch) (f : InputFrame)
  | record (sp : Sp) (r : SensorRec)
  | strobe (sp : Sp)
  | keepAlive (ch : Ch) (sp : Sp) (cmd : ExcCmd)
  | joinRequest (head : Nat)
  | stopDrive (head : Nat)
  | telegram (net : Net) (partner : Nat) (data : List Byte)
  | eth (net : Net) (port : Nat) (f : EthFrame)
  | toEngine (net : Net) (f : EthFrame)
  | arp (net : Net) (ip : W32)
  | garp (net : Net) (ip : W32)
  | icmp (net : Net) (ip : W32)
  | delayReq (net : Net)
  | ptp (net : Net) (m : PtpMsg) (addCorrection : Nat)
  | ring (port : RingPort) (typ : BitVec 3) (dir : Bool) (node slot cycle : Nat) (payload fcs : List Byte)
  | forward (port : RingPort) (node slot : Nat) (cut : Bool)
  | can (ident : Nat) (phy : CanPhy) (data : List Byte)
  | tunnelEmcy (ip : W32) (data : List Byte)
  | heartbeat (lane : Bool) (hb : Heartbeat)
  | veneer (data : List Byte) (unitCrcs : List (List Byte))
  | confirm (cl : Client)
  | abort (cl : Client) (code : W32)
  | led (blank : Bool)
  deriving DecidableEq, Repr

/-- The priority code point of a frame the module sends itself (R262): safe telegrams 6, PTP 5, USDO over UDP 4, ARP and ICMP 0. -/
def Out.pcp : Out → Option Nat
  | .telegram .. => some 6
  | .delayReq .. => some 5
  | .confirm (.udp _) => some 4
  | .abort (.udp _) _ => some 4
  | .tunnelEmcy .. => some 4
  | .arp .. => some 0
  | .garp .. => some 0
  | .icmp .. => some 0
  | _ => none

/-- The egress queue of a priority code point (R262). -/
def queueOfPcp (pcp : Nat) : Nat := pcp / 2

end Sys2Proof.Machine
end

