-- ==== Sys2Proof/Machine/State.lean ====
section
/-! DEFINITION. The state of the PJV-7302 block, what a step may end in, and the state after reset. -/

namespace Sys2Proof.Machine

/-- The station data in use and the outcome of its acceptance (R84, R88 to R90). -/
structure SdiUse where
  sdi     : Option Sdi
  raw     : List Byte
  slot    : Option Nat
  state   : Nat
  code    : Nat
  table   : Nat
  record  : Nat
  refused : Option Nat
  measUs  : Nat
  estLow  : Bool
  deriving DecidableEq, Repr

/-- SVC's own time: milliseconds of CLK_SVC since the model began, the millisecond the last start began, and how many
values the model took that the spec leaves open (the model's own counter). -/
structure Svc where
  ms       : Nat
  startMs  : Nat
  fresh    : Nat
  deriving DecidableEq, Repr

/-- The block's whole state (R7 to R428). -/
structure State where
  /-- The commands that wait, first in, first out. -/
  pending : List Instr
  /-- What the last command sent. -/
  out     : List Out
  /-- The module state (R254, R351). -/
  mstate  : MState
  svc     : Svc
  vital   : Vital
  kernel  : Kernel
  sdi     : SdiUse
  col     : Collector
  lock    : Lockout
  rcd     : Recorder
  sens    : Sensors
  banks   : Quad BankHw
  ring    : Ring
  nets    : Nets
  can     : Can
  clients : List ClientSt
  time    : Time
  twin    : TwinLink
  life    : Life
  cvus    : List Cvu
  upd     : Update
  supply  : Supply
  /-- The parameter store as written. -/
  pst     : List PstVal
  /-- The parameter store as it was read at the last start. -/
  pstLive : List PstVal
  deriving DecidableEq, Repr

/-- Why a command stops the block. No rule of the spec stops it without an effect, so there is no fault. -/
inductive Fault
  deriving DecidableEq, Repr

/-- Why the model refuses a command. -/
inductive Refusal where
  /-- Raised by an arm of exec whose command has no meaning yet; safe: nothing is claimed of it. -/
  | notModelled (mnemonic : String)
  deriving DecidableEq, Repr

/-! ## Reset values -/

/-- Device time 0. -/
def DTime.zero : DTime := ⟨0, 0⟩

/-- A bank image as received by none: nothing read, BANK_STAT all ones (R54). -/
def BankImage.none_ : BankImage := ⟨0xFF, 0, 0, 0, 0, 0, 0, 0⟩

/-- A link end at start: not UP, since no frame has come (R15, R22 .0A default 0). -/
def LinkEnd.reset : LinkEnd := ⟨false, 0, 0, none, false, none⟩

/-- A channel at reset: OFF until the start assigns a role (R46). -/
def Channel.reset : Channel where
  role := .off
  roleSeen := .off
  inReset := false
  booting := false
  resets := []
  confirmed := false
  agreed := false
  since := 0
  dovetail := false
  storeBuf := []
  rx := Quad.all none
  latched := Quad.all none
  snsX := []
  snsY := []
  queue := []
  fill := []
  obs := none
  marked := false
  raw := none
  t1 := []
  t2 := []
  votes := []
  stage := .idle
  used := 0
  myT2 := none
  proceed := false
  myVote := none
  marks := Quad.all none
  steer := 0
  elapsed := 0
  overrun := []
  gens := Quad.all false
  emitting := false
  cmds := Quad.all 0
  tests := Quad.all none
  cmdSeq := Quad.all 0
  p5End := false
  dirty := []
  pages := []
  pageVals := []
  ring := []
  ckpt := none
  req := none
  sups := []
  scrubAt := 0
  sdi := []
  sdiSums := []
  sdiAt := 0
  ends := Quad.all LinkEnd.reset
  linkDelay := Quad.all 0
  txSeq := Quad.all 0
  txq := Quad.all []
  egress := []

/-- The channel group at reset. -/
def Vital.reset : Vital where
  chans := Quad.all Channel.reset
  cycle := 0
  running := false
  ladder := .full
  left := false
  raised := []
  lineBad := []
  lineNow := []
  cutX := 0
  cutY := 0
  cuts := []
  newCuts := none
  evaluated := none
  agreedHash := none
  vote := none
  pages := []
  dualMs := 0
  fullMs := 0
  resetsTotal := 0
  eccCorrected := 0
  lastPages := 0
  discarded := 0
  timedAt := none
  p2Last := 0
  p2Max := 0
  p3Last := 0
  p3Max := 0
  spreadMax := 0
  cycleCount := 0

/-- A slot at a cold start: FREE with SEQ 0 (R157). -/
def SlotSt.free : SlotSt where
  op := 0
  state := .free
  okind := 0
  level := 0
  identity := 0
  stage := 0
  cancelPending := false
  percent := 0
  result := 0xFFFF
  data := []
  seq := 0
  started := 0
  target := 0
  param := []
  order := 0
  wasRunning := false
  queuedAt := 0
  finalAt := 0
  outMs := 0
  scc := none

/-- An unbound session index (R285). -/
def SessSt.unbound : SessSt where
  state := .unbound
  partner := 0xFFFF
  sid := 0
  opener := false
  rxSeq := 0
  rxAny := false
  confSeq := 0
  confEcho := 0
  confAny := false
  records := []
  deadline := 0
  ctl := .none
  connAt := 0
  connSeq := none
  holdAt := 0
  ageMax := 0
  lost := 0
  single := 0
  lastClose := 0
  openings := 0
  dataIn := []
  restrictive := false
  firstOwn := 0
  outData := []

/-- A bank in the channels before its first frame: in CONFIG with STATUS 0x50 (R232). -/
def BankSt.reset : BankSt where
  img := { BankImage.none_ with stat := 0x50 }
  lastStat := 0x50
  present := false
  unkP := 0
  unkM := 0
  unkN := 0
  frameSeq := 0
  state := .config
  cuts := []
  cutsTotal := 0
  lineFaults := 0
  testFrames := 0
  cause := 0
  absentRun := 0
  lowSince := none
  search := none
  waiting := []
  locked := false

/-- An input before its first evaluation: INVALID with cause BANK (R233). -/
def InputSt.reset : InputSt where
  state := .invalid
  value := false
  cause := 1
  crossFeed := false
  crossAt := 0
  crossPartner := none
  undefSince := none
  undefLatched := false
  undefClear := none
  pathRun := 0

/-- A vital output: off and normal (R234). -/
def VoutSt.reset : VoutSt where
  cmd := false
  twinCmd := false
  onRun := 0
  sameRun := 0
  twinRun := 0
  readback := 0
  failed := false
  judged := true
  cause := 0
  partner := none
  nextTest := none
  lastTest := none
  testGap := 0
  tests := 0

/-- A non-vital output: off (R234). -/
def NvSt.reset : NvSt := ⟨false, false, false, 0, false, 0⟩

/-- The axle evaluator before any record (R160 to R162). -/
def Evaluator.reset : Evaluator where
  pendX := []
  pendY := []
  tbXs := []
  tbYs := []
  theta := none
  lastTheta := 0
  delta := 0
  valid := false
  horizon := none
  noAdvance := 0
  invalidRun := 0
  xStuck := 0
  yStuck := 0
  xOk := false
  yOk := false
  xSeq := none
  ySeq := none
  firstY := none

/-- The twin side before any heartbeat (R322, R339). -/
def TwinK.reset : TwinK where
  role := 2
  position := 0
  silent := 0
  ownerAbsent := 0
  noEntry := 0
  entry := none
  ownerNow := false
  ownerRun := 0
  statusOwner := none
  notActiveRun := 0
  activeRun := 0
  compatRun := 0
  syncRun := 0
  degraded := false
  frame := false
  hashEq := false
  offer := false
  offerSeen := false
  offerCycle := 0
  takenSeen := false
  overlap := false
  request := false
  since := 0
  cmdSeen := Quad.all 0
  frames := 0
  frameAt := 0
  sent := 0
  takeovers := 0
  lastCause := 0
  isolation := 0
  overlapCycles := 0
  tookAt := none
  pagesLast := 0
  backlogLast := 0

/-- The kernel without station data (R93). -/
def Kernel.cold : Kernel where
  cycle := 0
  vital := 0
  first := true
  routes := []
  elems := []
  attrs := []
  sections := []
  heads := []
  ev := Evaluator.reset
  rejects := 0
  slots := List.replicate 96 SlotSt.free
  launchNo := 0
  sess := List.replicate 128 SessSt.unbound
  partners := []
  noSession := 0
  pathMismatch := 0
  telDiscards := 0
  startLow := 0
  replies := []
  sccIn := []
  sccOut := []
  reports := []
  banks := Quad.all BankSt.reset
  inputs := List.replicate 96 InputSt.reset
  pairs := []
  vouts := List.replicate 32 VoutSt.reset
  nvs := List.replicate 16 NvSt.reset
  reset := ⟨none, 0, 0, 0, 0⟩
  stats := ⟨0, 0, 0, 0, 0, 0, 0, 0, 0, 0⟩
  ring := []
  excite := []
  elemResult := 0
  elemCommand := 0
  twin := TwinK.reset
  cmds := Quad.all 0
  tests := Quad.all none
  held := []
  tels := []
  ringOut := []
  notes := []
  mirror := none
  mpages := []
  base := []
  pageCyc := []
  backlog := []
  refreshAt := 0
  veneer := none
  halted := false

/-- No station data (R90). -/
def SdiUse.none_ : SdiUse := ⟨none, [], none, 0, 0, 0, 0, none, 0, false⟩

/-- The collector with nothing asserted (R357, R359). -/
def Collector.reset : Collector where
  overrides := []
  forces := []
  asserted := []
  counts := []
  escal := []
  recs := List.replicate 16 none
  isolated := []
  shadowNo := 0
  highest := 0
  recsTotal := 0
  mergedTotal := 0
  escalated := 0
  configErrs := 0
  safeCause := 0xFFFF
  select := 0
  allClear := true
  about := none

/-- An EMPTY lock-out entry (R355). -/
def LockEntry.empty : LockEntry := ⟨0, 0, 0, 0, DTime.zero, 0, DTime.zero⟩

/-- The lock-out record of a module that was never locked out (R355, R358). -/
def Lockout.reset : Lockout := ⟨false, List.replicate 16 LockEntry.empty, 0, 0, 0, none⟩

/-- The recorder after power-on: empty, RSEQ 1 next (R361, R374). -/
def Recorder.reset : Recorder where
  size := 2
  recs := []
  next := 0
  rseq := 1
  lost := 0
  stopped := false
  fenced := []
  corrected := 0
  merges := 0
  epoch := 0
  buckets := []
  cursors := []
  snaps := []
  selCode := 1
  lr := List.replicate 8 0
  lrLast := 0
  pin := none
  pointersOk := true
  fencedSeq := []

/-- No crossing. -/
def Crossing.none_ : Crossing := ⟨none, none, false⟩

/-- A sensor system: OFF (R198). -/
def SensorSys.reset : SensorSys where
  state := .off
  exc := false
  freq := 0
  ampl := 0
  rampEnd := 0
  range := 0
  rawRange := 0
  switch := .none
  zeroLeft := 0
  ages := []
  rawNo := 0
  window := []
  conducts := []
  clampUs := 0
  lowRun := 0
  above := false
  cand := none
  active := false
  endRun := 0
  prev := none
  prevRs := false
  edge := Crossing.none_
  endEdge := none
  start := 0
  rsStart := false
  pClamp := false
  pUnset := false
  word := 0x10000000
  y := 0
  yref := 0
  hist := []
  loop := 0
  theta := 0
  rhoNew := false
  cause := 0
  causeUs := 0
  faults := []
  unsetTil := none

/-- A sensor processor before its engine starts; its record sequence starts at 1 (R197). -/
def SensorProc.reset : SensorProc :=
  ⟨1, [], List.replicate 16 SensorSys.reset, [], none, 0, none, 0, 0, 0⟩

/-- The default calibration of a head port (R201). -/
def HeadCal.default_ : HeadCal where
  c1 := [0, 0, 0, 0x20000000, 0, 0, 0, 0, 0, 0, 0, 0]
  c2 := [0, 0, 0, 0x20000000, 0, 0, 0, 0, 0, 0, 0, 0]
  coil1 := 10000
  coil2 := 10000
  cable1 := 0
  cable2 := 0
  gain1 := []
  gain2 := []

/-- Both sensor processors at reset. -/
def Sensors.reset : Sensors :=
  ⟨SensorProc.reset, SensorProc.reset, List.replicate 16 ⟨.none, false, false, false, none⟩, none,
    List.replicate 16 HeadCal.default_⟩

/-- A bank controller at reset: in CONFIG, pump off, every switch open (R210, R213). -/
def BankHw.reset : BankHw where
  config := true
  offers := []
  items := []
  commits := []
  lines := Quad.all ⟨none, false, 0, false, 0, false⟩
  pumpReady := false
  selfFault := false
  ufWarn := false
  ufLow := false
  ufCut := false
  frameSeq := 0
  iPath := 0
  jPath := 0
  undef := 0
  wireBreak := 0
  pulseFlag := 0
  pSw := 0
  mSw := 0
  pOpen := 0
  mOpen := 0
  nOut := 0
  lastP := 0
  lastM := 0
  freeze := none
  test := none

/-- The Stratus node with the default configuration (R257, R258). -/
def Ring.reset : Ring where
  state := .notConfigured
  own := 0xFF
  twin := 0xFF
  sched := none
  refusal := 0
  cycle := 0
  keyDone := false
  coldCycles := 0
  noReturn := 0
  syncMiss := 0
  missE := 0
  missW := 0
  breakAt := none
  silentAt := 0
  portE := false
  portW := false
  loopRole := 0
  loopE := none
  readE := false
  readW := false
  loopW := none
  linkNs := 0
  measured := false
  asked := false
  echoes := []
  devEven := []
  devOdd := []
  short := 0
  syncVals := 0
  offset := 0
  rate := 0
  precision := 0
  doubles := 0
  attempts := 0
  probeRun := 0
  probeSeen := false
  peerRun := 0
  openAt := none
  winRejects := 0
  truncations := 0
  fcsErrors := 0
  fwdDrops := 0
  nullDrop := 0
  coldAborts := 0
  reints := 0
  heals := 0
  nodes := []
  ready := []
  lastVseq := 0
  sentAt := []

/-- A network at reset: ports down, clock LISTENING (R284). -/
def NetSide.reset : NetSide where
  port1 := 0
  port2 := 0
  macs := []
  bcast := []
  bcastSec := 0
  icmp := 0
  icmpSec := 0
  service := false
  garpLeft := 0
  garpAt := 0
  ptpState := .listening
  master := none
  utcValid := false
  utcOffset := 0
  syncSeq := none
  goodSyncs := 0
  ptpOffset := 0
  residences := []
  binds := []
  rxValid := 0
  txTel := 0
  cut := 0
  resMax := 0
  discards := 0
  rejects := 0
  egressFail := 0
  fuUnmatched := 0

/-- Both networks at reset (R283). -/
def Nets.reset : Nets where
  a := NetSide.reset
  b := NetSide.reset
  keys := []
  egA := []
  egB := []
  egStr := []
  egTwin := []
  recent := []
  svcSeq := 0
  startCount := 0
  dual := 0
  single := 0
  late := 0
  drops := 0
  unbound := 0

/-- The CAN engine at reset (R292, R306). -/
def Can.reset : Can where
  link := .online
  stopped := false
  tec := 0
  rec_ := 0
  noAckRun := 0
  noAck := 0
  errLimit := 0
  busOffs := 0
  alones := 0
  rejects := 0
  role := .slave
  masterSeen := 0xFF
  refSeq := 0
  refNext := 0
  prevStamp := none
  refDue := 0
  wStart := 0
  aloneAt := 0
  queue := []
  attempts := 0
  service := []
  timeq := []
  lastRef := none
  pairMs := none
  pair := none
  beatAt := none
  emcyAt := none
  emcys := []
  emcyLost := 0
  passive := false
  filters := []

/-- A time-stamp unit before its first snapshot (R309). -/
def TsuSt.reset : TsuSt := ⟨false, 0, 0, 0, 0, 0, DTime.zero, 0, 0⟩

/-- Device time at reset: 0 s with source NONE (R314, R320). -/
def Time.reset : Time where
  now := DTime.zero
  frac := 0
  source := .none
  offset := 0
  rate := 0
  slew := 0
  steps := 0
  switches := 0
  calendar := 0
  calValid := false
  trimmed := false
  backupLost := false
  na := TsuSt.reset
  nb := TsuSt.reset
  can := TsuSt.reset
  svc := TsuSt.reset
  rejects := 0
  lostMs := none
  usableMs := []
  ptpMs := none

/-- The twin link before any heartbeat (R339). -/
def TwinLink.reset : TwinLink := ⟨0, none, false, false, 0, false, false, 0, 0, none⟩

/-- The self-test before any run (R389). -/
def SelfTest.reset : SelfTest := ⟨0, 0, 0, 0xFFFFFFFF, 0, [], [], none, false, false⟩

/-- Life cycle FACTORY in all five copies, no seal (R376, R388, R389). -/
def Life.reset : Life where
  copies := [0, 0, 0, 0, 0]
  state := 0
  pending := none
  result := 0
  count := 0
  sw1Svc := 0
  sw1Ch := Quad.all 0
  sw1Agreed := 0
  diffMs := Quad.all none
  mismatch := false
  position := 0
  test := SelfTest.reset
  seals := [none, none, none, none, none]
  lastStart := 0
  reason := 0
  startMs := 0
  fell := false
  bad := []

/-- A unit with a standard setting (R390, R395). -/
def Cvu.make (mode : Nat) (order : Bool) (off lm lv : Nat) : Cvu where
  mode := mode
  width := 32
  poly := 0x1EDC6F41
  init := 0xFFFFFFFF
  refin := true
  refout := true
  order := order
  xorout := 0xFFFFFFFF
  tapOff := off
  lenMode := lm
  lenVal := lv
  lenFld := 2
  running := 0
  result := 0
  units := 0
  misses := 0
  pass := false
  failed := false

/-- The twelve units with the settings of R390. -/
def cvusReset : List Cvu :=
  [Cvu.make 0 false 0 2 32, Cvu.make 0 false 4 2 32, Cvu.make 0 false 0 2 32, Cvu.make 0 false 4 2 32,
   Cvu.make 2 true 0 1 0, Cvu.make 1 true 0 1 0, Cvu.make 1 true 0 1 0, Cvu.make 2 true 0 1 0,
   Cvu.make 0 false 0 1 0, Cvu.make 0 false 0 1 0, Cvu.make 0 false 0 1 0, Cvu.make 0 false 0 1 0]

/-- An EMPTY image slot (R397). -/
def ImgSlot.empty : ImgSlot := ⟨.empty, [], [], []⟩

/-- An image type that runs a factory image of slot 0. -/
def Img.factory : Img := ⟨some 0, { ImgSlot.empty with state := .valid }, ImgSlot.empty, .none, 0, none, false⟩

/-- An image type with both slots EMPTY. -/
def Img.empty : Img := ⟨none, ImgSlot.empty, ImgSlot.empty, .none, 0, none, false⟩

/-- The images a module leaves the factory with. -/
def Update.reset : Update where
  vch := Img.factory
  svc := Img.factory
  net := Img.factory
  str := Img.factory
  cane := Img.factory
  sns := Img.factory
  fld := Img.factory
  sdi := Img.empty
  pst := Img.factory
  transfers := []
  schedule := none
  result := 0
  migSdi := false
  migPst := false
  pstPrev := []
  runMs := 0
  unbooted := []

/-- The machine right after reset: `START`, nothing asserted, the parameter store at its defaults. -/
def State.reset : State where
  pending := []
  out := []
  mstate := .start
  svc := ⟨0, 0, 0⟩
  vital := Vital.reset
  kernel := Kernel.cold
  sdi := SdiUse.none_
  col := Collector.reset
  lock := Lockout.reset
  rcd := Recorder.reset
  sens := Sensors.reset
  banks := Quad.all BankHw.reset
  ring := Ring.reset
  nets := Nets.reset
  can := Can.reset
  clients := []
  time := Time.reset
  twin := TwinLink.reset
  life := Life.reset
  cvus := cvusReset
  upd := Update.reset
  supply := ⟨true, 0, 0, false, false, 0, 0, false, false, 0, 0⟩
  pst := []
  pstLive := []

end Sys2Proof.Machine
end

