-- ==== Sys2Proof/Machine/SlotOps.lean ====
section
/-! DEFINITION. The slot table as data: entering a final state, release, and the table's readings (R149 to R157). -/

namespace Sys2Proof.Machine

/-- A final state (R149). -/
def SlotState.final : SlotState → Bool
  | .done | .cancelled | .failed => true
  | _ => false

/-- Neither FREE nor final (R149). -/
def SlotState.busy : SlotState → Bool
  | .queued | .running | .suspended => true
  | _ => false

/-- The slot of number `n`, a FREE one beyond the table. -/
def Kernel.slot (k : Kernel) (n : Nat) : SlotSt := k.slots.getD n SlotSt.free

/-- The table with slot `n` changed. -/
def Kernel.modSlot (k : Kernel) (n : Nat) (f : SlotSt → SlotSt) : Kernel := { k with slots := modNth k.slots n f }

/-- A slot as it stands in a final state (R149 to R151): SEQ rises by one. -/
def SlotSt.end_ (st : SlotState) (result : Nat) (data : List Byte) (now : Nat) (s : SlotSt) : SlotSt :=
  { s with state := st, result := result, data := data, seq := s.seq + 1, finalAt := now, outMs := 0, cancelPending := false }

/-- A route operation has ended `FAILED` or was refused: its code and DETAIL are the route's last result (R115 .0D, .0E). -/
def Kernel.noteRoute (k : Kernel) (op rid code detail : Nat) : Kernel :=
  if [0x0101, 0x0102, 0x0103].contains op then
    { k with routes := k.routes.map fun r => if r.id == rid then { r with lastResult := code, lastDetail := detail } else r }
  else k

/-- Slot `n` enters the final state `st`; nothing changes when it is not in progress (R149, R150). DETAIL of a route operation
stands in bytes 4 and 5 of RESULT_DATA (R112). -/
def Kernel.finish (k : Kernel) (n : Nat) (st : SlotState) (result : Nat) (data : List Byte) : Kernel :=
  let s := k.slot n
  if s.state.busy then
    let k := { k.modSlot n (SlotSt.end_ st result data k.vital) with notes := k.notes ++ [.slotFinal n s.op] }
    if st = .failed then k.noteRoute s.op s.target result (leAt data 4 2) else k
  else k

/-- Slot `n` goes FREE; OP_CODE, TARGET and SEQ stay (R151, R152). -/
def Kernel.release (k : Kernel) (n : Nat) : Kernel :=
  k.modSlot n fun s => { SlotSt.free with op := s.op, target := s.target, seq := s.seq }

/-- A vital operation: every one but the service operations of R155. -/
def vitalOp (op : Nat) : Bool := !([0x0401, 0x0501, 0x0502, 0x0601, 0x0901].contains op)

/-- The first slot with operation `op` that is in progress. -/
def Kernel.running (k : Kernel) (op : Nat) : Option Nat :=
  k.slots.findIdx? fun s => s.op == op && s.state.busy

/-- Device time as one count of nanoseconds, as a slot keeps STARTED. -/
def DTime.nanos (t : DTime) : Nat := t.s * 1000000000 + t.ns

/-- Device time in its 10-byte form (R308). -/
def DTime.bytes (t : DTime) : List Byte := le 4 t.ns ++ le 6 t.s

/-- PERCENT of an operation that has just been entered: 0x7F where it measures no progress (R157). -/
def percent0 (op : Nat) : Nat := if op = 0x0401 ∨ op = 0x0501 ∨ op = 0x0601 then 0 else 0x7F

/-- PROGRESS of a slot (R157). -/
def SlotSt.progress (s : SlotSt) : Nat := s.stage * 256 + bit s.cancelPending * 128 + s.percent

/-- The code of a slot state (R157 .02). -/
def SlotState.code : SlotState → Nat
  | .free => 0 | .queued => 1 | .running => 2 | .suspended => 3 | .done => 4 | .cancelled => 5 | .failed => 6

end Sys2Proof.Machine
end

