-- ==== Sys2Proof/Machine/Codes.lean ====
section
/-! DEFINITION. The numbers by which objects, frames and records name states (R22, R51, R254, R257, R306, R320,
R388, R410). -/

namespace Sys2Proof.Machine

/-- MODULE_STATE (R254). -/
def MState.code : MState → Nat
  | .start => 0 | .run => 1 | .safe => 2 | .lockout => 3 | .shutdown => 4

/-- LADDER (R51 .01). -/
def Ladder.code : Ladder → Nat
  | .full => 0 | .noReserve => 1 | .dual => 2 | .safe => 3

/-- ROLE_x (R51). -/
def Role.code : Role → Nat
  | .off => 0 | .voting => 1 | .reserve => 2 | .resync => 3

/-- NODE_STATE (R257). -/
def NodeState.code : NodeState → Nat
  | .notConfigured => 0 | .listen => 1 | .coldstart => 2 | .integrating => 3 | .synced => 4 | .silent => 5

/-- The head and system states (R181 .01). -/
def HState.code : HState → Nat
  | .off => 0 | .settling => 1 | .active => 2 | .interfered => 3 | .fault => 4

end Sys2Proof.Machine

namespace Sys2Proof

open Machine

/-- The time source (R320). -/
def TimeSource.code : TimeSource → Nat
  | .none => 0 | .ptpA => 1 | .ptpB => 2 | .can => 3 | .calendar => 4

/-- The bank of index 0 to 3. -/
def Bank.ofIdx (n : Nat) : Bank := match n % 4 with | 0 => .b1 | 1 => .b2 | 2 => .b3 | _ => .b4

/-- A bank's index 0 to 3. -/
def Bank.idx : Bank → Nat | .b1 => 0 | .b2 => 1 | .b3 => 2 | .b4 => 3

/-- The position of a bank's value in a Quad. -/
def Bank.ch : Bank → Ch | .b1 => .a | .b2 => .b | .b3 => .c | .b4 => .d

/-- The four banks. -/
def Bank.all : List Bank := [.b1, .b2, .b3, .b4]

/-- The identity part of a client (R157 ORIGIN). -/
def Client.identity : Client → Nat
  | .can n => n
  | .udp ip => ip

/-- ORIGIN.KIND of a client (R157). -/
def Client.kind : Client → Nat
  | .can _ => 1
  | .udp _ => 2

end Sys2Proof
end

