-- ==== Sys2Proof/Machine/StoreOps.lean ====
section
/-! DEFINITION. The parameter store as data, the object dictionary's clients, and SW1 in force (R300, R379, R397). -/

namespace Sys2Proof.Machine

/-- A client that has never asked (R300). -/
def ClientSt.new (cl : Client) (ms : Nat) : ClientSt := ⟨cl, 0, ms, none, [], none, 0, 0, []⟩

/-- What the module keeps of a client. -/
def State.client (s : State) (cl : Client) : ClientSt := (s.clients.find? (·.client = cl)).getD (ClientSt.new cl s.svc.ms)

/-- Positions 3 to 8 of SW1 in force: the SVC word, and open while SW1_MISMATCH is asserted (R379, R381); positions
1 and 2 as the channels took them at start. -/
def State.sw (s : State) (n : Nat) : Bool :=
  if n ≤ 2 then s.life.position == n else !s.life.mismatch && s.life.sw1Svc.getLsbD (n - 1)

/-! ## The parameter store -/

/-- The value of a stored parameter, none while it stands at its default. -/
def pstFind (l : List PstVal) (idx sub : Nat) : Option (List Byte) :=
  (l.find? fun v => v.idx == idx && v.sub == sub).map (·.data)

/-- A parameter as a number, with its default. -/
def pstNat (l : List PstVal) (idx sub dflt : Nat) : Nat := ((pstFind l idx sub).map ofLe).getD dflt

/-- A parameter written. -/
def pstSet (l : List PstVal) (idx sub : Nat) (d : List Byte) : List PstVal :=
  ⟨idx, sub, d⟩ :: l.filter fun v => !(v.idx == idx && v.sub == sub)

/-- A parameter back at its default. -/
def pstDrop (l : List PstVal) (idx sub : Nat) : List PstVal := l.filter fun v => !(v.idx == idx && v.sub == sub)

/-- Every parameter of an object back at its default. -/
def pstDropObj (l : List PstVal) (idx : Nat) : List PstVal := l.filter fun v => !(v.idx == idx)

/-- A key of 16 bytes, all 0 when none is stored (R286, R303). -/
def pstKey (l : List PstVal) (idx sub : Nat) : List Byte := (pstFind l idx sub).getD (List.replicate 16 0)

/-! ## CAN filters (R289, R290) -/

/-- A filter element from its two words. -/
def filterWord (typ xtd id1 action id2 : Nat) : W64 :=
  BitVec.ofNat 64 (typ * 2 ^ 30 + xtd * 2 ^ 29 + id1 + (action * 2 ^ 30 + id2) * 2 ^ 32)

/-- The three fixed elements. -/
def fixedFilters (node base : Nat) : List W64 :=
  [filterWord 2 0 0 1 0, filterWord 2 0 (0x600 + node) 1 (0x600 + node), filterWord 1 0 base 2 (base + 7)]

end Sys2Proof.Machine
end

