-- ==== Sys2Proof/Machine/Images.lean ====
section
/-! DEFINITION. Images as data: types, slots, headers, boot checks and compatibility (R71, R397 to R405). -/

namespace Sys2Proof.Machine

/-- The code of an image type (R397). -/
def ImageType.code : ImageType → Nat
  | .vch => 1 | .svc => 2 | .net => 3 | .str => 4 | .cane => 5 | .sns => 6 | .fld => 7 | .sdi => 0x10 | .pst => 0x11

/-- The firmware types, in the order of R385. -/
def firmwareTypes : List ImageType := [.vch, .svc, .net, .str, .cane, .sns, .fld]

/-- Every image type. -/
def imageTypes : List ImageType := firmwareTypes ++ [.sdi, .pst]

/-- The type of a code (R397). -/
def ImageType.ofCode (n : Nat) : Option ImageType := imageTypes.find? fun t => ImageType.code t == n

/-- A firmware type. -/
def ImageType.firmware (t : ImageType) : Bool := ImageType.code t < 8

/-- The slot size of a type in bytes (R397). -/
def ImageType.size : ImageType → Nat
  | .vch => 8388608 | .svc => 4194304 | .net => 1048576 | .str => 524288 | .cane => 262144 | .sns => 524288
  | .fld => 262144 | .sdi => 3145728 | .pst => 262144

/-- The SW1 position that enables a transfer of a type (R148). -/
def ImageType.switch (t : ImageType) : Nat := if ImageType.firmware t then 5 else 4

/-- What the module keeps of a type. -/
def Update.img (u : Update) : ImageType → Img
  | .vch => u.vch | .svc => u.svc | .net => u.net | .str => u.str | .cane => u.cane | .sns => u.sns | .fld => u.fld
  | .sdi => u.sdi | .pst => u.pst

/-- A type's record replaced. -/
def Update.setImg (u : Update) (t : ImageType) (i : Img) : Update :=
  match t with
  | .vch => { u with vch := i } | .svc => { u with svc := i } | .net => { u with net := i }
  | .str => { u with str := i } | .cane => { u with cane := i } | .sns => { u with sns := i }
  | .fld => { u with fld := i } | .sdi => { u with sdi := i } | .pst => { u with pst := i }

/-- A type's record changed. -/
def Update.mod (u : Update) (t : ImageType) (f : Img → Img) : Update := u.setImg t (f (u.img t))

/-- Slot 0 or 1. -/
def Img.slot (i : Img) (n : Nat) : ImgSlot := if n = 0 then i.s0 else i.s1

/-- Slot 0 or 1 changed. -/
def Img.modSlot (i : Img) (n : Nat) (f : ImgSlot → ImgSlot) : Img :=
  if n = 0 then { i with s0 := f i.s0 } else { i with s1 := f i.s1 }

/-- The slot a transfer writes: the one that is not running (R401). -/
def Img.inactive (i : Img) : Nat := if i.running = some 0 then 1 else 0

/-- The bytes that run. -/
def Img.data (i : Img) : List Byte := match i.running with | some n => (i.slot n).data | none => []

/-- Bytes of a string taken as 0. -/
def zeroAt (l : List Byte) (o n : Nat) : List Byte := l.take o ++ List.replicate (min n (l.length - o)) 0 ++ l.drop (o + n)

/-- The magic of an image type (R71, R399). -/
def ImageType.magic (t : ImageType) : List Byte :=
  [0x50, 0x4A, 0x56, match t with | .sdi => 0x53 | .pst => 0x50 | _ => 0x49]

/-- TYPE_MISMATCH (R402): MAGIC, TYPE or HEADER_LEN does not match; the PST header is that of assumption 29. -/
def ImageType.matches_ (t : ImageType) (d : List Byte) : Bool :=
  slice d 0 4 == ImageType.magic t && (match t with
    | .pst => true
    | .sdi => leAt d 6 2 == 0x80
    | _ => leAt d 4 1 == ImageType.code t && leAt d 6 2 == 0x80)

/-- The image length its header states (R71, R399). -/
def ImageType.lenOf (t : ImageType) (d : List Byte) : Nat :=
  match t with | .pst => leAt d 8 4 | .sdi => leAt d 24 4 | _ => leAt d 16 4

/-- The bytes an image's CRC covers, its own field and what the header excludes taken as 0 (R71, R399). -/
def ImageType.covered (t : ImageType) (d : List Byte) : List Byte :=
  match t with
  | .pst => zeroAt d 12 4
  | .sdi => zeroAt d 48 80
  | _ => zeroAt (zeroAt d 32 4) 64 64

/-- The CRC of an image, computed as its header's is (R71, R399). -/
def ImageType.crcOf (t : ImageType) (d : List Byte) : W32 := crc32c (ImageType.covered t d)

/-- A version as UNSIGNED32 (R399, R410); a factory image has no bytes here (assumption 29). -/
def ImageType.versionOf (t : ImageType) (d : List Byte) : Nat :=
  if d.isEmpty then Config.version (ImageType.code t)
  else match t with
    | .sdi => leAt d 4 2
    | .pst => leAt d 4 2
    | _ => leAt d 8 1 * 2 ^ 24 + leAt d 9 1 * 2 ^ 16 + leAt d 10 2

/-- PROVIDES of an image (R399, R410). -/
def ImageType.providesOf (t : ImageType) (d : List Byte) : Nat :=
  if !ImageType.firmware t then 0 else if d.isEmpty then Config.provides (ImageType.code t) else leAt d 12 1

/-- The required ranges of an image (R399): type, lowest and highest interface level. -/
def reqsOf (d : List Byte) : List (Nat × Nat × Nat) :=
  (List.range (min 7 (leAt d 13 1))).map fun i => (leAt d (36 + 4 * i) 1, leAt d (38 + 4 * i) 1, leAt d (39 + 4 * i) 1)

/-- The boot check of a firmware or PST image (R399, R404): signature, KEY_ID and CRC_C. An SDI is judged by R86. -/
def ImageType.passes (t : ImageType) (d : List Byte) : Bool :=
  if d.isEmpty then true
  else match t with
    | .sdi => true
    | .pst => ImageType.matches_ t d && leAt d 12 4 == (ImageType.crcOf t d).toNat
    | _ =>
      let m := d.take (leAt d 16 4)
      Config.ed25519 Config.fwKey (zeroAt m 64 64) (slice d 64 64) && leAt d 28 4 == Config.fwKeyId.toNat
        && leAt d 32 4 == (ImageType.crcOf t m).toNat

/-- A set of firmware images is compatible (R400). -/
def compatible (sel : List (ImageType × List Byte)) : Bool :=
  sel.all fun x => (reqsOf x.2).all fun r => sel.any fun y =>
    ImageType.code y.1 == r.1 && r.2.1 ≤ ImageType.providesOf y.1 y.2 && ImageType.providesOf y.1 y.2 ≤ r.2.2

/-- The firmware that runs, with one type's bytes replaced. -/
def Update.firmware (u : Update) (t : ImageType) (d : List Byte) : List (ImageType × List Byte) :=
  firmwareTypes.map fun x => (x, if x = t then d else (u.img x).data)

/-- The lowest SDI format the running VCH migrates (R408, R409). -/
def Update.migrateMin (u : Update) : Nat := Config.sdiMigrateMin (ImageType.versionOf .vch u.vch.data)

/-- The PST format of the running SVC (R408, R409). -/
def Update.pstFormat (u : Update) : Nat := Config.pstFormat (ImageType.versionOf .svc u.svc.data) % 65536

/-- A PST image of a format (R399): its header of 32 bytes, in the places of assumption 29, and its parameters. -/
def pstImage (format : Nat) (l : List PstVal) : List Byte :=
  let b := Config.pstBody (l.map fun v => (v.idx, v.sub, v.data))
  let head := fun (crc : Nat) => ImageType.magic .pst ++ le 2 format ++ [0, 0] ++ le 4 (32 + b.length) ++ le 4 crc ++ List.replicate 16 0
  head (crc32c (head 0 ++ b)).toNat ++ b

/-- The images selected to run (R400). -/
def Update.selected (u : Update) : List (ImageType × List Byte) :=
  (firmwareTypes.filter fun t => (u.img t).running.isSome).map fun t => (t, (u.img t).data)

/-- CRC-32C over the version fields of every running image (R385). -/
def Update.imagesCrc (u : Update) : W32 :=
  crc32c (firmwareTypes.flatMap fun t =>
    let d := (u.img t).data
    if d.isEmpty then le 4 (Config.version (ImageType.code t)) else slice d 8 4)

/-- Why an IMAGE_TRANSFER may not start (R402). -/
def Update.transferBar (u : Update) (t : ImageType) : Option Nat :=
  let i := u.img t
  if i.act = .unconfirmed then some 0x0503
  else if (i.slot i.inactive).state = .unusable then some 0x0505
  else if ImageType.firmware t && (firmwareTypes.any fun x => x != t && (u.img x).act != .none) then some 0x0508
  else none

end Sys2Proof.Machine
end

