-- ==== Sys2Proof/Machine/Sources.lean ====
section
/-! DEFINITION. The fault sources: their class, level, escalation and target (R340 to R342, R429). -/

namespace Sys2Proof.Machine

/-- A source's configuration (R340, R359): class V or N, level, escalation in ms, who acknowledges, target. -/
structure SrcCfg where
  v      : Bool
  level  : Nat
  esc    : Nat
  ackBy  : Nat
  target : Nat
  deriving DecidableEq, Repr

/-- The channel source at `off` of channel `ch` (R340). -/
def chSrc (ch : Ch) (off : Nat) : Nat := 0x10 * ch.idx + off

/-- The two ends of a mesh link source 0x040 to 0x045, the earlier letter first (R340). -/
def linkEnds (src : Nat) : Ch × Ch :=
  match src with
  | 0x40 => (.a, .b) | 0x41 => (.a, .c) | 0x42 => (.a, .d) | 0x43 => (.b, .c) | 0x44 => (.b, .d) | _ => (.c, .d)

/-- The source of the link between two channels (R340). -/
def linkSrc (x y : Ch) : Nat :=
  match min x.idx y.idx, max x.idx y.idx with
  | 0, 1 => 0x40 | 0, 2 => 0x41 | 0, _ => 0x42 | 1, 2 => 0x43 | 1, _ => 0x44 | _, _ => 0x45

/-- A channel source's configuration by its offset (R340). -/
def chanCfg (src : Nat) : SrcCfg :=
  let off := src % 16
  let n := off == 2 || off == 9 || off == 0xE
  ⟨!n, if n || off == 0xF then 1 else 3, 0, if n then 0 else 1, src / 16⟩

/-- The word the running image gives a source (R340, R342, R429, and the chapters that name a source). A source of
0x100 to 0x1FF that no rule gives a level is class N, L1 (assumption 12). -/
def imageCfg (src : Nat) : SrcCfg :=
  if src < 0x40 then chanCfg src
  else if src < 0x46 then ⟨true, 3, 100, 1, (linkEnds src).2.idx⟩
  else if src == 0x48 then ⟨false, 1, 0, 0, 0⟩
  else if 0x49 ≤ src && src < 0x50 then ⟨true, if src == 0x4B || src == 0x4C then 5 else 4, 0, 1, 0⟩
  else if 0x60 ≤ src && src < 0x64 then ⟨true, 1, 0, 1, 0⟩
  else if 0x80 ≤ src && src < 0xC0 then
    if src % 16 < 2 then ⟨true, 2, 0, 1, (src - 0x80) / 16 + 1⟩ else ⟨false, 1, 0, 0, (src - 0x80) / 16 + 1⟩
  else if 0xC0 ≤ src && src < 0xE0 then ⟨true, 2, 0, 1, src - 0xC0⟩
  else match src with
    | 0x1E8 => ⟨true, 1, 0, 1, 0⟩
    | 0x1EA => ⟨true, 5, 0, 1, 0⟩
    | 0x1EB => ⟨true, 4, 0, 1, 0⟩
    | 0x1F0 => ⟨true, 5, 0, 1, 0⟩
    | 0x1F5 => ⟨true, 4, 0, 1, 0⟩
    | _ => ⟨false, 1, 0, 0, 0⟩

/-- A configuration word read as fields (R359). -/
def SrcCfg.ofWord (w : W32) : SrcCfg :=
  let n := w.toNat
  ⟨bitAt n 31, field n 30 28, field n 27 18, field n 17 16, field n 15 0⟩

/-- A configuration as its word (R359). -/
def SrcCfg.word (c : SrcCfg) : W32 :=
  BitVec.ofNat 32 (bit c.v * 2 ^ 31 + c.level * 2 ^ 28 + c.esc * 2 ^ 18 + c.ackBy * 2 ^ 16 + c.target)

/-- The configuration in force: the image's, or for an N-class source the PST override (R342). -/
def State.srcCfg (s : State) (src : Nat) : SrcCfg :=
  let c := imageCfg src
  if c.v then c
  else match s.col.overrides.find? (·.1 == src) with
    | some (_, w) =>
      if w = 0 then c
      else let o := SrcCfg.ofWord w
           { c with level := min o.level 2, esc := min o.esc 1000 }
    | none => c

/-- A source that stays asserted while its cause lasts; every other detector asserts for the instant of its event
(assumption 13). -/
def levelSrc (src : Nat) : Bool :=
  (0x40 ≤ src && src < 0x46) || src == 0x1F2 || src == 0x1F3 || src == 0x1F4 || src == 0x1F5 || src == 0x1E8

end Sys2Proof.Machine
end

