-- ==== Sys2Proof/Machine/RecData.lean ====
section
/-! DEFINITION. The recorder as data: its places, records as bytes, cursors (R360 to R370). -/

namespace Sys2Proof.Machine

/-- Record places of a recorder size (R360). -/
def recPlaces (size : Nat) : Nat := match size with | 0 => 8192 | 1 => 16384 | _ => 32768

/-- A trigger code of a V-class source (R367). -/
def vCode (code : Nat) : Bool := 0x1000 ≤ code && code < 0x1200 && (imageCfg (code - 0x1000)).v

/-- Bucket depth and refill period of a code (R367, R375). -/
def Recorder.bucketCfg (r : Recorder) (code : Nat) : Nat × Nat :=
  if vCode code then (255, 1)
  else match r.snaps.find? (·.code == code) with
    | some c => (c.depth, c.refill)
    | none => (16, 1000)

/-- RSEQ of the oldest record held; the next one's while none is held (R369). -/
def Recorder.oldest (r : Recorder) : Nat := match r.recs with | [] => r.rseq | p :: _ => p.2.rseq

/-- RSEQ of the newest record held (R369). -/
def Recorder.newest (r : Recorder) : Nat := match r.recs.getLast? with | none => 0 | some p => p.2.rseq

/-- A record's first 60 bytes (R362). -/
def Rec.body (c : Rec) : List Byte :=
  le 2 c.trigger ++ le 2 c.rep ++ le 4 c.s ++ le 4 c.ns ++ le 2 c.source ++ le 2 c.flags
    ++ c.vals.flatMap (fun v => le 4 v.toNat) ++ le 4 c.rseq ++ [c.valid, byteOf c.mstate, byteOf c.ladder, 0]
    ++ le 4 c.cycle

/-- A record as 64 bytes (R362). -/
def Rec.bytes (c : Rec) : List Byte := c.body ++ le 4 c.crc.toNat

/-- A client's cursor; it starts at OLDEST (R370). -/
def Recorder.cursorOf (r : Recorder) (cl : Client) : Nat :=
  match r.cursors.find? (·.client = cl) with
  | some c => c.rseq
  | none => r.oldest

/-- A record as the read window shows it: 64 zero bytes when it is not held (R370). -/
def Recorder.at_ (r : Recorder) (n : Nat) : List Byte :=
  match r.recs.find? (·.2.rseq == n) with
  | some (_, c) => c.bytes
  | none => List.replicate 64 0

end Sys2Proof.Machine
end

