-- ==== Sys2Proof/Machine/RouteData.lean ====
section
/-! DEFINITION. What routes read of the station data, and what elements say of themselves: governing values (R95,
R96), items and lists, locks (R101), detection and states (R122, R128, R131, R172). -/

namespace Sys2Proof.Machine

/-! ## Station data -/

/-- The profiles of a PROFILE_SET (R76). -/
def Sdi.profilesOf (d : Sdi) (set : Nat) : List Profile := d.profiles.filter fun p => bitAt set (p.id - 1)

/-- The largest value over a list of profiles. -/
def maxOf (l : List Profile) (f : Profile → Nat) : Nat := (l.map f).foldl max 0

/-- The governing values of a route (R95, R96, R115 .04). -/
structure Gov where
  overlap : Bool
  ovlS    : Nat
  area    : Bool
  apprS   : Nat
  emergS  : Nat
  depth   : Nat
  auto    : Bool
  swing   : Bool
  deriving DecidableEq, Repr

/-- An overlap is applied (R96). -/
def Sdi.overlapApplied (d : Sdi) (r : Route) : Bool :=
  r.cls == 0 && (d.profilesOf r.profileSet).any fun p => p.ovlPolicy == 1 || (p.ovlPolicy == 2 && p.ovlSpeed < r.speed)

/-- The governing values of a route (R95). -/
def Sdi.gov (d : Sdi) (r : Route) : Gov :=
  let l := d.profilesOf r.profileSet
  { overlap := d.overlapApplied r
    ovlS := maxOf l (·.ovlS)
    area := l.all (·.apprModel == 1)
    apprS := maxOf l (·.apprS)
    emergS := maxOf l (·.emergS)
    depth := maxOf l (·.flankDepth)
    auto := bitAt r.flags 0 && l.all (bitAt ·.flags 1)
    swing := l.all (bitAt ·.flags 2) }

/-- An element's own profile. -/
def Sdi.profOf (d : Sdi) (e : Elem) : Option Profile := d.profile e.profile

/-- A time in ms as whole cycles, rounded up (R123). -/
def Sdi.cycles (d : Sdi) (ms : Nat) : Nat := (ms + d.cycleMs - 1) / d.cycleMs

/-- The throw limit of a point or derailer (R95). -/
def Sdi.throwLimit (d : Sdi) (e : Elem) : Nat :=
  let own := match e.spec with
    | .pt _ _ t _ _ _ _ => t
    | .dr _ _ t => t
    | _ => 0
  if own = 0 then ((d.profOf e).map (·.throwMs)).getD 0 else own

/-- A section may release sectionally: its own profile and its flag (R95). -/
def Sdi.sectional (d : Sdi) (el : Nat) : Bool :=
  match d.elem el with
  | some e =>
    (match e.spec with | .ts _ f _ _ _ => bitAt f 0 | _ => false) &&
    (match d.profOf e with | some p => bitAt p.flags 0 | none => false)
  | none => false

/-- The other items of a route; an exit BD is an item with code 0x1 (R130). -/
def Sdi.otherItems (d : Sdi) (r : Route) : List (Nat × Nat) :=
  match d.elem r.exit_ with
  | some e => match e.spec with
    | .bd _ _ => if r.others.any (·.1 == r.exit_) then r.others else r.others ++ [(r.exit_, 1)]
    | _ => r.others
  | none => r.others

/-- Every element a route names as an item, in the order points, sections, others. -/
def Sdi.routeItems (d : Sdi) (r : Route) : List Nat := r.points.map (·.1) ++ r.sections ++ (d.otherItems r).map (·.1)

/-- The items of a list. -/
def Sdi.listItems (d : Sdi) (n : Nat) : List ListItem := ((d.list n).map (·.items)).getD []

/-- Whether an element is a point. -/
def Sdi.isPoint (d : Sdi) (el : Nat) : Bool :=
  match d.elem el with | some e => (match e.spec with | .pt .. => true | _ => false) | none => false

/-- Whether an element is a track section. -/
def Sdi.isTs (d : Sdi) (el : Nat) : Bool :=
  match d.elem el with | some e => (match e.spec with | .ts .. => true | _ => false) | none => false

/-- The points of an overlap alternative with their positions, in list order. -/
def Sdi.ovlPoints (d : Sdi) (alt : Nat) : List (Nat × Nat) :=
  ((d.listItems alt).filter fun i => d.isPoint i.id).map fun i => (i.id, i.pos)

/-- The sections of an overlap alternative, in list order. -/
def Sdi.ovlSections (d : Sdi) (alt : Nat) : List Nat := ((d.listItems alt).filter fun i => d.isTs i.id).map (·.id)

/-- A chain of overlap alternatives, at most four (R77). -/
def Sdi.chain (d : Sdi) : Nat → Nat → List Nat
  | 0, _ => []
  | fuel + 1, n => if n = 0xFFFF then [] else n :: d.chain fuel (((d.list n).map (·.nextAlt)).getD 0xFFFF)

/-- The overlap alternatives of a route. -/
def Sdi.alternatives (d : Sdi) (r : Route) : List Nat := d.chain 4 r.overlap

/-! ## Element and route states -/

/-- The state of element `n`. -/
def Kernel.elem (k : Kernel) (n : Nat) : Option ElemSt := k.elems.find? (·.id == n)
/-- The state of route `n`. -/
def Kernel.rst (k : Kernel) (n : Nat) : Option RouteSt := k.routes.find? (·.id == n)
/-- The kernel with element `n` changed. -/
def Kernel.modElem (k : Kernel) (n : Nat) (f : ElemSt → ElemSt) : Kernel :=
  { k with elems := k.elems.map fun e => if e.id == n then f e else e }
/-- The kernel with the type-specific state of element `n` replaced. -/
def Kernel.setKind (k : Kernel) (n : Nat) (x : ElemKind) : Kernel := k.modElem n fun e => { e with kind := x }
/-- The kernel with route `n` changed. -/
def Kernel.modRoute (k : Kernel) (n : Nat) (f : RouteSt → RouteSt) : Kernel :=
  { k with routes := k.routes.map fun r => if r.id == n then f r else r }
/-- A note of the evaluation: a fault source to raise. -/
def Kernel.note (k : Kernel) (src : Nat) : Kernel := { k with notes := k.notes ++ [.source src] }

/-- The source of an L1 record of a route or an element; the spec names none (assumption 12). -/
def elemSource : Nat := 0x17F

/-- The point state of an element. -/
def Kernel.pt (k : Kernel) (n : Nat) : Option PtSt :=
  match k.elem n with | some e => (match e.kind with | .pt p => some p | _ => none) | none => none
/-- The signal state of an element. -/
def Kernel.sg (k : Kernel) (n : Nat) : Option SgSt :=
  match k.elem n with | some e => (match e.kind with | .sg p => some p | _ => none) | none => none
/-- The section state of an element. -/
def Kernel.ts (k : Kernel) (n : Nat) : Option TsSt :=
  match k.elem n with | some e => (match e.kind with | .ts p => some p | _ => none) | none => none

/-- Route logic sees a section `CLEAR` (R172). -/
def Kernel.clear (k : Kernel) (n : Nat) : Bool := match k.ts n with | some t => t.routeClear | none => false

/-- An in-attribute's value, 0 when it has no binding (R117). -/
def Kernel.attr (k : Kernel) (el a : Nat) : Nat :=
  ((k.attrs.find? fun v => v.el == el && v.attr == a).map (·.val)).getD 0

/-- An in-attribute's binding yields a valid agreed value (R117). -/
def Kernel.attrValid (k : Kernel) (el a : Nat) : Bool :=
  ((k.attrs.find? fun v => v.el == el && v.attr == a).map (·.valid)).getD false

/-- The position a state names (R124). -/
def PState.pos : PState → Option Nat
  | .normal => some 0
  | .reverse => some 1
  | _ => none

/-- The state of a position. -/
def PState.ofPos (n : Nat) : PState := if n = 0 then .normal else .reverse

/-- A point or derailer is detected in a position: in it and with its detection present (R102, R123). -/
def Kernel.detected (k : Kernel) (el pos : Nat) : Bool :=
  match k.pt el with
  | some p => p.state.pos == some pos && p.missing == 0
  | none => false

/-- BLOCKED (R121). -/
def Kernel.blocked (k : Kernel) (el : Nat) : Bool := match k.elem el with | some e => e.blocked | none => false

/-- KEY_LOCKED: a key lock that locks the element is not `KEY_IN` (R131). -/
def Kernel.keyLocked (d : Sdi) (k : Kernel) (el : Nat) : Bool :=
  d.elems.any fun e => match e.spec with
    | .kl l _ => l == el && (match k.elem e.id with
      | some x => (match x.kind with | .kl y => y.state != .keyIn | _ => false)
      | none => false)
    | _ => false

/-- OCCUPANCY_LOCKED (R122, R127). -/
def Kernel.occLocked (d : Sdi) (k : Kernel) (el : Nat) : Bool :=
  match d.elem el with
  | some e => match e.spec with
    | .pt _ _ _ _ _ _ f => f != 0 && !k.clear f
    | .dr _ _ _ => (d.isTs e.linkA && !k.clear e.linkA) || (d.isTs e.linkB && !k.clear e.linkB)
    | _ => false
  | none => false

/-- A binding's vital output, numbered 0 to 31. -/
def Binding.vout (b : Binding) : Option Nat :=
  match b.addr with | .vout bank out .. => some ((bank - 1) * 8 + (out - 1)) | _ => none

/-- Vital output `n`. -/
def Kernel.vout (k : Kernel) (n : Nat) : VoutSt := k.vouts.getD n VoutSt.reset

/-- A bound vital output among the attributes `f` picks is declared failed (R142 FAULT [4], R227). -/
def Kernel.outFailed (k : Kernel) (e : Elem) (f : Nat → Bool) : Bool :=
  e.binds.any fun b => f b.attr && (match b.vout with | some n => (k.vout n).failed | none => false)

/-- OUTPUT_FAILED of an element (R142). -/
def Kernel.outputFailed (d : Sdi) (k : Kernel) (el : Nat) : Bool :=
  match d.elem el with | some e => k.outFailed e fun _ => true | none => false

/-! ## Locks -/

/-- A route holds its items. -/
def RState.holds : RState → Bool
  | .idle | .checking => false
  | _ => true

/-- A route holds a route lock on an element: an item it has not released (R101, R105). -/
def RouteSt.routeLock (d : Sdi) (s : RouteSt) (el : Nat) : Bool :=
  s.state.holds && (match d.route s.id with
    | some r =>
      (r.points.any fun p => p.1 == el && !s.ptsReleased.contains el)
        || (r.sections.zipIdx.any fun p => p.1 == el && !s.released.contains p.2)
        || ((d.otherItems r).any (·.1 == el))
    | none => false)

/-- A route holds an overlap lock on an element (R101). -/
def RouteSt.ovlLock (d : Sdi) (s : RouteSt) (el : Nat) : Bool :=
  s.ovlLocked && (match s.ovlAlt with | some a => (d.listItems a).any (·.id == el) | none => false)

/-- A route holds a flank lock on an element (R101). -/
def RouteSt.flankLock (s : RouteSt) (el : Nat) : Bool := s.flank.any (·.el == el)

/-- The positions a route requires of a point or derailer by its route, overlap and flank locks (R101). -/
def RouteSt.needs (d : Sdi) (s : RouteSt) (el : Nat) : List Nat :=
  (match d.route s.id with
    | some r =>
      (if s.state.holds && !s.ptsReleased.contains el then (r.points.filter (·.1 == el)).map (·.2) else [])
        ++ (if s.state.holds then ((d.otherItems r).filter (·.1 == el)).map (fun p => p.2 - 1) else [])
    | none => [])
  ++ (if s.ovlLocked then (match s.ovlAlt with
      | some a => ((d.ovlPoints a).filter (·.1 == el)).map (·.2)
      | none => []) else [])
  ++ (s.flank.filter (·.el == el)).filterMap (·.pos)

/-- The routes with a route lock on an element. -/
def Kernel.routeOwners (d : Sdi) (k : Kernel) (el : Nat) : List Nat := (k.routes.filter (·.routeLock d el)).map (·.id)
/-- The routes with an overlap lock on an element. -/
def Kernel.ovlOwners (d : Sdi) (k : Kernel) (el : Nat) : List Nat := (k.routes.filter (·.ovlLock d el)).map (·.id)
/-- The routes with a flank lock on an element. -/
def Kernel.flankOwners (k : Kernel) (el : Nat) : List Nat := (k.routes.filter (·.flankLock el)).map (·.id)

/-- LOCKS of an element (R142). -/
def Kernel.locks (d : Sdi) (k : Kernel) (el : Nat) : Nat :=
  let ovl := !(k.ovlOwners d el).isEmpty
  let grant := match k.elem el with
    | some e => (match e.kind with | .bd s => s == .granting | _ => false)
    | none => false
  bit (k.keyLocked d el) * 32 + bit ovl * 16 + bit (k.blocked el) * 8 + bit (k.occLocked d el) * 4
    + bit (!(k.flankOwners el).isEmpty) * 2
    + bit (!(k.routeOwners d el).isEmpty || (ovl && d.isPoint el) || grant)

end Sys2Proof.Machine
end

