-- ==== Sys2Proof/Machine/PointOps.lean ====
section
/-! DEFINITION. Points and derailers: throw demands, transitions, coupling, and the point operations (R122 to R127,
R432). -/

namespace Sys2Proof.Machine

/-- The state code of a point or derailer (R142). -/
def PState.code : PState → Nat
  | .normal => 0 | .reverse => 1 | .moving => 2 | .lost => 3

/-- FAULT of a point or derailer (R142). -/
def Kernel.ptFault (d : Sdi) (k : Kernel) (el : Nat) : Nat :=
  match k.pt el with
  | some p => bit (k.outputFailed d el) * 16 + bit p.missingSeen * 8 + bit p.uncommanded * 4 + bit p.conflict * 2
      + bit p.timeout
  | none => 0

/-- A point with its coupled point (R125). -/
def Sdi.unit (d : Sdi) (el : Nat) : List Nat :=
  match d.elem el with
  | some e => match e.spec with
    | .pt _ c _ _ _ _ _ => if c = 0 then [el] else [el, c]
    | _ => [el]
  | none => [el]

/-- Why one point refuses a throw demand of owner `own` to a position (R122): the code of R126. -/
def Kernel.refuse1 (d : Sdi) (k : Kernel) (own : Option Nat) (emerg : Bool) (pos el : Nat) : Option Nat :=
  match k.pt el with
  | none => some 0x0201
  | some p =>
    let owners := k.routeOwners d el ++ k.ovlOwners d el ++ k.flankOwners el
    if owners.any (fun o => own != some o) || k.blocked el || k.keyLocked d el || (k.occLocked d el && !emerg) then
      some 0x0202
    else if p.state == .moving && p.target != some pos then some 0x0203
    else if k.outputFailed d el then some 0x0207
    else none

/-- Why a unit refuses a throw demand (R125): the refusal first in the list of R126 gives the code, and the point that gives it, the
named one before its partner, the DETAIL (R126; DEDUCED, assumption 45). -/
def Kernel.refuse (d : Sdi) (k : Kernel) (own : Option Nat) (emerg : Bool) (el pos : Nat) : Option (Nat × Nat) :=
  [0x0201, 0x0202, 0x0203, 0x0207].findSome? fun c =>
    ((d.unit el).find? fun x => k.refuse1 d own emerg pos x == some c).map fun x =>
      (c, if c = 0x0202 then k.locks d x else if c = 0x0207 then k.ptFault d x else 0)

/-- A point starts `MOVING` (R124 first row). -/
def PtSt.throw_ (p : PtSt) (pos deadline cycle : Nat) : PtSt :=
  { p with state := .moving, target := some pos, deadline := deadline, start := cycle, missing := 0, timeout := false
           conflict := false, uncommanded := false, missingSeen := false }

/-- The point state of an element changed. -/
def Kernel.modPt (k : Kernel) (el : Nat) (f : PtSt → PtSt) : Kernel :=
  k.modElem el fun e => match e.kind with
    | .pt p => { e with kind := .pt (f p) }
    | _ => e

/-- An accepted throw demand takes effect on the whole unit (R124, R125): nothing when it is already there or on its
way. -/
def Kernel.throwUnit (d : Sdi) (k : Kernel) (el pos : Nat) : Kernel :=
  match k.pt el with
  | none => k
  | some p =>
    if p.state == .moving || p.state.pos == some pos then k
    else
      let limit := ((d.unit el).map fun x => match d.elem x with | some e => d.throwLimit e | none => 0).foldl max 0
      (d.unit el).foldl (fun k x => k.modPt x fun p => p.throw_ pos (k.cycle + d.cycles limit) k.cycle) k

/-- A throw demand (R122): refused with a code and a detail, or carried out. -/
def Kernel.demand (d : Sdi) (k : Kernel) (own : Option Nat) (emerg : Bool) (el pos : Nat) :
    Except (Nat × Nat) Kernel :=
  match k.refuse d own emerg el pos with
  | some e => .error e
  | none => .ok (k.throwUnit d el pos)

/-- A unit enters `LOST` (R124, R125), each point with the faults the row gives it; the row names a record or not. -/
def Kernel.lose (d : Sdi) (k : Kernel) (el : Nat) (rec : Bool) (f : Nat → PtSt → PtSt) : Kernel :=
  let k := (d.unit el).foldl (fun k x => k.modPt x fun p => f x { p with state := .lost, target := none }) k
  if rec then k.note elemSource else k

/-- The detection grace G in evaluations (R123); 1 for a derailer (R127). -/
def Sdi.grace (d : Sdi) (el : Nat) : Nat :=
  match d.elem el with
  | some e => match e.spec with
    | .pt _ _ _ g _ _ _ => d.cycles g + 1
    | _ => 1
  | none => 1

/-- TRAILABLE (R75); a derailer is not (R127). -/
def Sdi.trailable (d : Sdi) (el : Nat) : Bool :=
  match d.elem el with
  | some e => (match e.spec with | .pt f .. => bitAt f 0 | _ => false)
  | none => false

/-- TRAILED of an element; a derailer has none (R127). -/
def Kernel.trailed (d : Sdi) (k : Kernel) (el : Nat) : Bool := d.isPoint el && k.attr el 3 == 1

/-- The detections show position `pos` alone (R124, R432). -/
def Kernel.showsPos (k : Kernel) (pos el : Nat) : Bool := k.attr el (1 + pos) == 1 && k.attr el (2 - pos) == 0

/-- The state a point takes in the first evaluation after a cold start (R432). -/
def Kernel.coldPoint (d : Sdi) (k : Kernel) (el : Nat) : PState :=
  let ok := fun pos => (d.unit el).all fun x => k.showsPos pos x && !k.trailed d x
  if ok 0 then .normal else if ok 1 then .reverse else .lost

/-- A drive output of the element is declared failed (R124). -/
def Kernel.driveFailed (d : Sdi) (k : Kernel) (el : Nat) : Bool :=
  match d.elem el with | some e => k.outFailed e fun a => a == 0x81 || a == 0x82 | none => false

/-- Both detections of a point are 1 (R124). -/
def Kernel.bothSeen (k : Kernel) (el : Nat) : Bool := k.attr el 1 == 1 && k.attr el 2 == 1

/-- One evaluation of a `MOVING` unit (R124, R125): a conflict or a trailing of either point, the target reached by both, or the
timer, which both points share. -/
def Kernel.stepMoving (d : Sdi) (k : Kernel) (el : Nat) (p : PtSt) : Kernel :=
  let t := p.target.getD 0
  if (d.unit el).any fun x => k.bothSeen x || k.trailed d x then
    k.lose d el true fun x p => if k.bothSeen x then { p with conflict := true }
      else if k.trailed d x then { p with uncommanded := true } else p
  else if (d.unit el).all (k.showsPos t) then
    (d.unit el).foldl (fun k x => k.modPt x fun p =>
      { p with state := .ofPos t, target := none, lastMs := (k.cycle - p.start).toNat * d.cycleMs }) k
  else if p.deadline ≤ k.cycle then k.lose d el true fun _ p => { p with timeout := true }
  else k

/-- One evaluation of a point or derailer (R124, R432). DETECTION_MISSING set in the grace stays once the point is `LOST`, until its
next throw (DESIGN CHOICE, assumption 110). -/
def Kernel.stepPoint (d : Sdi) (k : Kernel) (el : Nat) : Kernel :=
  match k.pt el with
  | none => k
  | some p =>
    if p.fresh then k.modPt el fun p => { p with state := k.coldPoint d el, fresh := false }
    else if k.driveFailed d el && p.state != .lost then k.lose d el false fun _ p => p
    else match p.state with
      | .lost => k
      | .moving => k.stepMoving d el p
      | _ =>
        let pos := (p.state.pos).getD 0
        if k.attr el (2 - pos) == 1 || k.trailed d el then
          let k := k.lose d el true fun x p => if x = el then { p with uncommanded := true } else p
          if d.trailable el then k else k.modElem el fun e => { e with blocked := true }
        else if k.attr el (1 + pos) == 0 then
          if d.grace el ≤ p.missing + 1 then
            k.lose d el true fun x p => if x = el then { p with missing := p.missing + 1 } else p
          else k.modPt el fun p => { p with missing := p.missing + 1, missingSeen := true }
        else k.modPt el fun p => { p with missing := 0, missingSeen := false }

/-! ## Point operations -/

/-- The point a TARGET names and its position (R126). -/
def ptTarget (t : Nat) : Nat × Nat := (t % 4096, field t 12 12)

/-- RESULT_DATA of a point operation (R126). -/
def Kernel.ptData (k : Kernel) (el detail : Nat) : List Byte :=
  match k.pt el with
  | some p => le 2 el ++ [byteOf p.state.code, 0] ++ le 2 detail ++ le 2 p.lastMs
  | none => le 2 el ++ [0, 0] ++ le 2 detail ++ le 2 0

/-- The operations that watch a point (R126). -/
def ptOp (op : Nat) : Bool := op == 0x0201 || op == 0x0202

/-- A watched point operation ends when the point has left `MOVING` (R126). After a demand to the present position whose own detection
is absent, for which R124 has no row, it waits until the detection returns or the point is `LOST` (DESIGN CHOICE,
assumption 109). -/
def Kernel.settlePointSlot (k : Kernel) (n : Nat) : Kernel :=
  let s := k.slot n
  if ptOp s.op && s.state.busy && s.stage == 0x20 then
    let (el, pos) := ptTarget s.target
    match k.pt el with
    | none => k
    | some p =>
      if p.state == .lost then k.finish n .failed (if p.timeout then 0x0204 else 0x0206) (k.ptData el 0)
      else if p.state.pos == some pos && p.missing == 0 then k.finish n .done 0 (k.ptData el 0)
      else k
  else k

/-- Every watched point operation is looked at. -/
def Kernel.settlePoints (k : Kernel) : Kernel := (List.range 96).foldl Kernel.settlePointSlot k

/-- A point operation acts (R126): refused with its code, or demanded; a demand to the present position completes at
once. -/
def Kernel.pointOp (d : Sdi) (k : Kernel) (n : Nat) (emerg : Bool) : Kernel :=
  let (el, pos) := ptTarget (k.slot n).target
  match k.demand d none emerg el pos with
  | .error (c, x) => k.finish n .failed c (k.ptData el x)
  | .ok k =>
    let k := (k.modSlot n fun s => { s with stage := 0x20 }).settlePointSlot n
    if (k.slot n).state.busy then k else k.modSlot n fun s => { s with stage := 0 }

/-- EMERGENCY_THROW permitted for a point (R75, R126). -/
def Sdi.emergThrow (d : Sdi) (el : Nat) : Bool :=
  match d.elem el with
  | some e => (match e.spec with | .pt f .. => bitAt f 1 | _ => false)
  | none => false

/-- The preconditions of POINT_EMERGENCY_THROW at REQUEST and CONFIRM (R122, R126, R138): a code and a detail; the
first in the list of R126 gives the code. A TARGET whose bits [15:13] are not 0 names no point (DEDUCED, assumption 108). -/
def Kernel.emergThrowBar (d : Sdi) (k : Kernel) (target : Nat) : Option (Nat × Nat) :=
  let (el, pos) := ptTarget target
  if 8192 ≤ target then some (0x0201, 0) else
  match k.refuse d none true el pos with
  | some (c, x) => if !d.emergThrow el && c == 0x0207 then some (0x0205, 0) else some (c, x)
  | none => if d.emergThrow el then none else some (0x0205, 0)

end Sys2Proof.Machine
end

