-- ==== Sys2Proof/Machine/RouteOps.lean ====
section
/-! DEFINITION. Routes: checks, flank and overlap search, locking, proceed conditions, transitions, release, approach
locking, swinging overlap and emergency release (R96 to R113, R433). -/

namespace Sys2Proof.Machine

/-- The code of a route state (R115 .01). -/
def RState.code : RState → Nat
  | .idle => 0 | .checking => 1 | .setting => 2 | .locked => 3 | .proceed => 4 | .inUse => 5 | .cancelling => 6

/-- A route that is `IDLE` with its last result (R104). -/
def RouteSt.idle (id res det : Nat) : RouteSt where
  id := id
  state := .idle
  armed := false
  dropped := false
  autoWork := false
  emergency := false
  ovlHeld := false
  slot := none
  ovlAlt := none
  ovlLocked := false
  flank := []
  timer := none
  everProceed := false
  seen := []
  passed := []
  released := []
  ptsReleased := []
  mustMove := []
  throwing := []
  newSet := false
  lastResult := res
  lastDetail := det

/-! ## Required states of other items -/

/-- The key-lock, crossing, boundary or block state of an element. -/
def Kernel.kind (k : Kernel) (el : Nat) : Option ElemKind := (k.elem el).map (·.kind)

/-- An other item is in its required state (R130). -/
def Kernel.itemInState (k : Kernel) (el code : Nat) : Bool :=
  match k.kind el with
  | some (.pt _) => k.detected el (code - 1)
  | some (.kl l) => l.state == .keyIn
  | some (.lx x) => x.state == .protected_
  | some (.bk b) => if code = 1 then b.state == .outClear else b.state == .inbound
  | some (.bd b) => b == .consented
  | _ => false

/-- A block interface is bidirectional (R75). -/
def Sdi.bidirectional (d : Sdi) (el : Nat) : Bool :=
  match d.elem el with | some e => (match e.spec with | .bk f _ _ => bitAt f 0 | _ => false) | none => false

/-- A route that holds an element as an other item with a code is not `IDLE`. -/
def Kernel.itemHeld (d : Sdi) (k : Kernel) (el : Nat) (code : Option Nat) : Bool :=
  k.routes.any fun q => q.state != .idle && (match d.route q.id with
    | some r => (d.otherItems r).any fun p => p.1 == el && (match code with | some c => p.2 == c | none => true)
    | none => false)

/-- An other item can reach its required state (R130). -/
def Kernel.itemReach (d : Sdi) (k : Kernel) (own el code : Nat) : Bool :=
  match k.kind el with
  | some (.pt _) => k.detected el (code - 1) || (k.refuse d (some own) false el (code - 1)).isNone
  | some (.kl l) => l.state == .keyIn
  | some (.lx x) => x.state != .failed
  | some (.bk b) =>
    if code = 1 then b.state == .outClear || (d.bidirectional el && b.state == .inbound && k.attr el 1 == 1)
    else b.state == .inbound || (d.bidirectional el && b.state == .outClear && !k.itemHeld d el (some 1))
  | some (.bd b) => b != .unavailable && b != .granting
  | _ => false

/-! ## Checks -/

/-- An item of route `r` (`ovl`: of its overlap) is free of other routes' route and overlap locks, except as R97
exempts; the overlap lock of route `ign` is left out of account (R109). -/
def Kernel.itemFree (d : Sdi) (k : Kernel) (ign : Option Nat) (r : Route) (ovl : Bool) (pos : Option Nat) (el : Nat) :
    Bool :=
  k.routes.all fun q => q.id == r.id || (match d.route q.id with
    | none => true
    | some qr =>
      let ahead := qr.entry == r.exit_
      let rear := r.entry == qr.exit_
      let same := match pos with
        | none => true
        | some p => (q.needs d el).all (· == p)
      (!q.routeLock d el || (ovl && ahead && same)) &&
        (!q.ovlLock d el || ign == some q.id || ((if ovl then ahead || rear else rear) && same)))

/-- The position a route requires of one of its points. -/
def Route.posOf (r : Route) (el : Nat) : Option Nat := (r.points.find? (·.1 == el)).map (·.2)

/-- A boundary element that grants counts as route-locked by the partner (R135). -/
def Kernel.granting (k : Kernel) (el : Nat) : Bool :=
  match k.kind el with | some (.bd b) => b == .granting | _ => false

/-- Check 5 of R98 on one item. -/
def Kernel.check5 (d : Sdi) (k : Kernel) (ign : Option Nat) (r : Route) (el : Nat) : Bool :=
  k.itemFree d ign r false (r.posOf el) el && !k.granting el

/-- An emergency throw of a point runs (check 6 of R98). -/
def Kernel.emergRunning (k : Kernel) (el : Nat) : Bool :=
  k.slots.any fun s => s.op == 0x0202 && s.state.busy && s.stage == 0x20 && (ptTarget s.target).1 == el

/-- Check 6 of R98 on one point: in its required position, or it can be thrown. -/
def Kernel.pointOk (d : Sdi) (k : Kernel) (own el pos : Nat) : Bool :=
  (match k.pt el with | some p => p.state.pos == some pos | none => false)
    || (!(k.routes.any fun q => q.id != own && q.flank.any fun h => h.el == el && h.pos != some pos)
      && !k.occLocked d el && !k.emergRunning el)

/-- An overlap alternative is available to a route (R100). -/
def Kernel.altOk (d : Sdi) (k : Kernel) (ign : Option Nat) (r : Route) (alt : Nat) : Bool :=
  (d.listItems alt).all fun i =>
    let pos := if d.isPoint i.id then some i.pos else none
    !k.blocked i.id && k.itemFree d ign r true pos i.id
      && (match pos with | some p => k.pointOk d r.id i.id p | none => true)

/-- The alternative a route selects (R100): none needed, one, or the last index tried. With OVERLAP_LIST 0xFFFF there is no last
alternative for the DETAIL of 0x0108 (R98); it is 0xFFFF (DESIGN CHOICE, assumption 106). -/
def Kernel.selectAlt (d : Sdi) (k : Kernel) (ign : Option Nat) (r : Route) : Except Nat (Option Nat) :=
  if !d.overlapApplied r then .ok none
  else
    let l := d.alternatives r
    match l.find? (k.altOk d ign r) with
    | some a => .ok (some a)
    | none => .error (l.getLast?.getD 0xFFFF)

/-- What a route would hold of an element once its locks are taken: the positions it requires (R99, R433). -/
def wantOf (d : Sdi) (r : Route) (alt : Option Nat) (acc : List FlankHold) (el : Nat) : List Nat :=
  ((r.points.filter (·.1 == el)).map (·.2))
    ++ (match alt with | some a => ((d.ovlPoints a).filter (·.1 == el)).map (·.2) | none => [])
    ++ (if d.isPoint el then [] else ((d.otherItems r).filter (·.1 == el)).map fun p => p.2 - 1)
    ++ (acc.filter (·.el == el)).filterMap (·.pos)

/-- A flank item is protectable for route `r` (R99, R433, R131). -/
def Kernel.flankOk (d : Sdi) (k : Kernel) (r : Route) (alt : Option Nat) (acc : List FlankHold) (i : ListItem) : Bool :=
  match k.kind i.id with
  | some (.sg g) => g.shown == 0 && !(k.routes.any fun q => q.state == .proceed &&
      (match d.route q.id with | some x => x.entry == i.id | none => false))
  | some (.pt _) =>
    (wantOf d r alt acc i.id).all (· == i.pos)
      && !(k.routes.any fun q => q.id != r.id && q.flank.any fun h => h.el == i.id && h.pos != some i.pos)
      && !k.keyLocked d i.id
      && (k.detected i.id i.pos
        || (!k.blocked i.id && !k.occLocked d i.id
          && !(k.routes.any fun q => q.id != r.id && (q.routeLock d i.id || q.ovlLock d i.id))))
  | _ => false

/-- The flank list of a point for a position (R75). -/
def Sdi.flankList (d : Sdi) (el pos : Nat) : Nat :=
  match d.elem el with
  | some e => (match e.spec with | .pt _ _ _ _ n r _ => if pos = 0 then n else r | _ => 0xFFFF)
  | none => 0xFFFF

/-- Flank protection of one point at depths `lo` and on (R99): the holds of the first depth that qualifies. -/
def Kernel.flankDepth (d : Sdi) (k : Kernel) (r : Route) (alt : Option Nat) (acc : List FlankHold) (el : Nat)
    (items : List ListItem) : Nat → Nat → Option (List FlankHold)
  | 0, _ => none
  | fuel + 1, dep =>
    let l := items.filter (·.depth == dep)
    if !l.isEmpty && l.all (k.flankOk d r alt acc) then
      some (l.map fun i => ⟨el, i.id, match k.kind i.id with | some (.pt _) => some i.pos | _ => none⟩)
    else k.flankDepth d r alt acc el items fuel (dep + 1)

/-- Flank protection of one point (R99); the items give the required position of a point and the protecting position of a
derailer (R77; assumption 44). -/
def Kernel.flankOf (d : Sdi) (k : Kernel) (r : Route) (alt : Option Nat) (acc : List FlankHold) (el pos : Nat) :
    Option (List FlankHold) :=
  let n := d.flankList el pos
  if n = 0xFFFF then some [] else k.flankDepth d r alt acc el (d.listItems n) (d.gov r).depth 1

/-- Flank protection of several points in order, or the first point without (check 9 of R98). -/
def Kernel.flankAll (d : Sdi) (k : Kernel) (r : Route) (alt : Option Nat) :
    List FlankHold → List (Nat × Nat) → Except Nat (List FlankHold)
  | acc, [] => .ok acc
  | acc, p :: l =>
    match k.flankOf d r alt acc p.1 p.2 with
    | some h => k.flankAll d r alt (acc ++ h) l
    | none => .error p.1

/-- The points of an optional alternative. -/
def Sdi.altPoints (d : Sdi) (alt : Option Nat) : List (Nat × Nat) := match alt with | some a => d.ovlPoints a | none => []

/-- Checks 3 to 9 of R98: the selected alternative and the flank holds, or the code and detail of the first
failure. -/
def Kernel.routeChecks (d : Sdi) (k : Kernel) (r : Route) : Except (Nat × Nat) (Option Nat × List FlankHold) :=
  let busy := r.conflicts.filter fun c => k.routes.any fun q => q.id == c && q.state != .idle
  match busy.foldl (fun b c => match b with | none => some c | some x => some (min x c)) none with
  | some c => .error (0x0103, c)
  | none =>
  let items := d.routeItems r
  match items.find? (fun el => k.blocked el || k.keyLocked d el) with
  | some el => .error (0x0105, el)
  | none =>
  match items.find? (fun el => !k.check5 d none r el) with
  | some el => .error (0x0104, el)
  | none =>
  match r.points.find? (fun p => !k.pointOk d r.id p.1 p.2) with
  | some p => .error (0x0106, p.1)
  | none =>
  match (d.otherItems r).find? (fun p => !k.itemInState p.1 p.2 && !k.itemReach d r.id p.1 p.2) with
  | some p => .error (0x0109, p.1)
  | none =>
  match k.selectAlt d none r with
  | .error n => .error (0x0108, n)
  | .ok alt =>
  match k.flankAll d r alt [] (r.points ++ d.altPoints alt) with
  | .error p => .error (0x0107, p)
  | .ok h => .ok (alt, h)

/-! ## Swinging overlap -/

/-- Route `q`'s flank holds that protect its overlap points. -/
def ovlHolds (d : Sdi) (q : RouteSt) : List FlankHold :=
  match d.route q.id with
  | some r => q.flank.filter fun h => (d.altPoints q.ovlAlt).any (·.1 == h.forPoint) && !(r.points.any (·.1 == h.forPoint))
  | none => []

/-- A flank hold is in its protecting state (R102 condition 2). -/
def Kernel.holdOk (k : Kernel) (h : FlankHold) : Bool :=
  match h.pos with
  | some p => k.detected h.el p
  | none => match k.kind h.el with | some (.sg g) => g.shown == 0 | _ => false

/-- The alternative to which `q`'s overlap swings for route `r`, with its flank holds (R109). -/
def Kernel.swingTo (d : Sdi) (k : Kernel) (r qr : Route) (q : RouteSt) : Option (Nat × List FlankHold) :=
  let mine := d.routeItems r ++ (match k.selectAlt d (some q.id) r with
    | .ok (some a) => (d.listItems a).map (·.id)
    | _ => [])
  ((d.alternatives qr).filter (fun a => q.ovlAlt != some a)).findSome? fun a =>
    let its := d.listItems a
    if k.altOk d none qr a && (d.ovlPoints a).all (fun p => k.detected p.1 p.2) && (d.ovlSections a).all k.clear
        && its.all (fun i => !mine.contains i.id) then
      match k.flankAll d qr (some a) [] (d.ovlPoints a) with
      | .ok h => if h.all k.holdOk then some (a, h) else none
      | .error _ => none
    else none

/-- Route `q` may swing (R109). -/
def Kernel.maySwing (d : Sdi) (k : Kernel) (q : RouteSt) (qr : Route) : Bool :=
  (d.gov qr).swing && q.ovlLocked && (q.state == .locked || q.state == .proceed || q.state == .inUse)
    && (match q.timer with | some (.overlap, _) => false | _ => true) && !q.ovlHeld
    && (match q.ovlAlt with | some a => (d.ovlSections a).all k.clear | none => false)

/-- The swing that removes a failure of check 5 or check 8 which only `q`'s overlap causes (R109), recorded. Where several routes
could swing, the first in route order does (DESIGN CHOICE, assumption 107). -/
def Kernel.swing (d : Sdi) (k : Kernel) (r : Route) (code : Nat) : Option Kernel :=
  k.routes.findSome? fun q => match d.route q.id with
    | none => none
    | some qr =>
      let only := if code = 0x0104 then (d.routeItems r).all (k.check5 d (some q.id) r)
                  else match k.selectAlt d (some q.id) r with | .ok _ => true | .error _ => false
      if q.id != r.id && k.maySwing d q qr && only then
        match k.swingTo d r qr q with
        | some (a, h) => some ((k.modRoute q.id fun q =>
            { q with ovlAlt := some a, flank := (q.flank.filter fun x => !(ovlHolds d q).contains x) ++ h }).note elemSource)
        | none => none
      else none

/-- The checks of R98 with the swing attempts of R109: the kernel with the swings made, which stand however the checks end, and
their result. -/
def Kernel.checksSwing (d : Sdi) : Nat → Kernel → Route → Kernel × Except (Nat × Nat) (Option Nat × List FlankHold)
  | 0, k, r => (k, k.routeChecks d r)
  | fuel + 1, k, r =>
    match k.routeChecks d r with
    | .ok x => (k, .ok x)
    | .error e =>
      match if e.1 = 0x0104 || e.1 = 0x0108 then k.swing d r e.1 else none with
      | some k => Kernel.checksSwing d fuel k r
      | none => (k, .error e)

/-! ## Ends of operations -/

/-- RESULT_DATA of a route operation (R112). -/
def Kernel.routeData (k : Kernel) (rid detail : Nat) : List Byte :=
  let (st, alt) := match k.rst rid with
    | some s => (s.state.code, s.ovlAlt.getD 0xFFFF)
    | none => (0, 0xFFFF)
  le 2 rid ++ [byteOf st, 0] ++ le 2 detail ++ le 2 alt

/-- A route operation's slot ends, its stage the state of its route (R112, R157). -/
def Kernel.endRouteSlot (k : Kernel) (n rid : Nat) (st : SlotState) (code detail : Nat) : Kernel :=
  let k := match k.rst rid with
    | some r => if (k.slot n).op = 0x0101 || (k.slot n).op = 0x0102 then
        k.modSlot n fun s => { s with stage := 0x10 + r.state.code } else k
    | none => k
  k.finish n st code (k.routeData rid detail)

/-- The owning ROUTE_SET slot of a route ends, when there is one. -/
def Kernel.endOwner (k : Kernel) (rid : Nat) (st : SlotState) (code detail : Nat) : Kernel :=
  match k.rst rid with
  | some s => match s.slot with
    | some n => (k.modRoute rid fun s => { s with slot := none }).endRouteSlot n rid st code detail
    | none => k
  | none => k

/-- The stage of every running route operation follows its route (R157). -/
def Kernel.syncStages (k : Kernel) : Kernel :=
  { k with slots := k.slots.map fun s =>
      if (s.op == 0x0101 || s.op == 0x0102) && (s.state == .running || (s.state == .suspended && s.wasRunning)) then
        match k.rst s.target with
        | some r => { s with stage := 0x10 + r.state.code }
        | none => s
      else s }

/-- The ROUTE_CANCEL and ROUTE_EMERGENCY_RELEASE slots of a route that is `IDLE` end `DONE` (R112). -/
def Kernel.endCancels (k : Kernel) (rid : Nat) : Kernel :=
  (List.range 96).foldl (fun k n =>
    let s := k.slot n
    if (s.op == 0x0102 || (s.op == 0x0103 && s.stage == 0x31)) && s.state == .running && s.target == rid then
      k.endRouteSlot n rid .done 0 0
    else k) k

/-- A route goes `IDLE`: every lock and flag goes (R104); its cancel operations end. -/
def Kernel.toIdle (k : Kernel) (rid : Nat) : Kernel :=
  let owner := (k.rst rid).bind (·.slot)
  let k := (k.modRoute rid fun s => RouteSt.idle rid s.lastResult s.lastDetail).syncStages
  let k := match owner with
    | some n => k.endRouteSlot n rid .cancelled 0 0
    | none => k
  k.endCancels rid

/-! ## Proceed -/

/-- The first element whose condition 1 to 5 of R102 fails, in the order of R103. -/
def Kernel.proceedBar (d : Sdi) (k : Kernel) (r : Route) (s : RouteSt) : Option Nat :=
  let alt := if s.ovlLocked then s.ovlAlt else none
  match (r.points ++ d.altPoints alt).find? (fun p => !k.detected p.1 p.2) with
  | some p => some p.1
  | none =>
  match s.flank.find? (fun h => !k.holdOk h) with
  | some h => some h.el
  | none =>
  let secs := (if r.cls = 1 then r.sections.dropLast else r.sections)
    ++ (match alt with | some a => d.ovlSections a | none => [])
  match secs.find? (fun t => !k.clear t) with
  | some t => some t
  | none =>
  match (d.otherItems r).find? (fun p => !k.itemInState p.1 p.2) with
  | some p => some p.1
  | none =>
  let bad := k.blocked r.entry || (match k.sg r.entry with | some g => g.lampFault | none => false)
    || k.routes.any (fun q => q.id != r.id && q.flankLock r.entry)
  if bad then some r.entry else none

/-- A route's overlap is released with the flank locks of its points (R106); OVERLAP_HELD, which says that the overlap is still
held, goes with it (DESIGN CHOICE, assumption 105). -/
def Kernel.releaseOvl (d : Sdi) (k : Kernel) (rid : Nat) : Kernel :=
  k.modRoute rid fun s =>
    { s with ovlLocked := false, ovlHeld := false
             flank := s.flank.filter fun h => !(ovlHolds d s).contains h
             timer := match s.timer with | some (.overlap, _) => none | t => t }

/-- A route that reaches `PROCEED` releases the overlap of the route in rear (R106); one in `CANCELLING` keeps its locks until
it is `IDLE` (R107). -/
def Kernel.releaseRear (d : Sdi) (k : Kernel) (r : Route) : Kernel :=
  k.routes.foldl (fun k q => match d.route q.id with
    | some qr =>
      if q.state != .cancelling && q.ovlLocked && !q.autoWork && qr.exit_ == r.entry then k.releaseOvl d q.id else k
    | none => k) k

/-- A route goes to `PROCEED` (R102, R104). -/
def Kernel.toProceed (d : Sdi) (k : Kernel) (r : Route) : Kernel :=
  let auto := (d.gov r).auto
  let first := match k.rst r.id with | some s => !s.everProceed | none => false
  let k := (k.modRoute r.id fun s =>
    { s with state := .proceed, armed := true, dropped := false, everProceed := true
             autoWork := s.autoWork || (first && auto) }).syncStages
  let k := if first && auto then k.endOwner r.id .done 0 0 else k
  k.releaseRear d r

/-- A `LOCKED` route goes to `PROCEED` when R102 holds. -/
def Kernel.tryProceed (d : Sdi) (k : Kernel) (r : Route) : Kernel :=
  match k.rst r.id with
  | some s =>
    if s.state == .locked && (k.proceedBar d r s).isNone && (!s.dropped || (d.gov r).auto || s.newSet) then
      k.toProceed d r
    else k
  | none => k

/-- Setting fails: the route goes `IDLE` and its operation `FAILED` 0x010A (R104). -/
def Kernel.settingFails (k : Kernel) (rid el : Nat) : Kernel :=
  let owner := (k.rst rid).bind (·.slot)
  let k := k.modRoute rid fun s => { s with slot := none }
  let k := k.toIdle rid
  match owner with
  | some n => k.endRouteSlot n rid .failed 0x010A el
  | none => k.modRoute rid fun s => { s with lastResult := 0x010A, lastDetail := el }

/-- Every point and derailer a route needs, with its position (R101). -/
def Sdi.routeNeeds (d : Sdi) (r : Route) (s : RouteSt) : List (Nat × Nat) :=
  let drs := (d.otherItems r).filter fun p => match d.elem p.1 with
    | some e => (match e.spec with | .dr .. => true | _ => false)
    | none => false
  r.points ++ d.altPoints (if s.ovlLocked then s.ovlAlt else none) ++ drs.map (fun p => (p.1, p.2 - 1))
    ++ s.flank.filterMap fun h => h.pos.map fun p => (h.el, p)

/-- The needed elements of a route that are not in position: those that must move (R101). -/
def Kernel.unset (d : Sdi) (k : Kernel) (r : Route) (s : RouteSt) : List (Nat × Nat) :=
  (d.routeNeeds r s).filter fun p => !k.detected p.1 p.2

/-- The throws of a route that are still pending are commanded (R101): a refused throw ends the setting (R104). -/
def Kernel.throwAll (d : Sdi) (rid : Nat) : Kernel → List (Nat × Nat) → Kernel
  | k, [] => k
  | k, p :: l =>
    match k.demand d (some rid) false p.1 p.2 with
    | .error _ => k.settingFails rid p.1
    | .ok k => Kernel.throwAll d rid (k.modRoute rid fun s => { s with throwing := s.throwing ++ [p.1] }) l

/-- The elements a `SETTING` route must still command: none while its slot is `SUSPENDED` (R112). -/
def Kernel.pendingThrows (d : Sdi) (k : Kernel) (r : Route) (s : RouteSt) : List (Nat × Nat) :=
  let held := match s.slot with | some n => (k.slot n).state == .suspended | none => false
  if s.state != .setting || held then []
  else (d.routeNeeds r s).filter fun p => s.mustMove.contains p && !s.throwing.contains p.1 && !k.detected p.1 p.2

/-- The throw commands of one route go out, in P5 of the cycle (R101, R112). -/
def Kernel.throwRoute (d : Sdi) (k : Kernel) (rid : Nat) : Kernel :=
  match d.route rid, k.rst rid with
  | some r, some s => Kernel.throwAll d rid k (k.pendingThrows d r s)
  | _, _ => k

/-- The pending throws of every route go out, once the operations of the evaluation are processed. -/
def Kernel.throwRoutes (d : Sdi) (k : Kernel) : Kernel := (d.routes.map (·.id)).foldl (Kernel.throwRoute d) k

/-- Every element that had to move for the route, and that it still needs, is detected in position (R101, R104). -/
def Kernel.allSet (d : Sdi) (k : Kernel) (r : Route) (s : RouteSt) : Bool :=
  (d.routeNeeds r s).all fun p => !s.mustMove.contains p || k.detected p.1 p.2

/-- A `SETTING` route with everything in position goes `LOCKED`, and R102 is tested (R101, R104). -/
def Kernel.trySet (d : Sdi) (k : Kernel) (r : Route) : Kernel :=
  match k.rst r.id with
  | some s =>
    if s.state == .setting && k.allSet d r s then
      (k.modRoute r.id fun s => { s with state := .locked, mustMove := [], throwing := [] }).tryProceed d r
    else k
  | none => k

/-- A ROUTE_SET operation in slot `n` (R98, R101, R104). -/
def Kernel.routeSetOp (d : Sdi) (k : Kernel) (n : Nat) : Kernel :=
  let rid := (k.slot n).target
  match d.route rid, k.rst rid with
  | some r, some s =>
    if s.state == .locked && s.dropped && s.slot.isNone then
      let k := (k.modRoute rid fun s => { s with slot := some n, newSet := true }).syncStages
      ((k.tryProceed d r).modRoute rid fun s => { s with newSet := false }).syncStages
    else if s.state != .idle then k.endRouteSlot n rid .failed 0x0102 0
    else match Kernel.checksSwing d (d.routes.length + 1) k r with
      | (k, .error (c, x)) => k.endRouteSlot n rid .failed c x
      | (k, .ok (alt, h)) =>
        let k := k.modRoute rid fun s =>
          let s := { s with state := .setting, slot := some n, ovlAlt := alt, ovlLocked := alt.isSome, flank := h }
          { s with mustMove := k.unset d r s }
        (k.syncStages.trySet d r).syncStages
  | _, _ => k.finish n .failed 0x0101 (k.routeData rid 0)

/-! ## Cancel and emergency -/

/-- How a cancel ends (R104). -/
inductive CancelEnd where
  | idle | deferred | autoOff
  | refused (code : Nat)
  deriving DecidableEq, Repr

/-- A route timer of `s` seconds starts (R111). -/
def Kernel.startTimer (d : Sdi) (k : Kernel) (rid : Nat) (t : RTimer) (s : Nat) : Kernel :=
  k.modRoute rid fun x => { x with timer := some (t, k.cycle + s * 1000 / d.cycleMs) }

/-- The sections of the entry signal's approach area (R107). -/
def Sdi.approach (d : Sdi) (r : Route) : List Nat :=
  match d.elem r.entry with
  | some e => (match e.spec with | .sg _ _ _ l _ _ => (d.listItems l).map (·.id) | _ => [])
  | none => []

/-- A cancel of an armed route (R107). -/
def Kernel.approachLock (d : Sdi) (k : Kernel) (r : Route) : Kernel × CancelEnd :=
  let g := d.gov r
  if g.area && (d.approach r).all k.clear then (k, .idle)
  else ((k.modRoute r.id fun s => { s with state := .cancelling }).startTimer d r.id .approach g.apprS, .deferred)

/-- A cancel reaches a route (R104). A route to go `IDLE` is left to the caller. -/
def Kernel.cancelRoute (d : Sdi) (k : Kernel) (r : Route) (s : RouteSt) : Kernel × CancelEnd :=
  match s.state with
  | .idle | .checking => (k, .refused 0x010D)
  | .setting => (k, .idle)
  | .locked => if s.armed then k.approachLock d r else (k, .idle)
  | .proceed => k.approachLock d r
  | .inUse =>
    if s.autoWork then (k.modRoute r.id fun s => { s with autoWork := false }, .autoOff) else (k, .refused 0x010C)
  | .cancelling => (k, .refused 0x0102)

/-- A ROUTE_CANCEL operation in slot `n` (R104, R112). -/
def Kernel.routeCancelOp (d : Sdi) (k : Kernel) (n : Nat) : Kernel :=
  let rid := (k.slot n).target
  match d.route rid, k.rst rid with
  | some r, some s =>
    match k.cancelRoute d r s with
    | (k, .refused c) => k.endRouteSlot n rid .failed c 0
    | (k, .autoOff) => k.endRouteSlot n rid .done 0 0
    | (k, .idle) => k.syncStages.toIdle rid
    | (k, .deferred) => (k.syncStages.endOwner rid .cancelled 0 0).syncStages
  | _, _ => k.finish n .failed 0x0101 (k.routeData rid 0)

/-- CANCEL on the owning ROUTE_SET slot (R112): done at once, or CANCEL_PENDING. -/
def Kernel.cancelOwner (d : Sdi) (k : Kernel) (n : Nat) : Kernel :=
  let rid := (k.slot n).target
  match d.route rid, k.rst rid with
  | some r, some s =>
    match k.cancelRoute d r s with
    | (k, .idle) => k.toIdle rid
    | (k, .deferred) => (k.modSlot n fun s => { s with cancelPending := true }).syncStages
    | (k, _) => k
  | _, _ => k

/-- The preconditions of ROUTE_EMERGENCY_RELEASE (R104, R110, R138). -/
def Kernel.emergReleaseBar (d : Sdi) (k : Kernel) (rid : Nat) : Option (Nat × Nat) :=
  match d.route rid, k.rst rid with
  | some r, some s =>
    if !bitAt r.flags 2 then some (0x010E, 0)
    else if s.state == .idle || s.state == .checking then some (0x010D, 0)
    else if s.state == .cancelling && s.emergency then some (0x0102, 0)
    else none
  | _, _ => some (0x0101, 0)

/-- A confirmed emergency release acts (R110). -/
def Kernel.emergRelease (d : Sdi) (k : Kernel) (n : Nat) : Kernel :=
  let rid := (k.slot n).target
  match d.route rid with
  | none => k
  | some r =>
    let k := k.modSlot n fun s => { s with stage := 0x31 }
    let k := k.modRoute rid fun s => { s with state := .cancelling, autoWork := false, emergency := true, mustMove := [], throwing := [] }
    let k := k.startTimer d rid .emergency (d.gov r).emergS
    (k.syncStages.endOwner rid .cancelled 0 0).syncStages

/-! ## Timers and transitions -/

/-- A due route timer acts (R94 step 3, R106, R107, R110). -/
def Kernel.timerActs (d : Sdi) (k : Kernel) (s : RouteSt) : Kernel :=
  match s.timer with
  | some (.overlap, _) =>
    let secs := match s.ovlAlt with | some a => d.ovlSections a | none => []
    if secs.all k.clear then k.releaseOvl d s.id
    else k.modRoute s.id fun s => { s with timer := none, ovlHeld := true }
  | some (_, _) => k.toIdle s.id
  | none => k

/-- Step 3 of R94 for one route. -/
def Kernel.timeRoute (d : Sdi) (k : Kernel) (rid : Nat) : Kernel :=
  match k.rst rid with
  | some s => match s.timer with
    | some (_, due) => if due ≤ k.cycle then k.timerActs d s else k
    | none => k
  | none => k

/-- The passage record of a route (R105): sections that have been not `CLEAR`, in running order, and sections
passed. -/
def Kernel.passage (k : Kernel) (r : Route) (s : RouteSt) : RouteSt :=
  let n := r.sections.length
  let s := r.sections.zipIdx.foldl (fun s p =>
    if !k.clear p.1 && !s.seen.contains p.2 && (p.2 = 0 || s.seen.contains (p.2 - 1)) then
      { s with seen := s.seen ++ [p.2] } else s) s
  r.sections.zipIdx.foldl (fun s p =>
    if k.clear p.1 && s.seen.contains p.2 && !s.passed.contains p.2 && (p.2 + 1 = n || s.seen.contains (p.2 + 1)) then
      { s with passed := s.passed ++ [p.2] } else s) s

/-- The sections released in this evaluation (R105). -/
def releasable (d : Sdi) (r : Route) (s : RouteSt) : List Nat :=
  let n := r.sections.length
  let front := fun (i : Nat) => (List.range (i + 1)).all s.passed.contains
  if s.autoWork then []
  else if n != 0 && front (n - 1) then (List.range n).filter fun i => !s.released.contains i
  else (r.sections.zipIdx.filter fun p => front p.2 && !s.released.contains p.2 && d.sectional p.1).map (·.2)

/-- FOULING_SECTION of a point (R75). -/
def Sdi.fouling (d : Sdi) (el : Nat) : Nat :=
  match d.elem el with | some e => (match e.spec with | .pt _ _ _ _ _ _ f => f | _ => 0) | none => 0

/-- Sections, points and flank locks are released behind the train (R105). -/
def releaseBehind (d : Sdi) (r : Route) (s : RouteSt) : RouteSt :=
  let rel := releasable d r s
  let last := rel.contains (r.sections.length - 1)
  let secs := rel.filterMap fun i => r.sections[i]?
  let pts := (r.points.filter fun p => last || secs.contains (d.fouling p.1)).map (·.1)
  { s with released := s.released ++ rel, ptsReleased := s.ptsReleased ++ pts.filter (fun p => !s.ptsReleased.contains p)
           flank := s.flank.filter fun h => !pts.contains h.forPoint }

/-- The overlap of a route under a train (R106): a held overlap is released, or the timer starts. -/
def Kernel.overlapStep (d : Sdi) (k : Kernel) (r : Route) (s : RouteSt) : Kernel :=
  if !s.ovlLocked || s.autoWork then k
  else
    let secs := match s.ovlAlt with | some a => d.ovlSections a | none => []
    let n := r.sections.length
    if s.ovlHeld then (if secs.all k.clear then k.releaseOvl d r.id else k)
    else if s.timer.isNone && (List.range (n - 1)).all s.passed.contains
        && (match r.sections.getLast? with | some t => !k.clear t | none => false) then
      k.startTimer d r.id .overlap (d.gov r).ovlS
    else k

/-- A route `IN_USE` in one evaluation (R105, R106, R108). -/
def Kernel.useRoute (d : Sdi) (k : Kernel) (r : Route) : Kernel :=
  match k.rst r.id with
  | none => k
  | some s =>
    let n := r.sections.length
    let s := releaseBehind d r (k.passage r s)
    let k := (k.modRoute r.id fun _ => s).overlapStep d r s
    match k.rst r.id with
    | none => k
    | some s =>
      if s.autoWork then
        if (List.range n).all s.passed.contains && r.sections.all k.clear then
          (k.modRoute r.id fun s => { s with state := .locked, seen := [], passed := [] }).tryProceed d r
        else k
      else if s.released.contains (n - 1) && !s.ovlLocked then k.toIdle r.id
      else k

/-- A route enters `IN_USE` (R104): its owning ROUTE_SET ends, `DONE` or, when cancelled before, `CANCELLED`. -/
def Kernel.toUse (d : Sdi) (k : Kernel) (r : Route) (st : SlotState) : Kernel :=
  let k := (k.modRoute r.id fun s => { s with state := .inUse, seen := [], passed := [] }).syncStages
  (k.endOwner r.id st 0 0).useRoute d r

/-- A route falls back from `PROCEED` to `LOCKED` (R103). -/
def Kernel.dropSignal (d : Sdi) (k : Kernel) (r : Route) (el : Nat) : Kernel :=
  let k := (k.modRoute r.id fun s => { s with state := .locked, dropped := true }).syncStages
  if (d.gov r).auto then k else k.endOwner r.id .failed 0x010B el

/-- The first route section is not `CLEAR`. -/
def Kernel.firstOccupied (k : Kernel) (r : Route) : Bool :=
  match r.sections with | t :: _ => !k.clear t | [] => false

/-- A point is `LOST`. -/
def Kernel.lostPt (k : Kernel) (el : Nat) : Bool :=
  match k.pt el with | some p => p.state == PState.lost | none => true

/-- Step 4 of R94 for one route (R104). -/
def Kernel.advanceRoute (d : Sdi) (k : Kernel) (rid : Nat) : Kernel :=
  match d.route rid, k.rst rid with
  | some r, some s =>
    (match s.state with
    | .idle | .checking => k
    | .setting =>
      match s.throwing.find? k.lostPt with
      | some el => k.settingFails rid el
      | none => k.trySet d r
    | .locked => k.tryProceed d r
    | .proceed =>
      if k.firstOccupied r then k.toUse d r .done
      else match k.proceedBar d r s with
        | some el => k.dropSignal d r el
        | none => k
    | .inUse => k.useRoute d r
    | .cancelling =>
      if !s.emergency && k.firstOccupied r then
        ((k.modRoute rid fun s => { s with timer := none, autoWork := false }).toUse d r .cancelled).note elemSource
      else k).syncStages
  | _, _ => k

end Sys2Proof.Machine
end

