-- ==== Sys2Proof/Machine/ElementOps.lean ====
section
/-! DEFINITION. Signals, key locks, level crossings, block interfaces, boundaries, element commands and out-attributes
(R116 to R135, R142). -/

namespace Sys2Proof.Machine

/-- Milliseconds that have passed in agreed vital time. -/
def Kernel.gone (k : Kernel) (since : Int) : Nat := (k.vital - since).toNat

/-! ## Signals -/

/-- LAMP_PROVING (R75). -/
def Elem.lampProving (e : Elem) : Bool := match e.spec with | .sg _ f _ _ _ _ => bitAt f 0 | _ => false

/-- An aspect out-attribute (R118). -/
def aspectAttr (a : Nat) : Bool := 0x80 ≤ a && a ≤ 0x90

/-- The lamp proof of a signal is judged (R129). -/
def Kernel.judgeLamp (k : Kernel) (e : Elem) (g : SgSt) : SgSt :=
  let stop := k.attr e.id 1 == 1
  let asp := k.attr e.id 2 == 1
  if g.shown = 0 then
    { g with lampFault := g.lampFault || !stop || asp, stopUnproven := g.stopUnproven || !stop
             wrongProof := g.wrongProof || asp }
  else { g with lampFault := g.lampFault || !asp }

/-- One evaluation of a signal's latches (R129). -/
def Kernel.stepSignal (k : Kernel) (e : Elem) (g : SgSt) : SgSt :=
  let g := if e.lampProving && 300 < k.gone g.changedAt then k.judgeLamp e g else g
  if k.outFailed e aspectAttr then { g with lampFault := true } else g

/-- A signal with new latches; a new latch is recorded (R129). -/
def Kernel.setSignal (k : Kernel) (el : Nat) (old g : SgSt) : Kernel :=
  let k := k.setKind el (.sg g)
  if (g.lampFault && !old.lampFault) || (g.stopUnproven && !old.stopUnproven) then k.note elemSource else k

/-- The rank of an aspect code in a profile; 0 outside its mask (R73, R128). -/
def Profile.rankOf (p : Profile) (code : Nat) : Nat :=
  if code < 16 && bitAt p.mask code then field p.rank (4 * code + 3) (4 * code) else 0

/-- The code a signal may show for a demand (R128 step 2). -/
def allowedCode (p : Profile) (maxAsp demand : Nat) : Nat :=
  ((List.range 16).filter fun c => bitAt p.mask c && p.rankOf c ≤ p.rankOf maxAsp && p.rankOf c ≤ p.rankOf demand).foldl
    (fun b c => if p.rankOf b < p.rankOf c then c else b) 0

/-- The route in `PROCEED` whose entry a signal is. -/
def Kernel.proceedRoute (d : Sdi) (k : Kernel) (el : Nat) : Option Route :=
  k.routes.findSome? fun q => if q.state == .proceed then
    (match d.route q.id with | some r => if r.entry == el then some r else none | none => none) else none

/-- The shown code once the demand is known (R128 steps 2 and 3). -/
def Kernel.shownFor (d : Sdi) (k : Kernel) (e : Elem) (maxAsp demand : Nat) : Nat :=
  let forced := k.blocked e.id || (match k.sg e.id with | some g => g.lampFault | none => false)
    || (match k.proceedRoute d e.id with
        | some r => (match k.sg r.exit_ with | some g => g.stopUnproven | none => false)
        | none => false)
  if forced then 0
  else match d.profOf e with
    | some p => allowedCode p maxAsp demand
    | none => 0

/-- Demand and shown code of a signal (R128); a distant or repeater takes its master's shown code. -/
def Kernel.aspect (d : Sdi) (k : Kernel) : Nat → Nat → Nat × Nat
  | 0, _ => (0, 0)
  | fuel + 1, el =>
    match d.elem el with
    | none => (0, 0)
    | some e => match e.spec with
      | .sg kind _ maxAsp _ _ master =>
        let demand := if kind = 2 || kind = 3 then (k.aspect d fuel master).2
                      else match k.proceedRoute d el with | some r => r.aspect | none => 0
        (demand, k.shownFor d e maxAsp demand)
      | _ => (0, 0)

/-- Step 6 of R94 for the signals. -/
def Kernel.aspects (d : Sdi) (k : Kernel) : Kernel :=
  { k with elems := k.elems.map fun x => match x.kind with
      | .sg g =>
        let (dem, sh) := k.aspect d (d.elems.length + 1) x.id
        { x with kind := .sg { g with demand := dem, shown := sh
                                      changedAt := if sh = g.shown then g.changedAt else k.vital } }
      | _ => x }

/-! ## Key locks -/

/-- One evaluation of a key lock (R131). -/
def Kernel.stepKey (k : Kernel) (el : Nat) (l : KlSt) : KlSt :=
  let key := k.attr el 1 == 1
  match l.state with
  | .keyIn => if key then l else ⟨.fault, k.vital, none⟩
  | .released =>
    if !key then ⟨.keyOut, k.vital, none⟩
    else if 60000 ≤ k.gone l.since then ⟨.keyIn, k.vital, none⟩ else l
  | .keyOut =>
    if key then
      let t := l.keySince.getD k.vital
      if 1000 ≤ k.gone t then ⟨.keyIn, k.vital, none⟩ else { l with keySince := some t }
    else { l with keySince := none }
  | .fault => l

/-- A key lock with a new state; an entry to `FAULT` is recorded (R131). -/
def Kernel.setKey (k : Kernel) (el : Nat) (old l : KlSt) : Kernel :=
  let k := k.setKind el (.kl l)
  if l.state == .fault && old.state != .fault then k.note elemSource else k

/-! ## Level crossings -/

/-- Closure of a crossing is demanded (R132). -/
def Kernel.lxDemand (d : Sdi) (k : Kernel) (el : Nat) : Bool :=
  k.itemHeld d el none || (match d.elem el with
    | some e => (match e.spec with | .lx _ _ l => (d.listItems l).any (fun i => !k.clear i.id) | _ => false)
    | none => false)

/-- Protection is proved (R132). -/
def Kernel.lxProved (d : Sdi) (k : Kernel) (el : Nat) : Bool :=
  k.attr el 1 == 1 && (match d.elem el with
    | some e => (match e.spec with | .lx f _ _ => !bitAt f 0 || k.attr el 2 == 1 | _ => false)
    | none => false)

/-- CLOSE_TIMEOUT_S of a crossing (R75). -/
def Sdi.closeS (d : Sdi) (el : Nat) : Nat :=
  match d.elem el with | some e => (match e.spec with | .lx _ s _ => s | _ => 0) | none => 0

/-- One evaluation of a level crossing (R132). An LX_FAULT that appears once the crossing is `FAILED` is no event of the table and
leaves "LX_FAULT seen" (R142) as it was (DESIGN CHOICE, assumption 111). -/
def Kernel.stepLx (d : Sdi) (k : Kernel) (el : Nat) (x : LxSt) : LxSt :=
  let dem := k.lxDemand d el
  let proved := k.lxProved d el
  let fault := k.attr el 3 == 1
  let down := fun (late seen : Bool) => (⟨.failed, 0, if proved then some k.vital else none, late, seen⟩ : LxSt)
  match x.state with
  | .failed =>
    let t := x.provedSince.getD k.vital
    if dem && proved && !fault && 2000 ≤ k.gone t then ⟨.protected_, 0, none, false, false⟩
    else { x with provedSince := if proved then some t else none }
  | .open_ =>
    if fault then down false true
    else if dem then ⟨.closing, k.cycle + d.closeS el * 1000 / d.cycleMs, none, false, false⟩ else x
  | .closing =>
    if fault then down false true
    else if !dem then ⟨.open_, 0, none, false, false⟩
    else if proved then ⟨.protected_, 0, none, false, false⟩
    else if x.deadline ≤ k.cycle then down true false else x
  | .protected_ =>
    if fault then down false true
    else if !dem then ⟨.open_, 0, none, false, false⟩
    else if !proved then down false false else x

/-- A crossing with a new state; entering `FAILED` and recovering are recorded (R132). -/
def Kernel.setLx (k : Kernel) (el : Nat) (old x : LxSt) : Kernel :=
  let k := k.setKind el (.lx x)
  if (x.state == .failed) != (old.state == .failed) then k.note elemSource else k

/-! ## Block interfaces and boundaries -/

/-- DIR_REQUEST of a block interface (R118, R133). -/
def Kernel.dirRequest (d : Sdi) (k : Kernel) (el : Nat) : Bool := d.bidirectional el && k.itemHeld d el (some 1)

/-- A binding of an attribute exists. -/
def Elem.bound (e : Elem) (a : Nat) : Bool := e.binds.any (·.attr == a)

/-- The derived state of a block interface (R133). -/
def Kernel.stepBlock (d : Sdi) (k : Kernel) (el : Nat) : BkSt :=
  let req := k.dirRequest d el
  let st : BkState :=
    if !k.attrValid el 1 || !k.attrValid el 2 then .unavailable
    else if k.attr el 2 == 1 then (if k.attr el 1 == 1 then .outClear else .outOccupied)
    else if req then .changing else .inbound
  ⟨st, req⟩

/-- One evaluation of a boundary element (R134). -/
def Kernel.stepBd (d : Sdi) (k : Kernel) (e : Elem) (b : BdState) : BdState :=
  let el := e.id
  let ok := [1, 2].all fun a => !e.bound a || k.attrValid el a
  let dem := k.itemHeld d el (some 1)
  let blk := k.blocked el
  let consent := k.attr el 1 == 1
  let req := k.attr el 2 == 1
  match b with
  | .unavailable => if ok then .idle else .unavailable
  | .idle =>
    if !ok then .unavailable
    else if dem && !blk then .requested
    else if req && !blk && k.clear e.linkB && (k.routeOwners d e.linkB).isEmpty && (k.ovlOwners d e.linkB).isEmpty
    then .granting else .idle
  | .requested =>
    if !ok then .unavailable else if blk || !dem then .idle else if consent then .consented else .requested
  | .consented =>
    if !ok then .unavailable else if blk || !dem then .idle else if consent then .consented else .requested
  | .granting => if !ok then .unavailable else if req then .granting else .idle

/-- Step 2 of R94 for one element (R116). -/
def Kernel.stepElem (d : Sdi) (k : Kernel) (e : Elem) : Kernel :=
  match k.kind e.id with
  | some (.pt _) => k.stepPoint d e.id
  | some (.sg g) => k.setSignal e.id g (k.stepSignal e g)
  | some (.kl l) => k.setKey e.id l (k.stepKey e.id l)
  | some (.lx x) => k.setLx e.id x (k.stepLx d e.id x)
  | some (.bd b) => k.setKind e.id (.bd (k.stepBd d e b))
  | some (.bk _) => k.setKind e.id (.bk (k.stepBlock d e.id))
  | _ => k

/-- Step 2 of R94 (R116). -/
def Kernel.step2 (d : Sdi) (k : Kernel) : Kernel := (d.elems.foldl (Kernel.stepElem d) k).settlePoints

/-! ## Element commands -/

/-- The result of an element command (R120). -/
inductive CmdRes where
  | ok (k : Kernel)
  | err (code : Nat)

/-- BLOCK applies to the element's type (R120). -/
def blockable : Option ElemKind → Bool
  | some (.kl _) => false
  | some _ => true
  | none => false

/-- A boundary element in the evaluation that blocks or unblocks it (R134). -/
def BdState.onBlock (b : BdState) (dem on : Bool) : BdState :=
  match b with
  | .requested | .consented => if on then .idle else b
  | .idle => if dem && !on then .requested else .idle
  | _ => b

/-- Element command BLOCK or UNBLOCK (R120, R121, R134). -/
def Kernel.cmdBlock (d : Sdi) (k : Kernel) (el : Nat) (on : Bool) : CmdRes :=
  match k.elem el with
  | none => .err 0x0B01
  | some e =>
    if !blockable (some e.kind) then .err 0x0B02
    else if on || e.blocked then
      .ok (k.modElem el fun e => { e with
        blocked := on
        kind := match e.kind with
          | .bd b => .bd (BdState.onBlock b (k.itemHeld d el (some 1)) on)
          | x => x })
    else .err 0x0B03

/-- The latches of a signal clear (R129): whether they may, with the signal showing 0. -/
def Kernel.lampClear (k : Kernel) (e : Elem) (g : SgSt) : Bool :=
  g.shown == 0 && !k.outFailed e aspectAttr && (!e.lampProving || (k.attr e.id 1 == 1 && k.attr e.id 2 == 0))

/-- Element command FAULT_RESET (R120, R129, R131, R132). -/
def Kernel.cmdReset (d : Sdi) (k : Kernel) (el : Nat) : CmdRes :=
  match d.elem el, k.kind el with
  | some e, some (.sg g) =>
    if !g.lampFault && !g.stopUnproven then .ok k
    else if k.lampClear e g then
      .ok (k.setKind el (.sg { g with lampFault := false, stopUnproven := false, wrongProof := false }))
    else .err 0x0B04
  | some _, some (.kl l) =>
    if l.state != .fault then .ok k
    else if k.attr el 1 == 1 then .ok (k.setKind el (.kl ⟨.keyIn, k.vital, none⟩)) else .err 0x0B04
  | some _, some (.lx x) =>
    if x.state != .failed then .ok k
    else if !k.lxDemand d el && k.attr el 3 == 0 then .ok (k.setKind el (.lx ⟨.open_, 0, none, false, false⟩))
    else .err 0x0B04
  | some _, some _ => .err 0x0B02
  | _, _ => .err 0x0B01

/-- A key may be granted (R131). -/
def Kernel.keyFree (d : Sdi) (k : Kernel) (el pos : Nat) : Bool :=
  k.detected el pos && (k.routeOwners d el).isEmpty && (k.ovlOwners d el).isEmpty && (k.flankOwners el).isEmpty

/-- Element command KEY_GRANT (R131). -/
def Kernel.cmdGrant (d : Sdi) (k : Kernel) (el : Nat) : CmdRes :=
  match d.elem el, k.kind el with
  | some e, some (.kl l) =>
    match e.spec with
    | .kl x pos => if l.state == .keyIn && k.keyFree d x pos then .ok (k.setKind el (.kl ⟨.released, k.vital, none⟩))
                   else .err 0x0B03
    | _ => .err 0x0B02
  | some _, some _ => .err 0x0B02
  | _, _ => .err 0x0B01

/-- Element command KEY_WITHDRAW (R131). -/
def Kernel.cmdWithdraw (k : Kernel) (el : Nat) : CmdRes :=
  match k.kind el with
  | some (.kl l) => if l.state == .released then .ok (k.setKind el (.kl ⟨.keyIn, k.vital, none⟩)) else .err 0x0B03
  | some _ => .err 0x0B02
  | none => .err 0x0B01

/-! ## Out-attributes -/

/-- The code of a section state (R180 .01). -/
def TState.code : TState → Nat
  | .clear => 0 | .occupied => 1 | .disturbed => 2 | .sweep => 3

/-- The value of an out-attribute in step 6 (R117, R118, R172): 0 once the module has left `RUN`. -/
def Kernel.outAttr (d : Sdi) (k : Kernel) (el a : Nat) : Nat :=
  if k.halted then 0 else match k.kind el with
  | some (.pt p) =>
    let m := p.state == .moving
    if a = 0x81 then bit (m && p.target == some 0)
    else if a = 0x82 then bit (m && p.target == some 1)
    else if a = 0x83 then bit m else 0
  | some (.sg g) => if a = 0x90 then g.shown else bit (0x80 ≤ a && a < 0x90 && g.shown == a - 0x80)
  | some (.kl l) => bit (a == 0x81 && l.state == .released)
  | some (.lx _) => bit (a == 0x81 && k.lxDemand d el)
  | some (.bd b) => if a = 0x81 then bit (b == .requested || b == .consented) else bit (a == 0x82 && b == .granting)
  | some (.bk _) =>
    if a = 0x81 then bit (k.dirRequest d el)
    else bit (a == 0x82 && k.routes.any fun q => (q.state == .proceed || q.state == .inUse) && (match d.route q.id with
      | some r => (d.otherItems r).any fun p => p.1 == el && p.2 == 1
      | none => false))
  | some (.ts t) => if a = 0x81 then bit t.routeClear else if a = 0x82 then t.state.code else 0
  | none => 0

/-! ## Readings -/

/-- The state code of an element (R142 .02). -/
def ElemKind.code : ElemKind → Nat
  | .ts t => t.state.code
  | .pt p => p.state.code
  | .sg g => g.shown
  | .kl l => match l.state with | .keyIn => 0 | .released => 1 | .keyOut => 2 | .fault => 3
  | .lx x => match x.state with | .open_ => 0 | .closing => 1 | .protected_ => 2 | .failed => 3
  | .bd b => match b with | .unavailable => 0 | .idle => 1 | .requested => 2 | .consented => 3 | .granting => 4
  | .bk b => match b.state with
    | .unavailable => 0 | .outClear => 1 | .outOccupied => 2 | .changing => 3 | .inbound => 4

end Sys2Proof.Machine
end

