-- ==== Sys2Proof/Machine/AxleOps.lean ====
section
/-! DEFINITION. Axle counting: sections, heads, acceptance tests, the time base and remote reports (R159 to R178).
Times on the X time base are Int counts of half microseconds (theta is a multiple of half a microsecond). -/

namespace Sys2Proof.Machine

/-! ## Sections and heads as data -/

/-- Head `n`. -/
def Kernel.head (k : Kernel) (n : Nat) : Option HeadSt := k.heads.find? (·.index == n)
/-- Head `n` counts (R170). -/
def Kernel.counting (k : Kernel) (n : Nat) : Bool := match k.head n with | some h => h.state == .active | none => false
/-- The kernel with head `n` changed. -/
def Kernel.modHead (k : Kernel) (n : Nat) (f : HeadSt → HeadSt) : Kernel :=
  { k with heads := k.heads.map fun h => if h.index == n then f h else h }
/-- Section `n`. -/
def Kernel.sec (k : Kernel) (n : Nat) : Option SectionSt := k.sections.find? (·.index == n)
/-- The kernel with section `n` changed. -/
def Kernel.modSec (k : Kernel) (n : Nat) (f : SectionSt → SectionSt) : Kernel :=
  { k with sections := k.sections.map fun s => if s.index == n then f s else s }

/-- A head is busy (R164, R168). -/
def HeadSt.busy (h : HeadSt) : Bool := !h.pulses.isEmpty || h.pendX != 0 || h.pendY != 0 || h.busy1 || h.busy2

/-- The sections a head bounds, with its SENSE (R82). -/
def Sdi.bounds (d : Sdi) (head : Nat) : List (Nat × Bool) :=
  d.sections.flatMap fun s => (s.heads.filter (·.1 == head)).map fun h => (s.index, h.2)

/-- The heads that bound a section. -/
def Sdi.headsOf (d : Sdi) (sec : Nat) : List Nat := match d.section_ sec with | some s => s.heads.map (·.1) | none => []

/-- A bounding head of a section is busy. -/
def Kernel.secBusy (d : Sdi) (k : Kernel) (sec : Nat) : Bool :=
  (d.headsOf sec).any fun h => match k.head h with | some x => x.busy | none => false

/-- The TS element of a section (R82). -/
def Sdi.tsOf (d : Sdi) (sec : Nat) : Nat :=
  ((d.elems.find? fun e => match e.spec with | .ts src _ ac _ _ => src == 0 && ac == sec | _ => false).map (·.id)).getD 0

/-- A count as INTEGER16. -/
def le2i (n : Int) : List Byte := le 2 (BitVec.ofInt 16 n).toNat

/-- RESULT_DATA of an axle-counter reset (R174). -/
def Kernel.acData (k : Kernel) (ts sec : Nat) (head : Option Nat) : List Byte :=
  let (st, n) := match k.sec sec with | some s => (s.state.code, s.count) | none => (0, 0)
  le 2 ts ++ [byteOf st, 0] ++ le2i n ++ le 2 (head.getD 0xFFFF)

/-- The slot of a section's running reset ends (R171, R174). -/
def Kernel.endSecSlot (d : Sdi) (k : Kernel) (sec : Nat) (st : SlotState) (code : Nat) (head : Option Nat) : Kernel :=
  match k.sec sec with
  | some s => match s.slot with
    | some n => (k.modSec sec fun s => { s with slot := none }).finish n st code (k.acData (d.tsOf sec) sec head)
    | none => k
  | none => k

/-- A section enters `DISTURBED` with a cause (R171, R180 .05); a disturbed one keeps its first cause. -/
def Kernel.disturb (d : Sdi) (k : Kernel) (sec : Nat) (c : DCause) (head : Option Nat) (st : SlotState) (code : Nat) :
    Kernel :=
  match k.sec sec with
  | some s =>
    if s.state == .disturbed then k
    else
      let k := k.modSec sec fun s => { s with state := .disturbed, cause := c, causeHead := head, disturbedAt := k.cycle }
      (k.endSecSlot d sec st code head).note 0x140
  | none => k

/-- A disturbance that ends a sweep with 0x0307 (R171). -/
def Kernel.disturbBy (d : Sdi) (k : Kernel) (c : DCause) (head sec : Nat) : Kernel :=
  k.disturb d sec c (some head) .failed 0x0307

/-- A section that may be `CLEAR` again once its count is 0 and no head is busy (R171). -/
def Kernel.settleSec (d : Sdi) (k : Kernel) (sec : Nat) : Kernel :=
  match k.sec sec with
  | some s =>
    if s.count == 0 && !k.secBusy d sec then
      match s.state with
      | .occupied => k.modSec sec fun s => { s with state := .clear }
      | .sweep => if s.swept then
          (k.modSec sec fun s => { s with state := .clear }).endSecSlot d sec .done 0 none else k
      | _ => k
    else k
  | none => k

/-- An axle changes a section's count by `delta` (R171). -/
def Kernel.axleSec (d : Sdi) (k : Kernel) (delta : Int) (sec : Nat) : Kernel :=
  match k.sec sec with
  | none => k
  | some s =>
    let n := s.count + delta
    let c := max (-32768) (min 32767 n)
    let k := k.modSec sec fun s =>
      { s with count := c, axlesIn := s.axlesIn + (if delta > 0 then 1 else 0)
               axlesOut := s.axlesOut + (if delta < 0 then 1 else 0) }
    if s.state == .disturbed then k
    else if n > 32767 then k.disturb d sec .overflow none .failed 0x0307
    else if n < 0 then k.disturb d sec .negative none .failed 0x0307
    else if s.state == .sweep then
      (if n ≥ 1 then k.modSec sec fun s => { s with swept := true } else k).settleSec d sec
    else (k.modSec sec fun s => { s with state := .occupied }).settleSec d sec

/-! ## Sequences -/

/-- The two systems of a sequence's pulses. -/
def pulsed (l : List Pulse) (sys : Nat) : Bool := l.any (·.sys == sys)

/-- The last complete pulse of a system (R165). -/
def lastPulse (l : List Pulse) (sys : Nat) : Option Pulse := (l.filter (·.sys == sys)).getLast?

/-- The end of a pulse. -/
def Pulse.fin (p : Pulse) : Int := p.stop.getD p.start

/-- How a closed sequence is classified (R163 to R165). -/
inductive SeqClass where
  | partial_ (sys : Nat)
  | rock
  | axle (positive : Bool) (speed overlap : Nat)
  | reject (r : Reject)
  deriving DecidableEq, Repr

/-- The tolerance of a comparison over edges, in half microseconds (R165). -/
def eps (edges : List Bool) : Int := 50 + 100 * (edges.filter id).length

/-- The absolute value of a difference. -/
def absDiff (a b : Int) : Int := (a - b).natAbs

/-- The mean gap G as a numerator over 1 or 2 (R165). -/
def gapMean (p1 p2 : Pulse) (gs ge : Int) : Int × Int :=
  let sRs := p1.rsStart || p2.rsStart
  let eRs := p1.rsEnd || p2.rsEnd
  if sRs == eRs then (gs + ge, 2) else if sRs then (ge, 1) else (gs, 1)

/-- The acceptance tests (R165): spacing `s` in mm, overlap share `pct`, the system of entry, whether the sequence
rocked, and its span. The limits are s / V_MAX = 36 s / 5 us and W_MIN / V_MAX = 1,584 us. -/
def accept (s pct entry : Nat) (rocking : Bool) (span : Int) (p1 p2 : Pulse) : SeqClass :=
  let d1 := p1.fin - p1.start
  let d2 := p2.fin - p2.start
  let dmin := min d1 d2
  let o := min p1.fin p2.fin - max p1.start p2.start
  let gs := absDiff p2.start p1.start
  let ge := absDiff p2.fin p1.fin
  let short := if d1 ≤ d2 then p1 else p2
  let (gn, gd) := gapMean p1 p2 gs ge
  let bad := fun (d : Int) => d * s * 10 * gd < 8 * 220 * gn || d * s * 10 * gd > 12 * 440 * gn
  if o ≤ 0 || 100 * o < pct * dmin then .reject .overlap
  else if 5 * gs < 72 * (s : Int) - 5 * eps [p1.rsStart, p2.rsStart] then .reject .tooFast
  else if 5 * ge < 72 * (s : Int) - 5 * eps [p1.rsEnd, p2.rsEnd] then .reject .tooFast
  else if dmin < 3168 - eps [short.rsStart, short.rsEnd] then .reject .tooShort
  else if !rocking && span ≤ 200000 && (bad d1 || bad d2) then .reject .ratio
  else .axle (entry == 1) ((s * 14400 * gd + gn) / (2 * gn)).toNat (100 * o / dmin).toNat

/-- The system of the earliest start of a sequence. -/
def entrySys (l : List Pulse) : Nat :=
  ((l.foldl (fun b p => match b with | none => some p | some q => if p.start < q.start then some p else some q) none).map
    (·.sys)).getD 0

/-- The system of the latest end of a sequence. -/
def exitSys (l : List Pulse) : Nat :=
  ((l.foldl (fun b p => match b with | none => some p | some q => if q.fin < p.fin then some p else some q) none).map
    (·.sys)).getD 0

/-- The span of a sequence. -/
def seqSpan (l : List Pulse) : Int :=
  let lo := l.foldl (fun b p => min b p.start) ((l.head?.map (·.start)).getD 0)
  let hi := l.foldl (fun b p => max b p.fin) ((l.head?.map (·.fin)).getD 0)
  hi - lo

/-- A closed sequence is classified (R163, R164). -/
def classify (rec_ : HeadRec) (h : HeadSt) : SeqClass :=
  let l := h.pulses
  if h.flagged || l.any (·.flag) then .reject .flagged
  else if h.stepReject then .reject .handover
  else if h.noTb then .reject .noTimebase
  else if !pulsed l 2 then .partial_ 1
  else if !pulsed l 1 then .partial_ 2
  else if entrySys l == exitSys l then .rock
  else match lastPulse l 1, lastPulse l 2 with
    | some p1, some p2 =>
      accept rec_.spacing rec_.overlap (entrySys l)
        ((l.filter (·.sys == 1)).length > 1 || (l.filter (·.sys == 2)).length > 1) (seqSpan l) p1 p2
    | _, _ => .rock

/-- A head without an open sequence. -/
def HeadSt.closed (h : HeadSt) : HeadSt :=
  { h with pulses := [], flagged := false, stepReject := false, noTb := false, busy1 := false, busy2 := false }

/-- Every section a head bounds is disturbed (R171). -/
def Kernel.disturbAll (d : Sdi) (k : Kernel) (head : Nat) (c : DCause) : Kernel :=
  (d.bounds head).foldl (fun k b => k.disturbBy d c head b.1) k

/-- LAST_REJECT (R181 .08). -/
def Reject.code : Reject → Nat
  | .flagged => 1 | .handover => 2 | .noTimebase => 3 | .overlap => 4 | .tooFast => 5 | .tooShort => 6 | .ratio => 7
  | .settlingActivity => 8

/-- A REJECT at a head (R166, R171), recorded with its reason and head. -/
def Kernel.rejectHead (d : Sdi) (k : Kernel) (head : Nat) (r : Reject) : Kernel :=
  let k := k.modHead head fun h => { h with rejected := h.rejected + 1, lastReject := some r, quietAt := some k.vital
                                            idleRun := 0 }
  let k := { k with rejects := k.rejects + 1 }.disturbAll d head .reject
  { k with notes := k.notes ++ [.reject head r.code] }

/-- A head loses counting: it enters `INTERFERED`, `FAULT` or `OFF` (R170, R171); an open sequence is discarded. -/
def Kernel.headTo (d : Sdi) (k : Kernel) (head : Nat) (st : HState) (c : HCause) : Kernel :=
  match k.head head with
  | none => k
  | some h =>
    let k := k.modHead head fun h =>
      let h := if st == .active then h else h.closed
      { h with state := st, cause := c }
    if st != h.state && (st == .interfered || st == .fault || st == .off) then k.disturbAll d head .headNotActive else k

/-- Three silent partials in a row put a head in `FAULT` (R164). -/
def Kernel.silentCheck (d : Sdi) (k : Kernel) (head sys : Nat) (span : Int) : Kernel :=
  match k.head head with
  | none => k
  | some h =>
    if span > 600000 then k.modHead head fun h => { h with silentRun := 0 }
    else
      let n := if h.silentSys = sys then h.silentRun + 1 else 1
      let k := k.modHead head fun h => { h with silentSys := sys, silentRun := n }
      if n ≥ 3 then (k.headTo d head .fault .systemSilent).modHead head fun h => { h with silentRun := 0 } else k

/-- A sequence of a head closes and acts (R163 to R166, R171). -/
def Kernel.closeSeq (d : Sdi) (k : Kernel) (head : Nat) : Kernel :=
  match k.head head, d.head head with
  | some h, some r =>
    let c := classify r h
    let span := seqSpan h.pulses
    let k := k.modHead head HeadSt.closed
    let k := match c with
      | .partial_ sys => (k.modHead head fun h => { h with partial_ := h.partial_ + 1 }).silentCheck d head sys span
      | _ => k.modHead head fun h => { h with silentRun := 0 }
    match c with
    | .partial_ _ => (d.bounds head).foldl (fun k b => k.settleSec d b.1) k
    | .rock =>
      (d.bounds head).foldl (fun k b => k.settleSec d b.1) (k.modHead head fun h => { h with rock := h.rock + 1 })
    | .reject x => k.rejectHead d head x
    | .axle pos speed ovl =>
      let k := k.modHead head fun h =>
        { h with pos := h.pos + bit pos, neg := h.neg + bit (!pos), lastSpeed := speed, lastOverlap := ovl
                 sawPos := h.sawPos || pos, sawNeg := h.sawNeg || !pos, quietAt := some k.vital, idleRun := 0 }
      (d.bounds head).foldl (fun k b => k.axleSec d (if pos != b.2 then 1 else -1) b.1) k
  | _, _ => k

/-- An edge within 2 ms after a DOUBLED step belongs to a handover (R178). -/
def HeadSt.nearStep (h : HeadSt) (t : Int) : Bool :=
  match h.lastStep with | some s => s ≤ t && t ≤ s + 4000 | none => false

/-- A pulse of one system ends the run of silent partials of the other (R164), whatever becomes of it. -/
def HeadSt.heard (sys : Nat) (h : HeadSt) : HeadSt := if h.silentSys = sys then h else { h with silentRun := 0 }

/-- A start edge at a head (R163, R170; in `SETTLING` assumption 117). -/
def Kernel.startEdge (d : Sdi) (k : Kernel) (head : Nat) (p : Pulse) (noTb : Bool) : Kernel :=
  let k := k.modHead head (HeadSt.heard p.sys)
  match k.head head with
  | none => k
  | some h =>
    match h.state with
    | .active => k.modHead head fun h =>
        { h with pulses := h.pulses ++ [p], noTb := h.noTb || noTb, stepReject := h.stepReject || h.nearStep p.start
                 busy1 := h.busy1 || p.sys == 1, busy2 := h.busy2 || p.sys == 2 }
    | .settling => k.rejectHead d head .settlingActivity
    | _ => k

/-- The last open pulse of a system ends. -/
def endPulse (l : List Pulse) (q : Pulse) : List Pulse :=
  if l.any (fun p => p.sys == q.sys && p.stop.isNone) then
    l.map fun p => if p.sys == q.sys && p.stop.isNone then
      { p with stop := q.stop, rsStart := q.rsStart, rsEnd := q.rsEnd, flag := p.flag || q.flag } else p
  else l

/-- An end edge at a head (R163); in `SETTLING` each edge is pulse activity and a REJECT (R170; DEDUCED, assumption 117). -/
def Kernel.endEdge (d : Sdi) (k : Kernel) (head : Nat) (q : Pulse) (noTb : Bool) : Kernel :=
  match k.head head with
  | none => k
  | some h =>
    if h.state == .settling then (k.modHead head (HeadSt.heard q.sys)).rejectHead d head .settlingActivity
    else if h.pulses.isEmpty then k.modHead head (HeadSt.heard q.sys)
    else
      let k := k.modHead head fun h =>
        { h with pulses := endPulse h.pulses q, noTb := h.noTb || noTb, stepReject := h.stepReject || h.nearStep q.fin
                 busy1 := h.busy1 && q.sys != 1, busy2 := h.busy2 && q.sys != 2 }
      match k.head head with
      | some h => if h.pulses.all (·.stop.isSome) then k.closeSeq d head else k
      | none => k

/-! ## The time base -/

/-- `v` on the time base nearest to `ref`, in half microseconds modulo 2^33. -/
def near (ref v : Int) : Int := ref + ((v - ref + 2 ^ 32) % 2 ^ 33 - 2 ^ 32)

/-- A signed difference of two counters modulo 2^32. -/
def diff32 (a b : W32) : Int := (a - b).toInt

/-- INVALID of a record (R57, R197). -/
def recInvalid (r : SensorRec) : Bool := r.flags.getLsbD 4

/-- A pulse record carries CLAMP, UNSETTLED or INVALID (R164). -/
def recBad (r : SensorRec) : Bool := r.flags.getLsbD 4 || r.flags.getLsbD 3 || r.flags.getLsbD 2

/-- The mapping of one pair of TIMEBASE records (R161): twice theta, twice delta. -/
def mapping (xs ys : List SensorRec) : Option (Int × Int) :=
  match xs, ys with
  | x :: _, y :: _ =>
    match xs.find? (·.head == y.b7), ys.find? (·.head == x.b7) with
    | some xj, some yi =>
      let a := diff32 y.w12 xj.w8
      let b := diff32 x.w12 yi.w8
      some (a - b, a + b)
    | _, _ => none
  | _, _ => none

/-- The mapping is updated (R161, R163.1). -/
def Evaluator.mapStep (e : Evaluator) : Evaluator :=
  match mapping e.tbXs e.tbYs, e.tbXs, e.tbYs with
  | some (th, de), x :: _, y :: _ =>
    let apart := absDiff (near 0 (2 * (x.w8.toNat : Int) - (2 * (y.w8.toNat : Int) - th))) 0
    let steady := match e.theta with | some t => absDiff (near 0 (th - t)) 0 ≤ 4 | none => true
    if 0 ≤ de && de ≤ 10 && apart ≤ 8000 && steady then
      { e with theta := some th, lastTheta := th, delta := de, valid := true
               firstY := match e.firstY with | some f => some f | none => some y.w8 }
    else { e with delta := de, valid := false }
  | _, _, _ => { e with valid := false }

/-- The horizon of this evaluation (R162), kept while the mapping is invalid. -/
def Evaluator.horizonNow (e : Evaluator) : Option Int :=
  match e.valid, e.theta, e.tbXs, e.tbYs with
  | true, some th, x :: _, y :: _ =>
    let ref := e.horizon.getD (2 * (x.w8.toNat : Int))
    let hx := near ref (2 * (x.w8.toNat : Int)) - 1000
    let hy := near ref (2 * (y.w8.toNat : Int) - th) - 1000
    some (max (min hx hy) (e.horizon.getD (min hx hy)))
  | _, _, _, _ => e.horizon

/-- A record of an event of X or Y, with its X time (none while it cannot be placed) and its order among equal
times: STEP, HEAD_STATE, start edge, end edge (R163.3). -/
structure AxEvent where
  time  : Int
  order : Nat
  isY   : Bool
  sr    : SensorRec
  deriving DecidableEq, Repr

/-- The own time of a record's event (R197). -/
def recOwn (r : SensorRec) : W32 := if r.kind = 2 then r.w12 else r.w8

/-- The order of a record's event among equal times (R163). -/
def recOrder (r : SensorRec) : Nat :=
  match r.kind.toNat with | 4 => 0 | 5 => 1 | 1 => 2 | _ => 3

/-- An event inserted in time order. -/
def insEvent (x : AxEvent) : List AxEvent → List AxEvent
  | [] => [x]
  | y :: l => if x.time < y.time || (x.time == y.time && x.order < y.order) then x :: y :: l else y :: insEvent x l

/-- The events of X in X time. -/
def Evaluator.evX (e : Evaluator) (ref : Int) : List AxEvent :=
  e.pendX.map fun r => ⟨near ref (2 * ((recOwn r).toNat : Int)), recOrder r, false, r⟩

/-- The events of Y in X time; none while the mapping is invalid (R161). -/
def Evaluator.evY (e : Evaluator) (ref : Int) : List AxEvent :=
  match e.valid, e.theta with
  | true, some th => e.pendY.map fun r => ⟨near ref (2 * ((recOwn r).toNat : Int) - th), recOrder r, true, r⟩
  | _, _ => []

/-- The head state of the record code (R181 .01). -/
def HState.ofCode (n : Nat) : HState :=
  match n with | 0 => .off | 1 => .settling | 2 => .active | 3 => .interfered | _ => .fault

/-- Severity of a head state (R197). -/
def HState.rank : HState → Nat
  | .fault => 4 | .interfered => 3 | .off => 2 | .settling => 1 | .active => 0

/-- The more severe of two states (R197). -/
def HState.worse (a b : HState) : HState := if a.rank < b.rank then b else a

/-- A HEAD_STATE record acts (R170, R197). -/
def Kernel.headRecord (d : Sdi) (k : Kernel) (isY : Bool) (r : SensorRec) : Kernel :=
  let n := r.head.toNat
  let st := if recInvalid r then .fault else HState.ofCode r.b7.toNat
  let k := k.modHead n fun h => if isY then { h with sys2 := st } else { h with sys1 := st }
  match k.head n with
  | some h =>
    let w := h.sys1.worse h.sys2
    k.headTo d n w (if w == .fault then .reported else .none)
  | none => k

/-- One event acts (R163). -/
def Kernel.axEvent (d : Sdi) (k : Kernel) (x : AxEvent) : Kernel :=
  let r := x.sr
  let n := r.head.toNat
  let sys := if x.isY then 2 else 1
  let noTb := x.isY && (match k.ev.firstY with | some f => diff32 (recOwn r) f < 0 | none => true)
  match r.kind.toNat with
  | 1 =>
    (k.modHead n fun h => if x.isY then { h with pendY := h.pendY - 1 } else { h with pendX := h.pendX - 1 }).startEdge d n
      ⟨sys, x.time, none, r.flags.getLsbD 0, false, recBad r⟩ noTb
  | 2 => k.endEdge d n ⟨sys, x.time, some x.time, r.flags.getLsbD 0, r.flags.getLsbD 1, recBad r⟩ noTb
  | 4 => if r.b7 = 1 then k.modHead n fun h =>
           { h with lastStep := some x.time, stepReject := h.stepReject || !h.pulses.isEmpty } else k
  | 5 => k.headRecord d x.isY r
  | _ => k

/-- The agreed records of one stream are taken up (R161 to R163): TIMEBASE records, newest first, and events. -/
def takeTb (tbs recs : List SensorRec) : List SensorRec :=
  ((recs.filter fun r => r.kind = 3 && !recInvalid r).reverse ++ tbs).take 16

/-- The records from the last start of their processor on, if they hold one (R161, R197): its sequence begins at 1, and a 1 after a 0 is
the wrap of the sequence. `prev` is the number of the record before them. -/
def sinceStart : Option Nat → List SensorRec → Option (List SensorRec)
  | _, [] => none
  | prev, r :: l => match sinceStart (some r.seq) l with
    | some x => some x
    | none => if r.seq == 1 && prev != some 0 then some (r :: l) else none

/-- The number of the last record. -/
def lastSeq (prev : Option Nat) (l : List SensorRec) : Option Nat := match l.getLast? with | some r => some r.seq | none => prev

/-- The SEND_US of the newest TIMEBASE record. -/
def sendUs (l : List SensorRec) : Option W32 := l.head?.map (·.w8)

/-- The records that are events. -/
def events (recs : List SensorRec) : List SensorRec := recs.filter fun r => !(r.kind = 3)

/-- The evaluator takes up the agreed records of this evaluation; a start of either processor makes it forget the last theta, and the
TIMEBASE records of that processor from before it (R161). -/
def Evaluator.take_ (e : Evaluator) (xs ys : List SensorRec) : Evaluator :=
  let sx := sinceStart e.xSeq xs
  let sy := sinceStart e.ySeq ys
  let fresh := sx.isSome || sy.isSome
  let tx := match sx with | some l => takeTb [] l | none => takeTb e.tbXs xs
  let ty := match sy with | some l => takeTb [] l | none => takeTb e.tbYs ys
  { e with pendX := e.pendX ++ events xs, pendY := e.pendY ++ events ys, tbXs := tx, tbYs := ty
           xSeq := lastSeq e.xSeq xs, ySeq := lastSeq e.ySeq ys
           theta := if fresh then none else e.theta, firstY := if fresh then none else e.firstY
           horizon := if fresh then none else e.horizon
           xStuck := if sendUs tx == sendUs e.tbXs then e.xStuck + 1 else 0
           yStuck := if sendUs ty == sendUs e.tbYs then e.yStuck + 1 else 0 }

/-- The local heads go `FAULT` with cause SENSOR_PROCESSOR (R162). -/
def Kernel.localFault (d : Sdi) (k : Kernel) : Kernel :=
  (d.heads.filter (·.kind == 0)).foldl (fun k h => k.headTo d h.index .fault .sensorProcessor) k

/-- A sensor processor is declared failed (R162): sources 0x120 and 0x121. -/
def Kernel.spFailed (d : Sdi) (k : Kernel) (x y : Bool) : Kernel :=
  let k := { k with ev := { k.ev with xOk := k.ev.xOk && !x, yOk := k.ev.yOk && !y } }
  let k := if x then k.note 0x120 else k
  let k := if y then k.note 0x121 else k
  k.localFault d

/-- The processors that fail when the horizon or the mapping is stuck (R162). -/
def Evaluator.culprits (e : Evaluator) (n : Nat) : Bool × Bool :=
  let x := n ≤ e.xStuck
  let y := n ≤ e.yStuck
  if x != y then (x, y) else (true, true)

/-- The watch over horizon and mapping (R162): it acts at the fourth evaluation in a row. -/
def Kernel.watchSp (d : Sdi) (k : Kernel) (before : Option Int) : Kernel :=
  let e := k.ev
  let adv := e.horizon != before && e.horizon.isSome
  let e := { e with noAdvance := if adv then 0 else e.noAdvance + 1, invalidRun := if e.valid then 0 else e.invalidRun + 1
                    xOk := if adv then true else e.xOk, yOk := if adv then true else e.yOk }
  let k := { k with ev := e }
  if e.noAdvance = 4 || (e.invalidRun = 4 && e.noAdvance < 4) then
    let c := e.culprits 4
    k.spFailed d c.1 c.2
  else k

/-- A pending PULSE_START marks its head busy at once (R162, R164), and its `CLEAR` sections go `OCCUPIED` (R171). -/
def Kernel.markBusy (d : Sdi) (k : Kernel) (head : Nat) : Kernel :=
  (d.bounds head).foldl (fun k b => k.modSec b.1 fun s =>
    if s.state == .clear then { s with state := .occupied } else s) k

/-- The PULSE_START records of this evaluation mark their heads. -/
def Kernel.markStarts (d : Sdi) (isY : Bool) (k : Kernel) (recs : List SensorRec) : Kernel :=
  (recs.filter fun r => r.kind = 1).foldl (fun k r =>
    let n := r.head.toNat
    (k.modHead n fun h => if isY then { h with pendY := h.pendY + 1 } else { h with pendX := h.pendX + 1 }).markBusy d n) k

/-! ## Remote reports -/

/-- A remote head report (R167). -/
structure Report where
  head     : Nat
  state    : Nat
  busy     : Nat
  firstSeq : Nat
  nowUs    : Nat
  recs     : List (Nat × Nat × Nat)
  deriving DecidableEq, Repr

/-- The reports of one payload (R167): each takes 16 + 12 N bytes. -/
def parseReports : Nat → List Byte → List Report
  | 0, _ => []
  | fuel + 1, b =>
    let n := (byteAt b 12).toNat
    if b.length < 16 || n > 16 || b.length < 16 + 12 * n || slice b 13 3 != [0, 0, 0] then []
    else
      ⟨beAt b 0 2, beAt b 2 1, beAt b 3 1, beAt b 4 4, beAt b 8 4,
        (List.range n).map fun k => (beAt b (16 + 12 * k) 1, beAt b (20 + 12 * k) 4, beAt b (24 + 12 * k) 4)⟩
        :: parseReports fuel (b.drop (16 + 12 * n))

/-- The edges of pulses in time order: a start before an end at the same time, as R163 orders them. -/
def insPulse (p : Pulse) : List Pulse → List Pulse
  | [] => [p]
  | q :: l => if p.start < q.start then p :: q :: l else q :: insPulse p l

/-- The pulses that overlap or touch the sequence that is open until `fin` go into it; the rest is handed on. -/
def takeSeq : Int → List Pulse → List Pulse × List Pulse
  | _, [] => ([], [])
  | fin, p :: l => if p.start ≤ fin then
      let x := takeSeq (max fin p.fin) l
      (p :: x.1, x.2)
    else ([], p :: l)

/-- Complete pulses in start order grouped into sequences, each closed in turn while the head counts (R163, R168). -/
def Kernel.remoteSeqs (d : Sdi) (head : Nat) : Nat → Kernel → List Pulse → Kernel
  | 0, k, _ => k
  | _, k, [] => k
  | fuel + 1, k, p :: l =>
    let x := takeSeq p.fin l
    if k.counting head then
      Kernel.remoteSeqs d head fuel ((k.modHead head fun h => { h with pulses := p :: x.1 }).closeSeq d head) x.2
    else k

/-- The pulse of a report's record (R167). -/
def remotePulse (ref : Int) (r : Nat × Nat × Nat) : Pulse :=
  ⟨1 + bit (bitAt r.1 0), near ref (2 * (r.2.1 : Int)), some (near ref (2 * (r.2.2 : Int))), bitAt r.1 1, bitAt r.1 2,
    bitAt r.1 3 || bitAt r.1 4⟩

/-- The pulses of a remote head are processed once no system is active (R168, assumption 20). -/
def Kernel.remotePulses (d : Sdi) (k : Kernel) (head : Nat) : Kernel :=
  match k.head head with
  | some h =>
    if h.busy1 || h.busy2 then k
    else Kernel.remoteSeqs d head (h.pulses.length + 1) (k.modHead head HeadSt.closed)
      (h.pulses.foldl (fun l p => insPulse p l) [])
  | none => k

/-- What a remote head that does not count does with the pulses of a report (R168, R170): in `SETTLING` a report with activity is a REJECT
(assumption 117). -/
def Kernel.idlePulses (d : Sdi) (k : Kernel) (head : Nat) (l : List Pulse) : Kernel :=
  match k.head head with
  | some h =>
    let k := l.foldl (fun k p => k.modHead head (HeadSt.heard p.sys)) k
    if h.state == .settling && (h.busy1 || h.busy2 || !l.isEmpty) then k.rejectHead d head .settlingActivity else k
  | none => k

/-- One report of a remote head acts (R167, R168): its STATE first, then BUSY and the new records. -/
def Kernel.remoteReport (d : Sdi) (k : Kernel) (kind src : Nat) (r : Report) : Kernel :=
  match d.head r.head, k.head r.head with
  | some hr, some h =>
    if hr.kind != kind || hr.source != src || r.head < 16 then k
    else
      let last := match h.remoteSeq with | some s => s | none => (r.firstSeq + 2 ^ 32 - 1) % 2 ^ 32
      let recs := (r.recs.zipIdx.map fun p => ((r.firstSeq + p.2) % 2 ^ 32, p.1)).filter fun p => seqLater 32 p.1 last
      let ref := if h.remoteSeq.isNone then 2 * (r.nowUs : Int) else h.horizon
      let gap := match recs with | p :: _ => p.1 != (last + 1) % 2 ^ 32 | [] => false
      let newest := match recs.getLast? with | some p => p.1 | none => last
      let new := recs.map fun p => remotePulse ref p.2
      let k := k.modHead r.head fun h =>
        { h with reportAt := some k.vital, remoteSeq := some newest, horizon := near ref (2 * (r.nowUs : Int)) }
      let k := if gap then k.headTo d r.head .fault .remoteGap
               else k.headTo d r.head (HState.ofCode r.state) (if r.state ≥ 4 then .reported else .none)
      let k := k.modHead r.head fun h => { h with busy1 := bitAt r.busy 0, busy2 := bitAt r.busy 1 }
      let k := if r.busy % 4 != 0 || !recs.isEmpty then k.markBusy d r.head else k
      if k.counting r.head then
        (k.modHead r.head fun h => { h with pulses := h.pulses ++ new }).remotePulses d r.head
      else k.idlePulses d r.head new
  | _, _ => k

/-- The reports of one payload act, its source being a node and slot or a partner (R81, R167). -/
def Kernel.remotePayload (d : Sdi) (k : Kernel) (p : Nat × Nat × List Byte) : Kernel :=
  (parseReports (p.2.2.length + 1) p.2.2).foldl (Kernel.remoteReport d · p.1 p.2.1) k

/-- The age of a remote head's newest report in ms; counted from the first mark while none has come. -/
def Kernel.reportAge (k : Kernel) (h : HeadSt) : Nat := k.gone (h.reportAt.getD 0)

/-- A remote head has gone silent (R168). -/
def Kernel.silentRemote (d : Sdi) (k : Kernel) (head : Nat) : Kernel :=
  match k.head head with
  | some h => if h.cause == .remoteSilent then k else k.headTo d head .fault .remoteSilent
  | none => k

/-- STALE_HOLD of a section: a bounding remote head's newest report is older than three cycles (R169). -/
def Kernel.staleSec (d : Sdi) (k : Kernel) (sec : Nat) : Bool :=
  (d.headsOf sec).any fun n => match d.head n, k.head n with
    | some r, some h => r.kind != 0 && 3 * d.cycleMs < k.reportAge h
    | _, _ => false

/-- The watch over remote reports (R168, R169). -/
def Kernel.watchRemote (d : Sdi) (k : Kernel) : Kernel :=
  let k := (d.heads.filter (·.kind != 0)).foldl (fun k r => match k.head r.index with
    | some h => if 2000 ≤ k.reportAge h then k.silentRemote d r.index else k
    | none => k) k
  { k with sections := k.sections.map fun s => { s with stale := k.staleSec d s.index } }

/-! ## Step 1 of the evaluation -/

/-- The events up to the horizon are processed (R163.3). -/
def Kernel.runEvents (d : Sdi) (k : Kernel) (h : Int) : Kernel :=
  let evs := (k.ev.evX h ++ k.ev.evY h).filter (·.time ≤ h)
  let k := { k with ev := { k.ev with
    pendX := k.ev.pendX.filter fun r => !(near h (2 * ((recOwn r).toNat : Int)) ≤ h)
    pendY := match k.ev.valid, k.ev.theta with
      | true, some th => k.ev.pendY.filter fun r => !(near h (2 * ((recOwn r).toNat : Int) - th) ≤ h)
      | _, _ => k.ev.pendY } }
  (evs.foldl (fun l x => insEvent x l) []).foldl (Kernel.axEvent d) k

/-- The evaluator in one evaluation (R163): mapping, remote reports, local edges; `reports` holds the payloads of this
evaluation with their kind and source. -/
def Kernel.axles (d : Sdi) (k : Kernel) (xs ys : List SensorRec) (reports : List (Nat × Nat × List Byte)) : Kernel :=
  let before := k.ev.horizon
  let old := k.heads
  let k := { k with ev := (k.ev.take_ xs ys).mapStep, heads := k.heads.map fun h => { h with sawPos := false, sawNeg := false } }
  let k := reports.foldl (Kernel.remotePayload d) k
  let k := (k.markStarts d false xs).markStarts d true ys
  let k := { k with ev := { k.ev with horizon := k.ev.horizonNow } }
  let k := match k.ev.horizon with | some h => k.runEvents d h | none => k
  let k := (k.watchSp d before).watchRemote d
  { k with heads := k.heads.map fun h =>
      if h.busy then { h with quietAt := some k.vital, idleRun := 0 }
      else if h.sawPos || h.sawNeg || (old.find? (·.index == h.index)).any (·.rejected != h.rejected) then
        { h with idleRun := 0 }
      else { h with idleRun := h.idleRun + 1 } }

/-! ## Track sections as elements -/

/-- A TS element's state in step 1 (R172). -/
def Kernel.stepTs (d : Sdi) (k : Kernel) (e : Elem) (t : TsSt) : TsSt :=
  match e.spec with
  | .ts src _ ac _ delay =>
    let fault := src != 0 && k.attr e.id 2 == 1
    let (st, stale) := if src = 0 then (match k.sec ac with | some s => (s.state, s.stale) | none => (.disturbed, false))
      else (if fault then TState.disturbed else if k.attr e.id 1 == 1 && k.attr e.id 3 == 0 then .clear else .occupied, false)
    { t with state := st, sourceFault := fault, routeClear := !stale && st == .clear && d.cycles delay ≤ t.clearRun }
  | _ => t

/-- Every TS element in step 1. -/
def Kernel.tsStep (d : Sdi) (k : Kernel) : Kernel :=
  { k with elems := k.elems.map fun x => match x.kind, d.elem x.id with
      | .ts t, some e => { x with kind := .ts (k.stepTs d e t) }
      | _, _ => x }

/-- The section states of AC sections as they stand (R172: `.02` follows a reset of step 5). -/
def Kernel.tsState (d : Sdi) (k : Kernel) (el : Nat) : Kernel :=
  match d.elem el, k.ts el with
  | some e, some t => match e.spec with
    | .ts src _ ac _ _ => if src = 0 then (match k.sec ac with
        | some s => k.setKind el (.ts { t with state := s.state })
        | none => k) else k
    | _ => k
  | _, _ => k

/-- After a command that acts within the evaluation, the count is that of the state it leaves (R172). -/
def Kernel.recountClear (k : Kernel) : Kernel :=
  { k with elems := k.elems.map fun x => match x.kind with
      | .ts t => { x with kind := .ts { t with clearRun := if t.state == .clear then max 1 t.clearRun else 0 } }
      | _ => x }

/-- At the end of an evaluation the CLEAR evaluations in a row are counted (R172). -/
def Kernel.countClear (k : Kernel) : Kernel :=
  { k with elems := k.elems.map fun x => match x.kind with
      | .ts t => { x with kind := .ts { t with clearRun := if t.state == .clear then t.clearRun + 1 else 0 } }
      | _ => x }

/-! ## Resets -/

/-- The axle-counter section of a TS element with SOURCE 0x00. -/
def Sdi.acOf (d : Sdi) (ts : Nat) : Option Nat :=
  match d.elem ts with
  | some e => (match e.spec with | .ts src _ ac _ _ => if src = 0 then some ac else none | _ => none)
  | none => none

/-- The preconditions of an axle-counter reset, with code and detail (R173). -/
def Kernel.acBar (d : Sdi) (k : Kernel) (direct : Bool) (ts : Nat) : Option (Nat × Option Nat) :=
  match d.acOf ts with
  | none => some (0x0301, none)
  | some ac =>
    match k.sec ac with
    | none => some (0x0301, none)
    | some s =>
      let heads := (d.headsOf ac).filterMap k.head
      let permit := match d.elem ts with
        | some e => (match d.profOf e with | some p => bitAt p.flags 3 | none => false)
        | none => false
      if s.state != .disturbed then some (0x0302, none)
      else if direct && !permit then some (0x0303, none)
      else if direct && !((k.routeOwners d ts).isEmpty && (k.ovlOwners d ts).isEmpty) then some (0x0305, none)
      else match heads.find? (fun h => h.state != .active || h.busy) with
        | some h => some (0x0304, some h.index)
        | none => match heads.find? (fun h => match h.quietAt with | some t => k.vital < t + 3000 | none => false) with
          | some h => some (0x0306, some h.index)
          | none => none

/-- An axle-counter reset executes (R171, R174). -/
def Kernel.acExec (d : Sdi) (k : Kernel) (direct : Bool) (n : Nat) : Kernel :=
  let ts := (k.slot n).target
  match d.acOf ts with
  | none => k
  | some ac =>
    let k := k.modSec ac fun s =>
      { s with state := if direct then .clear else .sweep, count := 0, swept := false, resets := s.resets + 1
               slot := if direct then none else some n }
    let k := (k.modSlot n fun s => { s with stage := if direct then 0x31 else 0x30 }).tsState d ts
    if direct then k.finish n .done 0 (k.acData ts ac none) else k

end Sys2Proof.Machine
end

