-- ==== Sys2Proof/Machine/FieldOps.lean ====
section
/-! DEFINITION. Field inputs and outputs as the channels judge them: physical inputs, pairs, supply, readback, partner
search, deliberate reset, in-attributes and the command words (R210 to R235, R117, R79). -/

namespace Sys2Proof.Machine

/-! ## The agreed bank sections -/

/-- A bank as the round agrees it (R54): its frame and the UNKNOWN masks of its readback. -/
structure AgreedBank where
  present  : Bool
  frameSeq : Nat
  img      : BankImage
  unkP     : Byte
  unkM     : Byte
  unkN     : BitVec 4
  deriving DecidableEq, Repr

/-- The bits of a bank that fewer than two members mark present (R54): all restrictive. -/
def BankImage.absent : BankImage := ⟨0xFF, 0, 0, BitVec.allOnes 24, BitVec.allOnes 24, 0, 0, 0⟩

/-- A bank that is absent from the agreed image, with a FRAME_SEQ. -/
def AgreedBank.absent (frameSeq : Nat) : AgreedBank :=
  ⟨false, frameSeq, BankImage.absent, 0xFF, 0xFF, 0xF⟩

/-- BANK_STAT bits (R210). -/
def BankSt.stat (b : BankSt) (i : Nat) : Bool := b.img.stat.getLsbD i
/-- CONFIG as it was agreed last. -/
def BankSt.inConfig (b : BankSt) : Bool := b.lastStat.getLsbD 6
/-- The latched frame carries held test samples. -/
def BankSt.testFrame (b : BankSt) : Bool := b.present && b.stat 5
/-- UF_CUT as it was agreed last: an evaluation in which the bank is absent changes none of these (assumption 21). -/
def BankSt.cut (b : BankSt) : Bool := b.lastStat.getLsbD 3
/-- UF_LOW as it was agreed last. -/
def BankSt.low (b : BankSt) : Bool := b.lastStat.getLsbD 2
/-- UF_WARN as it was agreed last. -/
def BankSt.warn (b : BankSt) : Bool := b.lastStat.getLsbD 1

/-- The kernel's bank of index 0 to 3. -/
def Kernel.bank (k : Kernel) (n : Nat) : BankSt := k.banks.get (Ch.ofIdx n)
/-- The kernel with bank `n` changed. -/
def Kernel.modBank (k : Kernel) (n : Nat) (f : BankSt → BankSt) : Kernel :=
  { k with banks := k.banks.modify (Ch.ofIdx n) f }
/-- A note raised when a condition holds. -/
def Kernel.noteIf (k : Kernel) (c : Bool) (src : Nat) : Kernel := if c then k.note src else k
/-- A bank source (R429). -/
def bankSrc (n off : Nat) : Nat := 0x80 + 16 * n + off
/-- An input source of a bank (R429). -/
def inputSrc (n off : Nat) : Nat := 0xE0 + 8 * n + off

/-- A bank goes `FAILED` (R211, R232). -/
def Kernel.failBank (k : Kernel) (n cause : Nat) : Kernel :=
  if (k.bank n).state == .failed then k
  else (k.modBank n fun b => { b with state := .failed, cause := cause }).note (bankSrc n 0)

/-- UF_CUT rises of the last 60 s of agreed vital time (R221, R232). -/
def Kernel.recentCuts (k : Kernel) (b : BankSt) : List Nat := b.cuts.filter fun t => k.vital < t + 60000

/-- The agreed rise of UF_CUT (R221): the third within 60 s locks the bank out. -/
def Kernel.cutRise (k : Kernel) (n : Nat) : Kernel :=
  let k := (k.modBank n fun b =>
    { b with cuts := k.recentCuts b ++ [k.vital], cutsTotal := b.cutsTotal + 1 }).note
      (bankSrc n 2)
  let b := k.bank n
  if 3 ≤ b.cuts.length && !b.locked then
    let k := k.note (bankSrc n 1)
    k.modBank n fun b => { b with locked := true, cause := if b.state == .failed then b.cause else 3 }
  else k

/-- The state of a bank that has not failed (R232). -/
def BankSt.derived (b : BankSt) : BankState :=
  if b.state == .failed then .failed
  else if b.locked then .lockedOut
  else if !b.present then .absent
  else if b.stat 6 then .config else .running

/-- One bank in step 1 (R211, R221, R232). BANK_STAT of an absent bank is judged no further (assumption 21). -/
def Kernel.stepBank (k : Kernel) (n : Nat) (a : AgreedBank) : Kernel :=
  let o := k.bank n
  let k := k.modBank n fun b =>
    { b with img := a.img, present := a.present, unkP := a.unkP, unkM := a.unkM, unkN := a.unkN
             frameSeq := if a.present then a.frameSeq else b.frameSeq
             lastStat := if a.present then a.img.stat else b.lastStat, cuts := k.recentCuts b }
  let k :=
    if a.present then
      let k := k.modBank n fun b =>
        { b with absentRun := 0, testFrames := b.testFrames + bit b.testFrame
                 lowSince := if b.low then (match b.lowSince with | some t => some t | none => some k.vital) else none }
      let b := k.bank n
      let k := if b.cut && !o.cut then k.cutRise n else k
      let k := ((k.noteIf (b.warn && !o.warn) (bankSrc n 3)).noteIf (b.low && !o.low) (bankSrc n 4)).noteIf
        (b.inConfig && !o.inConfig) (bankSrc n 7)
      if b.stat 0 then k.failBank n 1 else k
    else
      let k := k.modBank n fun b => { b with absentRun := b.absentRun + 1 }
      let k := k.noteIf (o.state != .failed) (bankSrc n 5)
      if 3 ≤ (k.bank n).absentRun then k.failBank n 2 else k
  k.modBank n fun b => { b with state := b.derived }

/-! ## Physical inputs -/

/-- An input's number 0 to 95 (R208). -/
def inputNo (bank inp : Nat) : Nat := (bank - 1) * 24 + (inp - 1)

/-- The test-pulse source of an input: its bank and 0 or 1 (R78, R213). -/
def Sdi.inputSource (d : Sdi) (n : Nat) : Nat × Nat :=
  (n / 24, (d.bindings.findSome? fun b => match b.addr with
    | .input bk i _ _ src _ _ => if inputNo bk i == n then some src else none
    | .pair bk i1 i2 .. =>
      if inputNo bk i1 == n then some 0 else if inputNo bk i2 == n then some 1 else none
    | _ => none).getD 0)

/-- Input `n`. -/
def Kernel.input (k : Kernel) (n : Nat) : InputSt := k.inputs.getD n InputSt.reset
/-- The kernel with input `n` changed. -/
def Kernel.modInput (k : Kernel) (n : Nat) (f : InputSt → InputSt) : Kernel := { k with inputs := modNth k.inputs n f }

/-- The agreed raw bits of input `n`: I, J, line flag, UNDEF (R233 .02). -/
def Kernel.rawInput (k : Kernel) (n : Nat) : Bool × Bool × Bool × Bool :=
  let m := (k.bank (n / 24)).img
  (m.iPath.getLsbD (n % 24), m.jPath.getLsbD (n % 24), m.wire.getLsbD (n % 24), m.undef.getLsbD (n % 24))

/-- What one evaluation makes of an input's latches and runs (R218). -/
def InputSt.watch (x : InputSt) (now cycleMs : Nat) (undef differ : Bool) : InputSt :=
  let since := if undef then some (x.undefSince.getD now) else none
  let clear := if undef then none else some (x.undefClear.getD now)
  let done := match clear with | some t => 1000 + t ≤ now + cycleMs | none => false
  { x with undefSince := since, undefClear := clear, undefLatched := x.undefLatched && !done
           pathRun := if differ then x.pathRun + 1 else 0 }

/-- UNDEF agreed in every evaluation of the last 100 ms (R218). -/
def InputSt.undefLong (x : InputSt) (now cycleMs : Nat) : Bool :=
  match x.undefSince with | some t => 100 + t ≤ now + cycleMs | none => false

/-- The first row of R218 that applies: the state, the cause as .03, and the latches it sets. -/
def InputSt.row (x : InputSt) (b : BankSt) (raw : Bool × Bool × Bool × Bool) (now cycleMs : Nat) : InputSt :=
  let (i, j, line, undef) := raw
  if b.state != .running then { x with state := .invalid, cause := 1 }
  else match b.lowSince with
  | some t =>
    if now < t + 10 then { x with state := .held, cause := 6 } else { x with state := .invalid, cause := 6 }
  | none =>
    if i != j then { x with state := .invalid, cause := 2 }
    else if x.crossFeed || (line && i) then { x with state := .invalid, cause := 4, crossFeed := true }
    else if line then { x with state := .invalid, cause := 3 }
    else if x.undefLatched || x.undefLong now cycleMs then
      { x with state := .invalid, cause := 5, undefLatched := true }
    else if undef then { x with state := .off, value := false, cause := 0 }
    else { x with state := if i then .on else .off, value := i, cause := 0 }

/-- An input that has just latched CROSS_FEED finds its partner: another on a different source that latched within
the same 20 ms (R218, assumption 22). -/
def Kernel.crossPartner (d : Sdi) (k : Kernel) (n : Nat) : Kernel :=
  let k := (k.modInput n fun x => { x with crossAt := k.vital }).note (inputSrc (n / 24) 2)
  match (List.range 96).find? fun m => m != n && (k.input m).crossFeed && k.vital < (k.input m).crossAt + 20
      && d.inputSource m != d.inputSource n with
  | some m => (k.modInput n fun x => { x with crossPartner := some m }).modInput m fun x => { x with crossPartner := some n }
  | none => k

/-- One input in one evaluation (R218). -/
def Kernel.stepInput (d : Sdi) (k : Kernel) (n : Nat) : Kernel :=
  let b := k.bank (n / 24)
  let raw := k.rawInput n
  let o := k.input n
  let w := o.watch k.vital d.cycleMs raw.2.2.2 (b.state == .running && raw.1 != raw.2.1)
  let x := w.row b raw k.vital d.cycleMs
  let k := k.modInput n fun _ => x
  let k := (((k.noteIf (x.pathRun == 3 && o.pathRun != 3) (inputSrc (n / 24) 0)).noteIf
    (x.cause == 3 && o.cause != 3) (inputSrc (n / 24) 1)).noteIf (x.undefLatched && !o.undefLatched)
      (inputSrc (n / 24) 3)).noteIf (x.cause == 6 && x.state == .invalid && !(o.cause == 6 && o.state == .invalid))
        (inputSrc (n / 24) 5)
  if x.crossFeed && !o.crossFeed then k.crossPartner d n else k

/-- Every input in step 1. -/
def Kernel.stepInputs (d : Sdi) (k : Kernel) : Kernel := (List.range 96).foldl (fun k n => k.stepInput d n) k

/-! ## Pairs -/

/-- The two members agree (R219). -/
def PairSt.agree (p : PairSt) (a b : InState) : Bool := ((a == .on) == (b == .on)) != p.anti
/-- Both members are in the restrictive state (R219). -/
def PairSt.restrictive (p : PairSt) (a b : InState) : Bool := a == .off && b == (if p.anti then .on else .off)

/-- One pair in one evaluation (R220). -/
def PairSt.step (p : PairSt) (a b : InState) (now cycleMs : Nat) : PairSt :=
  if a == .held || b == .held then { p with restrictSince := none }
  else
    let invalid := a == .invalid || b == .invalid
    let agree := !invalid && p.agree a b
    let rs := if p.restrictive a b then some (p.restrictSince.getD now) else none
    let p := { p with restrictSince := rs }
    match p.state with
    | .unknown | .agreed =>
      if invalid then { p with state := .unknown, value := none }
      else if agree then { p with state := .agreed, value := some (a == .on) }
      else { p with state := .discrepant, since := now, value := if p.state == .agreed then p.value else none }
    | .discrepant =>
      if p.limit ≤ now - p.since then { p with state := .fault, value := none }
      else if agree then { p with state := .agreed, value := some (a == .on) }
      else p
    | .fault =>
      match rs with
      | some t => if 100 + t ≤ now + cycleMs then { p with state := .agreed, value := some false } else p
      | none => p

/-- One pair of the kernel (R220): an entry to `FAULT` is recorded. -/
def Kernel.stepPair (d : Sdi) (k : Kernel) (p : PairSt) : Kernel :=
  let q := p.step (k.input p.first).state (k.input p.second).state k.vital d.cycleMs
  let k := { k with pairs := k.pairs.map fun (x : PairSt) => if x.first == p.first then q else x }
  k.noteIf (q.state == .fault && p.state != .fault) (inputSrc (p.first / 24) 4)

/-- Every pair in step 1. -/
def Kernel.stepPairs (d : Sdi) (k : Kernel) : Kernel := k.pairs.foldl (fun k p => k.stepPair d p) k

/-- The pairs of an image at a cold start (R220). -/
def Sdi.pairs (d : Sdi) : List PairSt :=
  d.bindings.foldl (fun l b => match b.addr with
    | .pair bk i1 i2 anti _ _ _ lim =>
      if l.any (·.first == inputNo bk i1) then l
      else l ++ [⟨inputNo bk i1, inputNo bk i2, anti, lim, .unknown, none, 0, none⟩]
    | _ => l) []

/-! ## Readback -/

/-- The kernel with vital output `n` changed. -/
def Kernel.modVout (k : Kernel) (n : Nat) (f : VoutSt → VoutSt) : Kernel := { k with vouts := modNth k.vouts n f }

/-- The binding of vital output `n`: PARALLEL_TWIN, test off-pulses on, TEST_PERIOD_MS. -/
def Sdi.voutBind (d : Sdi) (n : Nat) : Option (Nat × Bool × Bool × Nat) :=
  d.bindings.findSome? fun b => match b.addr with
    | .vout bk o par test per => if (bk - 1) * 8 + (o - 1) == n then some (b.element, par, test, per) else none
    | _ => none

/-- PARALLEL_TWIN of an output. -/
def Sdi.parallel (d : Sdi) (n : Nat) : Bool := match d.voutBind n with | some (_, p, _, _) => p | none => false

/-- The twin's command of an output, from the newest agreed Veneer frame (R228). -/
def Kernel.twinOn (k : Kernel) (n : Nat) : Bool := (k.twin.cmdSeen.get (Ch.ofIdx (n / 8))).getLsbD (n % 8)

/-- An output fails (R227). -/
def Kernel.failVout (k : Kernel) (n cause : Nat) : Kernel :=
  (k.modVout n fun v => { v with failed := true, cause := cause, partner := none, nextTest := none, onRun := 0 }).note
    (0xC0 + n)

/-- RB_P and RB_M of an output in the agreed frame, and whether either is UNKNOWN. -/
def Kernel.readback (k : Kernel) (n : Nat) : Bool × Bool × Bool :=
  let b := k.bank (n / 8)
  (b.img.rbP.getLsbD (n % 8), b.img.rbM.getLsbD (n % 8), b.unkP.getLsbD (n % 8) || b.unkM.getLsbD (n % 8))

/-- The readback of a bank may be judged (R225). -/
def Kernel.judgeable (k : Kernel) (bank : Nat) : Bool :=
  let b := k.bank bank
  b.state == .running && !b.stat 2 && !b.stat 3 && !b.stat 4

/-- The latched frame is the test frame of output `n` (R224). -/
def Kernel.testOf (k : Kernel) (n : Nat) : Bool :=
  (k.bank (n / 8)).testFrame && k.tests.get (Ch.ofIdx (n / 8)) == some n

/-- The cause by which an output's readback fails it, 0 when it is healthy (R225, R228). -/
def verdict (on test parallel : Bool) (p m : Bool) : Nat :=
  if test then (if p then 5 else if m then 6 else 0)
  else
    let c := if on then (if p && m then 0 else if p then 4 else 3) else (if p then 1 else if m then 2 else 0)
    if c != 0 && parallel then 8 else c

/-- The twin's command of an output as the judgement sees it (R228): how many evaluations it has been unchanged. -/
def VoutSt.seeTwin (v : VoutSt) (tw : Bool) : VoutSt :=
  { v with twinCmd := tw, twinRun := if tw == v.twinCmd then v.twinRun + 1 else 0 }

/-- The judgement of one output (R225, R228). -/
def Kernel.judgeVout (d : Sdi) (k : Kernel) (n : Nat) : Kernel :=
  let k := k.modVout n fun v => v.seeTwin (k.twinOn n)
  let v := k.vout n
  let (p, m, unk) := k.readback n
  let par := d.parallel n
  let twinOk := !par || (2 ≤ v.sameRun && 2 ≤ v.twinRun && 3 ≤ k.twin.frames)
  let ok := k.judgeable (n / 8) && !unk && !v.failed && twinOk
  let test := k.testOf n
  let rb := BitVec.ofNat 4 (bit p + 2 * bit m + 4 * bit unk + 8 * bit (k.bank (n / 8)).testFrame)
  let k := k.modVout n fun v => { v with readback := rb, judged := ok }
  if !ok then k
  else
    let c := verdict (v.cmd || (par && k.twinOn n)) test par p m
    if c = 0 then (if test then k.modVout n fun v => { v with tests := v.tests + 1 } else k)
    else
      let k := k.failVout n c
      if c = 1 then k.modBank (n / 8) fun b =>
        if b.search.isNone && b.waiting.isEmpty then { b with search := some (n, []) }
        else { b with waiting := b.waiting ++ [n] }
      else k

/-- X and Y are wired together (R226). -/
def Kernel.wire (k : Kernel) (x y : Nat) : Kernel :=
  let had := (k.vout y).failed
  let k := k.modVout x fun v => { v with partner := some y }
  let k := if had && (k.vout y).cause == 7 then k
           else (k.noteIf (!had) (0xC0 + y)).modVout y fun v =>
             { v with failed := true, cause := 7, partner := some x, nextTest := none, onRun := 0 }
  k.modBank (x / 8) fun b =>
    { b with waiting := b.waiting.filter (· != x)
             search := match b.search with | some (z, _) => if z = x then none else b.search | none => none }

/-- Every test frame is judged for the outputs of the bank that hold P_FEED without a partner (R226). -/
def Kernel.partnerScan (k : Kernel) (bank : Nat) : Kernel :=
  match k.tests.get (Ch.ofIdx bank) with
  | some y =>
    if k.testOf y && k.judgeable bank then
      ((List.range 8).map (bank * 8 + ·)).foldl (fun k x =>
        let v := k.vout x
        let (p, _, _) := k.readback x
        if x != y && v.failed && v.cause == 1 && v.partner.isNone && !p && !(k.bank bank).unkP.getLsbD (x % 8) then
          k.wire x y
        else k) k
    else k
  | none => k

/-- A partner search that waits starts in the evaluation after the running one has ended (R226). -/
def BankSt.nextSearch (b : BankSt) (k : Kernel) : BankSt :=
  let live := fun (n : Nat) => (k.vout n).failed && (k.vout n).cause == 1 && (k.vout n).partner.isNone
  let w := b.waiting.filter live
  match b.search with
  | some (x, _) => if live x then { b with waiting := w } else { b with search := none, waiting := w }
  | none => match w with
    | x :: l => { b with search := some (x, []), waiting := l }
    | [] => { b with waiting := [] }

/-- One non-vital output (R229): a mismatch in two evaluations in a row is recorded and counted once a run. Readback is not judged
where it is UNKNOWN or UF_LOW is agreed (R54, R221). -/
def NvSt.step (v : NvSt) (rb unk low : Bool) : NvSt :=
  let v := { v with rb := rb, unk := unk }
  if unk || low then { v with run := 0 }
  else if rb == v.cmd then { v with run := 0, counted := false }
  else if 1 ≤ v.run && !v.counted then { v with run := v.run + 1, counted := true, mismatches := v.mismatches + 1 }
  else { v with run := v.run + 1 }

/-- Every non-vital output in step 1 (R229). -/
def Kernel.stepNv (k : Kernel) : Kernel :=
  (List.range 16).foldl (fun k n =>
    let b := k.bank (n / 4)
    let o := k.nvs.getD n NvSt.reset
    let v := o.step (b.img.rbN.getLsbD (n % 4)) (b.unkN.getLsbD (n % 4)) b.low
    let k := { k with nvs := modNth k.nvs n fun _ => v }
    k.noteIf (v.mismatches != o.mismatches) (bankSrc (n / 4) 6)) k

/-- The readback part of step 1. -/
def Kernel.stepReadback (d : Sdi) (k : Kernel) : Kernel :=
  let k := [0, 1, 2, 3].foldl (fun k n => k.modBank n fun b => b.nextSearch k) k
  let k := (List.range 32).foldl (fun k n => k.judgeVout d n) k
  ([0, 1, 2, 3].foldl Kernel.partnerScan k).stepNv

/-- Banks, inputs and pairs in step 1 (R218 to R221). -/
def Kernel.fieldStep (d : Sdi) (k : Kernel) (ag : Quad AgreedBank) : Kernel :=
  let k := [0, 1, 2, 3].foldl (fun k n => k.stepBank n (ag.get (Ch.ofIdx n))) k
  (k.stepInputs d).stepPairs d

/-! ## In-attributes -/

/-- A field in a payload (R78): `width` bits from bit `bt` of byte `off` on, bit 0 the least significant of a byte
(assumption 23). -/
def fieldBits (l : List Byte) (off bt width : Nat) : Option Nat :=
  if off * 8 + bt + width ≤ l.length * 8 then some (ofLe (slice l off 3) / 2 ^ bt % 2 ^ width) else none

/-- A field written into a payload. -/
def setFieldBits (l : List Byte) (off bt width v : Nat) : List Byte :=
  if off * 8 + bt + width ≤ l.length * 8 then
    let m := min 3 (l.length - off)
    let old := ofLe (slice l off m)
    let new := old - (old / 2 ^ bt % 2 ^ width) * 2 ^ bt + (v % 2 ^ width) * 2 ^ bt
    l.take off ++ le m new ++ l.drop (off + m)
  else l

/-- The restrictive value of an in-attribute (R117, R118, R172). -/
def restrictiveVal (s : ElemSpec) (a : Nat) : Nat :=
  match s with
  | .pt .. => bit (a == 3)
  | .lx .. => bit (a == 3)
  | .ts .. => bit (a == 2 || a == 3)
  | _ => 0

/-- The session a partner holds. -/
def Kernel.sessOf (k : Kernel) (p : Nat) : Option (Nat × SessSt) :=
  (k.sess.zipIdx.find? fun x => x.1.state != .unbound && x.1.partner == p).map fun x => (x.2, x.1)

/-- The newest fresh data of a partner (R79, R276, R277). -/
def Kernel.partnerData (k : Kernel) (p : Nat) : Option (List Byte) :=
  match k.sessOf p with
  | some (_, s) => if s.state == .open_ && !s.restrictive && k.vital ≤ s.deadline then some s.dataIn else none
  | none => none

/-- The newest fresh payload of a ring slot (R79). -/
def Kernel.ringData (k : Kernel) (node slot fresh : Nat) : Option (List Byte) :=
  (k.ring.find? fun x => x.1 == node && x.2.1 == slot && k.cycle ≤ x.2.2.1 + fresh).map (·.2.2.2)

/-- The value a binding yields, none when it yields no valid agreed value (R117, R218, R219, R172). -/
def Kernel.bindVal (k : Kernel) (b : Binding) : Option Nat :=
  let prev := (k.attrs.find? fun v => v.el == b.element && v.attr == b.attr && v.valid).map (·.val)
  match b.addr with
  | .input bk i inv .. =>
    match (k.input (inputNo bk i)).state with
    | .on => some (bit (!inv))
    | .off => some (bit inv)
    | .held => prev
    | .invalid => none
  | .pair bk i1 .. => (k.pairs.find? (·.first == inputNo bk i1)).bind fun p => p.value.map bit
  | .head n pos neg fault => (k.head n).map fun h =>
      bit ((pos && h.sawPos) || (neg && h.sawNeg) || (fault && h.state != .active))
  | .stratus node slot off bt w fresh => (k.ringData node slot fresh).bind fun l => fieldBits l off bt w
  | .field p off bt w => (k.partnerData p).bind fun l => fieldBits l off bt w
  | _ => none

/-- Every bound in-attribute in step 1 (R117). -/
def Kernel.stepAttrs (d : Sdi) (k : Kernel) : Kernel :=
  { k with attrs := d.elems.flatMap fun e => (e.binds.filter fun b => b.attr < 0x80).map fun b =>
      match k.bindVal b with
      | some v => ⟨e.id, b.attr, v, true⟩
      | none => ⟨e.id, b.attr, restrictiveVal e.spec b.attr, false⟩ }

/-! ## The command words -/

/-- The module commands its outputs (R323). -/
def Kernel.drives (k : Kernel) : Bool := k.twin.role ≤ 1

/-- Vital outputs of a bank may be commanded on (R221, R343). -/
def Kernel.bankUsable (k : Kernel) (n : Nat) : Bool :=
  let b := k.bank n
  b.state != .failed && !b.locked && !b.cut

/-- The value an output's binding takes in step 6. -/
def Kernel.outVal (d : Sdi) (k : Kernel) (p : Binding → Bool) : Bool :=
  match d.bindings.find? p with | some b => k.outAttr d b.element b.attr != 0 | none => false

/-- A binding is that of vital output `n`. -/
def Binding.isVout (n : Nat) (b : Binding) : Bool := b.vout == some n
/-- A binding is that of non-vital output `n`. -/
def Binding.isNv (n : Nat) (b : Binding) : Bool :=
  match b.addr with | .nv bk o .. => (bk - 1) * 4 + (o - 1) == n | _ => false

/-- The command of a vital output (R221, R227, R323, R343): in the overlap of a handover a paralleled output needs the twin's
command as well (R336). -/
def Kernel.commanded (d : Sdi) (k : Kernel) (n : Nat) : Bool :=
  k.drives && k.outVal d (Binding.isVout n) && !(k.vout n).failed && !k.held.contains n && k.bankUsable (n / 8)
    && (!(k.twin.overlap && d.parallel n) || k.twinOn n)

/-- One vital output in step 6. -/
def Kernel.outVout (d : Sdi) (k : Kernel) (n : Nat) : Kernel :=
  let on := k.commanded d n
  k.modVout n fun v =>
    { v with cmd := on, onRun := if on then v.onRun + 1 else 0
             sameRun := if on == v.cmd then v.sameRun + 1 else 0
             nextTest := if on then v.nextTest else none }

/-- An output may be tested (R224, R226, R228). -/
def Kernel.testable (d : Sdi) (k : Kernel) (n : Nat) : Bool :=
  match d.voutBind n with
  | some (_, par, test, _) => test && (k.vout n).cmd && !(k.vout n).failed && !(par && k.twinOn n)
  | none => false

/-- An output is due for its test (R224). -/
def Kernel.testDue (d : Sdi) (k : Kernel) (n : Nat) : Bool :=
  k.testable d n && 2 ≤ (k.vout n).onRun && (match (k.vout n).nextTest with | some t => t ≤ k.vital | none => true)

/-- A test of an output is requested in P5 (R224). -/
def Kernel.requestTest (d : Sdi) (k : Kernel) (n : Nat) : Kernel :=
  let per := match d.voutBind n with | some (_, _, _, p) => p | none => 0
  let k := k.modVout n fun v =>
    { v with nextTest := some (k.vital + per), lastTest := some k.vital
             testGap := match v.lastTest with | some t => k.vital - t | none => v.testGap }
  { k with tests := k.tests.set (Ch.ofIdx (n / 8)) (some n) }

/-- The test of a bank in this evaluation: a partner search first, then the due outputs in ascending number (R224,
R226). -/
def Kernel.chooseTest (d : Sdi) (k : Kernel) (bank : Nat) : Kernel :=
  let outs := (List.range 8).map (bank * 8 + ·)
  let k := { k with tests := k.tests.set (Ch.ofIdx bank) none }
  let (k, found) := match (k.bank bank).search with
    | some (x, done) =>
      match outs.find? fun n => n != x && k.testable d n && done.all (· < n) with
      | some n => ((k.modBank bank fun b => { b with search := some (x, n :: done) }).requestTest d n, true)
      | none => (k.modBank bank fun b => { b with search := none }, false)
    | none => (k, false)
  if found then k
  else match outs.find? fun n => k.testDue d n with
    | some n => k.requestTest d n
    | none => k

/-- The bank command word (R63). -/
def Kernel.word (k : Kernel) (bank : Nat) : W16 :=
  let q := ((List.range 8).map fun i => bit (k.vout (bank * 8 + i)).cmd * 2 ^ i).sum
  let n := ((List.range 4).map fun i => bit (k.nvs.getD (bank * 4 + i) NvSt.reset).cmd * 2 ^ i).sum
  BitVec.ofNat 16 (n * 256 + q)

/-- Vital and non-vital outputs, tests and command words in step 6 (R63, R224). -/
def Kernel.outputStep (d : Sdi) (k : Kernel) : Kernel :=
  let k := (List.range 32).foldl (fun k n => k.outVout d n) k
  let k := { k with nvs := k.nvs.zipIdx.map fun (p : NvSt × Nat) => { p.1 with cmd := k.drives && k.outVal d (Binding.isNv p.2) } }
  let k := [0, 1, 2, 3].foldl (fun k n => k.chooseTest d n) k
  { k with cmds := ⟨k.word 0, k.word 1, k.word 2, k.word 3⟩ }

/-- The tests of outputs that are commanded on (R224). -/
def Kernel.liveTests (k : Kernel) : Quad (Option Nat) :=
  [0, 1, 2, 3].foldl (fun q n => match q.get (Ch.ofIdx n) with
    | some o => if (k.vout o).cmd then q else q.set (Ch.ofIdx n) none
    | none => q) k.tests

/-- The outputs recomputed after a command that acts as a part of the current evaluation: the runs stand as they are, and so does the
test of an output that is still commanded on. -/
def Kernel.refreshOutputs (d : Sdi) (k : Kernel) : Kernel :=
  let k := (List.range 32).foldl (fun k n => k.modVout n fun v =>
    let on := k.commanded d n
    { v with cmd := on, onRun := if on then max 1 v.onRun else 0, nextTest := if on then v.nextTest else none
             sameRun := if on == v.cmd then v.sameRun else 0 }) k
  let k := { k with nvs := k.nvs.zipIdx.map fun (p : NvSt × Nat) => { p.1 with cmd := k.drives && k.outVal d (Binding.isNv p.2) } }
  let k := { k with tests := k.liveTests }
  { k with cmds := ⟨k.word 0, k.word 1, k.word 2, k.word 3⟩ }

/-! ## Deliberate reset -/

/-- A reset target is in range (R235). -/
def targetOk (t : Nat) : Bool :=
  match t / 4096 with
  | 1 => t % 4096 < 96
  | 2 => t % 4096 < 32
  | 3 => 1 ≤ t % 4096 && t % 4096 ≤ 4
  | _ => false

/-- A write of TARGET is agreed (R230). -/
def Kernel.resetTarget (k : Kernel) (cl : Client) (t : W16) : Kernel :=
  { k with reset := ⟨some cl, t, BitVec.ofNat 16 k.cycle ^^^ t, k.vital, 0xFFFF⟩ }

/-- The pending reset ends with a result (R230). -/
def Kernel.endReset (k : Kernel) (result : W16) : Kernel :=
  { k with reset := { k.reset with client := none, code := 0, result := result } }

/-- The reset of R230 executes at the agreed confirm: the result and what it changes. -/
def Kernel.doReset (k : Kernel) (t : Nat) : Kernel × W16 :=
  let n := t % 4096
  if t / 4096 = 1 then
    if !(k.input n).crossFeed then (k, 0x0E01)
    else if (k.rawInput n).2.2.1 then (k, 0x0E02)
    else (k.modInput n fun x => { x with crossFeed := false, crossPartner := none }, 0)
  else if t / 4096 = 2 then
    let v := k.vout n
    let (p, m, unk) := k.readback n
    if !v.failed then (k, 0x0E01)
    else if p || m || unk || (match v.partner with | some y => (k.vout y).cmd && (k.vout y).failed | none => false) then
      (k, 0x0E02)
    else ({ k.modVout n fun v => { v with failed := false, cause := 0, partner := none } with
            notes := k.notes ++ [.local_ "unisolate" (0xC0 + n)] }, 0)
  else
    let b := k.bank (n - 1)
    if b.state == .failed then
      ({ k.modBank (n - 1) fun b =>
          { b with state := if b.locked then .lockedOut else .config, cause := if b.locked then 3 else 0, absentRun := 0 }
          with notes := k.notes ++ [.local_ "unisolate" (bankSrc (n - 1) 0), .local_ "restartBank" (n - 1)] }, 0)
    else if b.locked then
      if b.warn || !b.present then (k, 0x0E02)
      else ({ (k.modBank (n - 1) fun b => { b with locked := false, cause := 0, cuts := [] }).modBank (n - 1)
                fun b => { b with state := b.derived }
              with notes := k.notes ++ [.local_ "unisolate" (bankSrc (n - 1) 1)] }, 0)
    else (k, 0x0E01)

/-- A write of CONFIRM by the client that named the target is agreed (R230). -/
def Kernel.resetConfirm (k : Kernel) (code : W16) : Kernel :=
  if code != k.reset.code then k.endReset 0x0E03
  else let (k, r) := k.doReset k.reset.target.toNat
       k.endReset r

/-- The confirm window of 30 s ends (R230). -/
def Kernel.resetTimeout (k : Kernel) : Kernel :=
  if k.reset.client.isSome && 30000 < k.gone k.reset.since then k.endReset 0x0E04 else k

/-- Frequencies and amplitude in force for a head (R81, R200). -/
def Kernel.exciteOf (d : Sdi) (k : Kernel) (head : Nat) : Nat × Nat × Nat :=
  match k.excite.find? (·.1 == head) with
  | some x => x.2
  | none => match d.head head with | some h => (h.freq1, h.freq2, h.ampl) | none => (0, 0, 0)

end Sys2Proof.Machine
end

