-- ==== Sys2Proof/Machine/ViewKernel.lean ====
section
/-! DEFINITION. What a read of the objects of the kernel's state returns: routes, elements, slots, sections, heads, field
I/O, sessions, station data (R69, R90, R91, R115, R120, R142, R157, R180 to R182, R232 to R235, R285). -/

namespace Sys2Proof.Machine

/-- No station data: nothing is bound, nothing exists. The spec gives the values that come from the station data no value without
it; the cycle length then is 40 ms, at which R387 judges station data, so 0x2101.01 reads 40 and 0x2101.07 reads 30,420
(DESIGN CHOICE, assumption 102). -/
def Sdi.none_ : Sdi where
  format := 0
  stationId := 0
  revision := 0
  buildTime := 0
  cycleMs := 40
  dualMin := 0
  keyId := 0
  crcC := 0
  crcH := 0
  profiles := []
  elems := []
  routes := []
  lists := []
  partners := []
  heads := []
  sections := []
  budget := ⟨0, 0, 0, 0, 0, 0, 0, 0⟩

/-- The station data in use. -/
def State.dat (s : State) : Sdi := s.sdi.sdi.getD Sdi.none_

/-- The module is the reference of a dual-fed head (R202): it drives the head alone, or it drives it as the `ACTIVE` or the
`SINGLE` module. -/
def State.isRef (s : State) (head : Nat) : Bool :=
  match s.sens.feeds[head]? with
  | some f => f.drive != .none && f.drive != .joining && (!f.partner || s.kernel.twin.role ≤ 1)
  | none => false

/-! ## Values -/

/-- An UNSIGNED8. -/
def u8 (n : Nat) : List Byte := [byteOf n]
/-- An UNSIGNED16. -/
def u16 (n : Nat) : List Byte := le 2 n
/-- An UNSIGNED32. -/
def u32 (n : Nat) : List Byte := le 4 n
/-- An UNSIGNED64. -/
def u64 (n : Nat) : List Byte := le 8 n
/-- An INTEGER16. -/
def i16 (n : Int) : List Byte := le 2 (BitVec.ofInt 16 n).toNat
/-- An INTEGER32. -/
def i32 (n : Int) : List Byte := le 4 (BitVec.ofInt 32 n).toNat
/-- A string of fixed length, cut or filled with a byte. -/
def octets (n : Nat) (fill : Byte) (l : List Byte) : List Byte := (l ++ List.replicate n fill).take n
/-- The bits of a list of indices. -/
def bitsOf (l : List Nat) : Nat := (l.eraseDups.map (2 ^ ·)).sum

/-! ## Routes and elements -/

/-- 0x5000 + ROUTE_ID (R115). -/
def Kernel.readRoute (d : Sdi) (k : Kernel) (q : RouteSt) (r : Route) (sub : Nat) : List Byte :=
  let g := d.gov r
  match sub with
  | 0 => u8 0x0E
  | 1 => u8 q.state.code
  | 2 => u8 (bit q.ovlHeld * 16 + bit q.emergency * 8 + bit q.autoWork * 4 + bit q.dropped * 2 + bit q.armed)
  | 3 => u8 (q.slot.getD 0xFF)
  | 4 => u8 (g.depth * 16 + bit g.area * 8 + bit g.swing * 4 + bit g.auto * 2 + bit g.overlap)
  | 5 => u16 (q.ovlAlt.getD 0xFFFF)
  | 6 => u8 (match q.timer with | none => 0 | some (.overlap, _) => 1 | some (.approach, _) => 2 | some (.emergency, _) => 3)
  | 7 => u32 (match q.timer with | none => 0 | some (_, c) => (c - k.cycle) * d.cycleMs)
  | 8 => u64 (bitsOf q.passed)
  | 9 => u64 (bitsOf q.released)
  | 0x0A => u16 g.ovlS
  | 0x0B => u16 g.apprS
  | 0x0C => u16 g.emergS
  | 0x0D => u16 q.lastResult
  | _ => u16 q.lastDetail

/-- TYPE of an element (R74). -/
def ElemSpec.typ : ElemSpec → Nat
  | .ts .. => 1 | .pt .. => 2 | .sg .. => 3 | .dr .. => 4 | .kl .. => 5 | .lx .. => 6 | .bd .. => 7 | .bk .. => 8

/-- FAULT of a track section (R172). -/
def Kernel.tsFault (d : Sdi) (k : Kernel) (e : Elem) (t : TsSt) : Nat :=
  match e.spec with
  | .ts 0 _ ac _ _ =>
    let off := (d.headsOf ac).any fun h => match k.head h with | some x => x.state != .active | none => true
    bit (match k.sec ac with | some s => s.stale | none => false) + bit off * 2
  | _ => bit t.sourceFault * 4

/-- FAULT of an element (R142, R172). -/
def Kernel.fault (d : Sdi) (k : Kernel) (e : Elem) (x : ElemSt) : Nat :=
  let out := bit (k.outputFailed d e.id) * 16
  match x.kind with
  | .pt _ => k.ptFault d e.id
  | .sg g => out + bit g.stopUnproven * 8 + bit g.wrongProof * 4 + bit g.lampFault
  | .kl l => out + bit (l.state == .fault) * 2
  | .lx l => out + bit l.faultSeen * 4 + bit l.closeTimeout
  | .bd b => out + bit (b == .unavailable)
  | .bk b => out + bit (b.state == .unavailable)
  | .ts t => out + k.tsFault d e t

/-- 0x4000 + element id (R142). -/
def Kernel.readElem (d : Sdi) (k : Kernel) (e : Elem) (x : ElemSt) (sub : Nat) : List Byte :=
  let owners := (k.routeOwners d e.id ++ k.ovlOwners d e.id).eraseDups
  match sub with
  | 0 => u8 0x0A
  | 1 => u8 e.spec.typ
  | 2 => u8 x.kind.code
  | 3 => u8 (k.locks d e.id)
  | 4 => u16 (owners.getD 0 0xFFFF)
  | 5 => u16 (owners.getD 1 0xFFFF)
  | 6 => u8 (k.flankOwners e.id).length
  | 7 => u8 (match x.kind with
    | .pt p => if p.state == .moving then p.target.getD 0xFF else 0xFF
    | .sg g => g.demand
    | _ => 0xFF)
  | 8 => u8 (k.fault d e x)
  | 9 => u16 (match x.kind with | .pt p => p.lastMs | _ => 0)
  | _ => u8 e.profile

/-! ## Slots -/

/-- 0x3000 + slot (R157). -/
def SlotSt.read (x : SlotSt) (sub : Nat) : List Byte :=
  match sub with
  | 0 => u8 0x0A
  | 1 => u16 x.op
  | 2 => u8 x.state.code
  | 4 => u64 (x.okind * 2 ^ 56 + x.level * 2 ^ 48 + x.identity % 2 ^ 32)
  | 5 => u16 x.progress
  | 6 => u16 x.result
  | 7 => x.data
  | 8 => u32 x.seq.toNat
  | 9 => (le 4 (x.started % 1000000000)) ++ le 6 (x.started / 1000000000)
  | _ => u16 x.target

/-- The FREE slots. -/
def Kernel.freeSlots (k : Kernel) : List Nat := (List.range 96).filter fun n => (k.slot n).state == .free

/-! ## Axle counting -/

/-- DISTURB_CAUSE (R180 .05). -/
def DCause.code : DCause → Nat
  | .none => 0 | .coldStart => 1 | .negative => 2 | .overflow => 3 | .headNotActive => 4 | .reject => 5 | .sweepAbort => 6
  | .unaligned => 7

/-- FAULT_CAUSE of a head (R181 .0B). -/
def HCause.code : HCause → Nat
  | .none => 0 | .systemSilent => 1 | .remoteGap => 2 | .remoteSilent => 3 | .sensorProcessor => 4 | .reported => 5

/-- 0x5800 + section (R180). -/
def Kernel.readSec (d : Sdi) (k : Kernel) (x : SectionSt) (sub : Nat) : List Byte :=
  let ts := d.tsOf x.index
  match sub with
  | 0 => u8 0x0C
  | 1 => u8 x.state.code
  | 2 => i16 x.count
  | 3 => u8 (bit (k.clear ts) * 16 + bit x.aligned * 8 + bit x.swept * 4 + bit x.stale * 2 + bit (k.secBusy d x.index))
  | 4 => u16 ts
  | 5 => u8 x.cause.code
  | 6 => u16 (x.causeHead.getD 0xFFFF)
  | 7 => u32 x.axlesIn
  | 8 => u32 x.axlesOut
  | 9 => u32 x.disturbedAt
  | 0x0A => u16 x.resets
  | 0x0B => u8 (x.slot.getD 0xFF)
  | _ => u8 (d.headsOf x.index).length

/-- 0x5A00 + head (R181). -/
def Kernel.readHead (k : Kernel) (h : HeadSt) (sub : Nat) : List Byte :=
  match sub with
  | 0 => u8 0x0D
  | 1 => u8 h.state.code
  | 2 => u8 (bit (h.busy1 || h.pendX != 0) + 2 * bit (h.busy2 || h.pendY != 0)
      + 4 * bit (!h.pulses.isEmpty || h.pendX != 0 || h.pendY != 0))
  | 3 => u32 h.pos
  | 4 => u32 h.neg
  | 5 => u32 h.rock
  | 6 => u32 h.partial_
  | 7 => u32 h.rejected
  | 8 => u8 (match h.lastReject with | some r => r.code | none => 0)
  | 9 => u16 h.lastSpeed
  | 0x0A => u8 h.lastOverlap
  | 0x0B => u8 h.cause.code
  | 0x0C => u32 (h.remoteSeq.getD 0)
  | _ => u16 (match h.reportAt with | some t => k.gone t | none => 0)

/-- 0x2401 (R182). -/
def Kernel.readEvaluator (k : Kernel) (sub : Nat) : List Byte :=
  let n := fun (p : SectionSt → Bool) => (k.sections.filter p).length
  match sub with
  | 0 => u8 7
  | 1 => u8 (bit k.ev.xOk + 2 * bit k.ev.yOk + 4 * bit k.ev.valid)
  | 2 => i32 (k.ev.lastTheta * 500)
  | 3 => u16 (k.ev.delta * 500).toNat
  | 4 => u16 (n fun s => s.state == .disturbed)
  | 5 => u16 (n fun s => s.state == .occupied || s.state == .sweep)
  | 6 => u16 (k.heads.filter fun h => h.state != .active).length
  | _ => u32 k.rejects

/-! ## Field I/O -/

/-- STATE of a bank (R232 .02). -/
def BankState.code : BankState → Nat
  | .running => 0 | .config => 1 | .absent => 2 | .failed => 3 | .lockedOut => 4

/-- 0x2600 + bank (R232). -/
def Kernel.readBank (k : Kernel) (b : BankSt) (sub : Nat) : List Byte :=
  match sub with
  | 0 => u8 8
  | 1 => [b.img.stat]
  | 2 => u8 b.state.code
  | 3 => u16 b.frameSeq
  | 4 => u8 (k.recentCuts b).length
  | 5 => u32 b.cutsTotal
  | 6 => u16 b.lineFaults
  | 7 => u32 b.testFrames
  | _ => u8 b.cause

/-- The first element bound to a place that `p` picks, 0 when none is, with the binding. -/
def Sdi.boundTo (d : Sdi) (p : BindAddr → Bool) : Option Binding := d.bindings.find? fun b => p b.addr

/-- The binding of input `n`. -/
def Sdi.inputBinding (d : Sdi) (n : Nat) : Option Binding :=
  d.boundTo fun a => match a with
    | .input b i .. => inputNo b i == n
    | .pair b i j .. => inputNo b i == n || inputNo b j == n
    | _ => false

/-- STATE of an input (R233 .01). -/
def InState.code : InState → Nat | .off => 0 | .on => 1 | .invalid => 2 | .held => 3

/-- PAIR_STATE (R233 .07). -/
def PairState.code : PairState → Nat | .unknown => 0 | .agreed => 1 | .discrepant => 2 | .fault => 3

/-- 0x5C00 + input (R233). -/
def Kernel.readInput (d : Sdi) (k : Kernel) (n sub : Nat) : List Byte :=
  let x := k.input n
  let (i, j, w, u) := k.rawInput n
  let pair := k.pairs.find? fun p => p.first == n || p.second == n
  match sub with
  | 0 => u8 8
  | 1 => u8 x.state.code
  | 2 => u8 (bit i + 2 * bit j + 4 * bit w + 8 * bit u)
  | 3 => u8 x.cause
  | 4 => u16 (match d.inputBinding n with | some b => b.element | none => 0)
  | 5 => u16 (match (d.inputBinding n).map Binding.addr with
    | some (.input _ _ _ _ _ _ deb) => deb
    | some (.pair _ _ _ _ _ _ deb _) => deb
    | _ => 1000)
  | 6 => u8 (match pair with | some p => if p.first == n then p.second else p.first | none => 0xFF)
  | 7 => u8 (match pair with | some p => p.state.code | none => 0xFF)
  | _ => u8 (x.crossPartner.getD 0xFF)

/-- 0x5C60 + vital output (R234). -/
def Kernel.readVout (d : Sdi) (k : Kernel) (n sub : Nat) : List Byte :=
  let x := k.vout n
  let b := d.bindings.find? fun b => b.vout == some n
  match sub with
  | 0 => u8 9
  | 1 => u8 (bit x.cmd)
  | 2 => u8 x.readback.toNat
  | 3 => u8 (if x.failed then 1 else if x.judged then 0 else 2)
  | 4 => u8 x.cause
  | 5 => u8 (x.partner.getD 0xFF)
  | 6 => u16 (match b with | some b => b.element | none => 0)
  | 7 => u16 (match b.map Binding.addr with | some (.vout _ _ _ test period) => if test then period else 0 | _ => 0)
  | 8 => u16 x.testGap
  | _ => u32 x.tests

/-- 0x5C80 + non-vital output (R234). -/
def Kernel.readNv (d : Sdi) (k : Kernel) (n sub : Nat) : List Byte :=
  let x := k.nvs.getD n NvSt.reset
  let (safe, sil) := match (d.boundTo fun a => match a with | .nv b o .. => b == n / 4 + 1 && o == n % 4 + 1 | _ => false).map
      Binding.addr with
    | some (.nv _ _ safe sil) => (safe, sil)
    | _ => (0, 100)
  match sub with
  | 0 => u8 5
  | 1 => u8 (bit x.cmd)
  | 2 => u8 (bit x.rb + 2 * bit x.unk)
  | 3 => u32 x.mismatches
  | 4 => u8 safe
  | _ => u16 sil

/-! ## Sessions, agreement, station data -/

/-- STATE of a session index (R285 .01). -/
def SessState.code : SessState → Nat | .unbound => 0 | .opening => 1 | .open_ => 2 | .holdOff => 3

/-- 0x5D00 + index (R285). -/
def Kernel.readSess (k : Kernel) (x : SessSt) (sub : Nat) : List Byte :=
  match sub with
  | 0 => u8 0x0C
  | 1 => u8 x.state.code
  | 2 => u16 (if x.state == .unbound then 0xFFFF else x.partner)
  | 3 => u16 x.sid
  | 4 => u32 (match k.partners[x.partner]? with | some p => if x.state == .unbound then 0 else p.txSeq | none => 0)
  | 5 => u32 x.rxSeq
  | 6 => u32 x.confSeq
  | 7 => u32 (if x.confAny then k.vital - x.confEcho else 0)
  | 8 => u32 x.ageMax
  | 9 => u32 x.lost
  | 0x0A => u32 x.single
  | 0x0B => u8 x.lastClose
  | _ => u32 x.openings

/-- 0x2201 (R69). -/
def AgreeStats.read (t : AgreeStats) (sub : Nat) : List Byte :=
  match sub with
  | 0 => u8 0x0B
  | 1 => u32 t.rounds
  | 2 => u32 t.rawBitDiff
  | 3 => u32 t.restrictive
  | 4 => u32 t.deferred
  | 5 => u32 t.lateFilled
  | 6 => u32 t.excluded
  | 7 => u32 t.attempt2
  | 8 => u16 t.tenonDissent
  | 9 => u16 t.outputDissent
  | _ => u8 t.lastUsed.toNat

/-- 90 % of P3 in microseconds (R17, R22 .07). -/
def p3BudgetUs (cycleMs : Nat) : Nat := match cycleMs with | 10 => 6120 | 20 => 14220 | _ => 30420

/-- 0x2301 (R90). BUDGET_EST_US and BUDGET_MEAS_US are UNSIGNED16; of an estimate above 65,535 µs, which no check refuses, the
rule does not say what the sub-index shows: it is taken modulo 65,536 (DESIGN CHOICE, assumption 103). -/
def SdiUse.read (u : SdiUse) (sub : Nat) : List Byte :=
  let some_ := fun (f : Sdi → Nat) => match u.sdi with | some d => f d | none => 0
  match sub with
  | 0 => u8 0x17
  | 1 => u8 (u.slot.getD 0xFF)
  | 2 => u8 u.state
  | 3 => u32 (some_ fun d => d.stationId.toNat)
  | 4 => u32 (some_ fun d => d.revision.toNat)
  | 5 => u16 0x0100
  | 6 => le 6 (some_ (·.buildTime))
  | 7 => u32 (some_ fun d => d.crcC.toNat)
  | 8 => u32 (some_ fun d => d.crcH.toNat)
  | 9 => u8 u.code
  | 0x0A => u8 u.table
  | 0x0B => u32 u.record
  | 0x0C => u8 (u.refused.getD 0xFF)
  | 0x0D => u16 (some_ (·.elems.length))
  | 0x0E => u16 (some_ (·.routes.length))
  | 0x0F => u8 (some_ (·.profiles.length))
  | 0x10 => u16 (some_ (·.sections.length))
  | 0x11 => u16 (some_ (·.heads.length))
  | 0x12 => u16 (some_ (·.partners.length))
  | 0x13 => u16 (some_ fun d => (d.budget.totalNs + 999) / 1000)
  | 0x14 => u16 u.measUs
  | 0x15 => u16 (some_ fun d => p3BudgetUs d.cycleMs)
  | 0x16 => u32 (some_ fun d => d.keyId.toNat)
  | _ => u8 (bit u.estLow)

/-- 0x2310 to 0x2312 (R91). -/
def Sdi.readProfile (d : Sdi) (p : Profile) (sub : Nat) : List Byte :=
  match sub with
  | 0 => u8 0x0D
  | 1 => u8 p.flags
  | 2 => u8 p.ovlPolicy
  | 3 => u8 p.apprModel
  | 4 => u16 p.ovlS
  | 5 => u16 p.apprS
  | 6 => u16 p.emergS
  | 7 => u16 p.throwMs
  | 8 => u8 p.flankDepth
  | 9 => u16 p.ovlSpeed
  | 0x0A => u16 p.mask
  | 0x0B => u64 p.rank
  | 0x0C => p.tag
  | _ => u16 (d.elems.filter (·.profile == p.id)).length

end Sys2Proof.Machine
end

