-- ==== Sys2Proof/Machine/View.lean ====
section
/-! DEFINITION. What a read of an object returns (R22, R51, R207, R257, R283, R284, R298 to R307, R320, R339, R357 to R359,
R374, R388, R389, R396, R409, R410, R428): its sub-indices, their access, their values. -/

namespace Sys2Proof.Machine

/-! ## Defaults of the parameter store -/

/-- The default of a stored parameter (R92, R201, R258, R286, R299, R307, R321, R375, R409). -/
def pstDefault (idx sub : Nat) : List Byte :=
  match idx with
  | 0x1015 => u16 100
  | 0x1017 => u16 1000
  | 0x2380 => if sub = 3 then List.replicate 32 0 else u32 0
  | 0x2780 => if sub = 3 then List.replicate 2336 0 else u8 0xFF
  | 0x2880 =>
    if sub ≤ 4 || sub = 7 || sub = 8 then u32 0 else if sub ≤ 6 then u8 24
    else if sub = 9 then u16 30712 else if sub = 10 then u16 30713 else u8 0
  | 0x2980 => match sub with
    | 1 => u8 0x7F | 2 => u8 2 | 3 => u8 1 | 4 => u8 2 | 5 => u8 4 | 8 => u8 7 | 9 => u8 10 | 10 => u16 0x10 | _ => u8 0
  | 0x2981 => u64 0
  | 0x2A80 => match sub with | 1 => u8 0x0F | 2 => i16 0 | 3 => u8 1 | _ => i16 37
  | 0x2D80 => u8 2
  | 0x2F80 => if sub = 1 then u8 0 else u16 0
  | _ =>
    if 0x19 ≤ sub then u32 (if sub ≤ 0x1A then 10000 else 0)
    else u32 (if sub = 4 || sub = 0x10 then 0x20000000 else 0)

/-- A stored parameter as it is read: a write shows at once (R300). -/
def State.param (s : State) (idx sub : Nat) : List Byte := (pstFind s.pst idx sub).getD (pstDefault idx sub)

/-- The check value of a key (R286, R303): the first 4 bytes of the CMAC of 16 zero bytes, 0 for no key. -/
def State.kcv (s : State) (idx sub : Nat) : List Byte :=
  let k := pstKey s.pst idx sub
  if k == List.replicate 16 0 then u32 0 else octets 4 0 (Config.cmac k (List.replicate 16 0))

/-! ## Channels and front end -/

/-- 0x2101 (R22). -/
def State.read2101 (s : State) (sub : Nat) : List Byte :=
  let v := s.vital
  let up := fun (a b : Ch) => ((v.chans.get a).ends.get b).up && ((v.chans.get b).ends.get a).up
  match sub with
  | 0 => u8 0x0A
  | 1 => u8 s.dat.cycleMs
  | 2 => u32 v.cycleCount
  | 3 => u16 v.p2Last
  | 4 => u16 v.p2Max
  | 5 => u16 v.p3Last
  | 6 => u16 v.p3Max
  | 7 => u16 (p3BudgetUs s.dat.cycleMs)
  | 8 => u32 v.spreadMax
  | _ => u8 (bit (up .a .b) + 2 * bit (up .a .c) + 4 * bit (up .a .d) + 8 * bit (up .b .c) + 16 * bit (up .b .d)
      + 32 * bit (up .c .d))

/-- A channel's pair resets of the last 3,600 s (R45, R51). -/
def State.resetsOf (s : State) (c : Ch) : Nat := ((s.vital.chans.get c).resets.filter fun t => s.svc.ms < t + 3600000).length

/-- 0x2102 (R51). -/
def State.read2102 (s : State) (sub : Nat) : List Byte :=
  let v := s.vital
  match sub with
  | 0 => u8 0x0F
  | 1 => u8 v.ladder.code
  | 2 => u8 v.chans.a.role.code
  | 3 => u8 v.chans.b.role.code
  | 4 => u8 v.chans.c.role.code
  | 5 => u8 v.chans.d.role.code
  | 6 => u16 s.dat.dualMin
  | 7 => u32 (v.dualMs / 1000)
  | 8 => u8 (s.resetsOf .a)
  | 9 => u8 (s.resetsOf .b)
  | 0x0A => u8 (s.resetsOf .c)
  | 0x0B => u8 (s.resetsOf .d)
  | 0x0C => u32 v.resetsTotal
  | 0x0D => u8 (bit v.chans.a.dovetail + 2 * bit v.chans.b.dovetail + 4 * bit v.chans.c.dovetail + 8 * bit v.chans.d.dovetail)
  | 0x0E => u32 v.eccCorrected
  | _ => u16 v.lastPages

/-- This module's share of a head's amplitude (R204, R205): half of it while both drive, and on the way there during the 20 ms of a join
ramp; nothing while it waits to join. -/
def State.driveShare (s : State) (f : HeadFeed) (ampl : Nat) : Nat :=
  match f.drive, f.ramp with
  | .full, _ => ampl
  | .half, some m => ampl * (40 - min 20 (s.svc.ms - m)) / 40
  | .half, none => ampl / 2
  | _, _ => 0

/-- 0x2510 + port − 1 (R207). -/
def State.read2510 (s : State) (head sub : Nat) : List Byte :=
  let x := s.sens.x.sys.getD head SensorSys.reset
  let y := s.sens.y.sys.getD head SensorSys.reset
  let f := s.sens.feeds.getD head ⟨.none, false, false, false, none⟩
  let (f1, f2, ampl) := s.kernel.exciteOf s.dat head
  let dual := match s.dat.head head with | some h => bitAt h.flags 0 | none => false
  let yref := fun (z : SensorSys) => u16 (z.yref * 32768 / 2 ^ 40).toNat
  let faults := fun (z : SensorSys) => (z.faults.filter fun t => s.svc.ms < t + 3600000).length
  match sub with
  | 0 => u8 0x0F
  | 1 => u8 x.state.code
  | 2 => u8 y.state.code
  | 3 => u8 (f1 + 16 * f2)
  | 4 => u8 ampl
  | 5 => u8 (s.driveShare f ampl)
  | 6 => u8 (x.range + 4 * y.range)
  | 7 => i16 ((x.theta + 5000) / 10000)
  | 8 => i16 ((y.theta + 5000) / 10000)
  | 9 => u32 x.loop
  | 0x0A => u32 y.loop
  | 0x0B => yref x
  | 0x0C => yref y
  | 0x0D => u8 (if x.cause != 0 then x.cause else if y.cause != 0 then y.cause + 0x80 else 0)
  | 0x0E => u8 (bit f.locked * 16 + bit (s.isRef head) * 8 + bit (f.drive != .none && f.drive != .joining) * 4 + bit f.partner * 2 + bit dual)
  | _ => u8 (max (faults x) (faults y))

/-! ## Ring and networks -/

/-- 0x2701 (R257). -/
def State.read2701 (s : State) (sub : Nat) : List Byte :=
  let r := s.ring
  match sub with
  | 0 => u8 0x12
  | 1 => u8 r.state.code
  | 2 => u32 r.cycle
  | 3 => u8 r.loopRole.toNat
  | 4 => u8 (r.loopE.getD 0xFF) ++ u8 (r.loopW.getD 0xFF)
  | 5 => u8 r.syncVals
  | 6 => i32 r.offset
  | 7 => i32 r.ratePpb
  | 8 => u16 r.precision
  | 9 => u32 r.winRejects
  | 0x0A => u32 r.truncations
  | 0x0B => u32 r.fcsErrors
  | 0x0C => u32 r.nullDrop
  | 0x0D => u16 r.coldAborts
  | 0x0E => u16 r.reints
  | 0x0F => u16 r.heals
  | 0x10 => u8 (bit (3 ≤ s.kernel.twin.ownerRun))
  | 0x11 => u16 (match r.sched with | some c => c.id | none => 0)
  | _ => u8 r.refusal

/-- 0x5E00 + node (R259). -/
def Ring.readNode (r : Ring) (c : SchedNode) (x : NodeInfo) (sub : Nat) : List Byte :=
  match sub with
  | 0 => u8 8
  | 1 => u8 x.state
  | 2 => u8 c.position
  | 3 => u8 (bit c.sync + 2 * bit c.cold + 4 * bit (x.frames != 0 && r.cycle ≤ x.lastCycle + 1))
  | 4 => u16 x.linkNs
  | 5 => i32 x.deviation
  | 6 => u32 x.rejects
  | 7 => u32 x.frames
  | _ => u32 x.lastCycle

/-- 0x2800 (R283). -/
def State.read2800 (s : State) (sub : Nat) : List Byte :=
  match sub with
  | 0 => u8 8
  | 1 => u8 (s.kernel.sess.filter fun x => x.state == .open_).length
  | 2 => u32 s.nets.startCount
  | 3 => u32 s.kernel.noSession
  | 4 => u32 s.kernel.pathMismatch
  | 5 => u32 s.nets.single
  | 6 => u32 s.nets.late
  | 7 => u32 s.nets.drops
  | _ => u32 s.dat.stationId.toNat

/-- The code of a PTP clock's state (R284 .0A). -/
def PtpState.code : PtpState → Nat | .listening => 0 | .uncalibrated => 1 | .slave => 2 | .faulty => 3

/-- 0x2801, 0x2802 (R284). -/
def NetSide.read (n : NetSide) (sub : Nat) : List Byte :=
  match sub with
  | 0 => u8 0x0C
  | 1 => u8 n.port1
  | 2 => u8 n.port2
  | 3 => u32 n.rxValid
  | 4 => u32 n.txTel
  | 5 => u32 n.cut
  | 6 => u16 n.resMax
  | 7 => u32 n.discards
  | 8 => u32 n.rejects
  | 9 => u32 n.egressFail
  | 0x0A => u8 n.ptpState.code
  | 0x0B => i32 n.ptpOffset
  | _ => u32 n.fuUnmatched

/-! ## CAN, time, twin -/

/-- 0x2901 (R306). -/
def Can.read (c : Can) (sub : Nat) : List Byte :=
  match sub with
  | 0 => u8 0x0E
  | 1 => u8 (match c.link with | .online => 0 | .alone => 1 | .busOff => 2)
  | 2 => u8 (if c.link == .busOff then 2 else if c.passive then 1 else 0)
  | 3 => u8 (min 255 c.tec)
  | 4 => u8 (min 255 c.rec_)
  | 5 => u32 c.noAck
  | 6 => u32 c.errLimit
  | 7 => u16 c.busOffs
  | 8 => u16 c.alones
  | 9 => u32 c.rejects
  | 0x0A => u8 (match c.role with | .slave => 0 | .backup => 1 | .master => 2)
  | 0x0B => u8 c.masterSeen
  | 0x0C => u8 c.refSeq
  | 0x0D => u16 Config.stampLatency
  | _ => u32 c.emcyLost

/-- 0x2981 (R290, R307): the fixed elements as they were formed at start. -/
def State.read2981 (s : State) (sub : Nat) : List Byte :=
  if sub = 0 then u8 0x80
  else if sub ≤ 3 then
    u64 ((fixedFilters (pstNat s.pstLive 0x2980 1 0x7F) (pstNat s.pstLive 0x2980 10 0x10)).getD (sub - 1) 0).toNat
  else s.param 0x2981 sub

/-- UTC_OFFSET_S (R320 .03): from PTP Announce when valid, else 0x2A80.04 as read at start. -/
def State.utcOffset (s : State) : Int :=
  let own := (BitVec.ofNat 16 (pstNat s.pstLive 0x2A80 4 37)).toInt
  match s.time.source with
  | .ptpA => if s.nets.a.utcValid then s.nets.a.utcOffset else own
  | .ptpB => if s.nets.b.utcValid then s.nets.b.utcOffset else own
  | _ => own

/-- 0x2A01 (R320). -/
def State.read2A01 (s : State) (sub : Nat) : List Byte :=
  let t := s.time
  match sub with
  | 0 => u8 0x0C
  | 1 => u8 t.source.code
  | 2 => t.now.bytes
  | 3 => i16 s.utcOffset
  | 4 => i32 t.offset
  | 5 => i32 t.rate
  | 6 => u16 t.steps
  | 7 => u16 t.switches
  | 8 => u8 (bit t.calValid + 2 * bit t.trimmed + 4 * bit t.backupLost)
  | 9 => u16 (Config.supercapMv s.svc.ms)
  | 0x0A => u64 s.kernel.vital
  | 0x0B => u8 (bit t.na.valid + 2 * bit t.nb.valid + 4 * bit t.can.valid + 8 * bit t.svc.valid)
  | _ => u32 t.rejects

/-- 0x2B01 (R339). -/
def State.read2B01 (s : State) (sub : Nat) : List Byte :=
  let k := s.kernel.twin
  let l := s.twin
  match sub with
  | 0 => u8 0x0F
  | 1 => u8 k.role
  | 2 => u8 s.life.position
  | 3 => u8 (match l.last with | some h => h.role | none => 0xFF)
  | 4 => u8 (match l.last with | some h => h.modState | none => 0xFF)
  | 5 => u8 (bit l.lane0 + 2 * bit l.lane1 + 4 * bit l.valid + 8 * bit l.compatible + 16 * bit k.ownerNow)
  | 6 => u8 (min 255 k.silent)
  | 7 => u8 (min 255 k.ownerAbsent)
  | 8 => u32 l.sent
  | 9 => u32 l.ack
  | 0x0A => u8 (bit k.hashEq + 2 * bit k.frame)
  | 0x0B => u8 k.pagesLast
  | 0x0C => u8 k.backlogLast
  | 0x0D => u16 k.takeovers
  | 0x0E => u8 k.lastCause
  | _ => u8 k.isolation

/-! ## Faults and recorder -/

/-- 0x2C01 (R357). -/
def State.read2C01 (s : State) (sub : Nat) : List Byte :=
  let c := s.col
  let sh := c.recs.filterMap fun r => r.bind fun x => x.shadow.map (·.ch)
  match sub with
  | 0 => u8 0x0A
  | 1 => u8 s.mstate.code
  | 2 => u8 (c.recs.filter (·.isSome)).length
  | 3 => u8 c.highest
  | 4 => u8 (bitsOf (sh.map Ch.idx))
  | 5 => u32 c.recsTotal
  | 6 => u32 c.mergedTotal
  | 7 => u32 c.escalated
  | 8 => u16 c.forces.length
  | 9 => u16 c.configErrs
  | _ => u16 c.safeCause

/-- 0x2C20 + n (R357). -/
def readFaultRec (r : Option FaultRec) (sub : Nat) : List Byte :=
  match sub, r with
  | 0, _ => u8 7
  | 1, none => u16 0xFFFF
  | 1, some x => u16 x.source
  | 2, some x => u8 (x.cfgLevel * 16 + x.applied)
  | 3, some x => u8 (bit x.acked + 2 * bit x.forced + 4 * bit x.config + 8 * bit x.overflow + 16 * bit x.shadow.isSome)
  | 4, some x => x.time.bytes
  | 4, none => List.replicate 10 0
  | 5, some x => u32 x.cycle
  | 5, none => u32 0
  | 6, some x => u16 x.merged
  | 6, none => u16 0
  | 7, some x => octets 16 0xFF (x.first.flatMap u16)
  | 7, none => List.replicate 16 0xFF
  | _, _ => u8 0

/-- 0x2C10 (R358). -/
def State.read2C10 (s : State) (sub : Nat) : List Byte :=
  match sub with
  | 0 => u8 4
  | 2 => u16 s.lock.code
  | 3 => u16 s.lock.result
  | _ => u8 (match s.lock.window with | some d => (d - s.svc.ms + 999) / 1000 | none => 0)

/-- 0x2C11 (R358). -/
def Lockout.read (l : Lockout) (sub : Nat) : List Byte :=
  match sub with
  | 0 => u8 3
  | 2 => u32 l.total
  | _ => u8 (l.entries.filter (·.state == 1)).length

/-- A lock-out entry as 32 bytes (R355). -/
def LockEntry.bytes (e : LockEntry) : List Byte :=
  u8 e.state ++ u8 e.flags ++ u16 e.source ++ u32 e.detail.toNat ++ e.setTime.bytes ++ u32 e.cycle ++ e.clearTime.bytes

/-- 0x2C81 (R359). -/
def State.read2C81 (s : State) (sub : Nat) : List Byte :=
  let n := s.col.select
  match sub with
  | 0 => u8 6
  | 1 => u16 n
  | 2 => u32 (s.srcCfg n).word.toNat
  | 3 => u32 (match s.col.overrides.find? (·.1 == n) with | some x => x.2.toNat | none => 0)
  | 4 => u8 (bit (s.col.forces.contains n))
  | 5 => u8 (bit (s.col.asserted.contains n))
  | _ => u32 (lookupD s.col.counts n)

/-- 0x2D01 (R374). -/
def Recorder.read (r : Recorder) (sub : Nat) : List Byte :=
  match sub with
  | 0 => u8 0x0C
  | 1 => u8 r.size
  | 2 => u16 (recPlaces r.size - 64 * r.fenced.length)
  | 3 => u32 r.oldest
  | 4 => u32 r.newest
  | 5 => u32 r.lost
  | 6 => u8 (bit r.stopped)
  | 7 => u16 r.fenced.length
  | 8 => u32 r.corrected
  | 9 => u32 r.merges
  | _ => u16 r.epoch

/-- STATUS of a cursor (R370): a record that is not held was destroyed by a fence, is still to be written, or is gone. -/
def Recorder.status (r : Recorder) (n : Nat) : Nat :=
  if r.recs.any (·.2.rseq == n) then 0
  else if r.fencedSeq.contains n then 2
  else if r.rseq ≤ n then 3 else 1

/-- 0x2D02 of a client (R374). -/
def Recorder.readWindow (r : Recorder) (cl : Client) (sub : Nat) : List Byte :=
  let n := r.cursorOf cl
  match sub with
  | 0 => u8 4
  | 2 => r.at_ n
  | 3 => u8 (r.status n)
  | _ => u32 n

/-- 0x2D10 (R374). -/
def Recorder.readLr (r : Recorder) (sub : Nat) : List Byte :=
  if sub = 0 then u8 9 else if sub = 9 then u8 r.lrLast else u32 (r.lr.getD (sub - 1) 0).toNat

/-- 0x2D81 (R375). -/
def Recorder.readSnap (r : Recorder) (sub : Nat) : List Byte :=
  let b := r.bucketCfg r.selCode
  match sub with
  | 0 => u8 5
  | 1 => u16 r.selCode
  | 2 =>
    let l := match r.snaps.find? (·.code == r.selCode) with | some c => c.list | none => Config.snapList r.selCode
    octets 32 0 (l.flatMap fun w => u32 w.toNat)
  | 3 => u8 b.1
  | _ => u16 b.2

/-! ## Life cycle, self-test, check-value units, images, supply -/

/-- SW1_EFFECTIVE (R388 .06). -/
def State.swWord (s : State) : Nat := (((List.range 8).filter fun i => s.sw (i + 1)).map (2 ^ ·)).sum

/-- 0x2001 (R388). -/
def State.read2001 (s : State) (sub : Nat) : List Byte :=
  let l := s.life
  match sub with
  | 0 => u8 8
  | 1 => u8 l.state
  | 3 => u8 (l.pending.getD 0xFF)
  | 4 => u16 l.result
  | 5 => [l.sw1Svc]
  | 6 => u8 s.swWord
  | 7 => l.sw1Ch.toList
  | _ => u32 l.count

/-- 0x2002 (R428). -/
def Supply.view (p : Supply) (sub : Nat) : List Byte :=
  match sub with
  | 0 => u8 8
  | 1 => u32 p.mv
  | 2 => u16 (Config.inputMw p.mv)
  | 3 => u32 p.minMv
  | 4 => i16 p.temp
  | 5 => i16 p.tempMax
  | 6 => u8 (bit p.low + 2 * bit p.high + 4 * bit p.tempHigh + 8 * bit p.tempCrit)
  | 7 => u32 (p.hoursMs / 3600000)
  | _ => u32 p.cycles

/-- SEAL_STATE (R389 .06). -/
def sealState (x : Option Seal) : Nat :=
  match x with | none => 0 | some y => if !y.crcOk then 3 else if y.used then 2 else 1

/-- 0x2E01 (R389). -/
def Life.read2E01 (l : Life) (sub : Nat) : List Byte :=
  let svc := l.seals.headD none
  match sub with
  | 0 => u8 0x0A
  | 1 => u8 l.test.state
  | 2 => [l.test.run]
  | 3 => [l.test.passed]
  | 4 => u32 l.test.firstFail.toNat
  | 5 => (match svc with | some x => x.time.bytes | none => List.replicate 10 0)
  | 6 => u8 (sealState svc)
  | 7 => u8 l.lastStart
  | 8 => u8 l.reason
  | 9 => u32 l.startMs
  | _ => u8 l.test.slices

/-- 0x2E10 + unit (R396). -/
def Cvu.read (u : Cvu) (sub : Nat) : List Byte :=
  match sub with
  | 0 => u8 0x0D
  | 1 => u8 u.mode
  | 2 => u8 u.width
  | 3 => u64 u.poly.toNat
  | 4 => u64 u.init.toNat
  | 5 => u8 (bit u.refin + 2 * bit u.refout + 4 * bit u.order)
  | 6 => u64 u.xorout.toNat
  | 7 => u16 u.tapOff
  | 8 => u32 (u.lenMode * 2 ^ 30 + u.lenFld % 4096 * 2 ^ 16 + u.lenVal % 65536)
  | 9 => u64 u.running.toNat
  | 0x0A => u64 u.result.toNat
  | 0x0B => u32 u.units
  | 0x0C => u32 u.misses
  | _ => u8 (bit u.pass + 2 * bit u.failed)

/-- 0x2F01 (R409). -/
def Update.read2F01 (u : Update) (sub : Nat) : List Byte :=
  match sub with
  | 0 => u8 9
  | 2 => u32 (match u.transfers.head? with | some t => t.got.length | none => 0)
  | 5 => u16 u.migrateMin
  | 6 => u16 u.pstFormat
  | 7 => u32 Config.fwKeyId.toNat
  | 8 => u8 (bit u.migSdi + 2 * bit u.migPst)
  | _ => u16 u.result

/-- The code of a slot's state (R410). -/
def SlotImg.code : SlotImg → Nat | .empty => 0 | .unchecked => 1 | .valid => 2 | .failed => 3 | .unusable => 4

/-- The code of an activation (R410 .07). -/
def Activation.code : Activation → Nat | .none => 0 | .staged => 1 | .pending => 2 | .unconfirmed => 3

/-- The version of a slot's image, 0 when it holds none. -/
def ImgSlot.version (x : ImgSlot) (t : ImageType) : Nat :=
  if x.state == .empty || x.state == .unusable then 0 else ImageType.versionOf t x.data

/-- 0x2F20 + type (R410). -/
def Img.read (i : Img) (t : ImageType) (ms sub : Nat) : List Byte :=
  match sub with
  | 0 => u8 9
  | 1 => u8 (i.running.getD 0xFF)
  | 2 => u8 i.s0.state.code
  | 3 => u8 i.s1.state.code
  | 4 => u32 (i.s0.version t)
  | 5 => u32 (i.s1.version t)
  | 6 => u8 (if i.running.isSome then ImageType.providesOf t i.data else 0)
  | 7 => u8 i.act.code
  | 8 => u8 i.event
  -- a slot whose spare blocks are exhausted is `UNUSABLE` (R397)
  | _ => u16 (if i.s0.bad.isEmpty && i.s1.bad.isEmpty then Config.spareBlocks (ImageType.code t) ms else 0)

/-! ## Which objects there are -/

/-- The access of a sub-index (R300). -/
inductive Acc where
  | const | ro | wo | rw | rwe | rwm | rwc
  deriving DecidableEq, Repr

/-- An object's highest sub-index and the sub-indices that are neither RO nor the CONST .00. -/
abbrev Shape := Nat × List (Nat × Acc)

/-- Several sub-indices of one access. -/
def subs (a : Acc) (lo hi : Nat) : List (Nat × Acc) := (List.range (hi + 1 - lo)).map fun i => (lo + i, a)

/-- The objects that exist in every module, by index (R298, and the chapters' objects). -/
def fixedShape (idx : Nat) : Option Shape :=
  match idx with
  | 0x2001 => some (8, [(2, .wo)])
  | 0x2002 => some (8, [])
  | 0x2010 => some (5, [(1, .wo), (3, .wo)])
  | 0x2081 => some (6, subs .wo 1 3)
  | 0x2101 => some (0x0A, [(9, .wo)])
  | 0x2102 => some (0x0F, [])
  | 0x2201 => some (0x0B, [(0x0B, .wo)])
  | 0x2301 => some (0x17, [(5, .const)])
  | 0x2330 => some (3, [(1, .wo)])
  | 0x2380 => some (3, subs .rwc 1 3)
  | 0x2401 => some (7, [])
  | 0x2620 => some (4, [(1, .wo), (2, .wo)])
  | 0x2701 => some (0x12, [])
  | 0x2780 => some (3, subs .rwc 1 3)
  | 0x2800 => some (8, [])
  | 0x2801 => some (0x0C, [])
  | 0x2802 => some (0x0C, [])
  | 0x2880 => some (0x0D, subs .rwc 1 0x0D)
  | 0x2881 => some (0x80, subs .wo 1 0x40)
  | 0x2901 => some (0x0E, [(0x0D, .const)])
  | 0x2980 => some (0x0A, subs .rwc 1 0x0A)
  | 0x2981 => some (0x80, subs .const 1 3 ++ subs .rwc 4 0x80)
  | 0x2A01 => some (0x0C, [])
  | 0x2A80 => some (5, [(1, .rwc), (2, .rwm), (3, .rwe), (4, .rwe), (5, .wo)])
  | 0x2B01 => some (0x0F, [])
  | 0x2C01 => some (0x0A, [])
  | 0x2C10 => some (4, [(1, .wo)])
  | 0x2C11 => some (3, [(1, .wo)])
  | 0x2C81 => some (6, [(1, .rwe), (3, .rwm), (4, .rwm)])
  | 0x2D01 => some (0x0C, [(0x0B, .wo), (0x0C, .wo)])
  | 0x2D02 => some (4, [(1, .wo), (4, .rw)])
  | 0x2D10 => some (9, [])
  | 0x2D80 => some (1, [(1, .rwm)])
  | 0x2D81 => some (5, [(1, .rwe), (2, .rwm), (3, .rwm), (4, .rwm), (5, .wo)])
  | 0x2E01 => some (0x0A, [])
  | 0x2F01 => some (9, [(1, .wo), (3, .wo), (4, .wo), (5, .const), (6, .const), (7, .const)])
  | 0x2F30 => some (9, [])
  | 0x2F31 => some (9, [])
  | 0x2F80 => some (2, subs .rwe 1 2)
  | 0x3100 => some (4, [(1, .wo)])
  | _ => none

/-- `n` lies from `lo` to `hi`. -/
def among (lo hi n : Nat) : Bool := lo ≤ n && n ≤ hi

/-- The objects by index (R298): those of records exist only for records present. -/
def State.shape (s : State) (idx : Nat) : Option Shape :=
  let d := s.dat
  let when_ := fun (b : Bool) (x : Shape) => if b then some x else none
  match fixedShape idx with
  | some x => some x
  | none =>
    if among 0x2310 0x2312 idx then when_ (d.profile (idx - 0x230F)).isSome (0x0D, [])
    else if among 0x2510 0x251F idx then
      when_ (match d.head (idx - 0x2510) with | some h => h.kind == 0 | none => false) (0x0F, [])
    else if among 0x2580 0x258F idx then some (0x1E, subs .rwc 1 0x1C ++ subs .const 0x1D 0x1E)
    else if among 0x2601 0x2604 idx then some (8, [])
    else if among 0x2C20 0x2C2F idx then some (7, [])
    else if among 0x2C30 0x2C3F idx then some (1, [])
    else if among 0x2E10 0x2E1B idx then some (0x0D, [])
    else if among 0x2F21 0x2F27 idx then some (9, [])
    else if among 0x3000 0x305F idx then some (0x0A, [(3, .wo)])
    else if among 0x4001 0x4FFF idx then when_ (d.elem (idx - 0x4000)).isSome (0x0A, [])
    else if among 0x5000 0x55FF idx then when_ (d.route (idx - 0x5000)).isSome (0x0E, [])
    else if among 0x5800 0x59FF idx then when_ (d.section_ (idx - 0x5800)).isSome (0x0C, [])
    else if among 0x5A00 0x5BFF idx then when_ (d.head (idx - 0x5A00)).isSome (0x0D, [])
    else if among 0x5C00 0x5C5F idx then some (8, [])
    else if among 0x5C60 0x5C7F idx then some (9, [])
    else if among 0x5C80 0x5C8F idx then some (5, [])
    else if among 0x5D00 0x5D7F idx then some (0x0C, [])
    else if among 0x5E00 0x5E3F idx then when_ (s.ring.nodes.any (·.node == idx - 0x5E00)) (8, [])
    else none

/-- The sub-indices of the communication profile (R299). -/
def profileAcc (idx sub : Nat) : Option Acc :=
  match idx, sub with
  | 0x1000, 0 => some .const | 0x1001, 0 => some .ro | 0x1008, 0 => some .const | 0x1009, 0 => some .const
  | 0x100A, 0 => some .ro | 0x1014, 0 => some .const | 0x1015, 0 => some .rwe | 0x1017, 0 => some .rwe
  | 0x1018, n => if n ≤ 4 then some .const else none
  | _, _ => none

/-- Checks 2 and 3 of R301: the access of a sub-index, or the abort code. -/
def State.access (s : State) (idx sub : Nat) : Except W32 Acc :=
  if (profileAcc idx 0).isSome then
    match profileAcc idx sub with | some a => .ok a | none => .error 0x06090011
  else match s.shape idx with
    | none => .error 0x06020000
    | some (hi, l) =>
      if hi < sub then .error 0x06090011
      else if sub = 0 then .ok .const
      else .ok (match l.find? (·.1 == sub) with | some x => x.2 | none => .ro)

/-! ## Values -/

/-- The error register 0x1001 (R299): generic and manufacturer bits while a record is open, communication bit while
the CAN link is not ONLINE or error passive (assumption 14). -/
def State.errReg (s : State) : Byte :=
  let o := s.col.recs.any (·.isSome)
  byteOf (bit o * 0x81 + bit (s.can.link != .online || s.can.passive) * 16)

/-- A text as bytes. -/
def text (t : String) : List Byte := t.toList.map fun c => byteOf c.toNat

/-- A value of the communication profile (R299). -/
def State.readProfileObj (s : State) (idx sub : Nat) : List Byte :=
  match idx with
  | 0x1000 => u32 0
  | 0x1001 => [s.errReg]
  | 0x1008 => text "PJV-7302"
  | 0x1009 => Config.hwVersion
  | 0x100A => Config.versionText (ImageType.versionOf .svc s.upd.svc.data)
  | 0x1014 => u32 (0x80 + pstNat s.pstLive 0x2980 1 0x7F)
  | 0x1018 => match sub with
    | 0 => u8 4 | 1 => u32 0x0A5C | 2 => u32 0x7302 | 3 => u32 Config.revision.toNat | _ => u32 Config.serial.toNat
  | _ => s.param idx 0

/-- The objects a client has its own copy of (R158, R302, R370). -/
def State.readOwn (s : State) (cl : Client) (idx sub : Nat) : Option (List Byte) :=
  let c := s.client cl
  match idx, sub with
  | 0x2010, 2 => some (match c.challenge with | some (_, l, _) => octets 16 0 l | none => List.replicate 16 0)
  | 0x2010, 4 => some (u8 c.level)
  | 0x2010, 5 => some (u16 c.result)
  | 0x3100, 2 => some (u16 c.refusal)
  | 0x2D02, n => some (s.rcd.readWindow cl n)
  | _, _ => none

/-- The value of an object of the station's records (R298). -/
def State.readRecord (s : State) (idx sub : Nat) : List Byte :=
  let d := s.dat
  let k := s.kernel
  let via := fun (x : Option (List Byte)) => x.getD []
  if idx < 0x5000 then
    via do return k.readElem d (← d.elem (idx - 0x4000)) (← k.elem (idx - 0x4000)) sub
  else if idx < 0x5800 then
    via do return k.readRoute d (← k.rst (idx - 0x5000)) (← d.route (idx - 0x5000)) sub
  else if idx < 0x5A00 then via ((k.sec (idx - 0x5800)).map fun x => k.readSec d x sub)
  else if idx < 0x5C00 then via ((k.head (idx - 0x5A00)).map fun x => k.readHead x sub)
  else if idx < 0x5C60 then k.readInput d (idx - 0x5C00) sub
  else if idx < 0x5C80 then k.readVout d (idx - 0x5C60) sub
  else if idx < 0x5D00 then k.readNv d (idx - 0x5C80) sub
  else if idx < 0x5E00 then k.readSess (k.sess.getD (idx - 0x5D00) SessSt.unbound) sub
  else via do
    let c ← s.ring.sched
    let n ← c.nodes.find? (·.node == idx - 0x5E00)
    let x ← s.ring.nodes.find? (·.node == idx - 0x5E00)
    return s.ring.readNode n x sub

/-- The value of an object with a fixed index. -/
def State.readFixed (s : State) (idx sub : Nat) : List Byte :=
  match idx with
  | 0x2001 => s.read2001 sub
  | 0x2002 => s.supply.view sub
  | 0x2010 => u8 5
  | 0x2081 => if sub = 0 then u8 6 else s.kcv 0x2081 (sub - 3)
  | 0x2101 => s.read2101 sub
  | 0x2102 => s.read2102 sub
  | 0x2201 => s.kernel.stats.read sub
  | 0x2301 => s.sdi.read sub
  | 0x2330 => match sub with | 0 => u8 3 | 2 => u16 s.kernel.elemResult | _ => u32 s.kernel.elemCommand
  | 0x2401 => s.kernel.readEvaluator sub
  | 0x2620 => match sub with | 0 => u8 4 | 3 => u16 s.kernel.reset.code.toNat | _ => u16 s.kernel.reset.result.toNat
  | 0x2701 => s.read2701 sub
  | 0x2800 => s.read2800 sub
  | 0x2801 => s.nets.a.read sub
  | 0x2802 => s.nets.b.read sub
  | 0x2881 => if sub = 0 then u8 0x80 else s.kcv 0x2881 (sub - 0x40)
  | 0x2901 => s.can.read sub
  | 0x2981 => s.read2981 sub
  | 0x2A01 => s.read2A01 sub
  | 0x2B01 => s.read2B01 sub
  | 0x2C01 => s.read2C01 sub
  | 0x2C10 => s.read2C10 sub
  | 0x2C11 => s.lock.read sub
  | 0x2C81 => s.read2C81 sub
  | 0x2D01 => s.rcd.read sub
  | 0x2D02 => u8 4
  | 0x2D10 => s.rcd.readLr sub
  | 0x2D81 => s.rcd.readSnap sub
  | 0x2E01 => s.life.read2E01 sub
  | 0x2F01 => s.upd.read2F01 sub
  | 0x2F30 => s.upd.sdi.read .sdi s.svc.ms sub
  | 0x2F31 => s.upd.pst.read .pst s.svc.ms sub
  | 0x3100 => match sub with
    | 0 => u8 4
    | 3 => u8 s.kernel.freeSlots.length
    | _ => le 12 (bitsOf s.kernel.freeSlots)
  | _ =>
    if sub = 0 then u8 (match fixedShape idx with | some x => x.1 | none => 0) else s.param idx sub

/-- The value of an object that exists and may be read. -/
def State.value (s : State) (idx sub : Nat) : List Byte :=
  if idx < 0x2000 then s.readProfileObj idx sub
  else if among 0x2310 0x2312 idx then
    (match s.dat.profile (idx - 0x230F) with | some p => s.dat.readProfile p sub | none => [])
  else if among 0x2510 0x251F idx then s.read2510 (idx - 0x2510) sub
  else if among 0x2580 0x258F idx then
    if sub = 0 then u8 0x1E
    else if 0x1D ≤ sub then octets 12 0 (Config.gain (idx - 0x257F) (sub - 0x1C))
    else s.param idx sub
  else if among 0x2601 0x2604 idx then s.kernel.readBank (s.kernel.banks.get (Ch.ofIdx (idx - 0x2601))) sub
  else if among 0x2C20 0x2C2F idx then readFaultRec (s.col.recs.getD (idx - 0x2C20) none) sub
  else if among 0x2C30 0x2C3F idx then
    if sub = 0 then u8 1 else (s.lock.entries.getD (idx - 0x2C30) LockEntry.empty).bytes
  else if among 0x2E10 0x2E1B idx then
    (match s.cvus[idx - 0x2E10]? with | some u => u.read sub | none => [])
  else if among 0x2F21 0x2F27 idx then
    (match ImageType.ofCode (idx - 0x2F20) with | some t => (s.upd.img t).read t s.svc.ms sub | none => [])
  else if among 0x3000 0x305F idx then (s.kernel.slot (idx - 0x3000)).read sub
  else if 0x4000 ≤ idx then s.readRecord idx sub
  else s.readFixed idx sub

/-- The value of an object, none when it does not exist or cannot be read. -/
def State.readObj (s : State) (idx sub : Nat) : Option (List Byte) :=
  match s.access idx sub with
  | .ok .wo => none
  | .ok _ => some (s.value idx sub)
  | .error _ => none

/-- The level a read needs (R298): EXPERT in the expert half of a function area. -/
def readLevel (idx : Nat) : Nat := if idx / 0x1000 = 2 && 0x80 ≤ idx % 0x100 then 2 else 0

/-- A read of a client (R298 to R301): its value, or the abort code of the first check that fails. -/
def State.readBy (s : State) (cl : Client) (idx sub : Nat) : Except W32 (List Byte) :=
  match s.access idx sub with
  | .error e => .error e
  | .ok .wo => .error 0x06010001
  | .ok _ =>
    if (s.client cl).level < readLevel idx then .error 0x06010000
    else .ok ((s.readOwn cl idx sub).getD (s.value idx sub))

end Sys2Proof.Machine
end

