-- ==== Sys2Proof/Machine/CvuOps.lean ====
section
/-! DEFINITION. The check-value units: the CRC parameter model, the tap, the three modes and the jobs of SVC (R390 to R394, R396). -/

namespace Sys2Proof.Machine

/-! ## The parameter model (R391, R393) -/

/-- A register of `w` bits bit-reversed. -/
def revBits : Nat → W64 → W64
  | 0, _ => 0
  | w + 1, x => (BitVec.ofNat 64 (bit (x.getLsbD 0)) <<< w) ||| revBits w (x >>> 1)

/-- One data bit enters a register of `w` bits. -/
def cvuBit (w : Nat) (poly r : W64) (b : Bool) : W64 :=
  let top := r.getLsbD (w - 1) != b
  let r := (r <<< 1) &&& BitVec.ofNat 64 (2 ^ w - 1)
  if top then r ^^^ poly else r

/-- The eight bits of a byte in the order in which they enter: with REFIN the least significant first. -/
def cvuBits (refin : Bool) (x : Byte) : List Bool :=
  let l := (List.range 8).map fun i => x.getLsbD i
  if refin then l else l.reverse

/-- A register after a byte string. -/
def Cvu.feed (u : Cvu) (r : W64) (l : List Byte) : W64 :=
  l.foldl (fun r x => (cvuBits u.refin x).foldl (cvuBit u.width u.poly) r) r

/-- The value a register ends in (R393). -/
def Cvu.final (u : Cvu) (r : W64) : W64 := (if u.refout then revBits u.width r else r) ^^^ u.xorout

/-- A value as W/8 bytes in ORDER. -/
def Cvu.bytes (u : Cvu) (v : W64) : List Byte := if u.order then be (u.width / 8) v.toNat else le (u.width / 8) v.toNat

/-- The tap length (R392): LEN_MODE 0 FIXED, 1 TO_END, 2 FIELD; MODE 2 is CHECK_STRIP. -/
def Cvu.tapLen (u : Cvu) (l : List Byte) : Nat :=
  match u.lenMode with
  | 0 => u.lenVal
  | 1 => l.length - u.tapOff - (if u.mode = 2 then u.width / 8 else 0)
  | _ => beAt l (u.tapOff + u.lenFld) 2 + u.lenVal

/-- The tap of a data unit, none when it would run past the end (R392). -/
def Cvu.tap (u : Cvu) (l : List Byte) : Option (List Byte) :=
  if u.tapOff + u.tapLen l ≤ l.length then some (slice l u.tapOff (u.tapLen l)) else none

/-- A data unit passes a unit (R393): RUNNING, RESULT and the counters; a tap overrun counts as a mismatch. -/
def Cvu.pass1 (u : Cvu) (l : List Byte) : Cvu :=
  match u.tap l with
  | none => { u with units := u.units + 1, misses := u.misses + 1 }
  | some t => let r := u.feed u.init t
              { u with running := r, result := u.final r, units := u.units + 1 }

/-- A unit is out of service: its last known-answer test failed (R395). -/
def Cvu.out (u : Cvu) : Bool := u.failed && !u.pass

/-- The setting of CRC-32C (R395). -/
def Cvu.castagnoli (u : Cvu) : Cvu :=
  { u with width := 32, poly := 0x1EDC6F41, init := 0xFFFFFFFF, refin := true, refout := true, xorout := 0xFFFFFFFF }

/-! ## The units in the module -/

/-- Unit `n`. -/
def State.cvu (s : State) (n : Nat) : Cvu := s.cvus.getD n (Cvu.make 0 false 0 1 0)

/-- Unit `n` changed. -/
def State.modCvu (s : State) (n : Nat) (f : Cvu → Cvu) : State := { s with cvus := modNth s.cvus n f }

/-- A data unit passes unit `n` in COMPUTE: its value, none when the tap overruns or the unit is out of service
(R392, R393, R395). -/
def State.cvuCompute (s : State) (n : Nat) (l : List Byte) : State × Option W64 :=
  let u := s.cvu n
  (s.modCvu n (·.pass1 l), if u.out || (u.tap l).isNone then none else some (u.pass1 l).result)

/-- A data unit passes unit `n` in APPEND (R392, R393, R395): the bytes it appends, none when the tap overruns or the unit is out of
service. -/
def State.cvuAppend (s : State) (n : Nat) (l : List Byte) : State × Option (List Byte) :=
  let u := s.cvu n
  (s.modCvu n (·.pass1 l), if u.out || (u.tap l).isNone then none else some (u.bytes (u.pass1 l).result))

/-- The W/8 bytes after the tap, read in ORDER, are the value of the tap (R393). -/
def Cvu.matches_ (u : Cvu) (l : List Byte) : Bool :=
  match u.tap l with
  | none => false
  | some t => slice l (u.tapOff + t.length) (u.width / 8) == u.bytes (u.final (u.feed u.init t))

/-- A data unit with its check value passes unit `n` in CHECK_STRIP: its mark (R393, R395). -/
def State.cvuStrip (s : State) (n : Nat) (l : List Byte) : State × Bool :=
  let u := s.cvu n
  let ok := u.matches_ l
  (s.modCvu n fun u => { u.pass1 l with misses := u.misses + bit (!ok) }, ok && !u.out)

/-! ## Jobs -/

/-- SVC runs a job on a general unit with CRC-32C (R394): the units stand idle, so their registers show the job. A failed unit takes none:
its jobs run in firmware (R395). -/
def State.cvuJob (s : State) (n : Nat) (l : List Byte) : State :=
  s.modCvu n fun u =>
    if u.out then u
    else
      let u := u.castagnoli
      let r := u.feed u.init l
      { u with running := r, result := u.final r, units := u.units + 1 }

end Sys2Proof.Machine
end

