-- ==== Sys2Proof/Machine/RecorderOps.lean ====
section
/-! DEFINITION. Writing a record: flooding rules, snapshots, the ring of places and its fences (R360 to R369). -/

namespace Sys2Proof.Machine

/-- The tokens a code's bucket holds; a bucket starts full (R367). -/
def Recorder.tokens (r : Recorder) (code : Nat) : Nat :=
  match r.buckets.find? (·.code == code) with
  | some b => b.tokens
  | none => (r.bucketCfg code).1

/-- The bucket of `code` at `n` tokens, refilled or full until `ms`. -/
def Recorder.setTokens (r : Recorder) (code n ms : Nat) : Recorder :=
  { r with buckets := ⟨code, n, ms⟩ :: r.buckets.filter (·.code != code) }

/-- A trigger takes a token (R367): the refill of a full bucket is timed from here. -/
def Recorder.takeToken (r : Recorder) (code ms : Nat) : Recorder :=
  let t := r.tokens code
  r.setTokens code (t - 1) (match r.buckets.find? (·.code == code) with
    | some b => if t < (r.bucketCfg code).1 then b.at_ else ms
    | none => ms)

/-- The first unfenced place from `p` on, searching at most `fuel` regions of 64 places (R369, R373). -/
def Recorder.freePlace (r : Recorder) : Nat → Nat → Option Nat
  | 0, _ => none
  | fuel + 1, p =>
    if r.fenced.contains (p / 64) then r.freePlace fuel ((p / 64 + 1) * 64 % recPlaces r.size) else some p

/-- The record with its CRC-32C (R362). -/
def Rec.seal_ (c : Rec) : Rec := { c with crc := crc32c c.body }

/-- One snapshot value (R365): the value of an address word, none when it is unused, absent or a register the model
does not hold. -/
def State.snapWord (s : State) (w : W32) : Option W32 :=
  let n := w.toNat
  if field n 31 30 == 1 then (s.readObj (field n 23 8) (field n 7 0)).map fun b => BitVec.ofNat 32 (leAt b 0 4)
  else none

/-- The default list of a fault record's code (R365). -/
def State.faultSnap (s : State) (src : Nat) : List (Option W32) :=
  let v := s.vital
  let o := fun (n : Nat) => some (BitVec.ofNat 32 n)
  [some (s.srcCfg src).word, o v.ladder.code,
   o (v.chans.a.role.code + 256 * v.chans.b.role.code + 65536 * v.chans.c.role.code + 16777216 * v.chans.d.role.code),
   o v.cycleCount, o (s.col.recs.filter (·.isSome)).length, o s.kernel.twin.role, o s.time.source.code,
   o (lookupD s.col.counts src)]

/-- The snapshot of a trigger code (R365, R375): the PST's list, else the image's. -/
def State.snapshot (s : State) (code src : Nat) : List (Option W32) :=
  match s.rcd.snaps.find? (·.code == code) with
  | some c => (c.list ++ List.replicate 8 0).take 8 |>.map s.snapWord
  | none =>
    if 0x1000 ≤ code && code < 0x1200 then s.faultSnap src
    else (Config.snapList code ++ List.replicate 8 0).take 8 |>.map s.snapWord

/-- The VALID byte of a snapshot (R362). -/
def validBits (l : List (Option W32)) : Byte :=
  byteOf ((l.zipIdx.map fun p => bit p.1.isSome * 2 ^ p.2).sum)

/-- The new record of a trigger, at the next RSEQ (R362). -/
def State.newRec (s : State) (code src flags : Nat) (vals : List (Option W32)) : Rec :=
  Rec.seal_
    { trigger := code, rep := 0, s := s.time.now.s % 2 ^ 32, ns := s.time.now.ns, source := src
      flags := flags + bit (s.time.source == .none) * 256
      vals := vals.map (·.getD 0), rseq := s.rcd.rseq, valid := validBits vals, mstate := s.mstate.code
      ladder := s.vital.ladder.code, cycle := s.vital.cycleCount, crc := 0, about := s.col.about }

/-- RSEQ after `n` (R362). -/
def nextRseq (n : Nat) : Nat := if n ≥ 0xFFFFFFFF then 1 else n + 1

/-- LOST higher by `n`, saturating (R369). -/
def Recorder.lose (r : Recorder) (n : Nat) : Recorder := { r with lost := min 0xFFFFFFFF (r.lost + n) }

/-- The newest record takes the trigger instead of a new record (R368); a fenced one is held no longer. -/
def mergeable (c n : Rec) : Bool :=
  c.trigger == n.trigger && c.source == n.source && c.flags == n.flags && c.vals == n.vals && c.valid == n.valid && c.about == n.about
    && c.rep < 0xFFFF

/-- The merged record (R368). -/
def Rec.merge (c n : Rec) : Rec :=
  Rec.seal_ { c with rep := c.rep + 1, s := n.s, ns := n.ns, mstate := n.mstate, ladder := n.ladder, cycle := n.cycle }

/-- A record goes into the ring (R369, R371): fenced regions are skipped, the place's old record is replaced, and a
pinned one is kept while the new record is lost. -/
def Recorder.put (r : Recorder) (n : Rec) (epoch : Nat) : Recorder :=
  match r.freePlace 513 (r.next % recPlaces r.size) with
  | none => r.lose 1
  | some p =>
    let old := r.recs.find? (·.1 == p)
    let pinned := match r.pin, old with
      | some pin, some (_, c) => pin.lo ≤ c.rseq && c.rseq ≤ pin.hi
      | _, _ => false
    if pinned then r.lose 1
    else { r with recs := r.recs.filter (·.1 != p) ++ [(p, n)], next := (p + 1) % recPlaces r.size
                  rseq := nextRseq r.rseq, epoch := epoch }

/-- A trigger with its eight values reaches the recorder (R365 to R369). -/
def State.recordVals (s : State) (code src flags : Nat) (vals : List (Option W32)) : State :=
  let r := s.rcd
  if r.stopped then s
  else
    let n := s.newRec code src flags vals
    let epoch := s.time.now.s / 2 ^ 32
    if r.size < 2 then
      let t := r.tokens code
      if t = 0 then { s with rcd := r.lose 1 }
      else { s with rcd := (r.takeToken code s.svc.ms).put n epoch }
    else
      match r.recs.getLast? with
      | some (p, c) =>
        if mergeable c n && nextRseq c.rseq == r.rseq then
          { s with rcd := { r with recs := r.recs.dropLast ++ [(p, c.merge n)], merges := r.merges + 1, epoch := epoch } }
        else { s with rcd := r.put n epoch }
      | none => { s with rcd := r.put n epoch }

/-- A trigger reaches the recorder with its snapshot list (R365). -/
def State.record (s : State) (code src flags : Nat) : State := s.recordVals code src flags (s.snapshot code src)

end Sys2Proof.Machine
end

