-- ==== Sys2Proof/Machine/Telegrams.lean ====
section
/-! DEFINITION. Safe telegrams as bytes: layout, safety codes, TAG (R269 to R271). -/

namespace Sys2Proof.Machine

/-- A telegram's bytes up to the end of its payload (R269). -/
def telBody (t : Telegram) : List Byte :=
  [t.version, t.typ] ++ be 2 t.payload.length ++ be 4 t.srcId.toNat ++ be 4 t.dstId.toNat ++ be 2 t.session
    ++ [t.flags, 0] ++ be 4 t.seq ++ be 4 t.confSeq ++ be 4 t.timeMs ++ be 4 t.echoMs ++ t.payload

/-- A telegram with its two safety codes. -/
def telCoded (t : Telegram) : List Byte := telBody t ++ be 4 t.scC.toNat ++ be 4 t.scH.toNat

/-- A telegram as it stands on the wire (R269). -/
def telBytes (t : Telegram) : List Byte :=
  telCoded t ++ (match t.tag with | some g => be 8 g.toNat | none => [])

/-- The key of a partner record (R286). -/
def telKey (pst : List PstVal) (p : Partner) : List Byte := pstKey pst 0x2881 (p.keySlot + 1)

/-- The TAG of a telegram under a partner's key (R270). -/
def telTag (pst : List PstVal) (p : Partner) (t : Telegram) : W64 :=
  BitVec.ofNat 64 (ofBe ((Config.cmac (telKey pst p) (telCoded t)).take 8))

/-- CMAC required of a partner (R80). -/
def Partner.tagged (p : Partner) : Bool := bitAt p.flags 0
/-- The module opens the session (R80). -/
def Partner.opens (p : Partner) : Bool := bitAt p.flags 1

/-- TAG presence and value are right (R270, R286). -/
def tagOk (pst : List PstVal) (p : Partner) (t : Telegram) : Bool :=
  t.flags.getLsbD 1 == p.tagged && (match t.tag with
    | some g => p.tagged && p.keySlot != 0xFFFF && telKey pst p != List.replicate 16 0 && g == telTag pst p t
    | none => !p.tagged)

/-- The safety codes and the TAG of a telegram recomputed (R275 check 1). -/
def codesOk (pst : List PstVal) (p : Partner) (t : Telegram) : Bool :=
  t.wire && t.scC == crc32c (telBody t) && t.scH == crc32h (telBody t) && tagOk pst p t

/-- The telegram types a partner's CLASS permits (R271). -/
def typePermitted (cls typ : Nat) : Bool :=
  typ == 1 || typ == 2 || typ == 3 || typ == 6 || (typ == 4 && cls == 4) || (typ == 5 && cls == 2)

/-- A telegram with its codes and its TAG. -/
def sealTel (pst : List PstVal) (p : Partner) (t : Telegram) : Telegram :=
  let t := { t with scC := crc32c (telBody t), scH := crc32h (telBody t) }
  if p.tagged then { t with tag := some (telTag pst p t) } else t

/-- The payload of a DISC (R271). -/
def discPayload (reason : Nat) : List Byte := [byteOf reason, 0, 0, 0]

/-- DISC MODULE_SAFE (R279): RESTRICTIVE set; TIME_MS is a free value, since no evaluation produces the telegram (assumption 130). -/
def safeDisc (pst : List PstVal) (p : Partner) (station : W32) (sid seq conf echo : Nat) : Telegram :=
  sealTel pst p
    { version := 1, typ := 6, srcId := station, dstId := p.id, session := sid, flags := byteOf (1 + 2 * bit p.tagged)
      seq := seq % 2 ^ 32, confSeq := conf, timeMs := Config.discMs seq, echoMs := echo, payload := discPayload 2
      scC := 0, scH := 0, tag := none, wire := true }

end Sys2Proof.Machine
end

