-- ==== Sys2Proof/Machine/SessOps.lean ====
section
/-! DEFINITION. Safe telegrams and sessions as the channels evaluate them (R269 to R280). -/

namespace Sys2Proof.Machine

/-! ## Telegrams -/

/-- An SCC record as the first 16 bytes of a payload (R137). -/
def sccOf (l : List Byte) : SccRec :=
  ⟨byteAt l 0, byteAt l 1, beAt l 2 2, beAt l 4 2, beAt l 6 2, beAt l 8 2, (byteAt l 10).toNat, byteAt l 11, beAt l 12 2,
    beAt l 14 2⟩

/-- The bytes of an SCC record (R137). -/
def sccBytes (r : SccRec) : List Byte :=
  [r.kind, r.r1] ++ be 2 r.op ++ be 2 r.target ++ be 2 r.requestId ++ be 2 r.challenge ++ [byteOf r.slot, r.r11]
    ++ be 2 r.result ++ be 2 r.r14

/-- A record a host may send (R434). -/
def sccFromHost (r : SccRec) : Bool := (r.kind = 1 || r.kind = 3) && r.r1 = 0 && r.r11 = 0 && r.r14 == 0

/-! ## Sessions and partners as data -/

/-- What the module keeps of partner `n`. -/
def Kernel.partnerSt (k : Kernel) (n : Nat) : PartnerSt := k.partners.getD n ⟨0, 0, 0, 0⟩
/-- The kernel with partner `n` changed. -/
def Kernel.modPartner (k : Kernel) (n : Nat) (f : PartnerSt → PartnerSt) : Kernel :=
  { k with partners := modNth k.partners n f }
/-- Session index `n`. -/
def Kernel.session (k : Kernel) (n : Nat) : SessSt := k.sess.getD n SessSt.unbound
/-- The kernel with session index `n` changed. -/
def Kernel.modSess (k : Kernel) (n : Nat) (f : SessSt → SessSt) : Kernel := { k with sess := modNth k.sess n f }
/-- The lowest free session index (R277). -/
def Kernel.freeIndex (k : Kernel) : Option Nat := k.sess.findIdx? (·.state == .unbound)
/-- A telegram is discarded and counted. -/
def Kernel.discardTel (k : Kernel) : Kernel := { k with telDiscards := k.telDiscards + 1 }

/-- now (R275): the agreed vital time in ms, low 32 bits. -/
def Kernel.now32 (k : Kernel) : Nat := k.vital % 2 ^ 32

/-- A 32-bit time that is not later than now, on the full count. -/
def Kernel.widen (k : Kernel) (t : Nat) : Nat := k.vital - (k.now32 + 2 ^ 32 - t % 2 ^ 32) % 2 ^ 32

/-- A session goes to `HOLD_OFF` (R277). -/
def Kernel.closeSess (k : Kernel) (n reason : Nat) (ctl : SessCtl) : Kernel :=
  k.modSess n fun s => { s with state := .holdOff, holdAt := k.vital, lastClose := reason, ctl := ctl, dataIn := [] }

/-- A session adopts the SESSION of a CONN_REQ and goes `OPENING` (R277). -/
def Kernel.adopt (k : Kernel) (n partner : Nat) (t : Telegram) (bind : Bool) : Kernel :=
  (k.modSess n fun s =>
    { s with state := .opening, partner := partner, sid := t.session, opener := false, rxSeq := t.seq, rxAny := true
             confSeq := 0, confEcho := 0, confAny := false, connSeq := none, connAt := k.vital
             dataIn := [], ctl := .connResp bind }).modPartner partner fun p =>
    { p with accSeq := t.seq, accMs := t.timeMs }

/-- The module opens a session (R277). -/
def Kernel.openOwn (k : Kernel) (n partner : Nat) : Kernel :=
  let sid := (k.partnerSt partner).nextSid
  (k.modSess n fun _ =>
    { SessSt.unbound with state := .opening, partner := partner, sid := sid, opener := true, connAt := k.vital
                          ctl := .connReq true }).modPartner partner fun p =>
    { p with nextSid := (p.nextSid + 1) % 65536 }

/-! ## Acceptance -/

/-- A confirmation is valid (R276, R280). -/
def Kernel.confOk (k : Kernel) (s : SessSt) (t : Telegram) : Bool :=
  let last := (k.partnerSt s.partner).txSeq
  !seqLater 32 t.confSeq last && !(s.confAny && seqLater 32 s.confSeq t.confSeq)
    && !seqLater 32 t.echoMs k.now32 && !(s.confAny && seqLater 32 s.confEcho t.echoMs)
    && s.records.all fun r => r.time != t.echoMs || (!seqLater 32 r.first t.confSeq && !seqLater 32 t.confSeq r.last)

/-- A confirmation older than the first SEQ a new active sent is accepted for sequence only (R280). -/
def sequenceOnly (s : SessSt) (t : Telegram) : Bool := s.firstOwn != 0 && seqLater 32 s.firstOwn t.confSeq

/-- A telegram's SEQ is accepted: RX_SEQ, the skipped numbers, and what CONF_SEQ and ECHO_TIME_MS will carry (R275,
R278). -/
def Kernel.takeSeq (k : Kernel) (n : Nat) (t : Telegram) : Kernel :=
  (k.modSess n fun s =>
    { s with rxSeq := t.seq, rxAny := true
             lost := if s.rxAny then s.lost + ((t.seq + 2 ^ 32 - s.rxSeq % 2 ^ 32) % 2 ^ 32 - 1) else s.lost }).modPartner
    (k.session n).partner fun p => { p with accSeq := t.seq, accMs := t.timeMs }

/-- A valid confirmation renews the deadline (R276). -/
def Kernel.takeConf (k : Kernel) (n timeoutMs : Nat) (t : Telegram) : Kernel :=
  k.modSess n fun s =>
    { s with confSeq := t.confSeq, confEcho := t.echoMs, confAny := true, deadline := k.widen t.echoMs + timeoutMs }

/-- A session goes `OPEN` (R277). -/
def Kernel.toOpen (k : Kernel) (n : Nat) (t : Telegram) : Kernel :=
  k.modSess n fun s =>
    { s with state := .open_, openings := s.openings + 1, ageMax := k.vital - k.widen t.echoMs, dataIn := []
             restrictive := false }

/-- The payload of an accepted telegram is applied (R275, R271). -/
def Kernel.applyPayload (k : Kernel) (n : Nat) (t : Telegram) : Kernel :=
  match t.typ.toNat with
  | 3 => k.modSess n fun s => { s with dataIn := t.payload, restrictive := t.flags.getLsbD 0 }
  | 4 => { k with sccIn := k.sccIn ++ [(n, sccOf t.payload)] }
  | 5 => { k with reports := k.reports ++ [(2, (k.session n).partner, t.payload)] }
  | _ => k

/-- A telegram whose checks 1 to 5 hold (R275 check 6, R277). -/
def Kernel.acceptTel (k : Kernel) (n : Nat) (p : Partner) (t : Telegram) : Kernel :=
  let s := k.session n
  let k := k.takeSeq n t
  let seqOnly := sequenceOnly s t
  let k := if seqOnly then k else k.takeConf n p.timeoutMs t
  if t.typ = 6 then k.closeSess n 7 .unbind
  else
    let opened := match s.connSeq with | some c => !seqLater 32 c t.confSeq | none => false
    let k := if s.state == .opening && opened then k.toOpen n t else k
    if k.widen t.echoMs + p.timeoutMs < k.vital && !seqOnly then k else k.applyPayload n t

/-- One agreed telegram of a session stream (R275). A session that is in `HOLD_OFF` discards it. -/
def Kernel.telegram (d : Sdi) (pst : List PstVal) (k : Kernel) (n : Nat) (t : Telegram) : Kernel :=
  let s := k.session n
  match d.partner s.partner with
  | none => k
  | some p =>
    if s.state == .unbound || s.state == .holdOff then k.discardTel
    else if !codesOk pst p t then (k.modSess n fun s => { s with lost := s.lost + 1 }).note 0x1A0
    else if t.srcId != p.id || !typePermitted p.cls t.typ.toNat || p.maxPayload < t.payload.length
        || (t.typ = 4 && !(t.payload.length == 16 && sccFromHost (sccOf t.payload))) then k.discardTel
    else if t.session != s.sid then
      if t.typ = 1 && s.state == .open_ && !s.opener then k.adopt n s.partner t false else k.discardTel
    else if s.rxAny && !seqLater 32 t.seq s.rxSeq then k.discardTel
    else if !sequenceOnly s t && !k.confOk s t then
      if s.state == .open_ then k.closeSess n 4 (.disc 4) else k.discardTel
    else k.acceptTel n p t

/-- A CONN_REQ that reaches the kernel from SVC (R274, R277). -/
def Kernel.connReq (d : Sdi) (pst : List PstVal) (k : Kernel) (partner : Nat) (t : Telegram) : Kernel :=
  match d.partner partner with
  | none => k
  | some p =>
    match k.sessOf partner with
    | some (n, _) => k.telegram d pst n t
    | none =>
      if !codesOk pst p t then k.note 0x1A0
      else if t.srcId != p.id || t.typ != 1 || p.maxPayload < t.payload.length then k.discardTel
      else match k.freeIndex with
        | none => { k with noSession := k.noSession + 1, replies := k.replies ++ [(partner, t.session, 5)] }
        | some n =>
          if p.opens || (byteAt t.payload 4).getLsbD 0 != p.tagged then
            { k with replies := k.replies ++ [(partner, t.session, 6)] }
          else
            let k := k.modSess n fun s => { SessSt.unbound with openings := 0, lastClose := s.lastClose }
            k.adopt n partner t true

/-- A PATH_MISMATCH notice (R277, R283 .04). -/
def Kernel.pathMismatchNotice (k : Kernel) (partner : Nat) : Kernel :=
  let k := { k with pathMismatch := k.pathMismatch + 1 }
  match k.sessOf partner with
  | some (n, s) => if s.state == .open_ then k.closeSess n 3 (.disc 3) else k
  | none => k

/-! ## Timers -/

/-- The time rows of the session table for one index (R277). -/
def Kernel.timeSess (d : Sdi) (k : Kernel) (n : Nat) : Kernel :=
  let s := k.session n
  let limit := match d.partner s.partner with | some p => p.timeoutMs | none => 0
  match s.state with
  | .open_ => if s.deadline < k.vital then k.closeSess n 1 (.disc 1) else k
  | .opening =>
    if s.opener then
      if 200 ≤ k.gone s.connAt then k.modSess n fun s => { s with ctl := .connReq false, connAt := k.vital } else k
    else if limit ≤ k.gone s.connAt then k.closeSess n 1 (.disc 1) else k
  | .holdOff =>
    if 1000 ≤ k.gone s.holdAt then
      k.modSess n fun s => { SessSt.unbound with lastClose := s.lastClose }
    else k
  | .unbound => k

/-- The module opens its own sessions (R277). -/
def Kernel.openSessions (d : Sdi) (k : Kernel) : Kernel :=
  if !k.drives then k
  else d.partners.foldl (fun k p =>
    if p.opens && (k.sessOf p.index).isNone then
      match k.freeIndex with | some n => k.openOwn n p.index | none => k
    else k) k

/-- The largest age of an `OPEN` session's data (R285 .08). -/
def Kernel.ages (k : Kernel) : Kernel :=
  { k with sess := k.sess.map fun s =>
      if s.state == .open_ then { s with ageMax := max s.ageMax (k.vital - k.widen s.confEcho) } else s }

/-- An agreed entry of a session stream: the telegram, or none when it was excluded or lost (R57, R275). -/
abbrev SessTel := Nat × Option Telegram

/-- One agreed telegram, unless its session has closed in this step (R275). -/
def Kernel.telStep (d : Sdi) (pst : List PstVal) (k : Kernel) (x : SessTel) : Kernel :=
  match x.2 with
  | some t => k.telegram d pst x.1 t
  | none => if (k.session x.1).state == .unbound then k
            else (k.modSess x.1 fun s => { s with lost := s.lost + 1 }).note 0x1A0

/-- The sessions in step 1 of R94 (R275, R277). -/
def Kernel.sessStep (d : Sdi) (pst : List PstVal) (k : Kernel) (svc : List SvcEntry) (tels : List SessTel) : Kernel :=
  let k := svc.foldl (fun k e => match e with
    | .connReq p t => k.connReq d pst p t
    | .mismatch p => k.pathMismatchNotice p
    | _ => k) k
  let k := tels.foldl (Kernel.telStep d pst) k
  if k.drives then (((List.range 128).foldl (fun k n => k.timeSess d n) k).openSessions d).ages else k

/-! ## Sending -/

/-- The next telegram to a partner (R269, R276, R278). -/
def Kernel.makeTel (d : Sdi) (pst : List PstVal) (k : Kernel) (p : Partner) (typ sid : Nat) (payload : List Byte) :
    Telegram :=
  let q := k.partnerSt p.index
  sealTel pst p
    { version := 1, typ := byteOf typ, srcId := d.stationId, dstId := p.id, session := sid
      flags := byteOf (2 * bit p.tagged), seq := (q.txSeq + 1) % 2 ^ 32, confSeq := q.accSeq, timeMs := k.now32
      echoMs := q.accMs, payload := payload, scC := 0, scH := 0, tag := none, wire := true }

/-- An egress entry is written; its SEQ is used (R272, R278). -/
def Kernel.sendTel (d : Sdi) (pst : List PstVal) (k : Kernel) (p : Partner) (idx : Nat) (bind unbind : Bool)
    (typ sid : Nat) (payload : List Byte) : Kernel :=
  let t := k.makeTel d pst p typ sid payload
  { k.modPartner p.index fun q => { q with txSeq := (q.txSeq + 1) % 2 ^ 32 } with
    tels := k.tels ++ [(⟨p.index, idx, bind, unbind, some t⟩ : OutTel)] }

/-- The payload of a CONN_REQ or CONN_RESP (R271). -/
def connPayload (p : Partner) : List Byte :=
  be 2 p.periodMs ++ be 2 p.timeoutMs ++ [byteOf (bit p.tagged), 0, 0, 0]

/-- The out-fields of a partner in step 6 (R78, R278): MAX_PAYLOAD bytes, every unbound byte 0. -/
def Kernel.outFields (d : Sdi) (k : Kernel) (p : Partner) : List Byte :=
  d.bindings.foldl (fun l b => match b.addr with
    | .field q off bt w =>
      if q == p.index && 0x80 ≤ b.attr then setFieldBits l off bt w (k.outAttr d b.element b.attr) else l
    | _ => l) (List.replicate p.maxPayload 0)

/-- What a session keeps of the telegrams of one cycle (R276): the last 32 sending cycles. -/
def SessSt.sent (s : SessSt) (now before after : Nat) : SessSt :=
  if before = after then s
  else
    let r := match s.records.getLast? with
      | some r => if r.time = now then s.records.dropLast ++ [{ r with last := after }]
                  else s.records ++ [(⟨now, (before + 1) % 2 ^ 32, after⟩ : SendRec)]
      | none => [⟨now, (before + 1) % 2 ^ 32, after⟩]
    { s with records := r.drop (r.length - 32) }

/-- The connection telegram a session owes (R277, R278). -/
def Kernel.sendConn (d : Sdi) (pst : List PstVal) (k : Kernel) (p : Partner) (n : Nat) : Kernel :=
  let s := k.session n
  let go := fun (typ : Nat) (bind : Bool) =>
    let k := k.sendTel d pst p n bind false typ s.sid (connPayload p)
    k.modSess n fun s => { s with ctl := .none, connSeq := some (s.connSeq.getD (k.partnerSt p.index).txSeq) }
  match s.ctl with
  | .connReq b => go 1 b
  | .connResp b => go 2 b
  | _ => k

/-- The DATA of a session (R278); `due` is false where a command acts between two evaluations. -/
def Kernel.sendData (d : Sdi) (pst : List PstVal) (k : Kernel) (p : Partner) (n : Nat) (due : Bool) : Kernel :=
  let s := k.session n
  let data := k.outFields d p
  if s.state == .open_ && ((due && p.periodMs != 0 && k.vital % p.periodMs == 0) || data != s.outData) then
    (k.sendTel d pst p n false false 3 s.sid data).modSess n fun s => { s with outData := data }
  else k.modSess n fun s => { s with outData := data }

/-- SCC records of a session, `room` of them at most; the rest waits (R138, R278). -/
def Kernel.sendScc (d : Sdi) (pst : List PstVal) (p : Partner) (n : Nat) : Nat → Kernel → Kernel
  | 0, k => k
  | room + 1, k =>
    match k.sccOut.find? (·.1 == n) with
    | none => k
    | some x =>
      let k := { k with sccOut := k.sccOut.erase x }
      let k := if (k.session n).sid == x.2.1 then k.sendTel d pst p n false false 4 x.2.1 (sccBytes x.2.2) else k
      Kernel.sendScc d pst p n room k

/-- The DISC or the UNBIND a session owes (R277). -/
def Kernel.sendEnd (d : Sdi) (pst : List PstVal) (k : Kernel) (p : Partner) (n : Nat) : Kernel :=
  let s := k.session n
  match s.ctl with
  | .disc r => (k.sendTel d pst p n false true 6 s.sid (discPayload r)).modSess n fun s => { s with ctl := .none }
  | .unbind => ({ k with tels := k.tels ++ [(⟨p.index, n, false, true, none⟩ : OutTel)] }).modSess n fun s => { s with ctl := .none }
  | _ => k

/-- What one session sends in P5 (R278): at most four telegrams. -/
def Kernel.sendSess (d : Sdi) (pst : List PstVal) (due : Bool) (k : Kernel) (n : Nat) : Kernel :=
  let s := k.session n
  match s.state, d.partner s.partner with
  | .unbound, _ => k
  | _, none => k
  | _, some p =>
    let before := (k.partnerSt p.index).txSeq
    let k := (k.sendConn d pst p n).sendData d pst p n due
    let used := ((k.partnerSt p.index).txSeq + 2 ^ 32 - before) % 2 ^ 32
    let k := if (k.session n).state == .open_ then Kernel.sendScc d pst p n (4 - used) k else k
    let k := k.sendEnd d pst p n
    k.modSess n fun s => s.sent k.now32 before (k.partnerSt p.index).txSeq

/-- The answers to partners that hold no index (R277): INDEX 0xFF, UNBIND set. -/
def Kernel.sendReplies (d : Sdi) (pst : List PstVal) (k : Kernel) : Kernel :=
  { k.replies.foldl (fun k x => match d.partner x.1 with
      | some p => k.sendTel d pst p 0xFF false true 6 x.2.1 (discPayload x.2.2)
      | none => k) k with replies := [] }

/-- The telegrams of step 6 (R278, R279); SCC records of a session that is not `OPEN` are dropped (assumption 24). -/
def Kernel.sendStep (d : Sdi) (pst : List PstVal) (due : Bool) (k : Kernel) : Kernel :=
  if !k.drives then { k with replies := [], sccOut := [] }
  else
    let k := (List.range 128).foldl (Kernel.sendSess d pst due) (k.sendReplies d pst)
    { k with sccOut := k.sccOut.filter fun x => (k.session x.1).state == .open_ && (k.session x.1).sid == x.2.1 }

end Sys2Proof.Machine
end

