-- ==== Sys2Proof/Machine/ColdStart.lean ====
section
/-! DEFINITION. The kernel at a cold start with station data (R93, R171, R175, R432). -/

namespace Sys2Proof.Machine

/-- The cold state of an element by its type. A key lock starts `KEY_IN` and a boundary `UNAVAILABLE`; the spec states
no start state for them (assumption 25). -/
def ElemSpec.cold : ElemSpec → ElemKind
  | .ts .. => .ts ⟨.disturbed, 0, false, false⟩
  | .pt .. => .pt ⟨.lost, none, 0, 0, 0, false, false, false, false, 0, true⟩
  | .dr .. => .pt ⟨.lost, none, 0, 0, 0, false, false, false, false, 0, true⟩
  | .sg .. => .sg ⟨0, 0, 0, false, false, false⟩
  | .kl .. => .kl ⟨.keyIn, 0, none⟩
  | .lx .. => .lx ⟨.open_, 0, none, false, false⟩
  | .bd .. => .bd .unavailable
  | .bk .. => .bk ⟨.unavailable, false⟩

/-- An element at a cold start (R93): `BLOCKED` with INITIAL_BLOCKED. -/
def Elem.cold (e : Elem) : ElemSt := ⟨e.id, bitAt e.flags 0, e.spec.cold⟩

/-- A section at a cold start (R171). -/
def SectionRec.cold (s : SectionRec) : SectionSt :=
  ⟨s.index, .disturbed, 0, false, false, false, .coldStart, none, 0, 0, 0, 0, none⟩

/-- A head before its first report (R175). -/
def HeadRec.cold (h : HeadRec) : HeadSt where
  index := h.index
  state := .off
  sys1 := .off
  sys2 := .off
  busy1 := false
  busy2 := false
  pendX := 0
  pendY := 0
  pulses := []
  flagged := false
  lastStep := none
  stepReject := false
  noTb := false
  sawPos := false
  sawNeg := false
  pos := 0
  neg := 0
  rock := 0
  partial_ := 0
  rejected := 0
  lastReject := none
  lastSpeed := 0
  lastOverlap := 0
  cause := .none
  silentSys := 0
  silentRun := 0
  remoteSeq := none
  reportAt := none
  horizon := 0
  quietAt := none
  idleRun := 0

/-- One more than the largest partner index. -/
def Sdi.partnerCount (d : Sdi) : Nat := d.partners.foldl (fun n p => max n (p.index + 1)) 0

/-- The kernel at a cold start: START_COUNT numbers the module's first openings (R277), `role` is the twin role (R322). -/
def Sdi.coldKernel (d : Sdi) (startCount role : Nat) : Kernel :=
  { Kernel.cold with
    routes := d.routes.map fun r => RouteSt.idle r.id 0 0
    elems := d.elems.map Elem.cold
    sections := d.sections.map SectionRec.cold
    heads := d.heads.map HeadRec.cold
    partners := List.replicate d.partnerCount ⟨0, startCount % 65536, 0, 0⟩
    startLow := startCount % 65536
    pairs := d.pairs
    twin := { TwinK.reset with role := role } }

end Sys2Proof.Machine
end

