-- ==== Sys2Proof/Machine/TwinOps.lean ====
section
/-! DEFINITION. The twin as the channels evaluate it: status entries, the mirror, alignment, roles, takeover, handover and
the Veneer frame (R176, R177, R322 to R337). -/

namespace Sys2Proof.Machine

/-- What an evaluation takes from outside the kernel: the parameter store, the twin's ring node (0xFF none), the SW1
position (0 SINGLE, 1 TWIN-A, 2 TWIN-B), the ladder level, the heads this module may change the excitation of, and what the checks of a
launch read (R145): module and life-cycle state, SW1 positions, staged types, types no image may be transferred to with their codes,
and the slot whose scheduled activation lies less than 1 s ahead (R147). -/
structure Env where
  pst      : List PstVal
  twinNode : Nat
  position : Nat
  ladder   : Nat
  refHeads : List Nat
  ownNode  : Nat
  ringSlots : List (Nat × Nat × Bool)
  twinStatus : Option Nat
  mstate   : MState
  lc       : Nat
  sws      : List Nat
  staged   : List ImageType
  imgBars  : List (ImageType × Nat)
  lateSlot : Option Nat
  deriving DecidableEq, Repr

/-- The kernel with its twin side changed. -/
def Kernel.modTwin (k : Kernel) (f : TwinK → TwinK) : Kernel := { k with twin := f k.twin }

/-! ## The mirror -/

/-- The value of a page that was never written: all its bytes are 0. -/
def zeroPage : List Byte := List.replicate 2048 0

/-- The contents of own state page `i` (R28, R32): its last writing gives them, or the mirror a takeover replaced the pages by (R334). -/
def Kernel.page (k : Kernel) (i : Nat) : List Byte :=
  match k.pageCyc.find? (·.1 == i) with
  | some (_, c) => (Config.pageData i c ++ zeroPage).take 2048
  | none => match k.base.find? (·.index == i) with | some p => p.data | none => zeroPage

/-- A takeover replaces pages 0 to 255, which are all to be sent again (R329, R334). -/
def Kernel.rebase (k : Kernel) (pages : List VPage) : Kernel :=
  { k with pageCyc := k.pageCyc.filter (256 ≤ ·.1), base := pages, backlog := List.range 256 }

/-- The value of page `i` of the mirror. -/
def Kernel.mirrorValue (k : Kernel) (i : Nat) : W32 :=
  match k.mpages.find? (·.index == i) with | some p => p.value | none => crc32c zeroPage

/-- The pair of checks over 256 page values (R328, R330). -/
def valuesHash (f : Nat → W32) : W64 := crcPair ((List.range 256).flatMap fun i => le 4 (f i).toNat)

/-- A page goes into the mirror when its page value is correct (R330). -/
def Kernel.putPage (k : Kernel) (p : VPage) : Kernel :=
  if p.index < 256 && crc32c p.data == p.value then { k with mpages := p :: k.mpages.filter (·.index != p.index) } else k

/-- One agreed Veneer frame (R330): pages, mirror hash and the flags of the handover. -/
def Kernel.takeVeneer (k : Kernel) (v : Veneer) : Kernel :=
  let k := (v.changed ++ v.refresh).foldl Kernel.putPage k
  let eq := valuesHash k.mirrorValue == v.hash
  let k := if eq then { k with mirror := some (Config.mirrorOf k.mpages) } else k
  k.modTwin fun t =>
    { t with frame := true, hashEq := eq, offerSeen := v.offer, takenSeen := v.taken, cmdSeen := v.cmd
             pagesLast := v.changed.length + v.refresh.length, backlogLast := v.backlog, frameAt := k.cycle }

/-! ## Status entries -/

/-- YIELD of a status entry. -/
def TwinEntry.yield (e : TwinEntry) : Bool := e.flags.getLsbD 0

/-- A run of consecutive entries that hold a condition (R333). -/
def runOf (p : TwinEntry → Bool) (n : Nat) (e : TwinEntry) : Nat := if p e then n + 1 else 0

/-- The twin-status entries and the twin's status frames of a cycle (R326, R333): `owners` holds OWNER of each agreed status
frame of the twin's node. -/
def Kernel.takeEntries (env : Env) (k : Kernel) (es : List TwinEntry) (owners : List Bool) : Kernel :=
  k.modTwin fun t =>
    let ownerNow := owners.any id
    let t := { t with ownerNow := ownerNow, ownerRun := if ownerNow then t.ownerRun + 1 else 0
                      statusOwner := match owners.getLast? with | some b => some b | none => t.statusOwner }
    match es.getLast? with
    | none => { t with silent := 0, ownerAbsent := 0, compatRun := 0, syncRun := 0, noEntry := t.noEntry + 1 }
    | some e =>
      let silent := match t.entry with | some o => o.hbSeq == e.hbSeq | none => false
      let absent := env.twinNode != 0xFF && e.nodeState == 4 && !ownerNow
      let ok := e.valid && e.compatible
      { t with entry := some e, noEntry := 0
               silent := if silent then t.silent + 1 else 0
               ownerAbsent := if absent then t.ownerAbsent + 1 else 0
               notActiveRun := if ownerNow then 0 else es.foldl (runOf fun x => x.valid && x.compatible && x.role != 1) t.notActiveRun
               activeRun := es.foldl (runOf fun x => x.valid && x.role == 1) t.activeRun
               compatRun := if ok then t.compatRun + 1 else 0
               syncRun := if ok && e.role == 3 && e.ladder ≤ 1 then t.syncRun + 1 else 0
               degraded := t.degraded && 2 ≤ e.ladder }

/-! ## Alignment of sections -/

/-- A head is evaluated by a standby (R176): local and driven, or of KIND 1. -/
def Kernel.evaluated (d : Sdi) (k : Kernel) (n : Nat) : Bool :=
  match d.head n with
  | some r => r.kind == 1 || (r.kind == 0 && bitAt r.flags 0 && (match k.head n with
    | some h => h.state != .off | none => false))
  | none => false

/-- Every head of a section has been idle on both modules for the last two cycles (R176). -/
def Kernel.idleBoth (d : Sdi) (k : Kernel) (m : Mirror) (sec : Nat) : Bool :=
  (d.headsOf sec).all fun n =>
    k.evaluated d n && (match k.head n with | some h => 2 ≤ h.idleRun | none => false)
      && (match m.heads.find? (·.index == n) with | some h => 2 ≤ h.idleRun | none => false)

/-- Two views of a section agree. -/
def SectionSt.sameAs (s o : SectionSt) : Bool := s.state == o.state && s.count == o.count && s.swept == o.swept

/-- A section takes state, count and SWEPT of the mirror (R176). -/
def SectionSt.copyFrom (s o : SectionSt) : SectionSt :=
  { s with state := o.state, count := o.count, swept := o.swept, aligned := true }

/-- Alignment in one evaluation of a `STANDBY_SYNC` module (R176). -/
def Kernel.alignStep (d : Sdi) (k : Kernel) : Kernel :=
  match k.mirror with
  | some m =>
    if k.twin.role != 3 then k
    else k.sections.foldl (fun k s => match m.sections.find? (·.index == s.index) with
      | some o =>
        if !k.idleBoth d m s.index then k
        else if !s.aligned then k.modSec s.index fun s => s.copyFrom o
        else if s.sameAs o then k
        else (k.modSec s.index fun s => s.copyFrom o).note 0x140
      | none => k) k
  | none => k

/-! ## Takeover -/

/-- A cycle number of the old owner on the own count. -/
def shiftC (k : Kernel) (m : Mirror) (t : Int) : Int := t + k.cycle - m.cycle
/-- A vital time of the old owner on the own count. -/
def shiftV (k : Kernel) (m : Mirror) (t : Int) : Int := t + k.vital - m.vital

/-- A route's timer runs on from its remaining value (R334). -/
def RouteSt.shift (k : Kernel) (m : Mirror) (r : RouteSt) : RouteSt :=
  { r with timer := r.timer.map fun p => (p.1, (shiftC k m p.2).toNat) }

/-- An element's timers run on (R334). -/
def ElemKind.shift (k : Kernel) (m : Mirror) : ElemKind → ElemKind
  | .pt p => .pt { p with deadline := (shiftC k m p.deadline).toNat, start := shiftC k m p.start }
  | .sg g => .sg { g with changedAt := shiftV k m g.changedAt }
  | .kl l => .kl { l with since := shiftV k m l.since, keySince := l.keySince.map (shiftV k m) }
  | .lx x => .lx { x with deadline := (shiftC k m x.deadline).toNat, provedSince := x.provedSince.map (shiftV k m) }
  | x => x

/-- A slot continues (R154). -/
def SlotSt.shift (k : Kernel) (m : Mirror) (s : SlotSt) : SlotSt :=
  { s with queuedAt := shiftV k m s.queuedAt, finalAt := shiftV k m s.finalAt
           scc := s.scc.map fun c => { c with window := (shiftC k m c.window).toNat } }

/-- A session continues (R280): its next SEQ is the mirrored last SEQ + 16. -/
def SessSt.shift (k : Kernel) (m : Mirror) (s : SessSt) : SessSt :=
  if s.state == .unbound then s
  else
    let last := (m.partners.getD s.partner ⟨0, 0, 0, 0⟩).txSeq
    { s with deadline := (shiftV k m s.deadline).toNat, connAt := shiftV k m s.connAt, holdAt := shiftV k m s.holdAt
             confEcho := (shiftV k m s.confEcho % 2 ^ 32).toNat, records := [], firstOwn := (last + 16) % 2 ^ 32 }

/-- A head of the mirror on the own count, or the own evaluator's with the mirrored counters (R177, R327). -/
def Kernel.takeHead (d : Sdi) (k : Kernel) (m : Mirror) (h : HeadSt) : HeadSt :=
  match m.heads.find? (·.index == h.index), d.head h.index with
  | some o, some r =>
    if r.kind == 2 then { o with reportAt := o.reportAt.map (shiftV k m), quietAt := o.quietAt.map (shiftV k m) }
    else { h with pos := o.pos, neg := o.neg, rock := o.rock, partial_ := o.partial_, rejected := o.rejected }
  | _, _ => h

/-- A section at a takeover from mirror (R177): an aligned one keeps its own values, and the slot of a reset is the mirror's (R154). -/
def Kernel.takeSec (k : Kernel) (m : Mirror) (s : SectionSt) : SectionSt :=
  match m.sections.find? (·.index == s.index) with
  | some o =>
    if s.aligned then { s with aligned := false, slot := o.slot }
    else { o with aligned := false, disturbedAt := (shiftC k m o.disturbedAt).toNat }
  | none => { s with aligned := false }

/-- What a takeover does to a section that was not aligned and one of whose heads has been busy, has counted or rejected since the frame
(R177; the evaluation that agreed the frame lies after the frame's own cycle: DEDUCED, assumption 118), and to a reset slot whose sweep
has ended on this module. -/
def Kernel.settleTaken (d : Sdi) (k : Kernel) (old : SectionSt) : Kernel :=
  let since := k.cycle - k.twin.frameAt
  let heads := d.headsOf old.index
  let moved := heads.any fun n => match k.head n with | some h => h.idleRun ≤ since | none => false
  let k := if !old.aligned && moved && heads.any (fun n => (d.head n).any (·.kind != 2)) then
      k.disturb d old.index .unaligned none .failed 0x0307 else k
  match k.sec old.index with
  | some s => match s.state with
    | .sweep => k
    | .clear => k.endSecSlot d old.index .done 0 none
    | _ => k.endSecSlot d old.index .failed 0x0307 none
  | none => k

/-- Failed outputs, CROSS_FEED latches and bank lock-outs of the mirror are in force (R334); what is failed or locked out in this module
alone is isolated no longer. -/
def Kernel.takeLocks (k : Kernel) (m : Mirror) : Kernel :=
  let own := ((List.range 32).filter fun n => (k.vout n).failed && !m.outs.any (·.1 == n)).map (0xC0 + ·)
    ++ ((List.range 4).filter fun n => (k.bank n).locked && !m.locks.contains n).map (bankSrc · 1)
  let k := { k with
    notes := k.notes ++ own.map fun x => .local_ "unisolate" x
    vouts := k.vouts.zipIdx.map fun (p : VoutSt × Nat) => match m.outs.find? (·.1 == p.2) with
      | some (_, c, y) => ({ p.1 with failed := true, cause := c, partner := y } : VoutSt)
      | none => { p.1 with failed := false, cause := 0, partner := none }
    inputs := k.inputs.zipIdx.map fun (p : InputSt × Nat) => match m.cross.find? (·.1 == p.2) with
      | some (_, y) => ({ p.1 with crossFeed := true, crossPartner := y } : InputSt)
      | none => { p.1 with crossFeed := false, crossPartner := none } }
  [0, 1, 2, 3].foldl (fun k n => k.modBank n fun b =>
    let b := { b with locked := m.locks.contains n }
    { b with state := b.derived, cause := if b.locked then 3 else if b.state == .failed then b.cause else 0 }) k

/-- A local head without DUAL_FED starts its excitation at a takeover; its sections are disturbed (R177). -/
def Kernel.startHeads (d : Sdi) (k : Kernel) : Kernel :=
  (d.heads.filter fun r => r.kind == 0 && !bitAt r.flags 0).foldl (fun k r =>
    ((k.modHead r.index fun h => { h.closed with state := .settling, sys1 := .settling, sys2 := .settling }).disturbAll d
      r.index .headNotActive)) k

/-- A takeover from mirror (R334). -/
def Kernel.takeMirror (d : Sdi) (k : Kernel) (m : Mirror) : Kernel :=
  let heads := k.heads.map (k.takeHead d m)
  let old := k.sections
  let secs := k.sections.map (k.takeSec m)
  let k := { k with
    routes := m.routes.map (RouteSt.shift k m)
    elems := m.elems.map fun (e : ElemSt) => { e with kind := e.kind.shift k m }
    slots := m.slots.map (SlotSt.shift k m)
    launchNo := m.slots.foldl (fun n (x : SlotSt) => max n (x.order + 1)) 0
    sess := m.sess.map (SessSt.shift k m)
    partners := m.partners.map fun (p : PartnerSt) => { p with txSeq := (p.txSeq + 15) % 2 ^ 32 }
    excite := m.excite
    heads := heads
    sections := secs }
  ((old.foldl (Kernel.settleTaken d) (k.takeLocks m)).startHeads d).rebase k.mpages

/-- A takeover from cold state (R334): sensing, lock-outs and excitation stay the module's own. -/
def Kernel.takeCold (d : Sdi) (k : Kernel) : Kernel :=
  let c := d.coldKernel k.startLow k.twin.role
  (({ k with routes := c.routes, elems := c.elems, sections := c.sections, slots := c.slots, sess := c.sess
             partners := c.partners }).startHeads d).rebase []

/-- The module becomes `ACTIVE` (R333). -/
def Kernel.becomeActive (k : Kernel) (cause : Nat) : Kernel :=
  k.modTwin fun t =>
    { t with role := 1, takeovers := t.takeovers + 1, lastCause := cause, offer := false, request := false
             silent := 0, ownerAbsent := 0, syncRun := 0, tookAt := some k.cycle }

/-- RESULT_DATA of TWIN_SWITCHOVER (R337). -/
def switchData (position overlap cycle : Nat) : List Byte := [byteOf position, 0] ++ le 2 overlap ++ le 4 cycle

/-- The slot of a planned switch-over ends `DONE` in the new active (R337). The overlap has only begun then: its length is a free value
(assumption 26). -/
def Kernel.endSwitch (env : Env) (k : Kernel) : Kernel :=
  match k.running 0x0701 with
  | some n => k.finish n .done 0 (switchData env.position (Config.freeNat k.cycle % 65536) k.cycle)
  | none => k

/-- The own pages become the mirror baseline when the module steps down (R333). Routes, elements, slots and sessions stand as they
are and no longer act (assumption 63). -/
def Kernel.stepDown (k : Kernel) : Kernel :=
  let own := (k.pageCyc.filter (·.1 < 256)).map fun p => (⟨p.1, crc32c (k.page p.1), k.page p.1⟩ : VPage)
  let k := { k with mpages := own, mirror := none, replies := [], sccIn := [], sccOut := [] }
  k.modTwin fun t => { t with role := 2, offer := false, request := false, overlap := false }

/-! ## Roles -/

/-- The yield condition of R332; without a twin node on the ring the twin link alone shows it (assumption 27). -/
def Kernel.yieldSeen (env : Env) (k : Kernel) : Bool :=
  (match k.twin.entry with | some e => e.valid && e.yield | none => false)
    && (env.twinNode == 0xFF || k.twin.statusOwner == some false)

/-- The silence condition of R332. -/
def Kernel.silenceSeen (k : Kernel) : Bool := 3 ≤ k.twin.silent && 3 ≤ k.twin.ownerAbsent

/-- R330 holds at this mark. -/
def Kernel.inSync (k : Kernel) : Bool :=
  k.twin.frame && k.twin.hashEq && (match k.twin.entry with | some e => e.valid && e.compatible && e.role == 1 | none => false)

/-- The start-arbitration row (R333). -/
def Kernel.arbitration (env : Env) (k : Kernel) : Bool :=
  3 ≤ k.twin.notActiveRun && (env.position == 1 || (match k.twin.entry with | some e => e.mstate != 1 | none => false))

/-- The twin is valid but not compatible. -/
def Kernel.incompatible (k : Kernel) : Bool :=
  match k.twin.entry with | some e => e.valid && !e.compatible && k.twin.noEntry == 0 | none => false

/-- The cause by which a mark makes a standby `ACTIVE`: 1 YIELD, 2 SILENCE. -/
def Kernel.takeCause (env : Env) (k : Kernel) : Option Nat :=
  if k.yieldSeen env then some 1 else if k.silenceSeen then some 2 else none

/-- The twin's role in the newest entry. -/
def Kernel.twinRole (k : Kernel) : Nat := match k.twin.entry with | some e => e.role | none => 0xFF
/-- The rows of R333 for an `ACTIVE` module. -/
def Kernel.activeRow (env : Env) (k : Kernel) : Kernel :=
  let t := k.twin
  let same := match t.entry with | some e => e.cause == 1 && !e.compatible | none => false
  let pending := t.offer || t.offerSeen || t.overlap
  if 2 ≤ t.noEntry then k.note 0x4A
  else if 2 ≤ t.activeRun && !pending && (env.position == 2 || same) then k.note 0x4F
  else if t.offer && (t.takenSeen || k.twinRole == 1) then k.stepDown
  else if t.silent == 3 then k.note 0x1D1
  else k

/-- The rows of R333 for `STANDBY_SYNC`. A handover that no slot of the mirror runs is the one `DUAL` requests (R331). -/
def Kernel.syncRow (d : Sdi) (env : Env) (k : Kernel) : Kernel :=
  let m := k.mirror.getD default
  if k.twin.frame && k.twin.offerSeen && k.twin.hashEq then
    let t := k.takeMirror d m
    ((t.becomeActive (if (t.running 0x0701).isSome then 3 else 4)).modTwin fun t =>
      { t with overlap := true, overlapCycles := 0 }).endSwitch env
  else match k.takeCause env with
    | some c => (k.takeMirror d m).becomeActive c
    | none =>
      if k.incompatible then
        (k.modTwin fun t => { t with role := 4, isolation := match t.entry with | some e => e.cause | none => 0 }).note 0x1D1
      else if k.twin.silent == 3 && k.twin.ownerNow then (k.modTwin fun t => { t with role := 4, isolation := 5 }).note 0x1D1
      else if !k.inSync && k.twin.silent == 0 then (k.modTwin fun t => { t with role := 2 }).note 0x1D1
      else k

/-- The rows of R333 for `STANDBY`. -/
def Kernel.standbyRow (d : Sdi) (env : Env) (k : Kernel) : Kernel :=
  match k.takeCause env with
  | some c => (k.takeCold d).becomeActive c
  | none =>
    if k.arbitration env then (k.takeCold d).becomeActive 5
    else if k.incompatible then
      (k.modTwin fun t => { t with role := 4, isolation := match t.entry with | some e => e.cause | none => 0 }).note 0x1D1
    else if k.twin.silent == 3 && k.twin.ownerNow then (k.modTwin fun t => { t with role := 4, isolation := 5 }).note 0x1D1
    else if k.inSync then k.modTwin fun t => { t with role := 3 }
    else k

/-- The role table in step 1 of R94 (R333). -/
def Kernel.roleStep (d : Sdi) (env : Env) (k : Kernel) : Kernel :=
  match k.twin.role with
  | 1 => k.activeRow env
  | 2 => k.standbyRow d env
  | 3 => k.syncRow d env
  | 4 => if 3 ≤ k.twin.compatRun then k.modTwin fun t => { t with role := 2 } else k
  | _ => k

/-! ## Handover -/

/-- The handover of the `ACTIVE` module begins to wait for its twin (R336, R337). -/
def Kernel.prepare (k : Kernel) : Kernel := k.modTwin fun t => { t with since := k.vital, degraded := true }

/-- The offer of a handover (R336). -/
def Kernel.makeOffer (k : Kernel) : Kernel :=
  let k := k.modTwin fun t => { t with offer := true, offerCycle := k.cycle }
  match k.running 0x0701 with
  | some n => k.modSlot n fun s => { s with stage := 0x71 }
  | none => k

/-- The handover is given up with a result (R337). -/
def Kernel.endHandover (env : Env) (k : Kernel) (code : Nat) : Kernel :=
  let k := k.modTwin fun t => { t with offer := false, request := false }
  match k.running 0x0701 with
  | some n => k.finish n .failed code (switchData env.position 0 0)
  | none => k

/-- No standby within 10 s (R337). -/
def Kernel.noStandby (env : Env) (k : Kernel) : Kernel :=
  if 10000 ≤ k.gone k.twin.since then k.endHandover env (if k.twin.degraded then 0x0702 else 0x0701) else k

/-- The offer was not taken (R337). -/
def Kernel.notTaken (env : Env) (k : Kernel) : Kernel :=
  if k.twin.offer && k.twin.offerCycle + 5 ≤ k.cycle then k.endHandover env 0x0703 else k

/-- The handover in one evaluation (R336). -/
def Kernel.handoverStep (env : Env) (k : Kernel) : Kernel :=
  if k.twin.role != 1 then k
  else
    let k := k.modTwin fun t =>
      if t.overlap then
        if (match t.entry with | some e => e.role != 1 | none => true) then { t with overlap := false }
        else { t with overlapCycles := t.overlapCycles + 1 }
      else t
    if k.twin.offer then k.notTaken env
    else if (k.running 0x0701).isSome || k.twin.request then
      if 3 ≤ k.twin.syncRun then k.makeOffer else k.noStandby env
    else k

/-- Twin side of step 1 (R326, R330, R333, R336). A module in position `SINGLE` has none. -/
def Kernel.twinStep (d : Sdi) (env : Env) (k : Kernel) (es : List TwinEntry) (owners : List Bool) (vs : List Veneer) :
    Kernel :=
  if k.twin.role == 0 then k
  else
    let k := k.modTwin fun t => { t with frame := false, hashEq := false, offerSeen := false, takenSeen := false }
    let k := (k.takeEntries env es owners)
    let k := vs.foldl Kernel.takeVeneer k
    let k := k.modTwin fun t => { t with frames := if t.frame then t.frames + 1 else 0 }
    ((k.alignStep d).roleStep d env).handoverStep env

/-! ## The Veneer frame -/

/-- A page as it stands in a frame (R328). -/
def Kernel.framePage (k : Kernel) (i : Nat) : List Byte :=
  let p := k.page i
  be 2 i ++ [0, 0] ++ be 4 (crc32c p).toNat ++ p

/-- The pages the kernel has written in an evaluation (R32, R329). -/
def Kernel.wrote (k : Kernel) (pages : List Nat) : Kernel :=
  { k with pageCyc := pages.foldl (fun l i => assocSet l i k.cycle) k.pageCyc
           backlog := k.backlog ++ (pages.filter fun i => i < 256 && !k.backlog.contains i).eraseDups }

/-- The Veneer frame of an `ACTIVE` module (R328, R329). -/
def Kernel.veneerStep (d : Sdi) (env : Env) (k : Kernel) : Kernel :=
  if k.twin.role != 1 then { k with veneer := none }
  else
    let changed := k.backlog.take 27
    let rest := k.backlog.drop 27
    let n := 31 - changed.length
    let refresh := (List.range n).map fun i => (k.refreshAt + i) % 256
    let t := k.twin
    let h := valuesHash fun i => crc32c (k.page i)
    let f := [2, 1, byteOf (bit t.offer + 2 * bit t.overlap + 4 * bit t.overlap), byteOf env.position] ++ be 4 k.cycle
      ++ be 4 d.stationId.toNat ++ be 4 (if t.offer then t.offerCycle else 0)
      ++ [byteOf changed.length, byteOf n, byteOf env.ladder, byteOf (min 255 rest.length)] ++ be 8 h.toNat
      ++ k.cmds.toList.flatMap (fun w => be 2 w.toNat) ++ List.replicate 12 0
      ++ (changed ++ refresh).flatMap k.framePage
    { k with veneer := some f, backlog := rest, refreshAt := (k.refreshAt + n) % 256
             twin := { t with sent := k.cycle, pagesLast := 31, backlogLast := min 255 rest.length } }

end Sys2Proof.Machine
end

