-- ==== Sys2Proof/Machine/SlotCtl.lean ====
section
/-! DEFINITION. Operation slots in the kernel: entry, waiting, start, controls, automatic release (R143 to R158), the
SCC procedure (R136 to R140, R434) and the excitation change (R199, R200). -/

namespace Sys2Proof.Machine

/-! ## Entry and start -/

/-- What a slot takes over from a launch (R144, R149, R157). -/
structure SlotEntry where
  op       : Nat
  target   : Nat
  param    : List Byte
  okind    : Nat
  level    : Nat
  identity : Nat
  started  : Nat
  deriving DecidableEq, Repr

/-- Slot `n` leaves `FREE`: `QUEUED`, or `SUSPENDED` at stage QUEUED with HOLD (R149). -/
def Kernel.enter (k : Kernel) (n : Nat) (e : SlotEntry) (hold : Bool) : Kernel :=
  { k.modSlot n fun s =>
      { SlotSt.free with
        op := e.op, percent := percent0 e.op, state := if hold then .suspended else .queued, okind := e.okind, level := e.level
        identity := e.identity, seq := s.seq, started := e.started, target := e.target, param := e.param
        order := k.launchNo, queuedAt := k.vital } with launchNo := k.launchNo + 1 }

/-- A slot whose operation has started and has not ended. -/
def SlotSt.begun (s : SlotSt) : Bool := s.state == .running || (s.state == .suspended && s.wasRunning)

/-- Another slot in progress that was launched before slot `n`, or has started, and satisfies `p`. -/
def Kernel.before (k : Kernel) (n : Nat) (p : SlotSt → Bool) : Bool :=
  k.slots.zipIdx.any fun x => x.2 != n && x.1.state.busy && (x.1.order < (k.slot n).order || x.1.begun) && p x.1

/-- The waiting conditions of R147. -/
def Kernel.mustWait (k : Kernel) (n : Nat) : Bool :=
  let s := k.slot n
  match s.op with
  | 0x0401 => k.before n fun x => x.op == 0x0401 || x.op == 0x0901
  | 0x0501 => k.before n fun x => x.op == 0x0501 && x.target == s.target
  | 0x0601 => k.before n fun x => x.op == 0x0601
  | 0x0801 => match k.head s.target with | some h => h.state == .settling | none => false
  | 0x0901 => k.slots.any fun x => x.op == 0x0501 && x.begun && x.stage == 0x51
  | _ => false

/-! ## Excitation change -/

/-- The pair of excitation codes R186 permits. -/
def freqRule (f1 f2 : Nat) : Bool :=
  f1 < 16 && f2 < 16 && !([1, 4, 7, 10, 13].contains f1) && !([1, 4, 7, 10, 13].contains f2)
    && (f1 + 3 ≤ f2 || f2 + 3 ≤ f1)

/-- The first TS element whose section the head bounds and that is not `BLOCKED` (R199). -/
def Kernel.unblockedTs (d : Sdi) (k : Kernel) (head : Nat) : Option Nat :=
  (d.elems.find? fun e => match e.spec with
    | .ts 0 _ ac _ _ => (d.headsOf ac).contains head && !k.blocked e.id
    | _ => false).map (·.id)

/-- The checks of an excitation change (R199). -/
def Kernel.excBar (d : Sdi) (env : Env) (k : Kernel) (target : Nat) (param : List Byte) : Option Nat :=
  match d.head target with
  | none => some 0x0801
  | some h =>
    if h.kind != 0 then some 0x0801
    else if (k.unblockedTs d target).isSome then some 0x0802
    else if !freqRule (leAt param 0 1) (leAt param 1 1) then some 0x0803
    else if !(5 ≤ leAt param 2 1 && leAt param 2 1 ≤ 50) then some 0x0804
    else if bitAt h.flags 0 && !env.refHeads.contains target then some 0x0805
    else none

/-- RESULT_DATA of an excitation change (R199). -/
def Kernel.excData (d : Sdi) (k : Kernel) (head : Nat) : List Byte :=
  let st := match k.head head with
    | some h => (match h.state with | .off => 0 | .settling => 1 | .active => 2 | .interfered => 3 | .fault => 4)
    | none => 0
  let (f1, f2, a) := k.exciteOf d head
  le 2 head ++ [byteOf st, 0, byteOf f1, byteOf f2, byteOf a, 0]

/-- The change starts (R199): both systems settle anew with the new values. -/
def Kernel.excStart (d : Sdi) (env : Env) (k : Kernel) (n : Nat) : Kernel :=
  let s := k.slot n
  match k.excBar d env s.target s.param with
  | some c => k.finish n .failed c (k.excData d s.target)
  | none =>
    let k := { k with excite := assocSet k.excite s.target (leAt s.param 0 1, leAt s.param 1 1, leAt s.param 2 1)
                      notes := k.notes ++ [Note.local_ "excite" s.target] }
    let k := (k.modHead s.target fun h => { h with sys1 := .settling, sys2 := .settling }).headTo d s.target .settling .none
    k.modSlot n fun s => { s with stage := 0x80 }

/-- The changes in progress are looked at (R199). -/
def Kernel.excStep (d : Sdi) (k : Kernel) : Kernel :=
  (List.range 96).foldl (fun k n =>
    let s := k.slot n
    if s.op == 0x0801 && s.state == .running && s.stage == 0x80 then
      match k.head s.target with
      | some h =>
        if h.sys1 == .active && h.sys2 == .active then k.finish n .done 0 (k.excData d s.target)
        else if [h.sys1, h.sys2].any fun x => x == .fault || x == .interfered then
          k.finish n .failed 0x0806 (k.excData d s.target)
        else k
      | none => k
    else k) k

/-! ## Start of an operation -/

/-- RESULT_DATA of REC_EXPORT (R371): FIRST_RSEQ, COUNT and the CRC-32C of the records exported. -/
def exportData (lo count : Nat) (crc : W32) : List Byte := le 4 lo ++ le 4 count ++ le 4 crc.toNat

/-- RESULT_DATA of an operation that ends with no detail of its own. -/
def Kernel.opData (d : Sdi) (k : Kernel) (n : Nat) : List Byte :=
  let s := k.slot n
  match s.op with
  | 0x0101 | 0x0102 | 0x0103 => k.routeData s.target 0
  | 0x0201 | 0x0202 => k.ptData (ptTarget s.target).1 0
  | 0x0301 | 0x0302 => k.acData s.target ((d.acOf s.target).getD 0xFFFF) none
  | 0x0801 => k.excData d s.target
  | 0x0701 => switchData k.twin.position 0 0
  | 0x0601 => exportData (leAt s.param 0 4) (leAt s.param 4 4) (crc32c [])
  | _ => []

/-- Every non-final vital slot goes `FAILED` with 0x0D0C (R149, R352). -/
def Kernel.failVital (d : Sdi) (k : Kernel) : Kernel :=
  (List.range 96).foldl (fun k n => if vitalOp (k.slot n).op then k.finish n .failed 0x0D0C (k.opData d n) else k) k

/-- The operation of slot `n` starts (R147). SVC runs the service operations; it is told by a note. -/
def Kernel.startOp (d : Sdi) (env : Env) (k : Kernel) (n : Nat) : Kernel :=
  let k := k.modSlot n fun s => { s with state := .running, wasRunning := true }
  match (k.slot n).op with
  | 0x0101 => k.routeSetOp d n
  | 0x0102 => k.routeCancelOp d n
  | 0x0201 => k.pointOp d n false
  | 0x0701 => (k.modSlot n fun s => { s with stage := 0x70 }).prepare
  | 0x0801 => k.excStart d env n
  | _ => { k with notes := k.notes ++ [.local_ "start" n] }

/-- A `QUEUED` slot starts when nothing holds it (R147, R149). -/
def Kernel.tryStart (d : Sdi) (env : Env) (k : Kernel) (n : Nat) : Kernel :=
  if (k.slot n).state == .queued && !k.mustWait n then k.startOp d env n else k

/-- A slot number and its launch order, put in its place. -/
def insOrder (x : Nat × Nat) : List (Nat × Nat) → List (Nat × Nat)
  | [] => [x]
  | y :: l => if x.1 < y.1 then x :: y :: l else y :: insOrder x l

/-- The queued slots in launch order (R147). -/
def Kernel.queued (k : Kernel) : List Nat :=
  ((k.slots.zipIdx.filter fun x => x.1.state == .queued).foldr (fun x l => insOrder (x.1.order, x.2) l) []).map (·.2)

/-- Waiting slots start in launch order (R147). -/
def Kernel.startQueued (d : Sdi) (env : Env) (k : Kernel) : Kernel := k.queued.foldl (fun k n => k.tryStart d env n) k

/-! ## Step 3 -/

/-- The queue limit of one slot (R149). -/
def Kernel.queueLimit (d : Sdi) (k : Kernel) (n : Nat) : Kernel :=
  let s := k.slot n
  if s.state == .queued && 300000 ≤ k.gone s.queuedAt + s.outMs then k.finish n .failed 0x0D0E (k.opData d n) else k

/-- Automatic release of one slot (R149). -/
def Kernel.autoRelease (k : Kernel) (n : Nat) : Kernel :=
  let s := k.slot n
  if s.state.final && 60000 ≤ k.gone s.finalAt + s.outMs then k.release n else k

/-- Step 3 of R94 for the slots. -/
def Kernel.timeSlots (d : Sdi) (k : Kernel) : Kernel :=
  (List.range 96).foldl (fun k n => (k.autoRelease n).queueLimit d n) k

/-! ## Controls -/

/-- Stages at which SUSPEND is accepted (R147). -/
def suspendAt (op stage : Nat) : Bool :=
  match op with
  | 0x0101 => stage == 0 || stage == 0x12
  | 0x0102 | 0x0201 | 0x0801 => stage == 0
  | 0x0103 | 0x0202 | 0x0301 | 0x0302 => stage == 1
  | 0x0401 => stage == 0 || stage == 0x40
  | 0x0501 => stage == 0 || stage == 0x50
  | 0x0601 => stage == 0 || stage == 0x60
  | _ => false

/-- Stages at which CANCEL is accepted (R147); the last second before an activation is SVC's to refuse. -/
def cancelAt (op stage : Nat) : Bool :=
  match op with
  | 0x0101 => [0, 0x12, 0x13, 0x14].contains stage
  | 0x0102 | 0x0201 | 0x0801 => stage == 0
  | 0x0103 | 0x0202 | 0x0302 => stage == 1
  | 0x0301 => stage == 1 || stage == 0x30
  | 0x0401 => stage == 0 || stage == 0x40
  | 0x0501 => stage == 0 || stage == 0x50
  | 0x0502 => stage == 0x52
  | 0x0601 => stage == 0 || stage == 0x60
  | 0x0701 => stage == 0x70
  | _ => false

/-- An SCC operation (R136). -/
def sccOp (op : Nat) : Bool := [0x0103, 0x0202, 0x0301, 0x0302].contains op

/-- A code or what the control did. -/
abbrev CtlRes := Except Nat Kernel

/-- SUSPEND (R147, R149). -/
def Kernel.suspend (k : Kernel) (n : Nat) : CtlRes :=
  let s := k.slot n
  if s.state != .queued && s.state != .running then .error 0x0D0A
  else if !suspendAt s.op s.stage then .error 0x0D09
  else .ok (k.modSlot n fun s => { s with state := .suspended, wasRunning := s.state == .running })

/-- The preconditions of an SCC operation (R138): a code with RESULT_DATA. -/
def Kernel.sccBar (d : Sdi) (k : Kernel) (op target : Nat) : Option (Nat × List Byte) :=
  match op with
  | 0x0103 => (k.emergReleaseBar d target).map fun x => (x.1, k.routeData target x.2)
  | 0x0202 => (k.emergThrowBar d target).map fun x => (x.1, k.ptData (ptTarget target).1 x.2)
  | _ => (k.acBar d (op == 0x0302) target).map fun x =>
      (x.1, k.acData target ((d.acOf target).getD 0xFFFF) x.2)

/-- A confirmed SCC operation executes, or fails when a precondition no longer holds (R138). -/
def Kernel.sccExec (d : Sdi) (k : Kernel) (n : Nat) : Kernel :=
  let s := k.slot n
  match k.sccBar d s.op s.target with
  | some (c, x) => k.finish n .failed c x
  | none =>
    let k := k.modSlot n fun s => { s with state := .running }
    match s.op with
    | 0x0103 => k.emergRelease d n
    | 0x0202 => k.pointOp d n true
    | op => k.acExec d (op == 0x0302) n

/-- The rest of a RESUME for a slot that had started (R112, R140). -/
def Kernel.resumeRun (d : Sdi) (k : Kernel) (n : Nat) : Kernel :=
  let s := k.slot n
  match s.op with
  | 0x0101 =>
    match d.route s.target, k.rst s.target with
    | some r, some q =>
      if q.state == .setting then (Kernel.trySet d k r).syncStages else k
    | _, _ => k
  | op =>
    if sccOp op then
      match s.scc with
      | some x =>
        if x.window < k.cycle then k.finish n .failed 0x0C03 (k.opData d n)
        else if x.held.isSome then k.sccExec d n
        else k
      | none => k
    else { k with notes := k.notes ++ [.local_ "resume" n] }

/-- RESUME (R149): a held start or a held step is taken in this evaluation. -/
def Kernel.resume (d : Sdi) (env : Env) (k : Kernel) (n : Nat) : CtlRes :=
  let s := k.slot n
  if s.state != .suspended then .error 0x0D0A
  else if s.wasRunning then .ok ((k.modSlot n fun s => { s with state := .running }).resumeRun d n)
  else .ok ((k.modSlot n fun s => { s with state := .queued, queuedAt := k.vital, outMs := 0 }).tryStart d env n)

/-- The effect of an accepted CANCEL (R112, R140, R147). -/
def Kernel.cancelSlot (d : Sdi) (env : Env) (k : Kernel) (n : Nat) : Kernel :=
  let s := k.slot n
  if s.stage ≤ 1 then k.finish n .cancelled 0 (k.opData d n)
  else match s.op with
    | 0x0101 => k.cancelOwner d n
    | 0x0301 => match d.acOf s.target with
      | some ac => (k.disturb d ac .sweepAbort none .cancelled 0).tsState d s.target
      | none => k
    | 0x0701 => k.finish n .cancelled 0 (switchData env.position 0 0)
    | _ => { k.modSlot n fun s => { s with cancelPending := true } with notes := k.notes ++ [.local_ "cancel" n] }

/-- CANCEL (R147, R149). -/
def Kernel.cancel (d : Sdi) (env : Env) (k : Kernel) (n : Nat) : CtlRes :=
  let s := k.slot n
  if !s.state.busy then .error 0x0D0A
  else if !cancelAt s.op s.stage then .error 0x0D09
  else .ok (k.cancelSlot d env n)

/-- RELEASE (R149); the permission of R148 is `own`. -/
def Kernel.releaseCtl (k : Kernel) (own : Bool) (n : Nat) : CtlRes :=
  if !(k.slot n).state.final then .error 0x0D0A
  else if !own then .error 0x0D05
  else .ok (k.release n)

/-! ## SCC records -/

/-- A reply to session index `idx` under SESSION `sid`. -/
def Kernel.sccReply (k : Kernel) (idx : Nat) (sid kind : Nat) (r : SccRec) (challenge slot result : Nat) : Kernel :=
  { k with sccOut := k.sccOut ++ [(idx, sid,
      { kind := byteOf kind, r1 := 0, op := r.op, target := r.target, requestId := r.requestId, challenge := challenge
        slot := slot, r11 := 0, result := result, r14 := 0 })] }

/-- CHALLENGE of a slot (R139). -/
def sccChallenge (slot : Nat) (seq : W32) (vital requestId target op : Nat) : Nat :=
  let c := (crc32c (be 1 slot ++ be 4 seq.toNat ++ be 6 vital ++ be 2 requestId ++ be 2 target ++ be 2 op)).toNat % 65536
  if c = 0 then 1 else c

/-- The targets of two SCC operations are the same route or element (R138). -/
def sameTarget (op t : Nat) (s : SlotSt) : Bool :=
  (op == 0x0103) == (s.op == 0x0103) && (if op == 0x0103 then s.target == t else s.target % 4096 == t % 4096)

/-- The highest-numbered `FREE` slot (R144). -/
def Kernel.highFree (k : Kernel) : Option Nat := ((List.range 96).reverse).find? fun n => (k.slot n).state == .free

/-- Why a REQUEST is refused (R138), in order. -/
def Kernel.requestBar (d : Sdi) (k : Kernel) (r : SccRec) : Option Nat :=
  if !sccOp r.op then some 0x0D01
  else
    let bar := (k.sccBar d r.op r.target).map (·.1)
    if bar == some 0x0101 || bar == some 0x0201 || bar == some 0x0301 then bar
    else if k.slots.any fun s => s.scc.isSome && s.state.busy && sameTarget r.op r.target s then some 0x0C04
    else if bar.isSome then bar
    else if k.highFree.isNone then some 0x0D0B
    else none

/-- A REQUEST is agreed (R138, R144). -/
def Kernel.sccRequest (d : Sdi) (now : Nat) (k : Kernel) (idx : Nat) (r : SccRec) : Kernel :=
  let s := k.session idx
  match k.requestBar d r, k.highFree with
  | some c, _ =>
    let det := match k.sccBar d r.op r.target with | some x => leAt x.2 4 2 | none => 0
    (k.noteRoute r.op r.target c det).sccReply idx s.sid 4 r 0 0xFF c
  | none, some n =>
    let ch := sccChallenge n (k.slot n).seq k.vital r.requestId r.target r.op
    let k := k.enter n ⟨r.op, r.target, [], 4, 0xFF, s.partner, now⟩ false
    let k := k.modSlot n fun x =>
      { x with state := .running, wasRunning := true, stage := 1, percent := 0x7F
               scc := some ⟨idx, s.sid, r.requestId, ch, k.cycle + 30000 / d.cycleMs, none⟩ }
    k.sccReply idx s.sid 2 r ch n 0
  | none, none => k

/-- A slot that awaits a CONFIRM with this content (R138). -/
def SlotSt.awaits (s : SlotSt) (r : SccRec) : Bool :=
  (s.state == .running || s.state == .suspended) && s.stage == 1 && s.op == r.op && s.target == r.target
    && (match s.scc with | some x => x.requestId == r.requestId | none => false)

/-- A CONFIRM is agreed (R138, R140). One with a wrong CHALLENGE ends the slot with 0x0C02 at once, `SUSPENDED` or not (DESIGN CHOICE,
assumption 112). -/
def Kernel.sccConfirm (d : Sdi) (k : Kernel) (idx : Nat) (r : SccRec) : Kernel :=
  let ses := k.session idx
  let s := k.slot r.slot
  match s.scc with
  | none => k.sccReply idx ses.sid 4 r r.challenge r.slot 0x0C02
  | some x =>
    if !(r.slot < 96 && s.awaits r) then k.sccReply idx ses.sid 4 r r.challenge r.slot 0x0C02
    else if x.session != idx || x.sessionId != ses.sid then k.sccReply idx ses.sid 4 r r.challenge r.slot 0x0C01
    else if x.challenge != r.challenge then k.finish r.slot .failed 0x0C02 (k.opData d r.slot)
    else if x.window < k.cycle then k.finish r.slot .failed 0x0C03 (k.opData d r.slot)
    else if s.state == .suspended then k.modSlot r.slot fun s => { s with scc := some { x with held := some r } }
    else k.sccExec d r.slot

/-- An SCC record of an open session acts; KIND is REQUEST or CONFIRM (R434). -/
def Kernel.sccRecord (d : Sdi) (now : Nat) (k : Kernel) (x : Nat × SccRec) : Kernel :=
  if (k.session x.1).state != .open_ then k
  else if x.2.kind = 1 then k.sccRequest d now x.1 x.2
  else if x.2.kind = 3 then k.sccConfirm d x.1 x.2
  else k

/-- The confirmation window of one slot has ended before cycle `c` (R138, R140); a suspended slot that holds a CONFIRM stays until
RESUME. -/
def Kernel.sccWindow (d : Sdi) (k : Kernel) (c n : Nat) : Kernel :=
  let s := k.slot n
  match s.scc with
  | some x =>
    if s.state.busy && s.stage == 1 && x.window < c && x.held.isNone then
      k.finish n .failed 0x0C03 (k.opData d n)
    else k
  | none => k

/-- The records received and the ends of the windows (R138). -/
def Kernel.sccStep (d : Sdi) (now : Nat) (k : Kernel) : Kernel :=
  let l := k.sccIn
  l.foldl (fun k x => k.sccRecord d now x) { k with sccIn := [] }

/-- The OUTCOME of every SCC slot that has reached a final state goes to the requesting session (R138). -/
def Kernel.sccOutcomes (k : Kernel) : Kernel :=
  (List.range 96).foldl (fun k n =>
    let s := k.slot n
    match s.scc with
    | some x =>
      if s.state.final then
        (k.sccReply x.session x.sessionId 4
            { kind := 0, r1 := 0, op := s.op, target := s.target, requestId := x.requestId, challenge := 0, slot := 0
              r11 := 0, result := 0, r14 := 0 } x.challenge n s.result).modSlot n fun (s : SlotSt) => { s with scc := none }
      else k
    | none => k) k

end Sys2Proof.Machine
end

