-- ==== Sys2Proof/Machine/FaultOps.lean ====
section
/-! DEFINITION. What the fault collector does with an assertion: merge, record, react (R341 to R352, R436), the pair
reset (R35, R45, R46) and the entries to SAFE and LOCKOUT (R351, R352, R355). -/

namespace Sys2Proof.Machine

/-- Something goes out on a line. -/
def State.emit (s : State) (o : Out) : State := { s with out := s.out ++ [o] }

/-- Several things go out. -/
def State.emits (s : State) (l : List Out) : State := { s with out := s.out ++ l }

/-- A command begins: what the last one sent is forgotten. -/
def State.begin (s : State) : State := { s with out := [] }

/-- A command acts while the module has its control supply (R419); without it nothing runs. -/
def State.live (s : State) (f : State → State) : State := if s.supply.on then f s.begin else s.begin

/-! ## EMCY -/

/-- An EMCY joins the queue of 16; overflow is counted (R304). -/
def State.queueEmcy (s : State) (code src : Nat) : State :=
  if s.can.emcys.length ≥ 16 then { s with can := { s.can with emcyLost := s.can.emcyLost + 1 } }
  else { s with can := { s.can with emcys := s.can.emcys ++
    [⟨code, s.errReg, src, s.mstate.code, s.vital.cycleCount % 65536⟩] } }

/-- The error code of a fault record (R304). -/
def emcyCode (src level : Nat) : Nat :=
  if src == 0x1E0 || src == 0x1E1 then 0xFF30 else (if (imageCfg src).v then 0xFF10 else 0xFF20) + level

/-! ## Fault records -/

/-- The flags of a recorder entry about record slot `n` (R362). -/
def recFlags (open_ close conseq forced : Bool) (n : Nat) : Nat :=
  bit close * 128 + bit open_ * 64 + bit forced * 32 + bit conseq * 16 + n

/-- The record in slot `n`. -/
def State.frec (s : State) (n : Nat) : Option FaultRec := s.col.recs.getD n none

/-- The collector with record slot `n` replaced. -/
def State.setRec (s : State) (n : Nat) (r : Option FaultRec) : State :=
  { s with col := { s.col with recs := modNth s.col.recs n fun _ => r } }

/-- Whether a source lies in the expected set of a shadow in `cycle` (R350). -/
def Shadow.expects (sh : Shadow) (src cycle : Nat) : Bool :=
  let c := sh.ch
  (0x40 ≤ src && src < 0x46 && ((linkEnds src).1 == c || (linkEnds src).2 == c))
    || [3, 4, 5, 6, 7, 0xC, 0xD, 0xE].any (fun o => src == chSrc c o)
    || (match sh.promoted with | some p => src == chSrc p 0xE | none => false)
    || src == 0x48
    || (0x60 ≤ src && src < 0x80 && cycle == sh.cycle)

/-- The record slot whose shadow takes an assertion: the earliest one that expects it (R350). -/
def State.shadowSlot (s : State) (src : Nat) : Option Nat :=
  let hits := s.col.recs.zipIdx.filterMap fun p =>
    match p.1 with
    | some r => match r.shadow with
      | some sh => if sh.expects src s.vital.cycle then some (sh.order, p.2) else none
      | none => none
    | none => none
  (hits.foldl (fun b x => match b with
    | none => some x
    | some y => if x.1 < y.1 then some x else some y) none).map (·.2)

/-- An assertion is counted (R359 .05, .06). -/
def State.countAssert (s : State) (src : Nat) : State :=
  { s with col := { s.col with counts := bump s.col.counts src
                               asserted := if s.col.asserted.contains src then s.col.asserted else src :: s.col.asserted
                               allClear := false } }

/-- A record takes one more merged assertion (R348, R357). -/
def FaultRec.merge (r : FaultRec) (src : Nat) : FaultRec :=
  { r with merged := r.merged + 1, first := if r.first.length < 8 then r.first ++ [src] else r.first }

/-- A source stops being asserted, unless its force bit holds it (R347). -/
def State.deassert (s : State) (src : Nat) : State :=
  if s.col.forces.contains src then s
  else { s with col := { s.col with asserted := s.col.asserted.filter (· != src) } }

/-- A source that lasts no longer than its event stops being asserted (assumption 13). -/
def State.settleSource (s : State) (src : Nat) : State := if levelSrc src then s else s.deassert src

/-- An assertion is merged into the record in slot `n` (R348, R350). -/
def State.mergeInto (s : State) (n src : Nat) (forced : Bool) : State :=
  match s.frec n with
  | none => s
  | some r =>
    let s := (s.setRec n (some (r.merge src))).record (0x1000 + src) src (recFlags false false true forced n)
    ({ s with col := { s.col with mergedTotal := s.col.mergedTotal + 1 } }).settleSource src

/-- The all-clear EMCY when nothing is asserted and no record is open, once (R436). -/
def State.checkClear (s : State) : State :=
  if s.col.asserted.isEmpty && !(s.col.recs.any (·.isSome)) && !s.col.allClear then
    ({ s with col := { s.col with allClear := true } }).queueEmcy 0 0xFFFF
  else s

/-- A new record for a source (R348). -/
def State.newFault (s : State) (src : Nat) (forced : Bool) : FaultRec where
  source := src
  cfgLevel := (s.srcCfg src).level
  applied := 0
  acked := false
  forced := forced
  config := false
  overflow := false
  time := s.time.now
  cycle := s.vital.cycleCount
  merged := 0
  first := []
  shadow := none
  reacted := false

/-- A record opens in the lowest free slot; with all sixteen open it is merged into slot 0 with OVERFLOW (R348). The
slot is named when it is the source's own. -/
def State.openRec (s : State) (src : Nat) (forced : Bool) : State × Option Nat :=
  match s.col.recs.findIdx? (·.isNone) with
  | some n =>
    let s := (s.setRec n (some (s.newFault src forced))).record (0x1000 + src) src (recFlags true false false forced n)
    ({ s with col := { s.col with recsTotal := s.col.recsTotal + 1 } }, some n)
  | none =>
    let s := s.mergeInto 0 src forced
    (match s.frec 0 with
     | some r => s.setRec 0 (some { r with overflow := true })
     | none => s, none)

/-- A record closes and its slot is freed (R348). -/
def State.closeRec (s : State) (n : Nat) : State :=
  match s.frec n with
  | none => s
  | some r =>
    ((s.setRec n none).record (0x1000 + r.source) r.source (recFlags false true false r.forced n)).settleSource r.source

/-- A record's reaction is complete at `level`: it closes unless its shadow holds it open (R348). -/
def State.settle (s : State) (n : Option Nat) (src level : Nat) (acked : Bool) : State :=
  let s := { s with col := { s.col with highest := max s.col.highest level } }
  let s := if level ≥ 1 then s.queueEmcy (emcyCode src level) src else s
  match n with
  | none => s.settleSource src
  | some n =>
    match s.frec n with
    | none => s
    | some r =>
      let s := s.setRec n (some { r with applied := level, acked := acked, reacted := true })
      if r.shadow.isSome then s else (s.closeRec n).checkClear

/-! ## Entries to SAFE and LOCKOUT -/

/-- A channel whose cycle has stopped (R352): generators off, nothing exchanged, the state region kept. -/
def Channel.stop (c : Channel) : Channel :=
  { c with gens := Quad.all false, stage := .idle, emitting := false, marked := false, raw := none, t1 := [], t2 := []
           votes := [], myT2 := none, myVote := none, proceed := false, obs := none }

/-- The channels stop cycling; the ladder is at `SAFE` (R49, R51). -/
def Vital.stop (v : Vital) : Vital :=
  { v with running := false, ladder := .safe, chans := v.chans.map Channel.stop, raised := [] }

/-- DISC MODULE_SAFE on every bound session of a network (R279): SEQ last sent + 16, the confirmation fields last sent. -/
def State.safeDiscs (s : State) (net : Net) (n : NetSide) : List Out :=
  n.binds.filterMap fun b => (s.dat.partner b.partner).map fun p =>
    .telegram net b.partner (telBytes (safeDisc s.pstLive p s.dat.stationId b.sid (b.seq + 16) b.conf b.echo))

/-- The NET engines close every bound session (R279). -/
def State.safeNets (s : State) : State :=
  let a := s.safeDiscs .a s.nets.a
  let b := s.safeDiscs .b s.nets.b
  ({ s with nets := { s.nets with a := { s.nets.a with binds := [], service := false, txTel := s.nets.a.txTel + a.length }
                                  b := { s.nets.b with binds := [], service := false, txTel := s.nets.b.txTel + b.length } } }).emits
    (a ++ b)

/-- A slot's final record (R364): trigger code 0x0100 plus the slot. -/
def State.slotRecords (s : State) : State :=
  let s := s.kernel.notes.foldl (fun s n => match n with
    | .slotFinal i op => s.record (0x100 + i) op 0
    | _ => s) s
  { s with kernel := { s.kernel with notes := s.kernel.notes.filter fun n => match n with
    | .slotFinal _ _ => false | _ => true } }

/-- Every out-attribute is 0 once the channels no longer cycle, and with it every command (R117). -/
def Kernel.halt (k : Kernel) : Kernel :=
  { k with halted := true, vouts := k.vouts.map fun (v : VoutSt) => { v with cmd := false, onRun := 0 }
           nvs := k.nvs.map fun (v : NvSt) => { v with cmd := false }, cmds := ⟨0, 0, 0, 0⟩ }

/-- The module leaves RUN for a state in which the channels no longer cycle (R352). -/
def State.leaveRun (s : State) (m : MState) : State :=
  let s := { s with mstate := m, ring := { s.ring with ready := [] }, vital := s.vital.stop, kernel := { s.kernel.halt with twin := { s.kernel.twin with role :=
    if s.kernel.twin.role == 0 then 0 else 2 } } }
  (s.record 2 m.code 0).safeNets

/-- L4 (R351): the module goes SAFE from START or RUN. -/
def State.goSafe (s : State) (src : Nat) : State :=
  match s.mstate with
  | .start | .run =>
    let s := s.leaveRun .safe
    let s := { s with kernel := s.kernel.failVital s.dat, col := { s.col with safeCause := src } }
    s.slotRecords
  | _ => s

/-- The slot a new lock-out entry takes: the lowest EMPTY one, else the oldest CLEARED one (R355). -/
def Lockout.place (l : Lockout) : Option Nat :=
  match l.entries.findIdx? (·.state == 0) with
  | some n => some n
  | none =>
    ((l.entries.zipIdx.filter (·.1.state == 2)).foldl (fun b x => match b with
      | none => some x
      | some y => if x.1.setTime.nanos < y.1.setTime.nanos then some x else some y) none).map (·.2)

/-- The newest ACTIVE entry (R355). -/
def Lockout.newestActive (l : Lockout) : Option Nat :=
  ((l.entries.zipIdx.filter (·.1.state == 1)).foldl (fun b x => match b with
    | none => some x
    | some y => if y.1.setTime.nanos ≤ x.1.setTime.nanos then some x else some y) none).map (·.2)

/-- The lock-out record takes an L5 (R355). -/
def Lockout.add (l : Lockout) (src : Nat) (detail : W32) (forced : Bool) (now : DTime) (cycle : Nat) : Lockout :=
  let l := { l with total := l.total + 1 }
  match l.place with
  | some n => { l with entries := modNth l.entries n fun _ => ⟨1, bit forced, src, detail, now, cycle, DTime.zero⟩ }
  | none =>
    match l.newestActive with
    | some n => { l with entries := modNth l.entries n fun e => { e with flags := e.flags % 2 + 2 } }
    | none => l

/-- The copies of the lock-out record are written; CVU11 computes their CRC (R355, R394; DESIGN CHOICE, assumption 140). -/
def State.lockWritten (s : State) : State := s.cvuJob 11 (s.lock.entries.flatMap LockEntry.bytes)

/-- L5 (R351): the lock-out entry is written and the module goes LOCKOUT; in LOCKOUT the entry is still written
(R345). -/
def State.goLockout (s : State) (src : Nat) (detail : W32) (forced : Bool) : State :=
  let s := ({ s with lock := { s.lock.add src detail forced s.time.now s.vital.cycleCount with pending := false } }).lockWritten
  match s.mstate with
  | .start | .run | .safe =>
    let s := s.leaveRun .lockout
    let s := { s with kernel := s.kernel.failVital s.dat, col := { s.col with safeCause := src } }
    s.slotRecords
  | _ => s

/-! ## Pair reset -/

/-- A channel's resets of the last 3,600 s (R45). -/
def Channel.recent (c : Channel) (now : Nat) : List Nat := c.resets.filter fun t => now < t + 3600000

/-- A pair reset on one channel (R26, R35, R45, R46, R67): RESYNC, or OFF when two resets stand in the window. The cores and
the store compare buffer are cleared; memory, page values, descriptors, the dirty map, the link ports and the queues stay. -/
def Channel.reset_ (c : Channel) (now : Nat) : Channel :=
  let old := c.recent now
  { c with role := if old.length ≥ 2 then .off else .resync
           resets := now :: old, inReset := true, booting := true, confirmed := false, agreed := false
           gens := Quad.all false, emitting := false, stage := .idle, raw := none, myT2 := none, myVote := none
           proceed := false, req := none, sups := [], storeBuf := [], ckpt := none }

/-- A transfer of another channel is abandoned when its supplier leaves VOTING (R41). -/
def Channel.abandon (c : Channel) (supplier : Ch) : Channel :=
  match c.req with
  | some r => if r.supplier = supplier then { c with req := none } else c
  | none => c

/-- A link end that is down by design: its other end is `OFF` (R15). -/
def LinkEnd.off (e : LinkEnd) : LinkEnd := { e with up := false, good := 0, toTest := false, tested := none }

/-- A channel's end of the link to a channel that is `OFF` (R15). -/
def Channel.dropEnd (c : Channel) (x : Ch) : Channel := { c with ends := c.ends.modify x LinkEnd.off }

/-- Every end of a channel that is `OFF` (R15). -/
def Channel.dropEnds (c : Channel) : Channel := { c with ends := c.ends.map LinkEnd.off }

/-- The collector resets a channel pair (R35, R46); `again` raises the source by which a reset in DUAL takes the
module SAFE (R49). -/
def State.pairReset (s : State) (again : State → State) (ch : Ch) : State :=
  let c := s.vital.chans.get ch
  if c.role = .off then s
  else
    let n := c.reset_ s.svc.ms
    let chans := (s.vital.chans.map (·.abandon ch)).set ch n
    -- a link with an `OFF` end is down by design (R15)
    let chans := if n.role = .off then (chans.map fun (x : Channel) => x.dropEnd ch).modify ch Channel.dropEnds else chans
    let dual := s.vital.ladder == .dual && s.vital.running
    let s := { s with vital := { s.vital with chans := chans, left := s.vital.left || c.role == .voting
                                              resetsTotal := s.vital.resetsTotal + 1 } }
    if dual then again s else s

/-! ## Reactions -/

/-- The shadow a reset of `ch` opens: it lasts until just before the second reference mark (R350). -/
def State.newShadow (s : State) (ch : Ch) : Shadow := ⟨ch, s.vital.cycle, 2, none, s.col.shadowNo⟩

/-- A shadow for channel `ch` opens in record slot `n` (R350). -/
def State.openShadow (s : State) (n : Option Nat) (ch : Ch) : State :=
  match n with
  | none => s
  | some n =>
    match s.frec n with
    | none => s
    | some r =>
      let s := s.setRec n (some { r with shadow := some (s.newShadow ch) })
      { s with col := { s.col with shadowNo := s.col.shadowNo + 1 } }

/-- Whether the channels cycle, so that an L3 can be applied (R345). -/
def State.resettable (s : State) : Bool := s.mstate == .run || s.mstate == .start

/-- The vital outputs that L2 of a source holds off (R343, R429): all of its bank, or the output itself. -/
def heldBy (src : Nat) : List Nat :=
  if 0x80 ≤ src && src < 0xC0 then (List.range 8).map (8 * ((src - 0x80) / 16) + ·)
  else if 0xC0 ≤ src && src < 0xE0 then [src - 0xC0]
  else if 0xE0 ≤ src && src < 0x100 then (List.range 8).map (8 * ((src - 0xE0) / 8) + ·)
  else []

/-- The targets of the sources `l` are isolated (R343). A head's excitation follows with its next keep-alive; the other sources of the
model name no port (assumption 12). -/
def State.isolate (s : State) (l : List Nat) : State :=
  { s with col := { s.col with isolated := l }, kernel := { s.kernel with held := (l.flatMap heldBy).eraseDups } }

/-- A reaction level is applied for a source (R343, R345): its record in slot `n` is settled at that level. -/
def State.applyLevel (s : State) (again : State → State) (n : Option Nat) (src level : Nat) (ch : Ch) (detail : W32)
    (forced acked : Bool) : State :=
  match level with
  | 0 | 1 => s.settle n src level acked
  | 2 => (s.isolate (if s.col.isolated.contains src then s.col.isolated else src :: s.col.isolated)).settle n src 2 acked
  | 3 =>
    if s.resettable then ((s.openShadow n ch).pairReset again ch).settle n src 3 acked
    else s.settle n src 1 acked
  | 4 => (s.goSafe src).settle n src 4 acked
  | _ => (s.goLockout src detail forced).settle n src 5 acked

/-- A source asserts in the collector (R344, R348, R350). An N-class source with an escalation opens its record only
when it is settled, since it may be dismissed (assumption 15). -/
def State.raiseWith (s : State) (again : State → State) (src : Nat) (detail : W32) (forced : Bool) : State :=
  let s := s.countAssert src
  match s.shadowSlot src with
  | some n => s.mergeInto n src forced
  | none =>
    let c := s.srcCfg src
    let ch := Ch.ofIdx c.target
    if c.esc = 0 then
      if c.level = 0 then ((s.record (0x1000 + src) src (recFlags false false false forced 0)).settleSource src).checkClear
      else
        let (s, n) := s.openRec src forced
        s.applyLevel again n src c.level ch detail forced false
    else
      let s := if c.v then (s.openRec src forced).1 else s
      { s with col := { s.col with escal := s.col.escal.filter (·.source != src) ++ [⟨src, s.svc.ms + c.esc, forced⟩] } }

/-- The raise by which a reset in DUAL takes the module SAFE: SAFE_REQUEST, which resets nothing (R49). -/
def State.raiseSafe (s : State) : State := s.raiseWith id 0x4A 0 false

/-- A source asserts. -/
def State.raise (s : State) (src : Nat) : State := s.raiseWith State.raiseSafe src 0 false

/-- A source asserts and names what raised it, for which the 64 bytes of a record have no field (assumption 116). -/
def State.raiseAbout (s : State) (src a b : Nat) : State :=
  let s := ({ s with col := { s.col with about := some (a, b) } }).raise src
  { s with col := { s.col with about := none } }

/-- Several sources assert, in order. -/
def State.raises (s : State) (l : List Nat) : State := l.foldl State.raise s

/-- The slot of an open record of a source. -/
def State.recOf (s : State) (src : Nat) : Option Nat :=
  s.col.recs.findIdx? fun r => match r with | some r => r.source == src && !r.reacted | none => false

/-- The record an escalated source is settled in: its open one, or a new one (assumption 15). -/
def State.settleRec (s : State) (src : Nat) (forced : Bool) : State × Option Nat :=
  match s.recOf src with
  | some n => (s, some n)
  | none => s.openRec src forced

/-- The voting channels. -/
def Vital.voting (v : Vital) : List Ch := Ch.all.filter fun c => (v.chans.get c).role = .voting

/-- A channel raises an agreed source (R341): it asserts when two voting channels have raised it in the cycle, or one
in DUAL; a channel's raise against itself does not count. -/
def State.raiseAgreed (s : State) (src : Nat) (ch : Ch) : State :=
  if (src < 0x40 && src / 16 = ch.idx) || (s.vital.chans.get ch).role != .voting then s
  else
    let before := s.vital.raised.filter (·.1 == src)
    if before.any (·.2 == ch) then s
    else
      let s := { s with vital := { s.vital with raised := (src, ch) :: s.vital.raised } }
      let need := if s.vital.ladder == .dual then 1 else 2
      if before.length + 1 = need then s.raise src else s

end Sys2Proof.Machine
end

