-- ==== Sys2Proof/Machine/CanOps.lean ====
section
/-! DEFINITION. The CAN engine as every service uses it: its configuration, the bytes of its frames, its transmit queue and the time
role's own time (R288, R291 to R296, R304, R307). -/

namespace Sys2Proof.Machine

/-! ## Configuration (R307) -/

/-- NODE_ID. -/
def State.nodeId (s : State) : Nat := pstNat s.pstLive 0x2980 1 0x7F
/-- FRAME_MODE. -/
def State.frameMode (s : State) : Nat := pstNat s.pstLive 0x2980 4 2
/-- RETRY_LIMIT. -/
def State.retryLimit (s : State) : Nat := pstNat s.pstLive 0x2980 5 4
/-- TERMINATION: the 120 ohm resistor is switched in (R288). -/
def State.canTermination (s : State) : Bool := pstNat s.pstLive 0x2980 6 0 = 1
/-- MASTER_PRIORITY. -/
def State.masterPrio (s : State) : Nat := pstNat s.pstLive 0x2980 8 7
/-- REF_PERIOD_MS. -/
def State.refPeriod (s : State) : Nat := pstNat s.pstLive 0x2980 9 10
/-- REF_BASE_ID. -/
def State.refBase (s : State) : Nat := pstNat s.pstLive 0x2980 10 0x10
/-- The module can be the bus's time master (R293, R295). -/
def State.masterCapable (s : State) : Bool :=
  pstNat s.pstLive 0x2980 7 0 = 1 && (s.frameMode = 1 || s.frameMode = 2)

/-- The nominal phase by its code (R288). -/
def nominalTiming (code : Nat) : BitTiming :=
  match code with
  | 0 => ⟨8, 80, 875⟩ | 1 => ⟨4, 80, 875⟩ | 2 => ⟨2, 80, 800⟩ | 3 => ⟨1, 100, 800⟩ | _ => ⟨1, 80, 800⟩

/-- The data phase by its code (R288). -/
def dataTiming (code : Nat) : BitTiming :=
  match code with
  | 0 => ⟨1, 80, 750⟩ | 1 => ⟨1, 40, 750⟩ | 2 => ⟨1, 20, 750⟩ | _ => ⟨1, 16, 750⟩

/-- Periods of CLK_CAN, 12.5 ns each, in one bit (R288). -/
def BitTiming.clocks (t : BitTiming) : Nat := t.prescaler * t.quanta

/-- The nominal phase in use. -/
def State.nominal (s : State) : BitTiming := nominalTiming (pstNat s.pstLive 0x2980 2 2)

/-- The data phase in use. -/
def State.dataPhase (s : State) : BitTiming := dataTiming (pstNat s.pstLive 0x2980 3 1)

/-- What the module sends (R288): a data rate not above the nominal rate makes mode 2 act as mode 1. -/
def State.canPhy (s : State) : CanPhy :=
  if s.frameMode = 0 then .classic s.nominal
  else if s.frameMode = 1 || s.nominal.clocks ≤ s.dataPhase.clocks then .fd s.nominal
  else .brs s.nominal s.dataPhase (s.dataPhase.clocks ≤ 40)

/-! ## Frames -/

/-- The eight bytes of an EMCY (R304). -/
def Emcy.bytes (e : Emcy) : List Byte := le 2 e.code ++ [e.reg] ++ le 2 e.source ++ [byteOf e.mstate] ++ le 2 e.cycle

/-- A tunnel datagram (R297): its kind, its TAG and the USDO bytes. -/
def tunnelBytes (kind tag : Nat) (d : List Byte) : List Byte :=
  le 2 1 ++ [byteOf kind, 0] ++ le 2 d.length ++ le 2 tag ++ d

/-- FLAGS of a reference message (R293). -/
def refFlags (prio : Nat) (prevValid fromPtp : Bool) : Nat := prio % 8 + 8 * bit prevValid + 16 * bit fromPtp

/-- The data bytes of a frame (R292, R293, R304); those of a USDO answer follow CiA 1301. -/
def CanOut.bytes : CanOut → List Byte
  | .heartbeat stopped => [if stopped then 0x04 else 0x05]
  | .emcy e => e.bytes
  | .reference prio seq prevValid fromPtp ns sec =>
    [byteOf (refFlags prio prevValid fromPtp), byteOf seq] ++ le 4 ns ++ le 6 sec
  | .usdo cl code => Config.usdo cl.identity code

/-- The identifier of a frame (R293, R296), 11 bits. -/
def State.canIdent (s : State) : CanOut → Nat
  | .heartbeat _ => 0x700 + s.nodeId
  | .emcy _ => 0x080 + s.nodeId
  | .reference prio _ _ _ _ _ => s.refBase + prio
  | .usdo _ _ => 0x580 + s.nodeId

/-! ## Transmission (R291, R292) -/

/-- The CAN engine changed. -/
def State.modCan (s : State) (f : Can → Can) : State := { s with can := f s.can }

/-- A frame is a reference message. -/
def CanOut.isRef : CanOut → Bool
  | .reference _ _ _ _ _ _ => true
  | _ => false

/-- A frame on the line. -/
def State.canLine (s : State) (f : CanOut) : Out := .can (s.canIdent f) s.canPhy f.bytes

/-- The frame at the head of the queue goes on the line; the SEQ of a reference sent is kept (R306 .0C). -/
def State.canHead (s : State) : State :=
  match s.can.queue with
  | f :: _ =>
    let s := match f with
      | .reference _ q _ _ _ _ => s.modCan fun c => { c with refSeq := q }
      | _ => s
    s.emit (s.canLine f)
  | [] => s

/-- A frame joins the queue and is sent when it is alone there; the 2 KiB to the engine do not hold it when they are full (R12, R13,
R429). -/
def State.canQueue (s : State) (f : CanOut) : State :=
  let idle := s.can.queue.isEmpty
  if 2048 < (s.can.queue.map fun x => (CanOut.bytes x).length).sum + f.bytes.length then s.raise 0x6B
  else
    let s := s.modCan fun c => { c with queue := c.queue ++ [f] }
    if idle then s.canHead else s

/-- A transmit request (R292): dropped in `ALONE` as NO_ACK, and in `BUS_OFF` as ERR_LIMIT (assumption 38). -/
def State.canSend (s : State) (f : CanOut) : State :=
  match s.can.link with
  | .online => s.canQueue f
  | .alone => s.modCan fun c => { c with noAck := c.noAck + 1 }
  | .busOff => s.modCan fun c => { c with errLimit := c.errLimit + 1 }

/-- The heartbeat of the moment (R292, R296). -/
def State.canBeat (s : State) : CanOut := .heartbeat s.can.stopped

/-- The answer to a client on CAN is a USDO frame (R296); a stopped engine sends none (R292). -/
def State.answerCan (s : State) (cl : Client) (code : Option W32) : State :=
  match cl with
  | .can _ => if s.can.stopped then s else s.canSend (.usdo cl code)
  | .udp _ => s

/-! ## The time role's own time (R293, R295) -/

/-- A source is PTP. -/
def isPtp (src : TimeSource) : Bool := src == .ptpA || src == .ptpB

/-- The module's own time can be given out (R293). -/
def State.ownTime (s : State) : Bool := isPtp s.time.source || (s.time.source == .calendar && s.time.calValid)

/-- The role goes `BACKUP` with timer W started; a reference not yet on the line is withdrawn (R295). -/
def State.toBackup (s : State) : State :=
  s.modCan fun c => { c with role := .backup, wStart := s.svc.ms, prevStamp := none
                             queue := c.queue.take 1 ++ c.queue.tail.filter (!·.isRef) }

/-- A master whose own time is no longer valid goes `BACKUP` (R295). -/
def State.roleCheck (s : State) : State := if s.can.role == .master && !s.ownTime then s.toBackup else s

end Sys2Proof.Machine
end

