-- ==== Sys2Proof/Machine/OdOps.lean ====
section
/-! DEFINITION. The object dictionary's clients and the checks of an access (R300 to R302), the parameter store. -/

namespace Sys2Proof.Machine

/-- A client's record replaced. -/
def State.setClient (s : State) (c : ClientSt) : State :=
  { s with clients := c :: s.clients.filter (fun x => !decide (x.client = c.client)) }

/-- A client's record changed. -/
def State.modClient (s : State) (cl : Client) (f : ClientSt → ClientSt) : State := s.setClient (f (s.client cl))

/-- The oldest USDO frame of the CAN engine's service queue has been served (R290). -/
def Can.served (c : Can) (cl : Client) : Can :=
  match cl, c.service with
  | .can _, f :: t => if f.ident = 0 then c else { c with service := t }
  | _, _ => c

/-- A request of a client arrives: its idle time starts again (R300). -/
def State.touch (s : State) (cl : Client) : State :=
  ({ s with can := s.can.served cl }).modClient cl fun c => { c with lastReq := s.svc.ms }

/-- The access is aborted with a code (R301); a client on CAN hears it in a frame of its own. -/
def State.abort (s : State) (cl : Client) (code : W32) : State := (s.emit (.abort cl code)).answerCan cl (some code)

/-- The access succeeds. -/
def State.accept (s : State) (cl : Client) : State := (s.emit (.confirm cl)).answerCan cl none

/-- Access codes of a write (R300). -/
inductive Need where
  | view | operate | expert | rwe | rwm | rwc | keyC
  deriving DecidableEq, Repr

/-- The level a write needs: 0 VIEW, 1 OPERATE, 2 EXPERT, 3 COMMISSION (R300). -/
def Need.level : Need → Nat
  | .view => 0 | .operate => 1 | .expert => 2 | .rwe => 2 | .rwm => 2 | .rwc => 3 | .keyC => 3

/-- Whether the life-cycle state permits the write (R300, R377): RWM in COMMISSIONING and MAINTENANCE, RWC and keys
in COMMISSIONING, and in FACTORY by R377 (assumption 16). -/
def Need.lifeOk (n : Need) (lc : Nat) : Bool :=
  match n with
  | .rwm => lc == 1 || lc == 3
  | .rwc | .keyC => lc == 0 || lc == 1
  | _ => true

/-- Whether the object is held in the parameter store, whose write enable is SW1 position 4 (R301, R379,
assumption 17). -/
def Need.inPst : Need → Bool
  | .rwe | .rwm | .rwc | .keyC => true
  | _ => false

/-- Checks 5 to 8 of R301 on a write: level, life-cycle state and switch, length, range. -/
def State.check (s : State) (cl : Client) (n : Need) (lenOk rangeOk : Bool) : Option W32 :=
  if (s.client cl).level < n.level then some 0x06010000
  else if !n.lifeOk s.life.state || (n.inPst && !s.sw 4) then some 0x08000021
  else if !lenOk then some 0x06070010
  else if !rangeOk then some 0x06090030
  else none

/-- A write under checks 5 to 8: aborted, or carried out. -/
def State.write (s : State) (cl : Client) (n : Need) (lenOk rangeOk : Bool) (f : State → State) : State :=
  let s := s.touch cl
  match s.check cl n lenOk rangeOk with
  | some e => s.abort cl e
  | none => f s

/-! ## The parameter store -/

/-- A write of a stored parameter. -/
def State.pstWrite (s : State) (idx sub : Nat) (d : List Byte) : State := { s with pst := pstSet s.pst idx sub d }

end Sys2Proof.Machine
end

