-- ==== Sys2Proof/Machine/Faults.lean ====
section
/-! DEFINITION. The fault collector's commands (R340 to R354). -/

namespace Sys2Proof

/-- A pair agrees: the complement is the word's. -/
def CfgPair.agrees (p : CfgPair) : Bool := p.inv == ~~~p.word

/-- A pair that disagrees has the class V, or a CLASS bit that disagrees itself (R349). -/
def CfgPair.vital (p : CfgPair) : Bool := p.word.getLsbD 31 || !p.inv.getLsbD 31

end Sys2Proof

namespace Sys2Proof.Machine

/-- A source asserts by its detector, or is raised agreed by a channel (R341, R344). -/
def faultSourceAssert (src : Nat) (by_ : Option Ch) (s : State) : State :=
  match by_ with
  | none => s.raise (src % 0x200)
  | some ch => s.raiseAgreed (src % 0x200) ch

/-- FAULT_SOURCE_ASSERT (R344). -/
def execFaultSourceAssert (src : Nat) (by_ : Option Ch) (s : State) : Host.Outcome State Fault Refusal :=
  .next (s.live fun s => faultSourceAssert src by_ s)

/-- The escalation of a source that runs. -/
def State.escalOf (s : State) (src : Nat) : Option Escalation := s.col.escal.find? (·.source == src)

/-- The escalation of a source ends. -/
def State.dropEscal (s : State) (src : Nat) : State :=
  { s with col := { s.col with escal := s.col.escal.filter (·.source != src) } }

/-- The configured level is applied when the escalation time is reached (R344). -/
def escalationExpiry (src : Nat) (s : State) : State :=
  match s.escalOf src with
  | none => s
  | some e =>
    if e.due ≤ s.svc.ms then
      let s := s.dropEscal src
      let s := { s with col := { s.col with escalated := s.col.escalated + 1 } }
      let (s, n) := s.settleRec src e.forced
      let c := s.srcCfg src
      s.applyLevel State.raiseSafe n src c.level (Ch.ofIdx c.target) 0 e.forced false
    else s

/-- ESCALATION_EXPIRY (R344). -/
def execEscalationExpiry (src : Nat) (s : State) : Host.Outcome State Fault Refusal :=
  .next (s.live fun s => escalationExpiry src s)

/-- Whether the parties may acknowledge a source of this class (R344): SVC or one voting channel for class N, two
voting channels with identical words for class V. -/
def State.ackParty (s : State) (v : Bool) (who : AckBy) : Bool :=
  match who with
  | .svc => !v
  | .chans l identical =>
    let vs := l.eraseDups.filter fun c => (s.vital.chans.get c).role = .voting
    if v then identical && vs.length ≥ 2 else vs.length ≥ 1

/-- The escalation an acknowledgement word settles (R344): the source waits, the word comes before the timer ends,
its code is the command's, and the parties may acknowledge. -/
def State.ackable (s : State) (w : AckWord) (code : Byte) (who : AckBy) : Option Escalation :=
  match s.escalOf w.source with
  | none => none
  | some e =>
    if s.svc.ms < e.due && w.code = code && s.ackParty (s.srcCfg w.source).v who then some e else none

/-- The fault is recorded at the level software applied, with no hardware reaction (R344). -/
def State.ackSettle (s : State) (e : Escalation) (src level : Nat) : State :=
  let (s, n) := (s.dropEscal src).settleRec src e.forced
  s.settle n src level true

/-- An acknowledgement HANDLED (R344). -/
def ackHandled (w : AckWord) (who : AckBy) (s : State) : State :=
  match s.ackable w 1 who with
  | some e => if (s.srcCfg w.source).level ≤ w.applied then s.ackSettle e w.source w.applied else s
  | none => s

/-- ACK_HANDLED (R344). -/
def execAckHandled (w : AckWord) (who : AckBy) (s : State) : Host.Outcome State Fault Refusal :=
  .next (s.live fun s => ackHandled w who s)

/-- An acknowledgement LOWERED, for class N only (R344). -/
def ackLowered (w : AckWord) (who : AckBy) (s : State) : State :=
  match s.ackable w 2 who with
  | some e => if (s.srcCfg w.source).v then s else s.ackSettle e w.source w.applied
  | none => s

/-- ACK_LOWERED (R344). -/
def execAckLowered (w : AckWord) (who : AckBy) (s : State) : Host.Outcome State Fault Refusal :=
  .next (s.live fun s => ackLowered w who s)

/-- An acknowledgement DISMISSED, for class N only: the fault is recorded at L0 and opens no fault record (R344,
R348). -/
def ackDismissed (w : AckWord) (who : AckBy) (s : State) : State :=
  match s.ackable w 3 who with
  | some e =>
    if (s.srcCfg w.source).v then s
    else (((s.dropEscal w.source).record (0x1000 + w.source) w.source
      (recFlags false false false e.forced 0)).settleSource w.source).checkClear
  | none => s

/-- ACK_DISMISSED (R344). -/
def execAckDismissed (w : AckWord) (who : AckBy) (s : State) : Host.Outcome State Fault Refusal :=
  .next (s.live fun s => ackDismissed w who s)

/-- An acknowledgement REDIRECT of a mesh link source: L3 at once on the named end (R344, R350). -/
def ackRedirect (w : AckWord) (who : AckBy) (s : State) : State :=
  match s.ackable w 4 who with
  | some e =>
    let ends := linkEnds w.source
    if 0x40 ≤ w.source && w.source < 0x46 && w.applied = 3 && (w.channel = ends.1 || w.channel = ends.2) then
      let (s, n) := (s.dropEscal w.source).settleRec w.source e.forced
      s.applyLevel State.raiseSafe n w.source 3 w.channel 0 e.forced true
    else s
  | none => s

/-- ACK_REDIRECT (R344). -/
def execAckRedirect (w : AckWord) (who : AckBy) (s : State) : Host.Outcome State Fault Refusal :=
  .next (s.live fun s => ackRedirect w who s)

/-- One configuration pair is read (R349): the word of a class N pair that disagrees is loaded again. -/
def configPair (s : State) (p : CfgPair) : State :=
  if CfgPair.agrees p then s
  else
  let s := { s with col := { s.col with configErrs := s.col.configErrs + 1 } }
  if CfgPair.vital p then s.raise 0x1F0
  else
    match s.col.recs.findIdx? (·.isSome) with
    | some n =>
      match s.frec n with
      | some r => (s.setRec n (some { r with config := true })).mergeInto n 0x1F1 false
      | none => s
    | none => s.raise 0x1F1

/-- CONFIG_SCAN (R349): `bad` lists what the scan reads of the sources whose pair is not as it was loaded. -/
def execConfigScan (bad : List CfgPair) (s : State) : Host.Outcome State Fault Refusal :=
  .next (s.live fun s => bad.foldl configPair s)

/-- The channels that have signalled the end of their P5 in the cycle. -/
def Vital.p5Count (v : Vital) : Nat := (v.chans.toList.filter (·.p5End)).length

/-- NO_MAJORITY_HW (R346): fewer than two channels have ended P5. -/
def execNoMajorityHw (s : State) : Host.Outcome State Fault Refusal :=
  .next (s.live fun s =>
    if s.mstate == .run && s.vital.p5Count < 2 then s.raise 0x49 else s)

/-- A force bit is set or cleared (R347): setting it asserts the source. -/
def forceBit (src : Nat) (v : Byte) (s : State) : State :=
  if v = 0 then
    (({ s with col := { s.col with forces := s.col.forces.filter (· != src) } }).deassert src).checkClear
  else
    let s := { s with col := { s.col with forces := src :: s.col.forces.filter (· != src) } }
    s.raiseWith State.raiseSafe src 0 true

/-- FORCE_WRITE (R347, R359 .04): the source 0x2C81.01 selects. Force bits are not stored in the parameter store. -/
def forceWrite (cl : Client) (v : Byte) (s : State) : State :=
  let s := s.touch cl
  if (s.client cl).level < 2 then s.abort cl 0x06010000
  else if !(s.life.state == 1 || s.life.state == 3) then s.abort cl 0x08000021
  else if v.toNat > 1 then s.abort cl 0x06090030
  else (forceBit s.col.select v s).accept cl

/-- FORCE_WRITE (R347). -/
def execForceWrite (cl : Client) (v : Byte) (s : State) : Host.Outcome State Fault Refusal :=
  .next (s.live fun s => forceWrite cl v s)

/-- OVERRIDE_WRITE (R342, R359 .03): refused for a V-class source, and for a word outside L0 to L2 and 0 to 1,000
ms; 0 removes the override. -/
def overrideWrite (cl : Client) (w : W32) (s : State) : State :=
  let src := s.col.select
  let o := SrcCfg.ofWord w
  s.write cl .rwm true (o.level ≤ 2 && o.esc ≤ 1000) fun s =>
    if (imageCfg src).v then s.abort cl 0x08000020
    else
      let rest := s.col.overrides.filter fun p => !(p.1 == src)
      let s := { s with col := { s.col with overrides := if w = 0 then rest else (src, w) :: rest } }
      s.accept cl

/-- OVERRIDE_WRITE (R342). -/
def execOverrideWrite (cl : Client) (word : W32) (s : State) : Host.Outcome State Fault Refusal :=
  .next (s.live fun s => overrideWrite cl word s)

/-- The lock-out reset code (R354): the low 16 bits of CRC-32C over serial number, lock-out count and seconds of
device time, all little-endian; 0 becomes 1. -/
def lockCode (s : State) : Nat :=
  let c := (crc32c (le 4 Config.serial.toNat ++ le 4 s.lock.total ++ le 6 s.time.now.s)).toNat % 65536
  if c = 0 then 1 else c

/-- A RESET hold of 3 s opens the reset window in LOCKOUT (R354, R427); it acts only when SVC and at least two
channels register it. -/
def resetHold (svc : Bool) (chans : List Ch) (s : State) : State :=
  if svc && chans.eraseDups.length ≥ 2 && s.mstate == .lockout then
    { s with lock := { s.lock with code := lockCode s, result := 0xFFFF, window := some (s.svc.ms + 30000) } }
  else s

/-- RESET_HOLD (R427). -/
def execResetHold (svc : Bool) (chans : List Ch) (s : State) : Host.Outcome State Fault Refusal :=
  .next (s.live fun s => resetHold svc chans s)

/-- LOCKOUT_RESET_WINDOW_EXPIRY (R354). -/
def execLockoutResetWindowExpiry (s : State) : Host.Outcome State Fault Refusal :=
  .next (s.live fun s =>
    match s.lock.window with
    | some d => if d ≤ s.svc.ms then { s with lock := { s.lock with window := none, code := 0, result := 0x0E04 } }
                else s
    | none => s)

end Sys2Proof.Machine
end

