-- ==== Sys2Proof/Machine/Frames.lean ====
section
/-! DEFINITION. Mesh frames as bytes: the layout of R14, and the payloads of every type (R16, R39, R40, R53, R60, R63). -/

namespace Sys2Proof

open Machine

/-- An input frame before its CRC (R209). -/
def InputFrame.bytes (f : InputFrame) : List Byte :=
  [(f.typ ++ f.dest ++ f.bank ++ (0 : BitVec 2) : BitVec 8), f.echo] ++ be 2 f.frameSeq ++ [f.img.stat] ++ be 3 f.img.iPath.toNat
    ++ be 3 f.img.jPath.toNat ++ be 3 f.img.wire.toNat ++ be 3 f.img.undef.toNat ++ [f.img.rbP, f.img.rbM, f.img.rbN.setWidth 8]

/-- The CRC of an input frame passes (R209). -/
def InputFrame.crcOk (f : InputFrame) : Bool := f.crc == crc32c f.bytes

/-- An input frame as a bank sends it (R209). -/
def InputFrame.closed (f : InputFrame) : InputFrame := { f with crc := crc32c f.bytes }

/-- A command frame before its CRC (R212). -/
def CmdFrame.bytes (f : CmdFrame) : List Byte :=
  [(f.typ ++ f.src ++ f.bank ++ f.test : BitVec 8), f.seq, f.qv] ++ be 2 f.dr.toNat ++ [((0 : BitVec 1) ++ f.testOut ++ f.nv : BitVec 8)]

/-- The CRC of a command frame passes (R212). -/
def CmdFrame.crcOk (f : CmdFrame) : Bool := f.crc == crc32c f.bytes

/-- A command frame as a channel sends it (R212). -/
def CmdFrame.closed (f : CmdFrame) : CmdFrame := { f with crc := crc32c f.bytes }

/-- A configuration frame before its CRC (R212, R213). -/
def CfgFrame.bytes (f : CfgFrame) : List Byte :=
  [(f.typ ++ f.src ++ f.bank ++ f.test : BitVec 8), f.seq, f.item, f.v0, f.v1, f.v2]

/-- The CRC of a configuration frame passes (R212, R213). -/
def CfgFrame.crcOk (f : CfgFrame) : Bool := f.crc == crc32c f.bytes

/-- A configuration frame as a channel sends it (R213). -/
def CfgFrame.closed (f : CfgFrame) : CfgFrame := { f with crc := crc32c f.bytes }

/-- A Stratus frame between its delimiters, without the FCS (R239). -/
def RingFrame.bytes (f : RingFrame) : List Byte :=
  [byteOf (f.typ.toNat * 32 + bit f.dir * 16), byteOf f.node, byteOf f.slot,
    byteOf (f.loopRole.toNat + 4 * bit f.syncNode + 8 * f.nodeState)] ++ be 2 f.len ++ be 4 f.ringCycle
    ++ be 2 f.scheduleId.toNat ++ be 2 f.linkNs ++ [0, 0] ++ f.payload ++ (if f.typ = 0 then be 4 f.safety.toNat else [])

/-- The FCS of a Stratus frame passes (R239). -/
def RingFrame.fcsOk (f : RingFrame) : Bool := f.fcs == crc32c f.bytes

/-- A Stratus frame that CVU4 marks CHECK_FAIL, as its engine sees it: its FCS does not pass (R393, R395). -/
def RingFrame.marked (f : RingFrame) : RingFrame := { f with fcs := ~~~crc32c f.bytes }

/-- A heartbeat before its CRC (R325). -/
def Heartbeat.body (h : Heartbeat) : List Byte :=
  [1, byteOf h.position, byteOf h.role, byteOf h.modState, byteOf h.ladder, h.flags] ++ be 2 h.hbSeq
    ++ be 4 h.station.toNat ++ be 4 h.sdiCrc.toNat ++ be 4 h.sent ++ be 4 h.ack
    ++ [byteOf h.version, byteOf h.feeds.length, 0, 0]
    ++ h.feeds.flatMap fun f => [byteOf f.head, f.freqs, f.ampl, 0] ++ be 2 f.ph1.toNat ++ be 2 f.ph2.toNat

/-- A heartbeat with its CRC (R325). -/
def Heartbeat.wire (h : Heartbeat) : List Byte := h.body ++ be 4 h.crc.toNat

/-- The CRC of a heartbeat passes (R325, R326). -/
def Heartbeat.crcOk (h : Heartbeat) : Bool := h.crc == crc32c h.body

/-- The eight bytes before the payload (R14). -/
def MeshHead.bytes (h : MeshHead) : List Byte :=
  [(h.typ ++ h.src ++ h.low : BitVec 8), h.seq] ++ be 2 h.len ++ be 4 h.cycle

/-- The CRC-32C of a frame (R14). -/
def MeshFrame.crc (f : MeshFrame) : W32 := crc32c (f.head.bytes ++ f.payload)

/-- A receiver keeps a frame (R14, R39): its CRC-32C matches, its TYPE is not reserved, LEN is the payload's length and at
most 4,096, SRC is the channel at the other end, and a `DELTA_REQ` has KIND 0x01 or 0x02. -/
def MeshFrame.sound (f : MeshFrame) (tx : Ch) : Bool :=
  let h := f.head
  h.crc == f.crc && h.typ.toNat ≤ 6 && h.len == f.payload.length && h.len ≤ 4096
    && h.src.toNat == tx.idx && (h.typ != 6 || byteAt f.payload 0 == 1 || byteAt f.payload 0 == 2)

end Sys2Proof

namespace Sys2Proof.Machine

/-- A page map as 128 bytes, page i at bit 7 − (i mod 8) of byte ⌊i/8⌋ (R33). -/
def mapBytes (l : List Nat) : List Byte :=
  (List.range 128).map fun b => byteOf ((List.range 8).map fun i => bit (l.contains (8 * b + i)) * 2 ^ (7 - i)).sum

/-- The TYPE of what a frame carries (R14). -/
def MeshOut.typ : MeshOut → BitVec 4
  | .idle => 0 | .mark _ => 1 | .tenon1 _ _ _ => 2 | .tenon2 _ => 3 | .vote _ => 4 | .page _ _ _ _ => 5 | .deltaEnd _ _ _ _ => 5
  | .start _ _ _ => 6 | .repair _ _ => 6

/-- The place of a waiting frame in the order of sending (R14). -/
def MeshOut.prio : MeshOut → Nat
  | .mark _ => 0 | .tenon1 _ _ _ => 1 | .tenon2 _ => 1 | .vote _ => 2 | .start _ _ _ => 3 | .repair _ _ => 3
  | .page _ _ _ _ => 4 | .deltaEnd _ _ _ _ => 4 | .idle => 5

end Sys2Proof.Machine

namespace Sys2Proof

open Machine

/-- A TENON2 payload (R60). -/
def Tenon2.bytes (p : Tenon2) : List Byte :=
  [byteOf p.attempt, p.used.setWidth 8, p.flags, 0] ++ be 8 p.hash.toNat ++ be 4 p.cutSum.toNat

/-- A VOTE payload (R63). -/
def VotePayload.bytes (p : VotePayload) : List Byte := be 8 p.outHash.toNat ++ p.cmds.toList.flatMap fun w => be 2 w.toNat

end Sys2Proof

namespace Sys2Proof.Machine

/-- The payload of a frame (R16, R39, R40, R53, R60, R63). -/
def MeshOut.payload : MeshOut → List Byte
  | .idle => []
  | .mark n => be 4 n
  | .tenon1 part parts d => [byteOf part, byteOf parts, 0, 0] ++ d
  | .tenon2 p => p.bytes
  | .vote p => p.bytes
  | .start k h map => [1, 0, 0, 0] ++ be 4 k ++ be 8 h.toNat ++ mapBytes map
  | .repair r map => [2, byteOf r, 0, 0] ++ be 4 0 ++ be 8 0 ++ mapBytes map
  | .page r i crc d => [1, byteOf r] ++ be 2 i ++ be 4 crc.toNat ++ d
  | .deltaEnd r n h map =>
    [2, byteOf r] ++ be 2 n ++ be 4 (h.toNat / 2 ^ 32) ++ be 4 (h.toNat % 2 ^ 32) ++ mapBytes map

/-- A frame as it goes out (R14). -/
def MeshOut.frame (m : MeshOut) (tx : Ch) (seq : Byte) (cycle : Nat) : MeshFrame :=
  let f : MeshFrame := ⟨⟨m.typ, BitVec.ofNat 2 tx.idx, 0, seq, m.payload.length, cycle % 2 ^ 32, 0⟩, m.payload⟩
  { f with head := { f.head with crc := f.crc } }

/-- A frame joins the ones that wait on a link, behind those that go before it or were there first (R14). -/
def insWaiting (x : Nat × MeshOut) : List (Nat × MeshOut) → List (Nat × MeshOut)
  | [] => [x]
  | y :: l => if y.2.prio ≤ x.2.prio then y :: insWaiting x l else x :: y :: l

end Sys2Proof.Machine
end

