-- ==== Sys2Proof/Machine/Pair.lean ====
section
/-! DEFINITION. The lockstep pair and the channel's memory: the Dovetail comparison and its injection test (R23 to R27), the
SEC-DED code of the SRAM (R28, R29). -/

namespace Sys2Proof.Machine

/-! ## Dovetail -/

/-- The widths of the groups G0 to G5 (R24). -/
def groupWidths : List Nat := [32, 4, 32, 8, 32, 7]

end Sys2Proof.Machine

namespace Sys2Proof

open Machine

/-- The fields of a bundle that are not valid read as 0: an address and its attributes count with their valid bit, store data
with a valid write, a cause with a valid exception; the valid bits and the halt request always count (R24). -/
def Bundle.masked (b : Bundle) : Bundle :=
  let fetch := b.fetchCtl.getLsbD 3
  let acc := b.lsCtl.getLsbD 7
  { fetchAddr := if fetch then b.fetchAddr else 0
    fetchCtl := if fetch then b.fetchCtl else 0
    lsAddr := if acc then b.lsAddr else 0
    lsCtl := if acc then b.lsCtl else 0
    storeData := if acc && b.lsCtl.getLsbD 6 then b.storeData else 0
    exc := if b.exc.getLsbD 6 then b.exc else b.exc &&& 1 }

/-- The groups of a bundle as numbers (R24). -/
def Bundle.groups (b : Bundle) : List Nat :=
  [b.fetchAddr.toNat, b.fetchCtl.toNat, b.lsAddr.toNat, b.lsCtl.toNat, b.storeData.toNat, b.exc.toNat]

/-- The first group and bit in which the shadow's bundle differs from the leader's of two edges earlier (R24). -/
def Bundle.mismatch (leader shadow : Bundle) : Option (Nat × Nat) :=
  let l := leader.masked.groups
  let r := shadow.masked.groups
  (groupWidths.zipIdx.flatMap fun x => (List.range x.1).map fun i => (x.2, i)).find? fun p =>
    (l.getD p.1 0).testBit p.2 != (r.getD p.1 0).testBit p.2

end Sys2Proof

namespace Sys2Proof.Machine

/-- The 115 injections of the start test, group by group (R27). -/
def injections : List (Nat × Nat) := groupWidths.zipIdx.flatMap fun x => (List.range x.1).map fun i => (x.2, i)

end Sys2Proof.Machine

namespace Sys2Proof

open Machine

/-- The first injection that went wrong (R27): not flagged, not kept from the pair reset, or, for a test store (G2 to G4),
with a changed sentinel. -/
def Injections.miss (t : Injections) : Option (Nat × Nat) :=
  (injections.zipIdx.find? fun x =>
    !t.flagged.getLsbD x.2 || !t.suppressed.getLsbD x.2 || (2 ≤ x.1.1 && x.1.1 ≤ 4 && !t.sentinel.getLsbD x.2)).map (·.1)

end Sys2Proof

namespace Sys2Proof.Machine

/-! ## The SEC-DED code -/

/-- How many bits of a 7-bit column are set. -/
def weight7 (x : BitVec 7) : Nat := ((List.range 7).filter x.getLsbD).length

/-- The columns of a weight, ascending. -/
def columns (w : Nat) : List (BitVec 7) := ((List.range 128).map (BitVec.ofNat 7)).filter fun x => weight7 x = w

/-- The column of data bit `i`: the weight-3 columns in ascending order; the rule asks for odd weight and leaves the choice open
(assumption 97). -/
def dataColumn (i : Nat) : BitVec 7 := (columns 3).getD i 0

/-- The column of address bit `i + 2`: the 21 weight-2 columns, each used once (R29). -/
def addrColumn (i : Nat) : BitVec 7 := (columns 2).getD i 0

/-- The seven check bits of a word at an address (R29). -/
def eccCheck (addr : Nat) (w : W32) : BitVec 7 :=
  ((List.range 32).filter w.getLsbD).foldl (fun c i => c ^^^ dataColumn i) 0
    ^^^ ((List.range 21).filter fun i => addr.testBit (i + 2)).foldl (fun c i => c ^^^ addrColumn i) 0

/-- What a read of an SRAM word finds (R29). -/
inductive EccRead where
  | clean
  | corrected (w : W32)
  | uncorrectable
  deriving DecidableEq, Repr

end Sys2Proof.Machine

namespace Sys2Proof

open Machine

/-- A read (R29): an even-weight syndrome is uncorrectable; an odd one names a data or a check bit. An odd syndrome that names
none is no single-bit error and is taken as uncorrectable (assumption 97). -/
def EccWord.read (x : EccWord) (addr : Nat) : EccRead :=
  let s := eccCheck addr x.word ^^^ x.check
  if s = 0 then .clean
  else if weight7 s = 1 then .corrected x.word
  else match (List.range 32).find? fun i => dataColumn i = s with
    | some i => .corrected (x.word ^^^ BitVec.ofNat 32 (2 ^ i))
    | none => .uncorrectable

end Sys2Proof

namespace Sys2Proof.Machine

/-! ## The SRAM by address -/

/-- A page of a channel's state region (R28). -/
def Channel.page (c : Channel) (i : Nat) : List Byte :=
  match c.pages.find? (·.index == i) with | some p => p.data | none => List.replicate 2048 0

/-- A page's contents are replaced. -/
def Channel.setPage (c : Channel) (i : Nat) (d : List Byte) : Channel :=
  { c with pages := ⟨i, d⟩ :: c.pages.filter (·.index != i) }

/-- Bytes of a list are replaced from offset `o` on. -/
def patch (l : List Byte) (o : Nat) (d : List Byte) : List Byte := l.take o ++ d ++ l.drop (o + d.length)

/-- A word of the SRAM is written (R28): the working copy of the station data and the state region stand in the model; a word
of the page value table, of the descriptor ring or of the buffers is held in the fields that stand for them. -/
def Channel.putWord (c : Channel) (addr : Nat) (d : List Byte) : Channel :=
  if addr < 0x300000 then (if addr + 4 ≤ c.sdi.length then { c with sdi := patch c.sdi addr d } else c)
  else if addr < 0x500000 then
    let i := (addr - 0x300000) / 2048
    c.setPage i (patch (c.page i) (addr % 2048) d)
  else c

/-- The dirty tracker sets a page's bit (R32); a supplier marks it again for every requester (R37). -/
def Channel.mark_ (c : Channel) (pages : List Nat) : Channel :=
  { c with dirty := c.dirty ++ pages
           sups := c.sups.map fun (x : XferSup) => { x with again := x.again ++ pages } }

/-- A checked store reaches memory, byte by byte as its byte enables say (R26, R32). -/
def Channel.commit (c : Channel) (x : StoreReq) : Channel :=
  let a := x.addr / 4 * 4
  let old := if a < 0x300000 then slice c.sdi a 4 else slice (c.page ((a - 0x300000) / 2048)) (a % 2048) 4
  let d := (List.range 4).map fun i => if x.be.getLsbD i then byteAt (le 4 x.data.toNat) i else byteAt old i
  let c := c.putWord a d
  if 0x300000 ≤ a && a < 0x500000 then c.mark_ [(a - 0x300000) / 2048] else c

/-- The oldest store of the compare buffer has been found equal and is released to its target (R26). -/
def Channel.release (c : Channel) : Channel :=
  match c.storeBuf with
  | [] => c
  | x :: l => Channel.commit { c with storeBuf := l } x

/-- A leader store enters the two-entry compare buffer; with both entries taken the older one's comparison is done (R26). -/
def Channel.store (c : Channel) (x : StoreReq) : Channel :=
  let c := if 2 ≤ c.storeBuf.length then c.release else c
  { c with storeBuf := c.storeBuf ++ [x] }

/-! ## The working copy of the station data -/

/-- The CRC-32C of every 64 KiB block of a working copy (R89). -/
def blockSums (d : List Byte) : List W32 := (List.range ((d.length + 65535) / 65536)).map fun i => crc32c (slice d (65536 * i) 65536)

/-- A channel loads its working copy and records its block sums (R89). -/
def Channel.loadSdi (c : Channel) (d : List Byte) : Channel := { c with sdi := d, sdiSums := blockSums d, sdiAt := 0 }

/-- The block of this P6 (R89): its sum, with the bytes that read otherwise than they were loaded, is the recorded one. -/
def Channel.blockOk (c : Channel) (wrong : List (Nat × Byte)) : Bool :=
  match c.sdiSums[c.sdiAt]? with
  | none => true
  | some sum =>
    let b := slice c.sdi (65536 * c.sdiAt) 65536
    crc32c (wrong.foldl (fun b x => if x.1 < b.length then patch b x.1 [x.2] else b) b) == sum

end Sys2Proof.Machine
end

