-- ==== Sys2Proof/Machine/Launches.lean ====
section
/-! DEFINITION. The checks of a launch (R145, R148), element commands (R120), and the entries of SVC that step 5 of an evaluation
processes (R94, R116, R145, R149). -/

namespace Sys2Proof.Machine

/-- The operations launched from the object dictionary (R147, R148). -/
def launchCodes : List Nat := [0x0101, 0x0102, 0x0201, 0x0401, 0x0501, 0x0502, 0x0601, 0x0701, 0x0801, 0x0901]

/-- Their access levels (R148). -/
def opLevel (op : Nat) : Nat := match op with | 0x0801 | 0x0401 | 0x0501 | 0x0502 => 2 | _ => 1

/-- TARGET range and PARAM content (R145 order 9). -/
def paramOk (op : Nat) (l : Launch) : Bool :=
  let p := l.param
  l.param.length ≤ 52 && l.flags.toNat < 2 && l.r6 = 0 && match op with
    | 0x0101 | 0x0102 => l.target < 1536 && p.isEmpty
    | 0x0201 => l.target < 8192 && p.isEmpty
    | 0x0401 =>
      l.target = 0 && p.length = 2 && 1 ≤ leAt p 0 1 && leAt p 0 1 ≤ 0x3F && leAt p 1 1 ≤ 1
        && (leAt p 1 1 = 0 || leAt p 0 1 = 0x3F)
    | 0x0501 => (ImageType.ofCode l.target).isSome && p.length = 4
    | 0x0502 => l.target = 0 && p.length = 10
    | 0x0601 => l.target = 0 && p.length = 8 && leAt p 4 4 ≤ 32768
    | 0x0801 => l.target < 16 && p.length = 4 && leAt p 3 1 = 0
    | _ => l.target = 0 && p.isEmpty

/-- A service operation (R155). -/
def serviceOp (op : Nat) : Bool := !vitalOp op

/-- The CONDITION column of R148 with the roles of the twin (R145 order 5), which hold from the evaluation after a takeover (R334). -/
def Kernel.condOk (env : Env) (k : Kernel) (op : Nat) (l : Launch) : Bool :=
  (serviceOp op || (k.twin.role ≤ 1 && k.twin.tookAt != some k.cycle)) && match op with
    | 0x0701 => k.twin.role == 1
    | 0x0401 => env.lc == 1 || env.lc == 3
    | 0x0501 => match ImageType.ofCode l.target with | some t => env.sws.contains (ImageType.switch t) | none => true
    | 0x0502 => env.staged.all fun t => env.sws.contains (ImageType.switch t)
    | _ => true

/-- The module state permits the operation (R145 order 6, R155, R384). -/
def MState.permits (m : MState) (op : Nat) : Bool :=
  match m with
  | .run => op != 0x0401
  | .start | .safe | .lockout => serviceOp op
  | _ => false

/-- The checks an operation makes of its own when its launch is agreed (R199, R402). -/
def Kernel.ownBar (d : Sdi) (env : Env) (k : Kernel) (op : Nat) (l : Launch) : Option Nat :=
  match op with
  | 0x0801 => k.excBar d env l.target l.param
  | 0x0501 => (env.imgBars.find? fun x => ImageType.code x.1 == l.target).map (·.2)
  | _ => none

/-- Why a launch by a writer of access level `level` is refused (R145): the first failure in order; `pend` when SVC has another launch
for the slot pending. -/
def Kernel.launchBar (d : Sdi) (env : Env) (k : Kernel) (pend : Bool) (level op : Nat) (l : Launch) :
    Option Nat :=
  if sccOp op then some 0x0C01
  else if !launchCodes.contains op then some 0x0D01
  else if 96 ≤ l.slot then some 0x0D02
  else if level < opLevel op then some 0x0D05
  else if !k.condOk env op l then some 0x0D06
  else if !env.mstate.permits op then some 0x0D07
  else if (k.slot l.slot).state != .free || pend then some 0x0D03
  else if (k.slot l.slot).seq != l.seqNow then some 0x0D04
  else if !paramOk op l then some 0x0D08
  else k.ownBar d env op l

/-- What a slot takes over from a launch (R144, R149, R157). -/
def Launch.entry (l : Launch) (op level now : Nat) : SlotEntry :=
  ⟨op, l.target, l.param, l.client.kind, level, l.client.identity, now⟩

/-- A launch that passes enters its slot, and starts at once when nothing holds it (R147, R149). -/
def Kernel.launched (d : Sdi) (env : Env) (k : Kernel) (op level now : Nat) (l : Launch) : Kernel :=
  (k.enter l.slot (Launch.entry l op level now) (l.flags.getLsbD 0)).tryStart d env l.slot

/-! ## Controls -/

/-- A control by its value in 0x3000 + slot .03 (R148, R149, R157): `own` is the permission of RELEASE. -/
def Kernel.control (d : Sdi) (env : Env) (k : Kernel) (own : Bool) (level code n : Nat) : CtlRes :=
  if code = 4 then k.releaseCtl own n
  else if level < 1 then .error 0x0D05
  else match code with
    | 1 => k.suspend n
    | 2 => k.resume d env n
    | 3 => if (k.slot n).state.busy && env.lateSlot == some n then .error 0x0D09 else k.cancel d env n
    | _ => .ok k

/-- A client may release a slot: its own origin identity, or EXPERT (R148). -/
def SlotSt.ownedBy (x : SlotSt) (cl : Client) (level : Nat) : Bool :=
  2 ≤ level || (x.okind == cl.kind && x.identity == cl.identity)

/-! ## Element commands -/

/-- An element command's result becomes 0x2330.02 and .03 (R120). -/
def Kernel.elemDone (k : Kernel) (code el : Nat) (r : CmdRes) : Kernel :=
  match r with
  | .ok k => { k with elemResult := 0, elemCommand := code * 16777216 + el }
  | .err c => { k with elemResult := c, elemCommand := code * 16777216 + el }

/-- One element command acts in the kernel (R120). -/
def Kernel.elemCmd (d : Sdi) (k : Kernel) (code el : Nat) : Kernel :=
  k.elemDone code el (match code with
    | 1 => k.cmdBlock d el true
    | 2 => k.cmdBlock d el false
    | 3 => k.cmdReset d el
    | 4 => k.cmdGrant d el
    | _ => k.cmdWithdraw el)

/-! ## The entries of SVC -/

/-- The kernel's verdict on an entry of SVC (R146). -/
def Kernel.verdict (k : Kernel) (no code : Nat) : Kernel := { k with notes := k.notes ++ [.verdict no code] }

/-- An agreed entry of SVC acts in step 5 (R94, R116, R145, R149); the checks of a launch run again, and a refused one leaves its
slot untouched. -/
def Kernel.svcOp (d : Sdi) (env : Env) (now : Nat) (k : Kernel) (e : SvcEntry) : Kernel :=
  match e with
  | .launch no op level l =>
    match k.launchBar d env false level op l with
    | some c => k.verdict no c
    | none => (k.launched d env op level now l).verdict no 0
  | .control no cl level n code =>
    match k.control d env ((k.slot n).ownedBy cl level) level code n with
    | .error c => k.verdict no c
    | .ok k => k.verdict no 0
  | .elem code el => k.elemCmd d code el
  | _ => k

end Sys2Proof.Machine
end

