-- ==== Sys2Proof/Machine/Evaluate.lean ====
section
/-! DEFINITION. One evaluation of the kernel on an agreed image: the order of R94, ring entries in and out (R252 to
R254), and what follows a command that acts as a part of the current evaluation. -/

namespace Sys2Proof.Machine

/-- An agreed ring entry (R252): the slot's owner, the slot, and what SAFETY covers. -/
structure RingIn where
  node    : Nat
  slot    : Nat
  cycle   : Nat
  sched   : Nat
  payload : List Byte
  safety  : W32
  deriving DecidableEq, Repr

/-- The agreed image as the kernel takes it up (R54 to R57). -/
structure EvalIn where
  banks   : Quad AgreedBank
  xs      : List SensorRec
  ys      : List SensorRec
  rings   : List RingIn
  svc     : List SvcEntry
  tels    : List SessTel
  veneers : List Veneer
  pages   : List Nat
  deriving DecidableEq, Repr

/-! ## The ring -/

/-- One agreed ring entry (R252): accepted, or lost and recorded. -/
def Kernel.ringEntry (k : Kernel) (e : RingIn) : Kernel :=
  let vseq := beAt e.payload 0 4
  let last := (k.ring.find? fun x => x.2.1 == e.slot).map fun x => beAt x.2.2.2 0 4
  let later := match last with | some v => seqLater 32 vseq v | none => true
  if e.safety == ringSafety e.node e.slot e.cycle e.sched e.payload && later then
    { k with ring := (e.node, e.slot, k.cycle, e.payload) :: k.ring.filter fun x => x.2.1 != e.slot }
  else k.note 0x180

/-- The payloads accepted in this evaluation, as sources of head reports (R81, R167). -/
def Kernel.ringReports (k : Kernel) : List (Nat × Nat × List Byte) :=
  (k.ring.filter fun x => x.2.2.1 == k.cycle).map fun x => (1, x.1 + 256 * x.2.1, x.2.2.2.drop 4)

/-- The owner marker of the twin's status frames accepted in this evaluation (R254, R330). -/
def Kernel.owners (env : Env) (k : Kernel) : List Bool :=
  match env.twinStatus with
  | some s => (k.ring.filter fun x => x.2.1 == s && x.2.2.1 == k.cycle).map fun x => (byteAt x.2.2.2 6).getLsbD 0
  | none => []

/-- The payload of a command slot (R240, R253): VSEQ and the out-attributes bound to it. -/
def Kernel.ringPayload (d : Sdi) (env : Env) (k : Kernel) (slot len : Nat) : List Byte :=
  d.bindings.foldl (fun l b => match b.addr with
    | .stratus node s off bt w _ =>
      if node == env.ownNode && s == slot && 0x80 ≤ b.attr then setFieldBits l off bt w (k.outAttr d b.element b.attr) else l
    | _ => l) (be 4 k.cycle ++ List.replicate (len - 4) 0)

/-- The module's status frame in `RUN` (R254). -/
def Kernel.statusPayload (d : Sdi) (env : Env) (k : Kernel) : List Byte :=
  be 4 k.cycle ++ [1, byteOf k.twin.role, byteOf (bit k.drives), byteOf env.ladder] ++ be 4 d.stationId.toNat
    ++ [0, 0, 0, 0]

/-- The entries for the slots the module owns (R253): command slots only while it drives (R255). -/
def Kernel.ringSend (d : Sdi) (env : Env) (k : Kernel) : Kernel :=
  { k with ringOut := env.ringSlots.filterMap fun x =>
      if x.2.2 then some (x.1, k.statusPayload d env)
      else if k.drives then some (x.1, k.ringPayload d env x.1 x.2.1) else none }

/-! ## The evaluation -/

/-- Step 1 of R94; the readback is judged once the cycle's Veneer frame has been taken (R228). -/
def Kernel.step1 (d : Sdi) (env : Env) (k : Kernel) (a : EvalIn) : Kernel :=
  let k := k.fieldStep d a.banks
  let k := a.rings.foldl Kernel.ringEntry k
  let k := k.sessStep d env.pst a.svc a.tels
  let k := k.axles d a.xs a.ys (k.ringReports ++ k.reports)
  let k := k.twinStep d env (a.svc.filterMap fun e => match e with | .twin t => some t | _ => none) (k.owners env)
    a.veneers
  ((k.stepReadback d).stepAttrs d).tsStep d

/-- Element and route logic acts on the live state, which only a module that drives holds (R322; assumption 63). -/
def Kernel.driving (k : Kernel) (f : Kernel → Kernel) : Kernel := if k.drives then f k else k

/-- Step 4 of R94. -/
def Kernel.step4 (d : Sdi) (k : Kernel) : Kernel := k.driving fun k => (d.routes.map (·.id)).foldl (Kernel.advanceRoute d) k

/-- Step 3 of R94: route timers, slots, the window of a field reset. -/
def Kernel.step3 (d : Sdi) (k : Kernel) : Kernel :=
  let k := k.driving fun k => (d.routes.map (·.id)).foldl (Kernel.timeRoute d) k
  (k.timeSlots d).resetTimeout

/-- Step 5 of R94: the SCC records of the evaluation (before SVC's entries: DESIGN CHOICE, assumption 113), the waiting slots, and SVC's
entries in the order of their counters; then the throw commands, and the windows that end with the cycle. -/
def Kernel.step5 (d : Sdi) (env : Env) (now : Nat) (k : Kernel) (svc : List SvcEntry) : Kernel :=
  let k := if k.drives then k.sccStep d now else { k with sccIn := [] }
  let k := (svc.foldl (Kernel.svcOp d env now) (k.startQueued d env)).startQueued d env
  let k := k.driving fun k => k.throwRoutes d
  (List.range 96).foldl (fun k n => k.sccWindow d (k.cycle + 1) n) k

/-- Step 6 of R94; `pages` are the state pages written in the cycle (R32). -/
def Kernel.step6 (d : Sdi) (env : Env) (k : Kernel) (pages : List Nat) : Kernel :=
  let k := ((k.sccOutcomes.driving fun k => k.aspects d).outputStep d).sendStep d env.pst true
  (((k.ringSend d env).wrote pages).veneerStep d env).countClear

/-- A mark of the agreed cycle (R55): agreed vital time starts at 0 at the first mark in `RUN` and advances by the cycle length
at every other. -/
def Kernel.tick (d : Sdi) (k : Kernel) (n : Nat) : Kernel :=
  { k with cycle := n, vital := if k.first then 0 else k.vital + d.cycleMs, first := false }

/-- One evaluation (R94). -/
def Kernel.evaluate (d : Sdi) (env : Env) (now : Nat) (k : Kernel) (a : EvalIn) : Kernel :=
  let k := { k with reports := [], tels := [] }
  let k := (k.step1 d env a).driving fun k => (k.step2 d).excStep d
  let k := (k.step3 d).step4 d
  (k.step5 d env now a.svc).step6 d env a.pages

/-- What follows a command that acts as step 5 of the current evaluation: aspects, outputs, and telegrams beside data
that fall due. -/
def Kernel.after (d : Sdi) (env : Env) (k : Kernel) : Kernel :=
  let k := k.driving fun k => (k.throwRoutes d).sccOutcomes.aspects d
  ((k.refreshOutputs d).sendStep d env.pst false).recountClear

end Sys2Proof.Machine
end

