-- ==== Sys2Proof/Machine/CvuRows.lean ====
section
/-! DEFINITION. The known-answer test of the check-value units, and what an export that ends early leaves (R371, R395). -/

namespace Sys2Proof.Machine

/-! ## The known-answer test -/

/-- The check value of "123456789" (R395). -/
def katValue : W64 := 0xE3069283

/-- A known-answer test (R395): a general unit runs it with CRC-32C. -/
def cvuKat (n : Nat) (result : W64) (s : State) : State :=
  if 12 ≤ n then s
  else
    let ok := decide (result = katValue)
    let s := s.modCvu n fun u =>
      { (if 8 ≤ n then u.castagnoli else u) with
        result := result, units := u.units + 1, pass := ok, failed := u.failed || !ok }
    if ok then s else s.raiseAbout 0x1E2 n 0

/-- CVU_KAT (R395). -/
def execCvuKat (unit : Nat) (result : W64) (s : State) : Host.Outcome State Fault Refusal :=
  .next (s.live fun s => cvuKat unit result s)

/-- RESULT_DATA of an export that ends early (R371): the records advanced past so far. -/
def State.exported (s : State) (p : Pin) : List Byte :=
  let u := (s.cvu 8).castagnoli
  exportData p.lo (p.hi + 1 - p.lo) ((u.final u.running).truncate 32)

end Sys2Proof.Machine
end

