-- ==== Sys2Proof/Machine/Service.lean ====
section
/-! DEFINITION. The operations SVC runs: self-test and seal, shutdown, image transfer, scheduled activation and recorder
export (R155, R371, R382 to R385, R401 to R403). -/

namespace Sys2Proof.Machine

/-- The client an ORIGIN names (R157). -/
def SlotSt.client (x : SlotSt) : Client := if x.okind = 1 then .can x.identity else .udp x.identity

/-- A slot changed. -/
def State.modSlot (s : State) (n : Nat) (f : SlotSt → SlotSt) : State := { s with kernel := s.kernel.modSlot n f }

/-- A slot that SVC runs ends, with its record (R364). -/
def State.finish (s : State) (n : Nat) (st : SlotState) (result : Nat) (data : List Byte) : State :=
  ({ s with kernel := s.kernel.finish n st result data }).slotRecords

/-! ## Self-test -/

/-- The slices of a test by its bit (R382). -/
def slicesOf (bt : Nat) : List (Nat × Nat) :=
  match bt with
  | 0 => (List.range 16).map fun i => (0, i + 1)
  | 2 => [(2, 1), (2, 2)]
  | n => [(n, 1)]

/-- The slices of a mask in the order of R382. -/
def testPlan (mask : Nat) : List (Nat × Nat) := ([4, 1, 0, 2, 3, 5].filter (bitAt mask)).flatMap slicesOf

/-- A self-test starts (R382, R389). -/
def State.startTest (s : State) (slot mask : Nat) : State :=
  { s with life := { s.life with test := ⟨1, 0, 0, 0xFFFFFFFF, 0, testPlan mask, [], some slot, false, false⟩ } }

/-- RESULT_DATA of SHUTDOWN and BIST_RUN (R384). -/
def SelfTest.data (t : SelfTest) : List Byte := [t.run, t.passed] ++ le 2 t.slices ++ le 4 t.firstFail.toNat

/-- A seal as its first 60 bytes, USED taken as 0 (R385). -/
def Seal.body (x : Seal) : List Byte :=
  [0x53, 0x45, 0x41, 0x4C, 1, 0, x.run, x.passed, byteOf x.origin, byteOf x.source, 0, 0] ++ le 4 x.serial.toNat
    ++ x.time.bytes ++ le 4 x.images.toNat ++ le 4 x.sdiCrc.toNat ++ le 4 x.firstFail.toNat ++ List.replicate 22 0

/-- The seal of a run (R385), in every copy; CVU11 computes its CRC (R394; DESIGN CHOICE, assumption 140). -/
def State.writeSeal (s : State) (origin : Nat) : State :=
  let t := s.life.test
  let x : Seal :=
    ⟨t.run, t.passed, origin, s.time.source.code, false, Config.serial, s.time.now, s.upd.imagesCrc,
      match s.sdi.sdi with | some d => d.crcC | none => 0, t.firstFail, true⟩
  ({ s with life := { s.life with seals := List.replicate 5 (some x) } }).cvuJob 11 (Seal.body x)

/-- The self-test stops (R389 .01): its end state. -/
def State.endTest (s : State) (st : Nat) : State :=
  { s with life := { s.life with test := { s.life.test with state := st, todo := [], slot := none } } }

/-- A run that ends before its last slice (R383, R384): no seal. -/
def State.cutTest (s : State) (n : Nat) : State := (s.endTest 4).finish n .cancelled 0 s.life.test.data

/-- SHUTDOWN at stage STOPPING (R383) after the run `t`: a seal when all six tests ran, and the slot ends. -/
def State.stopping (s : State) (n : Nat) (t : SelfTest) : State :=
  let s := s.modSlot n fun x => { x with stage := 0x91 }
  let s := if t.run = 0x3F then s.writeSeal 1 else s
  if t.run = t.passed then s.finish n .done 0 t.data else s.finish n .failed 0x0901 t.data

/-- The self-test within SHUTDOWN is permitted (R377). -/
def State.testPermitted (s : State) : Bool :=
  match s.life.state with | 1 => true | 3 => true | 2 => s.sw 8 | _ => false

/-- SVC runs a SHUTDOWN once the module has left `RUN` (R383): a BIST_RUN ends after its slice, at once when it is suspended. -/
def State.runShutdown (s : State) (n : Nat) : State :=
  if (s.kernel.slot n).stage = 0x90 then
    match s.life.test.slot with
    | some b =>
      if (s.kernel.slot b).state == .suspended then (s.cutTest b).startTest n 0x3F
      else { s with life := { s.life with test := { s.life.test with abort := true } } }
    | none => s.startTest n 0x3F
  else
    s.stopping n SelfTest.reset

/-- The module enters `SHUTDOWN` for slot `n` (R383, R352). -/
def State.enterShutdown (s : State) (n : Nat) : State := ((s.leaveRun .shutdown).runShutdown n)

/-- SHUTDOWN starts (R383): in `RUN` the module leaves it at the next mark. -/
def State.startShutdown (s : State) (n : Nat) : State :=
  let s := s.modSlot n fun x => { x with stage := if s.testPermitted then 0x90 else 0x91 }
  if s.mstate = .run then s else s.enterShutdown n

/-- The SHUTDOWN that waits for the next mark. -/
def State.shutdownDue (s : State) : Option Nat :=
  s.kernel.slots.findIdx? fun x => x.op == 0x0901 && x.state == .running && (x.stage == 0x90 || x.stage == 0x91)

/-- BIST_RUN starts (R384). -/
def State.startBist (s : State) (n : Nat) : State :=
  (s.modSlot n fun x => { x with stage := 0x40, percent := 0 }).startTest n (leAt (s.kernel.slot n).param 0 1)

/-! ## Image transfer -/

/-- The slot a transfer writes goes `EMPTY` in every copy (R402). -/
def Update.emptyTarget (u : Update) (t : ImageType) : Update :=
  u.mod t fun i => i.modSlot i.inactive fun x => if x.state = .unusable then x else { x with state := .empty, data := [] }

/-- IMAGE_TRANSFER starts (R401, R402). -/
def State.startTransfer (s : State) (n : Nat) : State :=
  let x := s.kernel.slot n
  match ImageType.ofCode x.target with
  | none => s.finish n .failed 0x0501 []
  | some t =>
    match s.upd.transferBar t with
    | some c => s.finish n .failed c []
    | none =>
      ({ s with upd := { s.upd.emptyTarget t with
                          transfers := s.upd.transfers ++ [(⟨n, t, leAt x.param 0 4, [], false, s.svc.ms, x.client⟩ : Transfer)] } }).modSlot n
        fun x => { x with stage := 0x50, percent := 0 }

/-- The transfers without the one of slot `n`. -/
def Update.withoutTransfer (u : Update) (n : Nat) : Update := { u with transfers := u.transfers.filter (·.slot != n) }

/-- The transfer of slot `n` changed. -/
def Update.putTransfer (u : Update) (t : Transfer) : Update :=
  { u with transfers := u.transfers.map fun x => if x.slot == t.slot then t else x }

/-- The transfer of slot `n` ends without a written image: the target slot goes `EMPTY` (R402). -/
def State.dropTransfer (s : State) (n : Nat) (st : SlotState) (code : Nat) : State :=
  match s.upd.transfers.find? (·.slot == n) with
  | none => s
  | some t => ({ s with upd := (s.upd.emptyTarget t.typ).withoutTransfer n }).finish n st code []

/-- The transfers whose SW1 position has opened end (R402). -/
def State.transferSwitch (s : State) : State :=
  (s.upd.transfers.filter fun t => !s.sw (ImageType.switch t.typ)).foldl (fun s t => s.dropTransfer t.slot .failed 0x0506) s

/-! ## Scheduled activation -/

/-- The types in one activation state. -/
def Update.inAct (u : Update) (a : Activation) : List ImageType := imageTypes.filter fun t => (u.img t).act = a

/-- Every type of one activation state moved to another. -/
def Update.moveAct (u : Update) (a b : Activation) : Update :=
  (u.inAct a).foldl (fun u t => u.mod t fun i => { i with act := b }) u

/-- Device time in seconds and nanoseconds of the 10-byte form (R308). -/
def DTime.ofBytes (l : List Byte) : DTime := ⟨leAt l 4 6, leAt l 0 4⟩

/-- ACTIVATE_SCHEDULE starts (R403). -/
def State.startSchedule (s : State) (n : Nat) : State :=
  let t := DTime.ofBytes (s.kernel.slot n).param
  let now := s.time.now.nanos
  if t.nanos < now + 10000000000 || now + 2592000000000000 < t.nanos then s.finish n .failed 0x0512 []
  else if (s.upd.inAct .staged).isEmpty then s.finish n .failed 0x0513 []
  else
    ({ s with upd := { s.upd.moveAct .staged .pending with schedule := some (n, t) } }).modSlot n
      fun x => { x with stage := 0x52 }

/-- The schedule is withdrawn: what it made `PENDING` is `STAGED` again (assumption 30). -/
def State.dropSchedule (s : State) : State :=
  { s with upd := { s.upd.moveAct .pending .staged with schedule := none } }

/-! ## Recorder export -/

/-- REC_EXPORT starts (R371, R394). -/
def State.startExport (s : State) (n : Nat) : State :=
  let x := s.kernel.slot n
  let lo := leAt x.param 0 4
  let cnt := leAt x.param 4 4
  if lo < s.rcd.oldest then s.finish n .failed 0x0602 (s.kernel.opData s.dat n)
  else
    let hi := if cnt = 0 then s.rcd.newest else lo + cnt - 1
    let s := { s with rcd := { s.rcd with pin := some ⟨n, lo, hi, x.client, s.svc.ms⟩ }
                      cvus := modNth s.cvus 8 fun u => { u.castagnoli with running := u.castagnoli.init } }
    s.modSlot n fun x => { x with stage := 0x60, percent := 0 }

/-! ## Start and cancel -/

/-- A service operation starts (R155). -/
def State.startService (s : State) (n : Nat) : State :=
  match (s.kernel.slot n).op with
  | 0x0401 => s.startBist n
  | 0x0501 => s.startTransfer n
  | 0x0502 => s.startSchedule n
  | 0x0601 => s.startExport n
  | 0x0901 => s.startShutdown n
  | _ => s

/-- The effect of an accepted CANCEL on a service operation that runs (R147). -/
def State.cancelService (s : State) (n : Nat) : State :=
  match (s.kernel.slot n).op with
  | 0x0401 =>
    if (s.kernel.slot n).state == .suspended then s.cutTest n
    else { s with life := { s.life with test := { s.life.test with cancel := true } } }
  | 0x0501 => s.dropTransfer n .cancelled 0
  | 0x0502 => s.dropSchedule.finish n .cancelled 0 []
  | 0x0601 => match s.rcd.pin with
    | some p => ({ s with rcd := { s.rcd with pin := none } }).finish n .cancelled 0 (s.exported p)
    | none => s.finish n .cancelled 0 (s.kernel.opData s.dat n)
  | _ => s

end Sys2Proof.Machine
end

