-- ==== Sys2Proof/Machine/Glue.lean ====
section
/-! DEFINITION. What joins the kernel to the rest of the module: what an evaluation takes from outside it, what becomes of
its notes, and a command that acts as a part of the current evaluation (R94, R148, R155). -/

namespace Sys2Proof.Machine

/-- The slots of the schedule a node owns beside its key slot (R242). -/
def Schedule.owned (c : Schedule) (node : Nat) : List (Nat × Nat × Bool) :=
  (c.slots.filter fun x => x.owner == node && !x.key).map fun x => (x.slot, x.len, x.status)

/-- What an evaluation takes from outside the kernel. -/
def State.env (s : State) : Env where
  pst := s.pstLive
  twinNode := s.ring.twin
  position := s.life.position
  ladder := s.vital.ladder.code
  refHeads := (List.range 16).filter s.isRef
  ownNode := s.ring.own
  ringSlots := match s.ring.sched with | some c => c.owned s.ring.own | none => []
  twinStatus := s.ring.sched.bind fun c => (c.slots.find? fun x => x.owner == s.ring.twin && x.status).map (·.slot)
  mstate := s.mstate
  lc := s.life.state
  sws := (List.range 9).filter s.sw
  staged := s.upd.inAct .staged
  imgBars := imageTypes.filterMap fun t => (s.upd.transferBar t).map fun c => (t, c)
  lateSlot := match s.upd.schedule with
    | some (n, t) => if t.nanos < s.time.now.nanos + 1000000000 then some n else none
    | none => none

/-- The excitation command the channels send for a head (R199): `y` selects system 2. -/
def State.excCmd (s : State) (head : Nat) (y : Bool) : ExcCmd :=
  let (f1, f2, a) := s.kernel.exciteOf s.dat head
  ⟨[(head, true, if y then f2 else f1, a)], true⟩

/-- The channels command both processors to a new excitation (R199); for a dual-fed head the partner is told to stop and
doubling is suppressed (R204). -/
def State.sendExcite (s : State) (head : Nat) : State :=
  let l := s.vital.voting
  let s := s.emits (l.map (fun c => .keepAlive c .x (s.excCmd head false)) ++ l.map fun c => .keepAlive c .y (s.excCmd head true))
  match s.dat.head head with
  | some h =>
    if bitAt h.flags 0 then
      ({ s with sens := { s.sens with feeds := modNth s.sens.feeds head fun f => { f with suppress := true } } }).emit
        (.stopDrive head)
    else s
  | none => s

/-! ## Responses to launches and controls -/

/-- A launch or control is refused (R146): 0x08000020, with the code in 0x3100.02 for the client. -/
def State.refuse (s : State) (cl : Client) (code : Nat) : State :=
  (s.modClient cl fun c => { c with refusal := code }).abort cl 0x08000020

/-- The response to a launch or control whose verdict is `code`, 0 for an accepted one (R146). -/
def State.answer (s : State) (cl : Client) (code : Nat) : State := if code = 0 then s.accept cl else s.refuse cl code

/-- SVC waits for the twin's receipt: the module is `ACTIVE` and the twin `STANDBY_SYNC` (R146). -/
def State.twinWaits (s : State) : Bool :=
  s.mstate == .run && s.kernel.twin.role == 1
    && (match s.kernel.twin.entry with | some e => e.valid && e.compatible && e.role == 3 | none => false)

/-- The kernel's verdict on a write of a client has reached SVC (R146): the response goes, or waits for the twin's receipt of this
cycle's Veneer frame. -/
def State.respond (s : State) (cl : Client) (w : Waiting) (code : Nat) : State :=
  if s.twinWaits then
    s.modClient cl fun c => { c with launched := c.launched ++ [{ w with verdict := some (s.kernel.cycle, code) }] }
  else s.answer cl code

/-- The verdict on the entry `no` reaches the write that made it, while SVC still waits for it (R146). -/
def State.entryVerdict (s : State) (no code : Nat) : State :=
  s.clients.foldl (fun s c =>
    match c.launched.find? fun w => w.entry == no && w.verdict.isNone with
    | some w =>
      (s.modClient c.client fun c => { c with launched := c.launched.filter (· != w) }).respond c.client w code
    | none => s) s

/-- The responses to the verdicts of the cycles that satisfy `p` go out (R146). -/
def State.settleWaits (s : State) (p : Nat → Bool) : State :=
  s.clients.foldl (fun s c =>
    let due := c.launched.filter fun w => match w.verdict with | some v => p v.1 | none => false
    due.foldl (fun s w => match w.verdict with | some v => s.answer c.client v.2 | none => s)
      (s.modClient c.client fun c => { c with launched := c.launched.filter fun w => !due.contains w })) s

/-- Verdicts wait for the twin's receipt only while the twin is `STANDBY_SYNC` (R146). -/
def State.settleAll (s : State) : State := if s.twinWaits then s else s.settleWaits fun _ => true

/-- One note of an evaluation acts. -/
def State.takeNote (s : State) (n : Note) : State :=
  match n with
  | .source src => s.raise src
  | .reject head reason => s.raiseAbout 0x140 head reason
  | .slotFinal _ _ => s
  | .verdict no code => s.entryVerdict no code
  | .local_ "unisolate" src => s.isolate (s.col.isolated.filter (· != src))
  | .local_ "restartBank" b => { s with banks := s.banks.set (Ch.ofIdx b) BankHw.reset }
  | .local_ "excite" head => s.sendExcite head
  | .local_ "start" n => s.startService n
  | .local_ "cancel" n => s.cancelService n
  | .local_ _ _ => s

/-- A service address of a twin on a network, 0 when it has none (R264, R286). -/
def State.serviceIp (s : State) (net : Net) : Nat := pstNat s.pstLive 0x2880 (match net with | .a => 3 | .b => 4) 0

/-- The service addresses follow the role (R264): a module that becomes `ACTIVE` announces them, one that leaves it
stops answering for them. -/
def State.syncService (s : State) : State :=
  let act := s.mstate == .run && s.kernel.twin.role == 1
  if act && !s.nets.a.service then
    let ips := [Net.a, .b].filter fun n => s.serviceIp n != 0
    ({ s with nets := { s.nets with a := { s.nets.a with service := true, garpLeft := 2, garpAt := s.svc.ms }
                                    b := { s.nets.b with service := true, garpLeft := 2, garpAt := s.svc.ms } } }).emits
      (ips.map fun n => .garp n (BitVec.ofNat 32 (s.serviceIp n)))
  else if act then s
  else { s with nets := { s.nets with a := { s.nets.a with service := false, garpLeft := 0 }
                                      b := { s.nets.b with service := false, garpLeft := 0 } } }

/-- A dual-fed head that this module does not drive and whose reference it is locked to (R204): it asks to join. -/
def State.joinHead (s : State) (head : Nat) : State :=
  let f := s.sens.feeds.getD head ⟨.none, false, false, false, none⟩
  let role := s.kernel.twin.role
  if (s.dat.head head).any (fun h => h.kind == 0 && bitAt h.flags 0) && f.drive == .none && f.locked && (role == 1 || role == 3) then
    ({ s with sens := { s.sens with feeds := modNth s.sens.feeds head fun f => { f with drive := .joining } } }).emit
      (.joinRequest head)
  else s

/-- A module whose role now lets it join asks to, head by head (R204). -/
def State.syncJoins (s : State) : State := if s.mstate = .run then (List.range 16).foldl State.joinHead s else s

/-- The notes of the kernel act, in order, and are done with (R340, R364). -/
def State.kernelDone (s : State) : State :=
  let l := s.kernel.notes
  ((l.foldl State.takeNote ({ s.slotRecords with kernel := { s.slotRecords.kernel with notes := [] } })).settleAll).syncService.syncJoins

/-- The kernel changes as a part of the current evaluation; nothing happens while the channels do not cycle. -/
def State.kRow (s : State) (f : Sdi → Env → Kernel → Kernel) : State :=
  if s.mstate = .run then
    ({ s with kernel := (f s.dat s.env s.kernel).after s.dat s.env }).kernelDone
  else s

/-- The kernel changes as a part of an evaluation that is itself one of those counted: the cycle's own is still to come. -/
def State.kNext (s : State) (f : Sdi → Env → Kernel → Kernel) : State :=
  if s.vital.evaluated = some s.vital.cycle then s else s.kRow f

/-! ## Waiting service operations outside `RUN` -/

/-- A queued service operation starts in SVC when nothing holds it (R147, R155). -/
def State.svcTry (s : State) (n : Nat) : State :=
  if (s.kernel.slot n).state == .queued && !s.kernel.mustWait n then
    (s.modSlot n fun x => { x with state := .running, wasRunning := true }).startService n
  else s

/-- The queued operations SVC runs start in launch order (R155). -/
def State.svcQueued (s : State) : State :=
  match s.mstate with
  | .start | .safe | .lockout => s.kernel.queued.foldl State.svcTry s
  | _ => s

end Sys2Proof.Machine
end

