-- ==== Sys2Proof/Machine/RawImage.lean ====
section
/-! DEFINITION. A channel's raw image: what it latches at its mark, the image as bytes in twelve parts, and the bytes of a
stream entry (R18, R52, R53, R58). -/

namespace Sys2Proof.Machine

/-! ## Entries as bytes -/

/-- A sensor event record as its 16 bytes (R197). -/
def SensorRec.bytes (r : SensorRec) : List Byte :=
  be 4 r.seq ++ [r.kind, r.head, r.flags, r.b7] ++ be 4 r.w8.toNat ++ be 4 r.w12.toNat

/-- A sensor event record read back. -/
def SensorRec.ofBytes (l : List Byte) : SensorRec :=
  ⟨beAt l 0 4, byteAt l 4, byteAt l 5, byteAt l 6, byteAt l 7, BitVec.ofNat 32 (beAt l 8 4), BitVec.ofNat 32 (beAt l 12 4)⟩

/-- A Veneer frame's bytes before its pages (R328); the layout of a stream entry is the model's (assumption 31). -/
def Veneer.bytes (v : Veneer) : List Byte :=
  [byteOf v.version, byteOf (bit v.offer + 2 * bit v.taken + 4 * bit v.overlap), byteOf v.position, byteOf v.ladder]
    ++ be 4 v.cycle ++ be 4 v.station.toNat ++ be 4 v.offerCycle ++ [byteOf v.backlog] ++ be 8 v.hash.toNat
    ++ v.cmd.toList.flatMap (fun w => be 2 w.toNat)
    ++ (v.changed ++ v.refresh).flatMap fun p => be 2 p.index ++ be 4 p.value.toNat ++ p.data

/-- The bytes of a stream entry over which its digest runs (R52). -/
def Entry.bytes : Entry → List Byte
  | .tel t => telBytes t
  | .ring node sched payload safety => [byteOf node] ++ be 2 sched ++ payload ++ be 4 safety.toNat
  | .svc (.connReq p t) => [1] ++ be 2 p ++ telBytes t
  | .svc (.mismatch p) => [2] ++ be 2 p
  | .svc (.twin e) =>
    [3, byteOf (bit e.valid + 2 * bit e.compatible)] ++ be 4 e.hbSeq ++ [byteOf e.role, byteOf e.mstate, byteOf e.ladder, e.flags]
      ++ be 4 e.ack ++ [byteOf e.cause, byteOf e.nodeState]
  | .svc (.sw1 w) => [4, w]
  | .svc (.launch no op level l) =>
    [5, byteOf level, byteOf l.client.kind] ++ be 4 no ++ le 4 l.client.identity ++ le 2 op ++ le 2 l.target ++ [byteOf l.slot, l.flags]
      ++ le 2 l.r6.toNat ++ le 4 l.seqNow.toNat ++ l.param
  | .svc (.control no cl level slot code) =>
    [6, byteOf level, byteOf cl.kind] ++ be 4 no ++ le 4 cl.identity ++ [byteOf slot, byteOf code]
  | .svc (.elem code el) => [7] ++ le 4 (code * 16777216 + el)
  | .veneer v => Veneer.bytes v

/-- The digest of an entry (R52). -/
def Entry.digest (e : Entry) : W32 := crc32c e.bytes

/-! ## Latching -/

/-- Sequence number `a` is later than `b`, modulo 2^32 (R56). -/
def later (a b : Nat) : Bool := seqLater 32 a b

/-- The cut of a stream, when one has been agreed. -/
def Vital.cutOf (v : Vital) (stream : Nat) : Option Nat := (v.cuts.find? (·.1 == stream)).map (·.2)

/-- An entry that is later than its stream's cut. -/
def afterCut (cut : Option Nat) (seq : Nat) : Bool := match cut with | some c => later seq c | none => true

/-- Number in order: the records from `n + 1` on without a gap. -/
def runFrom : Nat → Nat → List SensorRec → List SensorRec
  | 0, _, _ => []
  | fuel + 1, n, l => match l.find? (·.seq == (n + 1) % 2 ^ 32) with
    | some r => r :: runFrom fuel ((n + 1) % 2 ^ 32) l
    | none => []

/-- A sensor section (R52, R56): every record after the cut up to the first gap. The rule gives N records and an HWM that ends at
the first gap, and does not say whether records beyond it stand in the section: they are left out until the gap is filled
(DESIGN CHOICE, assumption 98). -/
def snsSec (cut : Nat) (l : List SensorRec) : SnsSec :=
  let r := runFrom l.length cut l
  ⟨match r.getLast? with | some x => x.seq | none => cut, r⟩

/-- The latest of some sequence numbers. -/
def latest : List Nat → Option Nat
  | [] => none
  | n :: l => match latest l with | some m => some (if later n m then n else m) | none => some n

/-- The earliest of some sequence numbers. -/
def earliest : List Nat → Option Nat
  | [] => none
  | n :: l => match earliest l with | some m => some (if later n m then m else n) | none => some n

/-- A number put into an ascending list without repeats. -/
def insNat (n : Nat) : List Nat → List Nat
  | [] => [n]
  | m :: l => if n < m then n :: m :: l else if n = m then m :: l else m :: insNat n l

/-- The streams a channel carries, ascending (R52, R56). -/
def Channel.streams (c : Channel) (v : Vital) : List Nat :=
  ((c.queue.map (·.stream)) ++ v.cuts.map (·.1)).foldr insNat []

/-- A channel's own copy of an entry. -/
def Channel.copy (c : Channel) (stream seq : Nat) : Option Entry :=
  (c.queue.find? fun e => e.stream == stream && e.seq == seq).map (·.entry)

/-- The most digests a stream section can hold in an image of its own (R52). -/
def mostDigests : Nat := (49104 - 104 - 8) / 4

/-- A stream section over some held entries (R52, R56): the digests from the earliest to the latest of them; a gap has the digest
0 (assumption 31). -/
def Channel.sectionOf (c : Channel) (stream cut : Nat) (held : List Nat) : StreamSec :=
  match earliest held, latest held with
  | some a, some h =>
    let n := (h + 2 ^ 32 - a) % 2 ^ 32 + 1
    ⟨stream, h, (List.range n).map fun i => match c.copy stream ((a + i) % 2 ^ 32) with | some e => e.digest | none => 0⟩
  | _, _ => ⟨stream, cut, []⟩

/-- A stream section before trimming (R52, R56): the entries after the cut, without those that lie too far above the earliest to
fit into any image. -/
def Channel.section_ (c : Channel) (v : Vital) (stream : Nat) : StreamSec :=
  let cut := v.cutOf stream
  let held := (c.queue.filter fun e => e.stream == stream && afterCut cut e.seq).map (·.seq)
  let near := match earliest held with
    | some a => held.filter fun n => (n + 2 ^ 32 - a) % 2 ^ 32 < mostDigests
    | none => []
  c.sectionOf stream (cut.getD 0) near

/-- A bank section (R52): the newest complete frame, present when it is newer than the one latched last. -/
def Channel.bankSec (c : Channel) (n : Nat) : BankSec :=
  match c.rx.get (Ch.ofIdx n) with
  | some f => ⟨f.frameSeq, c.latched.get (Ch.ofIdx n) != some f.frameSeq, f.img⟩
  | none => ⟨0, false, BankImage.none_⟩

/-- The raw image a channel forms from what it latches, before trimming (R52). -/
def Channel.rawFull (c : Channel) (v : Vital) (elapsedNs : Nat) : RawImage :=
  ⟨elapsedNs, c.role = .voting, ⟨c.bankSec 0, c.bankSec 1, c.bankSec 2, c.bankSec 3⟩, snsSec v.cutX c.snsX,
    snsSec v.cutY c.snsY, (c.streams v).map (c.section_ v)⟩

/-- The size of a raw image in bytes (R52). -/
def RawImage.size (r : RawImage) : Nat :=
  104 + 16 * (r.snsX.recs.length + r.snsY.recs.length) + (r.streams.map fun s => 8 + 4 * s.digests.length).sum

/-- The highest entry of a sensor section is left out (R52). -/
def SnsSec.drop1 (s : SnsSec) : SnsSec :=
  match s.recs.getLast? with
  | some r => ⟨(r.seq + 2 ^ 32 - 1) % 2 ^ 32, s.recs.dropLast⟩
  | none => s

/-- Gaps at the upper end of a section are no entries: its HWM is the highest sequence number held (R56). -/
def StreamSec.close : Nat → StreamSec → StreamSec
  | 0, s => s
  | fuel + 1, s => match s.digests.getLast? with
    | some 0 => StreamSec.close fuel ⟨s.stream, (s.hwm + 2 ^ 32 - 1) % 2 ^ 32, s.digests.dropLast⟩
    | _ => s

/-- The highest entry of a stream section is left out, and N and HWM are recomputed (R52, R56). -/
def StreamSec.drop1 (s : StreamSec) : StreamSec :=
  if s.digests.isEmpty then s
  else StreamSec.close s.digests.length ⟨s.stream, (s.hwm + 2 ^ 32 - 1) % 2 ^ 32, s.digests.dropLast⟩

/-- One entry is left out of the section with the most bytes, the later one on equal size (R52). -/
def RawImage.trim1 (r : RawImage) : RawImage :=
  let m := (r.streams.map fun s => 4 * s.digests.length).foldl max
    (max (16 * r.snsX.recs.length) (16 * r.snsY.recs.length))
  match ((r.streams.filter fun s => 4 * s.digests.length == m).getLast?).map (·.stream) with
  | some st => { r with streams := r.streams.map fun s => if s.stream == st then s.drop1 else s }
  | none => if 16 * r.snsY.recs.length = m then { r with snsY := r.snsY.drop1 } else { r with snsX := r.snsX.drop1 }

/-- A raw image cut to the twelve parts it may fill (R52). -/
def RawImage.trim : Nat → RawImage → RawImage
  | 0, r => r
  | fuel + 1, r => if r.size ≤ 49104 then r else RawImage.trim fuel r.trim1

/-- The raw image of a channel at its mark (R18, R52). -/
def Channel.formRaw (c : Channel) (v : Vital) (elapsedNs : Nat) : RawImage :=
  let r := c.rawFull v elapsedNs
  RawImage.trim (r.size / 4) r

/-! ## The image as bytes -/

/-- A bank section as 20 bytes (R52). -/
def BankSec.bytes (b : BankSec) : List Byte :=
  be 2 b.frameSeq ++ [byteOf (bit b.present), b.img.stat] ++ be 3 b.img.iPath.toNat ++ be 3 b.img.jPath.toNat
    ++ be 3 b.img.wire.toNat ++ be 3 b.img.undef.toNat ++ [b.img.rbP, b.img.rbM, b.img.rbN.setWidth 8, 0]

/-- A sensor section as bytes. -/
def SnsSec.bytes (s : SnsSec) : List Byte :=
  be 4 s.hwm ++ be 2 s.recs.length ++ [0, 0] ++ s.recs.flatMap SensorRec.bytes

/-- A stream section as bytes. -/
def StreamSec.bytes (s : StreamSec) : List Byte :=
  be 2 s.stream ++ be 2 s.digests.length ++ be 4 s.hwm ++ s.digests.flatMap fun d => be 4 d.toNat

/-- A raw image as bytes (R52). -/
def RawImage.bytes (r : RawImage) : List Byte :=
  be 4 r.elapsed ++ [if r.voting then 1 else 2, 0] ++ be 2 r.streams.length ++ r.banks.toList.flatMap BankSec.bytes
    ++ r.snsX.bytes ++ r.snsY.bytes ++ r.streams.flatMap StreamSec.bytes

/-- A bank section read back. -/
def BankSec.ofBytes (l : List Byte) : BankSec :=
  ⟨beAt l 0 2, (byteAt l 2).toNat = 1,
    ⟨byteAt l 3, BitVec.ofNat 24 (beAt l 4 3), BitVec.ofNat 24 (beAt l 7 3), BitVec.ofNat 24 (beAt l 10 3),
      BitVec.ofNat 24 (beAt l 13 3), byteAt l 16, byteAt l 17, (byteAt l 18).setWidth 4⟩⟩

/-- A sensor section read back, with what follows it. -/
def SnsSec.parse (l : List Byte) : SnsSec × List Byte :=
  let n := beAt l 4 2
  let body := l.drop 8
  (⟨beAt l 0 4, (List.range n).map fun i => SensorRec.ofBytes (slice body (16 * i) 16)⟩, body.drop (16 * n))

/-- The stream sections read back. -/
def parseStreams : Nat → List Byte → List StreamSec
  | 0, _ => []
  | k + 1, l =>
    let n := beAt l 2 2
    let body := l.drop 8
    ⟨beAt l 0 2, beAt l 4 4, (List.range n).map fun i => BitVec.ofNat 32 (beAt body (4 * i) 4)⟩
      :: parseStreams k (body.drop (4 * n))

/-- A raw image read back from its bytes (R52). -/
def RawImage.parse (l : List Byte) : RawImage :=
  let bk := fun (n : Nat) => BankSec.ofBytes (slice l (8 + 20 * n) 20)
  let (x, r1) := SnsSec.parse (l.drop 88)
  let (y, r2) := SnsSec.parse r1
  ⟨beAt l 0 4, (byteAt l 4).toNat = 1, ⟨bk 0, bk 1, bk 2, bk 3⟩, x, y, parseStreams (beAt l 6 2) r2⟩

/-- The parts of a raw image (R53). -/
def partsOf (l : List Byte) : List (List Byte) :=
  (List.range ((l.length + 4091) / 4092)).map fun i => slice l (4092 * i) 4092

/-- The raw image of another channel in a cycle, once every part of it is held (R53). -/
def Channel.heldRaw (c : Channel) (tx : Ch) (cycle : Nat) : Option RawImage :=
  let l := c.t1.filter fun p => p.tx = tx && p.cycle == cycle
  match l with
  | [] => none
  | p :: _ =>
    let ps := (List.range p.parts).filterMap fun i => l.find? (·.part == i)
    if ps.length = p.parts then some (RawImage.parse (ps.flatMap (·.data))) else none

/-- The raw image a channel uses for another or for itself. -/
def Channel.rawOf (c : Channel) (own tx : Ch) (cycle : Nat) : Option RawImage :=
  if tx = own then c.raw else c.heldRaw tx cycle

end Sys2Proof.Machine
end

