-- ==== Sys2Proof/Machine/Tenon.lean ====
section
/-! DEFINITION. The agreed image from the counting channels' raw images, its canonical bytes and hash, and the output
image (R54 to R63). -/

namespace Sys2Proof.Machine

/-! ## Banks -/

/-- A datum of some members: the bitwise majority of three, the common value of two with a rule for what differs (R54). -/
def agreeBits {w : Nat} (two : BitVec w → BitVec w → BitVec w) (none_ : BitVec w) : List (BitVec w) → BitVec w
  | [a, b] => two a b
  | a :: b :: c :: _ => (a &&& b) ||| (a &&& c) ||| (b &&& c)
  | _ => none_

/-- The bits in which two members of two differ (R54: UNKNOWN). -/
def differBits {w : Nat} : List (BitVec w) → BitVec w
  | [a, b] => a ^^^ b
  | _ => 0

/-- FRAME_SEQ (R54): the value two members hold, else the earliest modulo 2^16. -/
def agreeSeq (l : List Nat) : Nat :=
  match l.find? fun n => 2 ≤ (l.filter (· == n)).length with
  | some n => n
  | none => (l.foldl (fun b n => match b with
      | none => some n
      | some m => if seqLater 16 m n then some n else some m) none).getD 0

/-- One bank of the agreed image (R54). For a bank found absent the table gives FRAME_SEQ no value (a dash): it is 0 (DESIGN
CHOICE, assumption 104). -/
def agreeBank (l : List BankSec) : AgreedBank :=
  let p := l.filter (·.present)
  if p.length < 2 then AgreedBank.absent 0
  else
    let f := fun {w : Nat} (g : BankImage → BitVec w) two => agreeBits two 0 (p.map fun b => g b.img)
    ⟨true, agreeSeq (p.map (·.frameSeq)),
      ⟨f (·.stat) (· ||| ·), f (·.iPath) (· &&& ·), f (·.jPath) (· &&& ·), f (·.wire) (· ||| ·), f (·.undef) (· ||| ·),
        f (·.rbP) (· &&& ·), f (·.rbM) (· &&& ·), f (·.rbN) (· &&& ·)⟩,
      differBits (p.map (·.img.rbP)), differBits (p.map (·.img.rbM)), differBits (p.map (·.img.rbN))⟩

/-- Set bits of a word. -/
def popCount {w : Nat} (x : BitVec w) : Nat := ((List.range w).filter x.getLsbD).length

/-- The bits in which the values of several members are not all equal. -/
def spreadBits {w : Nat} : List (BitVec w) → BitVec w
  | [] => 0
  | a :: l => l.foldl (fun m b => m ||| (a ^^^ b)) 0

/-- Bank bits in which the raw images differ (R69 .02), of members that mark the bank present. -/
def bankDiff (l : List BankSec) : Nat :=
  let p := l.filter (·.present)
  let f := fun {w : Nat} (g : BankImage → BitVec w) => popCount (spreadBits (p.map fun b => g b.img))
  f (·.stat) + f (·.iPath) + f (·.jPath) + f (·.wire) + f (·.undef) + f (·.rbP) + f (·.rbM) + f (·.rbN)

/-- Bits agreed restrictive or UNKNOWN under the two-member rule (R69 .03). -/
def bankRestr (l : List BankSec) : Nat := if (l.filter (·.present)).length = 2 then bankDiff l else 0

/-! ## Cuts -/

/-- A sequence number put into a list from latest to earliest. -/
def insLater (n : Nat) : List Nat → List Nat
  | [] => [n]
  | m :: l => if later n m then n :: m :: l else m :: insLater n l

/-- The cut of a stream (R56): the lowest high-water mark a majority of `m` members holds, else the previous one. -/
def cutOf (m : Nat) (prev : Option Nat) (h : List Nat) : Option Nat :=
  if h.length < m then prev else (h.foldr insLater [])[m - 1]?

/-- A sequence number belongs to the agreed image (R57). -/
def inCut (prev cut : Option Nat) (seq : Nat) : Bool :=
  afterCut prev seq && (match cut with | some c => seq == c || later c seq | none => false)

/-! ## Sensor events -/

/-- A record with its INVALID flag (R57, R197). -/
def SensorRec.invalid (r : SensorRec) : SensorRec := { r with flags := r.flags ||| 0x10 }

/-- The agreed record of one sequence number (R57): its content, and whether no two members carry it identically. -/
def agreeRec (l : List SensorRec) : Option (SensorRec × Bool) :=
  match l.find? fun r => 2 ≤ (l.filter (· = r)).length with
  | some r => some (r, false)
  | none => l.head?.map fun r => (SensorRec.invalid r, true)

/-- The agreed records of one processor (R57): `secs` in letter order. -/
def agreeRecs (prev cut : Nat) (secs : List SnsSec) : List (SensorRec × Bool) :=
  let n := if later cut prev then (cut + 2 ^ 32 - prev) % 2 ^ 32 else 0
  (List.range n).filterMap fun i =>
    agreeRec (secs.filterMap fun s => s.recs.find? (·.seq == (prev + 1 + i) % 2 ^ 32))

/-! ## Streams -/

/-- The digest a section states for a sequence number. -/
def StreamSec.at_ (s : StreamSec) (seq : Nat) : Option W32 :=
  let back := (s.hwm + 2 ^ 32 - seq) % 2 ^ 32
  if back < s.digests.length then
    match s.digests[s.digests.length - 1 - back]? with
    | some d => if d = 0 then none else some d
    | none => none
  else none

/-- The sequence numbers of a section's entries. -/
def StreamSec.seqs (s : StreamSec) : List Nat :=
  ((List.range s.digests.length).map fun i => (s.hwm + 2 ^ 32 + 1 + i - s.digests.length) % 2 ^ 32).filter
    fun n => (s.at_ n).isSome

/-- One agreed stream entry (R57): the stream, the sequence number, the digest, none when it is excluded. -/
structure AgreedEntry where
  stream : Nat
  seq    : Nat
  digest : Option W32
  deriving DecidableEq, Repr

/-- Entries in sequence order. -/
def insEntry (x : Nat) : List Nat → List Nat
  | [] => [x]
  | y :: l => if x = y then y :: l else if later y x then x :: y :: l else y :: insEntry x l

/-- The agreed entries of one stream (R57). -/
def agreeStream (prev cut : Option Nat) (stream : Nat) (secs : List StreamSec) : List AgreedEntry :=
  ((secs.flatMap StreamSec.seqs).filter (inCut prev cut)).foldr insEntry [] |>.map fun n =>
    let ds := secs.filterMap (·.at_ n)
    ⟨stream, n, ds.find? fun d => 2 ≤ (ds.filter (· = d)).length⟩

/-! ## The agreed image -/

/-- The agreed image of one channel's computation, with the counts of R69. -/
structure Image where
  used    : BitVec 4
  members : Nat
  banks   : Quad AgreedBank
  cutX    : Nat
  cutY    : Nat
  cuts    : List (Nat × Nat)
  xs      : List SensorRec
  ys      : List SensorRec
  entries : List AgreedEntry
  rawDiff : Nat
  restr   : Nat
  deferred : Nat
  late    : Nat
  excluded : Nat
  deriving DecidableEq, Repr

/-- The mask of some channels (R60). -/
def maskOf (l : List Ch) : BitVec 4 := BitVec.ofNat 4 ((l.map fun c => 2 ^ c.idx).sum)

/-- The channels of a mask, in letter order. -/
def ofMask (m : BitVec 4) : List Ch := Ch.all.filter fun c => m.getLsbD c.idx

/-- The majority size of a counting set (R54). -/
def majority (n : Nat) : Nat := n / 2 + 1

/-- The agreed image over the raw images of a counting set, in letter order (R54 to R57). -/
def agreeImage (v : Vital) (s : BitVec 4) (raws : List RawImage) : Image :=
  let m := majority raws.length
  let bk := fun (n : Nat) => agreeBank (raws.map fun r => r.banks.get (Ch.ofIdx n))
  let cutX := (cutOf m (some v.cutX) (raws.map (·.snsX.hwm))).getD v.cutX
  let cutY := (cutOf m (some v.cutY) (raws.map (·.snsY.hwm))).getD v.cutY
  let streams := (raws.flatMap fun r => r.streams.map (·.stream)).foldr insNat []
  let secs := fun (st : Nat) => raws.filterMap fun r => r.streams.find? (·.stream == st)
  let carried := fun (st : Nat) => (secs st).filter fun x => !x.digests.isEmpty || (v.cutOf st).isSome
  let cut := fun (st : Nat) => cutOf m (v.cutOf st) ((carried st).map (·.hwm))
  let ents := streams.flatMap fun st => agreeStream (v.cutOf st) (cut st) st (secs st)
  let xs := agreeRecs v.cutX cutX (raws.map (·.snsX))
  let ys := agreeRecs v.cutY cutY (raws.map (·.snsY))
  let after := fun (c : Nat) (l : List SnsSec) => ((l.flatMap fun x => x.recs.map (·.seq)).filter (later · c)).foldr insEntry []
  let deferS := (streams.map fun st =>
    (((secs st).flatMap StreamSec.seqs).filter fun n => !inCut none (cut st) n).foldr insEntry [] |>.length).sum
  let lateR := fun (l : List (SensorRec × Bool)) (ss : List SnsSec) =>
    (l.filter fun r => ss.any fun x => !(x.recs.any (·.seq == r.1.seq))).length
  let lateS := (ents.filter fun e => e.digest.isSome && raws.any fun r => match r.streams.find? (·.stream == e.stream) with
    | some x => (x.at_ e.seq).isNone
    | none => true).length
  let two := raws.length = 2
  { used := s, members := raws.length, banks := ⟨bk 0, bk 1, bk 2, bk 3⟩, cutX := cutX, cutY := cutY
    cuts := streams.filterMap fun st => (cut st).map fun c => (st, c)
    xs := xs.map (·.1), ys := ys.map (·.1), entries := ents
    rawDiff := ([0, 1, 2, 3].map fun n => bankDiff (raws.map fun r => r.banks.get (Ch.ofIdx n))).sum
    restr := ([0, 1, 2, 3].map fun n => bankRestr (raws.map fun r => r.banks.get (Ch.ofIdx n))).sum
    deferred := (after cutX (raws.map (·.snsX))).length + (after cutY (raws.map (·.snsY))).length + deferS
    late := lateR xs (raws.map (·.snsX)) + lateR ys (raws.map (·.snsY)) + lateS
    excluded := if two then (ents.filter (·.digest.isNone)).length + (xs.filter (·.2)).length + (ys.filter (·.2)).length else 0 }

/-- The agreed image a channel computes over a counting set (R54, R59). -/
def Channel.image (c : Channel) (own : Ch) (v : Vital) (s : BitVec 4) : Image :=
  agreeImage v s ((ofMask s).filterMap fun x => c.rawOf own x v.cycle)

/-- An agreed bank section with its UNKNOWN masks as bytes (R59). -/
def AgreedBank.bytes (b : AgreedBank) : List Byte :=
  BankSec.bytes ⟨b.frameSeq, b.present, b.img⟩ ++ [b.unkP, b.unkM, b.unkN.setWidth 8, 0]

/-- A channel's own copy of an agreed entry, when it is not corrupt. -/
def Channel.own (c : Channel) (e : AgreedEntry) : Option Entry :=
  match c.copy e.stream e.seq with
  | some x => if e.digest = some x.digest then some x else none
  | none => none

/-- The canonical agreed image of a channel (R59); field widths the rule does not state are the model's
(assumption 31). -/
def Image.bytes (i : Image) (c : Channel) (v : Vital) (vital : Nat) : List Byte :=
  be 4 v.cycle ++ be 8 vital ++ i.banks.toList.flatMap AgreedBank.bytes ++ i.xs.flatMap SensorRec.bytes
    ++ i.ys.flatMap SensorRec.bytes
    ++ i.cuts.flatMap fun x => be 4 x.2 ++ ((i.entries.filter fun e => e.stream == x.1 && e.digest.isSome).flatMap fun e =>
        match c.copy e.stream e.seq with | some y => be 4 y.digest.toNat | none => [0, 0, 0, 0])

/-- The TENON2 payload of an attempt (R60). -/
def Image.tenon2 (i : Image) (c : Channel) (v : Vital) (vital attempt : Nat) : Tenon2 where
  attempt := attempt
  used := i.used
  flags := byteOf (bit (i.restr != 0 || i.excluded != 0))
  hash := crcPair (i.bytes c v vital)
  cutSum := crc32c (be 4 i.cutX ++ be 4 i.cutY ++ i.cuts.flatMap fun x => be 4 x.2)

/-- What the kernel takes up of an agreed image; `c` holds the copies. -/
def Image.evalIn (i : Image) (c : Channel) (pages : List Nat) : EvalIn where
  banks := i.banks
  xs := i.xs
  ys := i.ys
  rings := i.entries.filterMap fun e => match c.own e with
    | some (.ring node sched p sf) => some ⟨node, e.stream - 0x100, e.seq, sched, p, sf⟩
    | _ => none
  svc := i.entries.filterMap fun e => match c.own e with | some (.svc x) => some x | _ => none
  tels := (i.entries.filter (·.stream < 0x80)).map fun e => (e.stream, match c.own e with
    | some (.tel t) => some t
    | _ => none)
  veneers := i.entries.filterMap fun e => match c.own e with | some (.veneer x) => some x | _ => none
  pages := pages

/-- The counts of R69 after a round. -/
def AgreeStats.add (a : AgreeStats) (i : Image) (attempt2 : Bool) : AgreeStats :=
  { a with rounds := a.rounds + 1, rawBitDiff := a.rawBitDiff + i.rawDiff, restrictive := a.restrictive + i.restr
           deferred := a.deferred + i.deferred, lateFilled := a.lateFilled + i.late, excluded := a.excluded + i.excluded
           attempt2 := a.attempt2 + bit attempt2, lastUsed := i.used }

/-- An outbound telegram as its egress entry: the prefix of R272 and the telegram. -/
def OutTel.bytes (x : OutTel) : List Byte :=
  be 2 x.partner ++ [byteOf x.index, byteOf (bit x.bind + 2 * bit x.unbind)]
    ++ (match x.tel with | some t => telBytes t | none => [])

/-- What the channels write into their egress queues in P5 (R19, R65, R253, R272): every telegram for both networks, the Stratus
frames, the Veneer frame. -/
def Kernel.egressOut (k : Kernel) : List (Egress × List Byte) :=
  (k.tels.flatMap fun x => [(Egress.netA, x.bytes), (.netB, x.bytes)]) ++ (k.ringOut.map fun x => (.str, byteOf x.1 :: x.2))
    ++ match k.veneer with | some v => [(.twin, v)] | none => []

/-- An outbound entry to SVC as bytes: what the kernel reports to it (assumption 31). -/
def Note.bytes : Note → List Byte
  | .source n => 1 :: be 2 n
  | .slotFinal n op => 2 :: byteOf n :: be 2 op
  | .local_ what n => 3 :: byteOf what.length :: be 2 n
  | .reject head reason => 5 :: be 2 head ++ [byteOf reason]
  | .verdict no code => 4 :: be 4 no ++ be 2 code

/-- The output image (R63): command words, telegrams, Stratus frames, SVC entries and the Veneer frame. -/
def Kernel.outBytes (k : Kernel) : List Byte :=
  k.cmds.toList.flatMap (fun w => be 2 w.toNat) ++ k.tels.flatMap OutTel.bytes
    ++ (k.ringOut.flatMap fun x => byteOf x.1 :: x.2) ++ k.notes.flatMap Note.bytes ++ k.veneer.getD []

/-- The VOTE payload (R63). -/
def Kernel.vote (k : Kernel) : VotePayload := ⟨crcPair k.outBytes, k.cmds⟩

end Sys2Proof.Machine
end

