-- ==== Sys2Proof/Machine/Mesh.lean ====
section
/-! DEFINITION. The mesh between the channels: frames, link ends, the loop-back test, checkpoints and the delta transfer
(R14, R15, R28 to R41). -/

namespace Sys2Proof.Machine

/-- A channel of the group. -/
def State.ch (s : State) (c : Ch) : Channel := s.vital.chans.get c
/-- The channel group changed. -/
def State.modV (s : State) (f : Vital → Vital) : State := { s with vital := f s.vital }
/-- A channel changed. -/
def State.modCh (s : State) (c : Ch) (f : Channel → Channel) : State :=
  s.modV fun v => { v with chans := v.chans.modify c f }

/-- The channels beside one. -/
def Ch.others (c : Ch) : List Ch := Ch.all.filter (· != c)

/-- A channel that takes part in the round (R42). -/
def Role.hot : Role → Bool | .voting | .reserve => true | _ => false

/-- A mesh frame waits for its link, in priority order, with the cycle of its making (R14). -/
def State.mesh (s : State) (tx rx : Ch) (m : MeshOut) : State :=
  let n := s.vital.cycle
  s.modCh tx fun c => { c with txq := c.txq.modify rx (insWaiting (n, m)) }

/-- The frame at the head of a link's queue goes out with the link's next SEQ (R14). -/
def State.sendFrame (s : State) (tx rx : Ch) : State :=
  match (s.ch tx).txq.get rx with
  | [] => s
  | (n, m) :: l =>
    let q := (s.ch tx).txSeq.get rx
    (s.modCh tx fun c => { c with txq := c.txq.set rx l, txSeq := c.txSeq.set rx (q + 1) }).emit (.mesh tx rx (m.frame tx q n))

/-- Every frame that waits on a link goes out, one after the other (R14). -/
def State.sendLink (s : State) (tx rx : Ch) : State :=
  (List.range ((s.ch tx).txq.get rx).length).foldl (fun s _ => s.sendFrame tx rx) s

/-- The mesh links send what waits (R14). -/
def State.sendMesh (s : State) : State :=
  Ch.all.foldl (fun s tx => (Ch.others tx).foldl (fun s rx => s.sendLink tx rx) s) s

/-- A command of the channels: it acts, and the frames it leaves waiting go out. -/
def State.meshLive (s : State) (f : State → State) : State := s.live fun s => (f s).sendMesh

/-- A frame to every other channel that takes part in the round (R38, R53). -/
def State.meshHot (s : State) (tx : Ch) (m : MeshOut) : State :=
  ((Ch.others tx).filter fun c => (s.ch c).role.hot).foldl (fun s rx => s.mesh tx rx m) s

/-! ## Link ends -/

/-- A link end takes a frame that is kept, or one that is discarded (R15). -/
def LinkEnd.frame (e : LinkEnd) (seq : Byte) (good : Bool) : LinkEnd :=
  if good then
    let cont := match e.lastSeq with | some q => seq == q + 1 | none => true
    let n := if cont then e.good + 1 else 0
    { e with bad := 0, good := n, lastSeq := some seq, up := e.up || 3 ≤ n }
  else { e with bad := e.bad + 1, good := 0, up := e.up && e.bad + 1 < 3 }

/-- A link is judged: neither end is `OFF` (R15). -/
def State.judged (s : State) (x y : Ch) : Bool := (s.ch x).role != .off && (s.ch y).role != .off

/-- A link end has gone `DOWN`: its source asserts and both ends test their ports in their next P6 (R15). -/
def State.linkDown (s : State) (rx tx : Ch) : State :=
  if s.judged rx tx then
    let f := fun (x y : Ch) (s : State) => s.modCh x fun c => { c with ends := c.ends.modify y fun e => { e with toTest := true, tested := none } }
    (f tx rx (f rx tx s)).raise (linkSrc rx tx)
  else s

/-- A link whose two ends are `UP` no longer asserts its source (R15). -/
def State.linkUp (s : State) (rx tx : Ch) : State :=
  if ((s.ch rx).ends.get tx).up && ((s.ch tx).ends.get rx).up then (s.deassert (linkSrc rx tx)).checkClear else s

/-- A frame arrives at a link end (R14, R15). A link with an `OFF` end stays down by design. -/
def State.linkRx (s : State) (rx tx : Ch) (f : MeshFrame) : State :=
  let good := f.sound tx
  let e := (s.ch rx).ends.get tx
  let m := e.frame f.head.seq good
  let n := if s.judged rx tx then m else { m with up := false }
  let s := s.modCh rx fun c => { c with ends := c.ends.set tx n }
  let s := if good then s else s.modV fun v => { v with discarded := v.discarded + 1 }
  if e.up && !n.up then s.linkDown rx tx else if !e.up && n.up then s.linkUp rx tx else s

/-- A frame a channel takes up: it was kept, its end is `UP`, and it is of the running cycle or the next. -/
def State.takes (s : State) (rx tx : Ch) (f : MeshFrame) : Bool :=
  f.sound tx && rx != tx && ((s.ch rx).ends.get tx).up && (f.head.cycle == s.vital.cycle || f.head.cycle == s.vital.cycle + 1)

/-- No valid frame for 100 µs (R15). -/
def State.silent (s : State) (rx tx : Ch) : State :=
  if ((s.ch rx).ends.get tx).up then
    (s.modCh rx fun c => { c with ends := c.ends.modify tx fun e => { e with up := false, good := 0 } }).linkDown rx tx
  else s

/-- The end the module resets when both ports pass (R15). -/
def State.chosenEnd (s : State) (x y : Ch) : Ch :=
  let hi := if x.idx < y.idx then y else x
  let vx := (s.ch x).role == .voting
  let vy := (s.ch y).role == .voting
  if vx != vy then (if vx then y else x)
  else if vx then hi
  else
    let rx := (s.ch x).role == .resync
    let ry := (s.ch y).role == .resync
    if rx != ry then (if rx then x else y) else hi

/-- Once both ends have tested, the voting channels settle the link source (R15, R344). -/
def State.settleLink (s : State) (x y : Ch) : State :=
  match ((s.ch x).ends.get y).tested, ((s.ch y).ends.get x).tested with
  | some a, some b =>
    let clear := fun (p q : Ch) (s : State) => s.modCh p fun c => { c with ends := c.ends.modify q fun e => { e with tested := none } }
    let s := clear y x (clear x y s)
    let who := AckBy.chans s.vital.voting true
    let src := linkSrc x y
    if a && b then ackRedirect ⟨4, 3, s.chosenEnd x y, src⟩ who s
    else ackHandled ⟨1, 3, x, src⟩ who s
  | _, _ => s

/-- The loop-back test of a channel's port in P6 (R15): a failed one raises QUEUE against the channel. -/
def State.testPort (s : State) (ch : Ch) (fail : List Ch) (x : Ch) : State :=
  if ((s.ch ch).ends.get x).toTest then
    let ok := !fail.contains x
    let s := s.modCh ch fun c => { c with ends := c.ends.modify x fun e => { e with toTest := false, tested := some ok } }
    (if ok then s else s.raise (chSrc ch 0xC)).settleLink ch x
  else s

/-! ## Checkpoints -/

/-- Page numbers in ascending order without repeats. -/
def pageSet (l : List Nat) : List Nat := (l.filter (· < 1024)).foldr insNat []

/-- A page's value as the page value table holds it (R28, R32). -/
def Channel.pageVal (c : Channel) (i : Nat) : W32 :=
  match c.pageVals.find? (·.1 == i) with | some p => p.2 | none => crc32c (List.replicate 2048 0)

/-- A page's value is computed from its contents (R32). -/
def Channel.valuePage (c : Channel) (i : Nat) : Channel := { c with pageVals := assocSet c.pageVals i (crc32c (c.page i)) }

/-- The page value table as bytes (R28). -/
def Channel.table (c : Channel) : List Byte := (List.range 1024).flatMap fun i => le 4 (c.pageVal i).toNat

/-- The bytes DESC_CRC covers (R33). -/
def Descriptor.body (d : Descriptor) : List Byte :=
  le 4 d.cycle ++ le 4 d.hashC.toNat ++ le 4 d.hashH.toNat ++ le 2 d.map.length ++ le 2 (bit d.valid + 2 * bit d.full)
    ++ mapBytes d.map

/-- A descriptor is a checkpoint (R33): VALID is set and DESC_CRC holds. -/
def Descriptor.sound (d : Descriptor) : Bool := d.valid && d.crc == crc32c d.body

/-- The hash of a descriptor (R33). -/
def Descriptor.hash (d : Descriptor) : W64 := d.hashC ++ d.hashH

/-- A channel's checkpoint descriptor (R32, R33). -/
def Channel.descriptor (c : Channel) (cycle : Nat) (full : Bool) (map : List Nat) : Descriptor :=
  let t := c.table
  let d : Descriptor := ⟨cycle, crc32c t, crc32h t, true, full, map, 0⟩
  { d with crc := crc32c d.body }

/-- The checkpoint of P6 (R32, R34): the values of the dirty pages, the state hash, a descriptor in the ring of four, and a
clear map. -/
def Channel.checkpoint (c : Channel) (cycle : Nat) (full : Bool) : Channel :=
  let map := pageSet c.dirty
  let c := map.foldl Channel.valuePage c
  { c with ring := (c.descriptor cycle full map :: c.ring).take 4, dirty := [] }

/-- The newest checkpoint of the ring (R33, R36). -/
def Channel.newest (c : Channel) : Option Descriptor := c.ring.find? Descriptor.sound

/-- A channel writes state pages in its evaluation, at most 80 (R32, R37); each store has passed the compare buffer (R26) by the
end of P3. -/
def Channel.writes (c : Channel) (cycle : Nat) (pages : List Nat) : Channel :=
  let l := (pageSet pages).take 80
  (l.foldl (fun c i => c.setPage i (Config.pageData i cycle)) c).mark_ l

/-- A takeover in the evaluation replaces state pages 0 to 255 (R334). -/
def Channel.replaced (c : Channel) (k : Kernel) : Channel :=
  if k.twin.tookAt = some k.cycle then
    ((List.range 256).foldl (fun c i => c.setPage i ((k.base.find? (·.index == i)).elim (List.replicate 2048 0) (·.data))) c).mark_
      (List.range 256)
  else c

/-! ## Delta transfer -/

/-- A link is `UP` when both its ends are (R15, R22). -/
def State.linkIsUp (s : State) (x y : Ch) : Bool := ((s.ch x).ends.get y).up && ((s.ch y).ends.get x).up

/-- The supplier a requester asks (R37). -/
def State.supplierOf (s : State) (rq : Ch) : Option Ch :=
  (Ch.others rq).find? fun c => (s.ch c).role == .voting && s.linkIsUp rq c

/-- A requester sends START at its mark (R37), with the descriptor it validated at its restart (R36). -/
def State.sendStart (s : State) (rq : Ch) : State :=
  match s.supplierOf rq with
  | none => s
  | some su =>
    let c := s.ch rq
    let (k, h) := match c.ckpt with | some d => (d.cycle, d.hash) | none => (0xFFFFFFFF, 0)
    (s.modCh rq fun c => { c with req := some ⟨su, s.vital.cycle, 0, [], [], false, 0⟩ }).mesh rq su
      (.start k h (pageSet c.dirty))

/-- The transfer a supplier runs for a requester. -/
def Channel.supFor (c : Channel) (rq : Ch) : Option XferSup := c.sups.find? fun (x : XferSup) => x.requester = rq

/-- A supplier sends one round: its pages and the END frame (R38, R40). -/
def State.sendRound (s : State) (su rq : Ch) (round : Nat) (pages : List Nat) (hash : W64) : State :=
  let c := s.ch su
  let s := pages.foldl (fun s i => s.mesh su rq (.page round i (crc32c (c.page i)) (c.page i))) s
  let s := s.mesh su rq (.deltaEnd round pages.length hash pages)
  s.modCh su fun c => { c with sups := c.sups.map fun (x : XferSup) =>
    if x.requester = rq then { x with round := round, again := [], repair := [], total := x.total + pages.length } else x }

/-- START reaches the supplier (R37): round 1. A transfer that still ran for the requester is at an end. -/
def State.takeStart (s : State) (su rq : Ch) (k : Nat) (map : List Nat) : State :=
  let c := s.ch su
  if c.role != .voting || (s.ch rq).role != .resync then s
  else
    let known := c.ring.any fun d => d.sound && d.cycle == k
    let pages := if known then
        pageSet (map ++ ((c.ring.filter fun d => k < d.cycle).flatMap (·.map)) ++ c.dirty)
      else List.range 1024
    (s.modCh su fun c => { c with sups := (c.sups.filter fun (x : XferSup) => x.requester != rq)
                                          ++ [⟨rq, s.vital.cycle, 0, [], [], 0, !known⟩] }).sendRound su rq 1 pages 0

/-- The supplier's round 2 at its mark, for every requester (R38). -/
def State.round2 (s : State) (su : Ch) : State :=
  (s.ch su).sups.foldl (fun s x =>
    if x.round = 1 && x.start + 1 = s.vital.cycle then s.sendRound su x.requester 2 (pageSet (x.again ++ x.repair)) 0 else s) s

/-- A supplier's transfers in round 2 are abandoned without a reset (R41). -/
def State.abandonXfer (s : State) (su : Ch) : State :=
  let l := (s.ch su).sups.filter fun (x : XferSup) => x.round = 2
  let s := s.modCh su fun c => { c with sups := c.sups.filter fun (x : XferSup) => x.round != 2 }
  l.foldl (fun s x => s.modCh x.requester fun c => c.abandon su) s

/-- The supplier's round 3 after its descriptor (R38), for every requester; without a descriptor of the cycle the transfers are
abandoned (R41). -/
def State.round3 (s : State) (su : Ch) : State :=
  match (s.ch su).ring.head? with
  | some d =>
    if d.cycle = s.vital.cycle then
      let l := (s.ch su).sups.filter fun (x : XferSup) => x.round = 2
      let s := l.foldl (fun s x => s.sendRound su x.requester 3 (pageSet (x.again ++ x.repair)) d.hash) s
      s.modCh su fun c => { c with sups := c.sups.filter fun (x : XferSup) => x.round != 3 }
    else s.abandonXfer su
  | none => s.abandonXfer su

/-- REPAIR reaches the supplier (R38). -/
def State.takeRepair (s : State) (su rq : Ch) (round : Nat) (map : List Nat) : State :=
  s.modCh su fun c => { c with sups := c.sups.map fun (x : XferSup) =>
    if x.requester = rq && x.round == round && round ≤ 2 then { x with repair := x.repair ++ map } else x }

/-- A page of the running round reaches the requester (R38, R40): kept when PAGE_CRC matches. -/
def State.takePage (s : State) (rq su : Ch) (i : Nat) (crc : W32) (d : List Byte) : State :=
  s.modCh rq fun c => { c with req := c.req.map fun (x : XferReq) =>
    if x.supplier = su && i < 1024 && crc32c d = crc && d.length = 2048 then
      { x with got := (⟨i, d⟩ : Page) :: x.got.filter (fun p => p.index != i), fresh := i :: x.fresh }
    else { x with fresh := x.fresh.filter (· != i) } }

/-- A transfer fails (R41). -/
def State.failXfer (s : State) (rq : Ch) : State :=
  (s.modCh rq fun c => { c with req := none }).raise (chSrc rq 0xA)

/-- The requester has every page of round 3 (R41): it writes the pages received, whose values and dirty bits follow, and
compares the state hash. -/
def State.finishXfer (s : State) (rq : Ch) (x : XferReq) (hash : W64) : State :=
  let l := x.got.map (·.index)
  let c := x.got.foldl (fun (c : Channel) p => (c.setPage p.index p.data).valuePage p.index) (s.ch rq)
  let d := c.descriptor s.vital.cycle x.full (pageSet (c.dirty ++ l))
  if d.hash = hash then
    (s.modCh rq fun _ => { c with ring := (d :: c.ring).take 4, dirty := [], req := none, confirmed := true }).modV
      fun v => { v with lastPages := x.total }
  else s.failXfer rq

/-- An END reaches the requester (R38, R41): a page listed and not received in its round is repaired, or in round 3 fails the
transfer. -/
def State.takeEnd (s : State) (rq su : Ch) (round : Nat) (hash : W64) (map : List Nat) : State :=
  match (s.ch rq).req with
  | some x =>
    if x.supplier != su || round != x.round + 1 then s
    else
      let missing := map.filter fun i => !x.fresh.contains i
      let x := { x with round := round, full := x.full || (round = 1 && map.length = 1024), total := x.total + map.length }
      if round = 3 then (if missing.isEmpty then s.finishXfer rq x hash else s.failXfer rq)
      else
        let s := s.modCh rq fun c => { c with req := some { x with fresh := [] } }
        if missing.isEmpty then s else s.mesh rq su (.repair round missing)
  | none => s

end Sys2Proof.Machine
end

