-- ==== Sys2Proof/Machine/Sw1Ops.lean ====
section
/-! DEFINITION. The sealed switch SW1 as the module reads and compares it, and the access levels it enables (R302, R379 to
R381). -/

namespace Sys2Proof.Machine

/-- A reader raises SW1_PATH, which names it (R379): its place in the order A, B, C, D, SVC (DESIGN CHOICE, assumption 138). -/
def State.raisePath (s : State) (n : Nat) : State := s.raiseAbout 0x1E9 n 0

/-- The switches a level needs for a client (R302): 7 for EXPERT and COMMISSION through the tunnel, 3 for COMMISSION. -/
def State.levelSwitch (s : State) (cl : Client) (level : Nat) : Bool :=
  (match cl with | .udp _ => level < 2 || s.sw 7 | .can _ => true) && (level != 3 || s.sw 3)

/-- Levels fall to OPERATE when a switch they need opens (R302). -/
def State.switchLevels (s : State) : State :=
  { s with clients := s.clients.map fun c => if s.levelSwitch c.client c.level then c else { c with level := 1 } }

/-- Positions 3 to 8 of two readings differ (R381). -/
def sw1Differs (a b : Byte) : Bool := a.toNat / 4 != b.toNat / 4

/-- Since when each channel's reading has differed from the SVC word (R381). -/
def State.sw1Diffs (s : State) : State :=
  let f := fun (c : Ch) =>
    if sw1Differs (s.life.sw1Ch.get c) s.life.sw1Agreed then
      (match s.life.diffMs.get c with | some t => some t | none => some s.svc.ms)
    else none
  { s with life := { s.life with diffMs := ⟨f .a, f .b, f .c, f .d⟩ } }

/-- The voting channels whose reading has differed for 100 ms (R381). -/
def State.sw1Raisers (s : State) : List Ch :=
  s.vital.voting.filter fun c => match s.life.diffMs.get c with | some t => t + 100 ≤ s.svc.ms | none => false

/-- SW1_MISMATCH is agreed, or no longer (R341, R381). -/
def State.sw1Judge (s : State) : State :=
  let need := if s.vital.ladder == .dual then 1 else 2
  if need ≤ s.sw1Raisers.length then
    (if s.life.mismatch then s
     else ({ s with life := { s.life with mismatch := true } }).switchLevels.raise 0x1E8)
  else if s.life.mismatch then (({ s with life := { s.life with mismatch := false } }).deassert 0x1E8).checkClear
  else s

/-- The agreed SW1 words of an evaluation, and the comparison (R381). -/
def State.sw1Step (s : State) (es : List SvcEntry) : State :=
  let ws := es.filterMap fun e => match e with | .sw1 w => some w | _ => none
  let s := match ws.getLast? with
    | some w => { s with life := { s.life with sw1Agreed := w } }
    | none => s
  s.sw1Diffs.sw1Judge

end Sys2Proof.Machine
end

