-- ==== Sys2Proof/Machine/Cycle.lean ====
section
/-! DEFINITION. The vital cycle: a new cycle's roles and ladder, a channel's phases P1 to P6, the Tenon verdict, the output
verdict, emission and the checkpoint (R16 to R19, R43 to R49, R53 to R69). -/

namespace Sys2Proof.Machine

/-- The channels that may still end a command's work in `RUN`. -/
def State.runs (s : State) : Bool := s.mstate == .run

/-! ## A new cycle -/

/-- How many channels hold a role. -/
def Vital.count (v : Vital) (r : Role) : Nat := (v.chans.toList.filter (·.role == r)).length

/-- The ladder level the roles give (R47). -/
def Vital.level (v : Vital) : Ladder :=
  if v.count .voting ≥ 3 then (if v.count .reserve ≥ 1 then .full else .noReserve)
  else if v.count .voting = 2 then .dual else .safe

/-- A channel whose transfer was confirmed before its mark becomes `RESERVE` (R41, R46), in cycle `n`. -/
def Channel.rejoin (c : Channel) (n : Nat) : Channel :=
  if c.role = .resync && c.confirmed then { c with role := .reserve, confirmed := false, agreed := false, since := n }
  else c

/-- The reserve that takes a place at mark `n` (R44, R46): its hashes agreed in the last cycle, and a voting channel left in that
cycle (`left`) or that cycle was the reserve's first. -/
def Vital.ready (v : Vital) (left : Bool) (n : Nat) : Option Ch :=
  if v.count .voting < 3 then
    Ch.all.find? fun c => (v.chans.get c).role = .reserve && (v.chans.get c).agreed && (left || (v.chans.get c).since + 1 == n)
  else none

/-- A promoted reserve is named in the earliest open shadow that names none (R350). -/
def State.namePromoted (s : State) (ch : Ch) : State :=
  let open_ := s.col.recs.zipIdx.filterMap fun p => match p.1 with
    | some r => match r.shadow with
      | some sh => if sh.promoted.isNone then some (sh.order, p.2) else none
      | none => none
    | none => none
  match open_.foldl (fun (b : Option (Nat × Nat)) x => match b with
      | none => some x
      | some y => if x.1 < y.1 then some x else some y) none with
  | some (_, n) =>
    match s.frec n with
    | some r => s.setRec n (some { r with shadow := r.shadow.map fun (x : Shadow) => { x with promoted := some ch } })
    | none => s
  | none => s

/-- Reserves whose hashes agreed take the place of voting channels that have left (R44, R46). -/
def State.promote (left : Bool) (cyc : Nat) : Nat → State → State
  | 0, s => s
  | n + 1, s =>
    match s.vital.ready left cyc with
    | some c => State.promote left cyc n ((s.modCh c fun x => { x with role := .voting }).namePromoted c)
    | none => s

/-- A shadow's marks run down; with none left it closes, and its record with it when the reaction is complete (R348,
R350). -/
def State.shadowMark (s : State) (n : Nat) : State :=
  match s.frec n with
  | some r => match r.shadow with
    | some sh =>
      if 2 ≤ sh.marks then s.setRec n (some { r with shadow := some { sh with marks := sh.marks - 1 } })
      else
        let s := s.setRec n (some { r with shadow := none })
        if r.reacted then (s.closeRec n).checkClear else s
    | none => s
  | none => s

/-- Every change of role since the last mark is raised (R340). -/
def State.roleChanges (s : State) : State :=
  Ch.all.foldl (fun s c =>
    let x := s.ch c
    if x.role = x.roleSeen then s else (s.modCh c fun y => { y with roleSeen := y.role }).raise (chSrc c 0xE)) s

/-- The module enters `DUAL` (R49): `SAFE` when the accumulator has reached the limit, else a request to switch over when
the twin is in `STANDBY_SYNC`. -/
def State.enterDual (s : State) : State :=
  if s.dat.dualMin * 60000 ≤ s.vital.dualMs then s.raise 0x4E
  else
    let k := s.kernel
    let sync := match k.twin.entry with | some e => e.valid && e.compatible && e.role == 3 | none => false
    if k.twin.role = 1 && sync then
      ({ s with kernel := Kernel.modTwin k.prepare fun t => { t with request := true } }).raise 0x1D0
    else s

/-- The ladder follows the roles after the promotions of this mark (R47, R49). -/
def State.stepLadder (s : State) : State :=
  let old := s.vital.ladder
  let new := s.vital.level
  -- `DUAL` with three voting goes to `NO_RESERVE` first (R49)
  let new := if old = .dual && new = .full then .noReserve else new
  let s := s.modV fun v => { v with ladder := new }
  if new = old then s
  else
    let s := s.raise 0x48
    match new with
    | .dual => s.enterDual
    | .safe => s.raise 0x4A
    | _ => s

/-- The agreed cuts of the last round are in force (R56). -/
def Vital.takeCuts (v : Vital) : Vital :=
  match v.newCuts with
  | some (x, y, l) => { v with cutX := x, cutY := y, cuts := l.foldl (fun m p => assocSet m p.1 p.2) v.cuts, newCuts := none }
  | none => v

/-- The reference mark of a new cycle (R44 to R49, R55). -/
def State.newCycle (s : State) : State :=
  match s.shutdownDue with
  | some n => s.enterShutdown n
  | none =>
    let n := if s.vital.running then s.vital.cycle + 1 else 0
    let left := s.vital.left
    let s := (List.range 16).foldl State.shadowMark s
    let s := { s with kernel := s.kernel.tick s.dat n }
    let s := s.modV fun v =>
      let v := v.takeCuts
      { v with cycle := n, cycleCount := n, running := true, raised := [], lineBad := v.lineNow, lineNow := [], left := false
               chans := v.chans.map fun (c : Channel) => { c.rejoin n with marked := false } }
    let s := State.promote left n 4 s
    let s := s.modV fun v => { v with chans := v.chans.map fun (c : Channel) => { c with agreed := false } }
    s.stepLadder.roleChanges

/-! ## P1 -/

/-- Whether the other hot channels have all given something. -/
def State.allGave (s : State) (ch : Ch) (roles : Role → Bool) (gave : Ch → Bool) : Bool :=
  (Ch.others ch).all fun x => !roles (s.ch x).role || gave x

/-- The queue entries that are not later than their cut are discarded (R58). -/
def Channel.prune (c : Channel) (v : Vital) : Channel :=
  { c with queue := c.queue.filter fun e => afterCut (v.cutOf e.stream) e.seq
           snsX := c.snsX.filter fun r => later r.seq v.cutX
           snsY := c.snsY.filter fun r => later r.seq v.cutY }

/-- P1 (R18, R52): the raw image is formed from what is latched. -/
def Channel.sample (c : Channel) (v : Vital) (o : MarkObs) : Channel :=
  let c := c.prune v
  let r := c.formRaw v o.elapsedNs
  { c with raw := some r, fill := [], stage := .awaitT1, used := 0, myT2 := none, myVote := none, proceed := false, p5End := false
           latched := c.rx.map fun (f : Option LineFrame) => f.map (·.frameSeq)
           t1 := c.t1.filter fun p => p.cycle == v.cycle || p.cycle == v.cycle + 1
           t2 := c.t2.filter fun p => p.2.1 == v.cycle || p.2.1 == v.cycle + 1
           votes := c.votes.filter fun p => p.2.1 == v.cycle || p.2.1 == v.cycle + 1 }

/-- A queue entry that its SEC-DED code cannot correct is discarded at latching (R12); the queues of the sensor processors are
named 0x10000 and 0x10001. -/
def Channel.spoil (c : Channel) (l : List (Nat × Nat)) : Channel :=
  { c with queue := c.queue.filter fun e => !l.contains (e.stream, e.seq)
           snsX := c.snsX.filter fun r => !l.contains (0x10000, r.seq)
           snsY := c.snsY.filter fun r => !l.contains (0x10001, r.seq) }

/-- The channel holds an entry of the list. -/
def Channel.holdsAny (c : Channel) (l : List (Nat × Nat)) : Bool :=
  l.any fun x => c.queue.any (fun e => (e.stream, e.seq) == x) || c.snsX.any (fun r => (0x10000, r.seq) == x)
    || c.snsY.any (fun r => (0x10001, r.seq) == x)

/-- An uncorrectable entry is discarded and raises the queue's source (R12). -/
def State.latchErrors (s : State) (ch : Ch) (l : List (Nat × Nat)) : State :=
  if (s.ch ch).holdsAny l then (s.modCh ch fun c => c.spoil l).raise (chSrc ch 0xC) else s

/-- P1 unfinished (R19): nothing is sampled yet. -/
def Channel.sampleLate (c : Channel) (v : Vital) : Channel :=
  { c.prune v with raw := none, stage := .sampling, used := 0, myT2 := none, myVote := none, proceed := false, p5End := false }

/-- The work of a phase is unfinished when its window closes in this cycle (R19). -/
def Channel.lateIn (c : Channel) (p : Phase) : Bool := match c.obs with | some o => o.late.contains p | none => false

/-- The raw image goes out in parts (R53). -/
def State.sendRaw (s : State) (ch : Ch) : State :=
  match (s.ch ch).raw with
  | some r =>
    let ps := partsOf r.bytes
    ps.zipIdx.foldl (fun s p => s.meshHot ch (.tenon1 p.2 ps.length p.1)) s
  | none => s

/-! ## P2 -/

/-- The voting channels whose raw images a channel holds (R60). -/
def State.usedMask (s : State) (ch : Ch) : BitVec 4 :=
  maskOf (Ch.all.filter fun x => match (s.ch ch).rawOf ch x s.vital.cycle with | some r => r.voting | none => false)

/-- A channel computes the agreed image over a mask and sends TENON2 (R59, R60). -/
def State.sendT2 (s : State) (ch : Ch) (attempt : Nat) (used : BitVec 4) : State :=
  let c := s.ch ch
  let p := (c.image ch s.vital used).tenon2 c s.vital s.kernel.vital attempt
  (s.modCh ch fun c => { c with used := used, myT2 := some p, stage := .awaitT2 attempt }).meshHot ch (.tenon2 p)

/-- The TENON2 payload of an attempt a channel holds of another or of itself. -/
def Channel.t2Of (c : Channel) (own x : Ch) (cycle attempt : Nat) : Option Tenon2 :=
  if x = own then c.myT2
  else (c.t2.find? fun p => p.1 = x && p.2.1 == cycle && p.2.2.attempt == attempt).map (·.2.2)

/-- The VOTE payload a channel holds of another or of itself. -/
def Channel.voteOf (c : Channel) (own x : Ch) (cycle : Nat) : Option VotePayload :=
  if x = own then c.myVote else (c.votes.find? fun p => p.1 = x && p.2.1 == cycle).map (·.2.2)

/-- The verdict of one channel over the hashes it holds (R61, R64, R430): the agreed hash, and what the channel raises:
`dissent` against a channel whose hash differs, HASH_MISSING against one whose hash is missing over an `UP` link, and
NO_MAJORITY. -/
def State.verdict (s : State) (ch : Ch) (hash : Ch → Option W64) (m dissent : Nat) : Option W64 × List Nat :=
  let voting := s.vital.voting
  let hs := voting.filterMap hash
  let hidden := fun x => x != ch && (hash x).isNone && !((s.ch ch).ends.get x).up
  match hs.find? fun h => m ≤ (hs.filter (· = h)).length with
  | none => (none, if voting.any hidden then [] else [0x49])
  | some h =>
    (some h, (Ch.all.filter fun x => (s.ch x).role.hot).filterMap fun x => match hash x with
      | some g => if g = h then none else some (chSrc x dissent)
      | none => if hidden x then none else some (chSrc x 7))

/-- What a channel raises, agreed (R341). -/
def State.raisesAgreed (s : State) (ch : Ch) (l : List Nat) : State := l.foldl (fun s src => s.raiseAgreed src ch) s

/-- Resets by a verdict are counted (R69 .08, .09). -/
def State.countDissents (before : Nat) (tenon : Bool) (s : State) : State :=
  let n := s.vital.resetsTotal - before
  let a := s.kernel.stats
  { s with kernel := { s.kernel with stats :=
    if tenon then { a with tenonDissent := a.tenonDissent + n } else { a with outputDissent := a.outputDissent + n } } }

/-! ## P6 -/

/-- Integers in ascending order. -/
def insInt (x : Int) : List Int → List Int
  | [] => [x]
  | y :: l => if x ≤ y then x :: y :: l else y :: insInt x l

/-- The median of some marks; the mean of the two middle ones of an even number (R16). -/
def median (l : List Int) : Option Int :=
  let l := l.foldr insInt []
  if l.isEmpty then none
  else if l.length % 2 = 1 then l[l.length / 2]?
  else match l[l.length / 2 - 1]?, l[l.length / 2]? with
    | some a, some b => some ((a + b) / 2)
    | _, _ => none

/-- The marks of the channels in `VOTING` or `RESERVE` as a channel holds them. -/
def State.hotMarks (s : State) (ch : Ch) : List Int :=
  (Ch.all.filter fun x => (s.ch x).role.hot).filterMap fun x => (s.ch ch).marks.get x

/-- A number kept within ±`n`. -/
def clampInt (n x : Int) : Int := max (-n) (min n x)

/-- The steering of a channel's next cycle, the spread it sees, and the channels it finds more than 50 µs off (R16, R22). -/
def State.steerCh (s : State) (ch : Ch) : State :=
  match median (s.hotMarks ch) with
  | none => s
  | some ref =>
    let own := ((s.ch ch).marks.get ch).getD ref
    let l := (s.hotMarks ch).foldr insInt []
    let spread := match l.head?, l.getLast? with | some a, some b => (b - a).toNat | _, _ => 0
    let far := (Ch.others ch).filter fun x => (s.ch x).role != .off && (match (s.ch ch).marks.get x with
      | some m => 50000 < (m - ref).natAbs
      | none => false)
    let s := s.modCh ch fun c => { c with steer := clampInt 5000 (ref - own) }
    let s := if (s.ch ch).role = Role.voting then s.modV fun v => { v with spreadMax := max v.spreadMax spread } else s
    s.raisesAgreed ch (far.map (chSrc · 3))

/-- What a read of the SRAM finds takes effect (R29): a corrected word is written back, counted and recorded; an uncorrectable
one resets the pair. -/
def State.sramRead (s : State) (ch : Ch) (addr : Nat) (x : EccWord) : State :=
  match x.read addr with
  | .clean => s
  | .corrected w =>
    ((s.modCh ch fun c => c.putWord (addr / 4 * 4) (le 4 w.toNat)).modV fun v =>
      { v with eccCorrected := v.eccCorrected + 1 }).raise (chSrc ch 2)
  | .uncorrectable => s.raise (chSrc ch 1)

/-- The scrub of the next 64 KiB, and the check of the next block of the station data (R30, R89). -/
def State.scrub (s : State) (ch : Ch) (o : MarkObs) : State :=
  let n := (s.ch ch).scrubAt
  let s := (o.scrub.filter fun x => x.1 / 65536 == n).foldl (fun s x => s.sramRead ch x.1 x.2) s
  let ok := (s.ch ch).blockOk o.sdiRead
  let s := s.modCh ch fun c => { c with scrubAt := (c.scrubAt + 1) % 128, sdiAt := (c.sdiAt + 1) % 48 }
  if ok then s else s.raise (chSrc ch 0xB)

/-- The part of P6 every channel that cycles runs (R15, R16): steering and the loop-back tests. -/
def State.alignP6 (s : State) (ch : Ch) : State :=
  let s := s.steerCh ch
  let fails := match (s.ch ch).obs with | some o => o.loopFail | none => []
  (Ch.others ch).foldl (fun s x => s.testPort ch fails x) s

/-- The scrub of a channel's own observations. -/
def State.scrubP6 (s : State) (ch : Ch) : State := match (s.ch ch).obs with | some o => s.scrub ch o | none => s

/-- P6 (R15, R16, R30, R32, R38, R89): steering, the loop-back tests, the checkpoint, round 3, one scrub block and one
block of the station data. With P6 unfinished there is no checkpoint, and the overrun follows (R19). -/
def State.phase6 (s : State) (ch : Ch) : State :=
  let s := if s.runs && (s.ch ch).role != .off then s.alignP6 ch else s
  if !s.runs || (s.ch ch).role = .off then s
  else
    let s := s.modCh ch fun c => { c with marks := Quad.all none, stage := .done }
    if (s.ch ch).role.hot && (s.ch ch).lateIn .p6 then s.modCh ch fun c => { c with stage := .checkpointing }
    else
      let s := if (s.ch ch).role.hot then (s.modCh ch fun c => c.checkpoint s.vital.cycle false).round3 ch else s
      s.scrubP6 ch

/-- The P6 of a channel in `RESYNC` (R15, R30, R36): it keeps aligning its cycle timer, tests its link ports and scrubs. -/
def State.resyncP6 (s : State) (ch : Ch) : State :=
  let s := (s.alignP6 ch).modCh ch fun c => { c.prune s.vital with marks := Quad.all none, fill := [] }
  if s.runs && (s.ch ch).role = .resync then s.scrubP6 ch else s

/-- A channel goes no further in P2 to P5 of this cycle; its P6 follows (R16, R17). -/
def State.halt (s : State) (ch : Ch) : State :=
  (s.modCh ch fun c => { c with stage := .done, proceed := false }).phase6 ch

/-! ## P3 -/

/-- The kernel evaluates the agreed image of the first channel to proceed; the others share its result (assumption 4). -/
def State.evaluate (s : State) (ch : Ch) (i : Image) (hash : W64) (second : Bool) : State :=
  if s.vital.evaluated = some s.vital.cycle then s
  else
    let pages := match (s.ch ch).obs with | some o => o.pages | none => []
    let a := i.evalIn (s.ch ch) pages
    let k := s.kernel.evaluate s.dat s.env s.time.now.nanos a
    let k := { k with stats := k.stats.add i second }
    let s := { s with kernel := k, vital := { s.vital with
      newCuts := some (i.cutX, i.cutY, i.cuts), evaluated := some s.vital.cycle, agreedHash := some hash
      vote := some k.vote, pages := pages } }
    s.kernelDone.sw1Step a.svc

/-- The voting channels in whose raw image a bank's BANK_FAULT is set while the agreed bit is 0 (R211). -/
def State.badLines (s : State) (ch : Ch) (i : Image) : List (Ch × Nat) :=
  (ofMask i.used).flatMap fun x => match (s.ch ch).rawOf ch x s.vital.cycle with
    | some r => ([0, 1, 2, 3].filter fun n =>
        let b := r.banks.get (Ch.ofIdx n)
        b.present && b.img.stat.getLsbD 0 && !(i.banks.get (Ch.ofIdx n)).img.stat.getLsbD 0).map fun n => (x, n)
    | none => []

/-- A channel raises BANK_LINE against a channel whose line to a bank is bad for the second cycle in a row (R211). -/
def State.judgeLines (s : State) (ch : Ch) (i : Image) : State :=
  let bad := s.badLines ch i
  let s := s.modV fun v => { v with lineNow := bad }
  (bad.filter s.vital.lineBad.contains).foldl (fun s x =>
    let before := s.vital.resetsTotal
    let s := s.raiseAgreed (chSrc x.1 0xD) ch
    { s with kernel := s.kernel.modBank x.2 fun b => { b with lineFaults := b.lineFaults + (s.vital.resetsTotal - before) } }) s

/-- 90 % of P3 in nanoseconds (R17, R84). -/
def p3Limit (cycleMs : Nat) : Nat := match cycleMs with | 10 => 6120000 | 20 => 14220000 | _ => 30420000

/-- The durations of P2 and P3 (R22): the last value is the largest over the voting channels of the cycle. A P3 time above 90 % of
P3 is recorded (L1) under 0x1E7 (R84; assumption 12). -/
def State.timed (s : State) (ch : Ch) : State :=
  match (s.ch ch).obs with
  | some o =>
    if (s.ch ch).role = Role.voting then
      let s := s.modV fun (v : Vital) =>
        let again := v.timedAt == some v.cycle
        { v with timedAt := some v.cycle
                 p2Last := if again then max v.p2Last o.p2Us else o.p2Us, p2Max := max v.p2Max o.p2Us
                 p3Last := if again then max v.p3Last o.p3Us else o.p3Us, p3Max := max v.p3Max o.p3Us }
      if p3Limit s.dat.cycleMs < o.p3Us * 1000 && !o.late.contains .p3 then s.raise 0x1E7 else s
    else s
  | none => s

/-- The evaluation of a channel is complete: it votes (R63, R64). -/
def State.sendVote (s : State) (ch : Ch) : State :=
  let s := (s.modCh ch fun c => { c with proceed := true, myVote := s.vital.vote, stage := .awaitVote }).timed ch
  match s.vital.vote with
  | some p => s.meshHot ch (.vote p)
  | none => s

/-- P3 of a channel that proceeds (R17, R19, R32, R63). -/
def State.doEval (s : State) (ch : Ch) (i : Image) (hash : W64) (second : Bool) : State :=
  let s := (s.evaluate ch i hash second).judgeLines ch i
  if !s.runs || s.vital.agreedHash != some hash || !(s.ch ch).role.hot then s.halt ch
  else
    let s := s.modCh ch fun (c : Channel) => (c.replaced s.kernel).writes s.vital.cycle s.vital.pages
    if (s.ch ch).lateIn .p3 then s.modCh ch fun c => { c with stage := .evaluating } else s.sendVote ch

/-- The voting channels whose ELAPSED_NS strays by more than 10 µs (R55), of those whose raw image is held; in the first cycle of
`RUN` no mark of a cycle precedes (assumption 55). -/
def State.strays (s : State) (ch : Ch) : List Ch :=
  if s.vital.cycle = 0 then []
  else s.vital.voting.filter fun x => match (s.ch ch).rawOf ch x s.vital.cycle with
    | some r => 10000 < (Int.ofNat r.elapsed - Int.ofNat (s.dat.cycleMs * 1000000)).natAbs
    | none => false

/-- The end of P2 (R55, R61): resets and `SAFE` by the verdict, and P3 for a channel whose hash is the agreed one. -/
def State.tenonVerdict (s : State) (ch : Ch) (attempt : Nat) (set : BitVec 4) : State :=
  let c := s.ch ch
  let (h, l) := s.verdict ch (fun x => (c.t2Of ch x s.vital.cycle attempt).map (·.hash)) (majority (popCount set)) 5
  let before := s.vital.resetsTotal
  let strays := s.strays ch
  let s := State.countDissents before true (s.raisesAgreed ch l)
  let s := s.raisesAgreed ch (strays.map (chSrc · 4))
  if !s.runs then s
  else match h, c.myT2 with
    | some g, some p =>
      if p.hash = g && (s.ch ch).role.hot then s.doEval ch (c.image ch s.vital p.used) g (attempt = 2) else s.halt ch
    | _, _ => s.halt ch

/-- The TENON2 frames of an attempt are in, or their deadline has passed (R60, R430). -/
def State.judgeT2 (s : State) (ch : Ch) (attempt : Nat) : State :=
  let c := s.ch ch
  let masks := s.vital.voting.filterMap fun x => (c.t2Of ch x s.vital.cycle attempt).map (·.used)
  let set := masks.foldl (· &&& ·) 0xF
  if masks.isEmpty || popCount set < 2 then (s.raiseAgreed 0x49 ch).halt ch
  else if attempt = 1 && masks.any (· != set) then s.sendT2 ch 2 set
  else s.tenonVerdict ch attempt set

/-! ## P5 and P6 -/

/-- DR: the dual-rail pairs of a command byte (R212). -/
def dualRail (q : Byte) : W16 :=
  BitVec.ofNat 16 ((List.range 8).map fun i => (if q.getLsbD i then 2 else 1) * 4 ^ i).sum

/-- A channel's command frame to a bank (R212). -/
def Channel.frameTo (c : Channel) (own : Ch) (n : Nat) : CmdFrame :=
  let w := (c.cmds.get (Ch.ofIdx n)).toNat
  let t := c.tests.get (Ch.ofIdx n)
  CmdFrame.closed ⟨1, BitVec.ofNat 2 own.idx, BitVec.ofNat 2 n, if t.isSome then 1 else 0, c.cmdSeq.get (Ch.ofIdx n), byteOf w, dualRail (byteOf w),
    BitVec.ofNat 4 (w / 256), match t with | some o => BitVec.ofNat 3 (o % 8) | none => 0, 0⟩

/-! ### Bank configuration -/

/-- An input's configuration item (R213). -/
def Sdi.inputItem (d : Sdi) (bank inp : Nat) : List Byte :=
  let f := fun (deb : Nat) (wire test : Bool) (src : Nat) => be 2 deb ++ [byteOf (bit wire + 2 * bit test + 4 * src)]
  (d.bindings.findSome? fun b => match b.addr with
    | .input bk i _ wire src test deb => if bk == bank && i == inp then some (f deb wire test src) else none
    | .pair bk i1 i2 _ wire test deb _ =>
      if bk == bank && i1 == inp then some (f deb wire test 0)
      else if bk == bank && i2 == inp then some (f deb wire test 1) else none
    | _ => none).getD (f 1000 false false 0)

/-- A non-vital output's configuration item (R213). -/
def Sdi.nvItem (d : Sdi) (bank out : Nat) : List Byte :=
  (d.bindings.findSome? fun b => match b.addr with
    | .nv bk o safe sil => if bk == bank && o == out then some (be 2 sil ++ [byteOf safe]) else none
    | _ => none).getD (be 2 100 ++ [0])

/-- The items of a bank in the order they are sent, COMMIT last (R213). -/
def Sdi.bankItems (d : Sdi) (bank : Nat) : List (Nat × List Byte) :=
  ((List.range 24).map fun i => (i, d.inputItem bank (i + 1)))
    ++ ((List.range 4).map fun i => (0x20 + i, d.nvItem bank (i + 1))) ++ [(0xFF, [28, 0, 0])]

/-- A channel sends a bank its configuration (R213). -/
def State.sendConfig (s : State) (ch : Ch) (n : Nat) : State :=
  (s.dat.bankItems (n + 1)).foldl (fun s x =>
    let q := (s.ch ch).cmdSeq.get (Ch.ofIdx n) + 1
    (s.modCh ch fun c => { c with cmdSeq := c.cmdSeq.set (Ch.ofIdx n) q }).emit
      (.cfgFrame (Bank.ofIdx n) (CfgFrame.closed
        ⟨2, BitVec.ofNat 2 ch.idx, BitVec.ofNat 2 n, 0, q, byteOf x.1, byteAt x.2 0, byteAt x.2 1, byteAt x.2 2, 0⟩))) s

/-- The banks whose CONFIG is agreed set (R213). -/
def State.unconfigured (s : State) : List Nat :=
  [0, 1, 2, 3].filter fun n => let b := s.kernel.bank n; b.present && b.img.stat.getLsbD 6

/-- The keep-alive a channel sends a processor (R187, R198): every local head, excited while the module drives it or it is
dual-fed. -/
def State.keepCmd (s : State) (y : Bool) : ExcCmd :=
  ⟨(s.dat.heads.filter fun h => h.kind == 0 && h.index < 16).map fun h =>
    let (f1, f2, a) := s.kernel.exciteOf s.dat h.index
    (h.index, s.kernel.drives || bitAt h.flags 0, if y then f2 else f1, a), false⟩

/-- The depth of an egress queue in bytes (R13). The Veneer frame passes to SVC piece by piece as it is read (assumption 58). -/
def egressDepth : Egress → Nat | .netA | .netB | .str => 8192 | .twin => 0

/-- A channel writes an entry into an egress queue (R12, R13, R19): a full queue refuses it and raises its source. -/
def State.writeEgress (s : State) (ch : Ch) (x : Egress × List Byte) : State :=
  let held := (((s.ch ch).egress.filter fun y => y.1 = x.1).map fun y => y.2.length).sum
  if x.1 != .twin && egressDepth x.1 < held + x.2.length then s.raise (chSrc ch 0xC)
  else s.modCh ch fun c => { c with egress := c.egress ++ [x] }

/-- P5 (R19, R67) of a channel whose output is the agreed one: the command frames start with the command words as the cycle's
evaluation and the commands that act as a part of it have left them (assumption 6), telegrams, Stratus frames and the Veneer
frame go into the egress queues, the generators are retriggered. -/
def State.emitP5 (s : State) (ch : Ch) : State :=
  let s := s.modCh ch fun c => { c with
    cmds := s.kernel.cmds, tests := s.kernel.tests, cmdSeq := c.cmdSeq.map (· + 1), gens := Quad.all true, emitting := true, p5End := true }
  let s := s.emits ([0, 1, 2, 3].map fun n => .cmdFrame (Bank.ofIdx n) ((s.ch ch).frameTo ch n))
  let s := s.emits [.keepAlive ch .x (s.keepCmd false), .keepAlive ch .y (s.keepCmd true)]
  let s := s.kernel.egressOut.foldl (fun s x => s.writeEgress ch x) s
  s.unconfigured.foldl (fun s n => s.sendConfig ch n) s

/-- The output verdict, and P5 and P6 of a channel that stays (R64, R65, R44). -/
def State.outputVerdict (s : State) (ch : Ch) : State :=
  let c := s.ch ch
  let m := majority s.vital.voting.length
  let (h, l) := s.verdict ch (fun x => (c.voteOf ch x s.vital.cycle).map (·.outHash)) m 6
  let before := s.vital.resetsTotal
  let s := State.countDissents before false (s.raisesAgreed ch l)
  if !s.runs then s
  else
    let same := h.isSome && c.myVote.map (·.outHash) = h
    let s := if same && (s.ch ch).role = .reserve then s.modCh ch fun c => { c with agreed := true } else s
    if same && (s.ch ch).role = .voting && (s.ch ch).lateIn .p5 then s.modCh ch fun c => { c with stage := .emitting }
    else (if same && (s.ch ch).role = .voting then s.emitP5 ch else s).phase6 ch

/-- A channel's phases run as far as what it holds allows; `force` says that the deadline of the stage it is in has
passed (R17, R62, R64). -/
def State.advance (ch : Ch) : Nat → Bool → State → State
  | 0, _, s => s
  | fuel + 1, force, s =>
    if !s.runs || !(s.ch ch).role.hot then s
    else
      let c := s.ch ch
      let n := s.vital.cycle
      match c.stage with
      | .awaitT1 =>
        if c.lateIn .p2 then s
        else if force || s.allGave ch (fun r => r == Role.voting) fun x => (c.heldRaw x n).isSome then
          State.advance ch fuel false (s.sendT2 ch 1 (s.usedMask ch))
        else s
      | .awaitT2 a =>
        if force || s.allGave ch Role.hot fun x => (c.t2Of ch x n a).isSome then
          State.advance ch fuel false (s.judgeT2 ch a)
        else s
      | .awaitVote =>
        if c.lateIn .p4 then s
        else if force || s.allGave ch Role.hot fun x => (c.voteOf ch x n).isSome then s.outputVerdict ch else s
      | _ => s

/-- LINE_FAULTS of the banks whose frames a channel has received counts the reset its own ECHO brings (R211, R232); `before` is the
count of resets before it. -/
def State.countEcho (s : State) (ch : Ch) (before : Nat) : State :=
  let n := s.vital.resetsTotal - before
  [0, 1, 2, 3].foldl (fun s i => if ((s.ch ch).rx.get (Ch.ofIdx i)).isSome
    then { s with kernel := s.kernel.modBank i fun b => { b with lineFaults := b.lineFaults + n } } else s) s

/-- ECHO of every frame a voting channel latches lags its own SEQ by more than 4 frames (R211). -/
def Channel.echoLags (c : Channel) : Bool :=
  let l := [0, 1, 2, 3].filterMap fun n => match c.rx.get (Ch.ofIdx n) with
    | some f => if c.latched.get (Ch.ofIdx n) = some f.frameSeq then none
                else some (c.cmdSeq.get (Ch.ofIdx n) - f.echo)
    | none => none
  c.role = .voting && c.emitting && !l.isEmpty && l.all fun x => 4 < x.toNat

/-- The MARK frames of a channel's mark, on its three links (R16), each with its wait (R14). -/
def State.sendMarks (s : State) (ch : Ch) (o : MarkObs) : State :=
  (Ch.others ch).foldl (fun s x => s.mesh ch x (.mark (o.waitNs.get x))) s

/-- The mark of a channel in `RESYNC` (R36, R37, R41): a transfer whose comparison is not complete by the second mark after its
START fails; without a transfer a ready channel sends START. -/
def State.markResync (s : State) (ch : Ch) : State :=
  let s := s.resyncP6 ch
  if !s.runs || (s.ch ch).role != .resync then s
  else match (s.ch ch).req with
    | some x => if x.start + 2 ≤ s.vital.cycle then s.failXfer ch else s
    | none => if (s.ch ch).booting || (s.ch ch).confirmed then s else s.sendStart ch

/-- The mark of a channel that takes part in the round (R18, R38, R52, R53, R211). -/
def State.markHot (s : State) (ch : Ch) (o : MarkObs) : State :=
  let s := s.latchErrors ch o.spoilt
  let s := if (s.ch ch).echoLags then (s.raise (chSrc ch 0xD)).countEcho ch s.vital.resetsTotal else s
  if !s.runs || !(s.ch ch).role.hot then s
  else if o.late.contains .p1 then (s.modCh ch fun c => c.sampleLate s.vital).round2 ch
  else
    let s := s.modCh ch fun c => c.sample s.vital o
    State.advance ch 6 false ((s.sendRaw ch).round2 ch)

/-- The mark of a channel (R16, R18). -/
def State.mark (s : State) (ch : Ch) (o : MarkObs) : State :=
  if !s.runs || (s.ch ch).role = .off || (s.ch ch).inReset then s
  else
    let s := if !s.vital.running || (s.ch ch).marked then s.newCycle else s
    if !s.runs || (s.ch ch).role = .off then s
    else
      let s := s.modCh ch fun c => { c with
        marked := true, obs := some o, elapsed := o.elapsedNs, overrun := []
        marks := c.marks.set ch (some o.markNs) }
      let s := s.sendMarks ch o
      match (s.ch ch).role with
      | .resync => s.markResync ch
      | .off => s
      | _ => s.markHot ch o

end Sys2Proof.Machine
end

