-- ==== Sys2Proof/Machine/Ingress.lean ====
section
/-! DEFINITION. What producers write into the channels' ingress queues (R12, R13, R52, R58). -/

namespace Sys2Proof.Machine

/-- A producer's number in a channel's fill counts. -/
def prodNo : Producer → Nat
  | .snsX => 0 | .snsY => 1 | .netA => 2 | .netB => 3 | .str => 4 | .svc => 5

/-- The depth of a producer's queue into a channel (R13): events, or bytes. -/
def prodDepth : Producer → Nat
  | .snsX | .snsY => 256
  | .netA | .netB | .str => 8192
  | .svc => 2048

/-- What an entry takes of its queue: a Veneer frame is larger than the crossing and is read as it comes. -/
def Entry.room : Entry → Nat
  | .veneer _ => 0
  | e => e.bytes.length

/-- A write into a channel's queue (R12): a full queue refuses it and raises its source. -/
def State.offer (s : State) (c : Ch) (p : Producer) (n : Nat) (f : Channel → Channel) : State :=
  if s.mstate != .run || (s.ch c).role = .off then s
  else
    let u := lookupD (s.ch c).fill (prodNo p) + n
    if prodDepth p < u then s.raise (chSrc c 0xC)
    else s.modCh c fun x => { f x with fill := assocSet x.fill (prodNo p) u }

/-- A stream entry in one channel's queue; one it holds, or that is not later than the cut, is discarded (R58). -/
def Channel.take (c : Channel) (cut : Option Nat) (e : StreamEntry) : Channel :=
  if (c.copy e.stream e.seq).isSome || !afterCut cut e.seq then c else { c with queue := c.queue ++ [e] }

/-- A stream entry is written into every channel's queue. -/
def State.putEntry (s : State) (p : Producer) (e : StreamEntry) : State :=
  Ch.all.foldl (fun s c => s.offer c p e.entry.room fun x => x.take (s.vital.cutOf e.stream) e) s

/-- The first write of an entry: three more follow (R58). -/
def State.newEntry (s : State) (p : Producer) (e : StreamEntry) : State :=
  let s := s.putEntry p e
  { s with nets := { s.nets with recent := s.nets.recent ++ [(p, e, 3)] } }

/-- An entry of SVC's own stream, under its next number (R52). -/
def State.svcEntry (s : State) (e : SvcEntry) : State :=
  let n := s.nets.svcSeq
  ({ s with nets := { s.nets with svcSeq := (n + 1) % 2 ^ 32 } }).newEntry .svc ⟨0x200, n, .svc e⟩

/-- A sensor record in one channel's queue. -/
def Channel.takeRec (c : Channel) (cutX cutY : Nat) (sp : Sp) (r : SensorRec) : Channel :=
  match sp with
  | .x => if c.snsX.any (·.seq == r.seq) || !later r.seq cutX then c else { c with snsX := c.snsX ++ [r] }
  | .y => if c.snsY.any (·.seq == r.seq) || !later r.seq cutY then c else { c with snsY := c.snsY ++ [r] }

/-- The producer of a sensor processor. -/
def spProd : Sp → Producer | .x => .snsX | .y => .snsY

/-- A sensor record is written into every channel's queue. -/
def State.putRec (s : State) (sp : Sp) (r : SensorRec) : State :=
  Ch.all.foldl (fun s c => s.offer c (spProd sp) 1 fun x => x.takeRec s.vital.cutX s.vital.cutY sp r) s

/-- The `n`-th entry of a list of repeats counts down and is named. -/
def countRepeat {α : Type} (l : List (α × Nat)) (n : Nat) : List (α × Nat) :=
  (modNth l n fun x => (x.1, x.2 - 1)).filter fun x => 0 < x.2

/-- The sensor processor's record with its repeats changed. -/
def State.modSent (s : State) (sp : Sp) (f : List (SensorRec × Nat) → List (SensorRec × Nat)) : State :=
  match sp with
  | .x => { s with sens := { s.sens with x := { s.sens.x with sent := f s.sens.x.sent } } }
  | .y => { s with sens := { s.sens with y := { s.sens.y with sent := f s.sens.y.sent } } }

/-- A sensor processor repeats its `n`-th record that still has repeats (R58). -/
def State.repeatRec (s : State) (sp : Sp) (n : Nat) : State :=
  match (match sp with | .x => s.sens.x.sent | .y => s.sens.y.sent)[n]? with
  | some (r, _) => (s.modSent sp (countRepeat · n)).putRec sp r
  | none => s

/-- A stream producer repeats its `n`-th entry that still has repeats (R58). -/
def State.repeatEntry (s : State) (p : Producer) (n : Nat) : State :=
  let mine := s.nets.recent.filter fun x => x.1 = p
  match mine[n]? with
  | some (_, e, _) =>
    let rest := s.nets.recent.filter fun x => !decide (x.1 = p)
    let mine := (countRepeat (mine.map fun x => ((x.1, x.2.1), x.2.2)) n).map fun x => (x.1.1, x.1.2, x.2)
    ({ s with nets := { s.nets with recent := rest ++ mine } }).putEntry p e
  | none => s

/-- ENTRY_REPEAT_WRITE (R58). -/
def execEntryRepeatWrite (p : Producer) (n : Nat) (s : State) : Host.Outcome State Fault Refusal :=
  .next (s.live fun s =>
    match p with
    | .snsX => s.repeatRec .x n
    | .snsY => s.repeatRec .y n
    | _ => s.repeatEntry p n)

end Sys2Proof.Machine
end

