-- ==== Sys2Proof/Machine/ChannelRows.lean ====
section
/-! DEFINITION. The commands of the vital channels: marks, deadlines, mesh frames, the delta transfer, resets, the ladder's
timers and the enable generators (R14 to R67). -/

namespace Sys2Proof.Machine

/-- VITAL_CYCLE_MARK (R16, R18). -/
def execVitalCycleMark (ch : Ch) (o : MarkObs) (s : State) : Host.Outcome State Fault Refusal :=
  .next (s.meshLive fun s => s.mark ch o)

/-- TENON_DEADLINE (R62): what is not held of the stage counts as not arrived. -/
def execTenonDeadline (ch : Ch) (st : TenonStage) (s : State) : Host.Outcome State Fault Refusal :=
  .next (s.meshLive fun s =>
    let want : CStage := match st with | .tenon1 => .awaitT1 | .attempt1 => .awaitT2 1 | .attempt2 => .awaitT2 2
    if (s.ch ch).stage = want then State.advance ch 6 true s else s)

/-- VOTE_DEADLINE (R64). -/
def execVoteDeadline (ch : Ch) (s : State) : Host.Outcome State Fault Refusal :=
  .next (s.meshLive fun s =>
    if (s.ch ch).stage = .awaitVote then State.advance ch 6 true s else s)

/-! ## Phase overruns -/

/-- A majority of the voting channels has overrun a phase in the cycle (R19, R61). -/
def State.lateMajority (s : State) (p : Phase) : Bool :=
  let late := Ch.all.filter fun c => (s.ch c).overrun.contains p
  let n := (Ch.all.filter fun c => (s.ch c).role = .voting || (s.ch c).overrun.contains p).length
  majority n ≤ late.length

/-- The phase whose work a channel has not finished (R17, R19). -/
def CStage.phase : CStage → Option Phase
  | .sampling => some .p1
  | .awaitT1 | .awaitT2 _ => some .p2
  | .evaluating => some .p3
  | .awaitVote => some .p4
  | .emitting => some .p5
  | .checkpointing => some .p6
  | .idle | .done => none

/-- The source an overrun raises at once (R340): PHASE_OVERRUN in P1, P3, P4 and P5, P6_OVERRUN in P6; a P2 overrun is a hash the
others miss (R61). -/
def overrunSrc (ch : Ch) : Phase → Option Nat
  | .p1 | .p3 | .p4 | .p5 => some (chSrc ch 8)
  | .p6 => some (chSrc ch 9)
  | .p2 => none

/-- A phase window closes with the channel's work in it unfinished (R19): a voting channel's overrun of P2 or P3 takes the module
`SAFE` when a majority overruns; in P6 no checkpoint is written, and transfers that wait for it are abandoned (R41). -/
def phaseOverrun (ch : Ch) (ph : Phase) (s : State) : State :=
  if !s.runs || !(s.ch ch).role.hot || (s.ch ch).stage.phase != some ph then s
  else
    let voting := (s.ch ch).role = .voting
    let s := s.modCh ch fun c => { c with overrun := ph :: c.overrun, stage := .done }
    let s := match overrunSrc ch ph with | some src => s.raise src | none => s
    let s := if voting && (ph = .p2 || ph = .p3) && s.lateMajority ph && s.runs then s.raise 0x49 else s
    match ph with
    | .p6 => (s.abandonXfer ch).scrubP6 ch
    | _ =>
      let s := s.modCh ch fun c => { c with
        raw := if ph = .p1 then none else c.raw, myT2 := if ph = .p2 then none else c.myT2
        myVote := if ph = .p3 then none else c.myVote, emitting := if ph = .p4 then false else c.emitting }
      s.halt ch

/-- PHASE_OVERRUN (R19). -/
def execPhaseOverrun (ch : Ch) (ph : Phase) (s : State) : Host.Outcome State Fault Refusal :=
  .next (s.meshLive fun s => phaseOverrun ch ph s)

/-! ## Mesh frames -/

/-- A frame of the row's TYPE arrives and, when the channel takes it up, acts. -/
def State.meshRow (s : State) (rx tx : Ch) (h : MeshHead) (m : MeshOut) (f : State → State) : State :=
  if rx = tx then s
  else
    let x : MeshFrame := ⟨h, m.payload⟩
    let s := s.linkRx rx tx x
    if s.takes rx tx x && h.typ = m.typ then f s else s

/-- IDLE_FRAME (R14, R15). -/
def execIdleFrame (rx tx : Ch) (h : MeshHead) (s : State) : Host.Outcome State Fault Refusal :=
  .next (s.meshLive fun s => s.meshRow rx tx h .idle fun s => s)

/-- MARK_FRAME (R16): the arrival less the link delay constant and the waiting time of the payload. -/
def execMarkFrame (rx tx : Ch) (h : MeshHead) (arrivalNs : Int) (waitNs : Nat) (s : State) : Host.Outcome State Fault Refusal :=
  .next (s.meshLive fun s =>
    s.meshRow rx tx h (.mark waitNs) fun s => s.modCh rx fun c =>
    { c with marks := c.marks.set tx (some (arrivalNs - Int.ofNat (c.linkDelay.get tx) - Int.ofNat waitNs)) })

/-- A part of a raw image joins the parts a channel holds (R53). -/
def Channel.takeT1 (c : Channel) (tx : Ch) (cycle part parts : Nat) (d : List Byte) : Channel :=
  let old := c.t1.filter fun p => !(p.tx = tx && p.cycle == cycle && (p.part == part || p.parts != parts))
  { c with t1 := ⟨tx, cycle, part, parts, d⟩ :: old }

/-- TENON1 (R53). -/
def execTenon1 (rx tx : Ch) (h : MeshHead) (part parts : Nat) (data : List Byte) (s : State) :
    Host.Outcome State Fault Refusal :=
  .next (s.meshLive fun s =>
    s.meshRow rx tx h (.tenon1 part parts data) fun s =>
    if part < parts && parts ≤ 12 then
      State.advance rx 6 false (s.modCh rx fun c => c.takeT1 tx h.cycle part parts data)
    else s)

/-- TENON2 (R60). -/
def execTenon2 (rx tx : Ch) (h : MeshHead) (p : Tenon2) (s : State) : Host.Outcome State Fault Refusal :=
  .next (s.meshLive fun s =>
    s.meshRow rx tx h (.tenon2 p) fun s =>
    State.advance rx 6 false (s.modCh rx fun c =>
      let old := c.t2.filter fun x => !(x.1 = tx && x.2.1 == h.cycle && x.2.2.attempt == p.attempt)
      { c with t2 := (tx, h.cycle, p) :: old }))

/-- VOTE (R63). -/
def execVote (rx tx : Ch) (h : MeshHead) (p : VotePayload) (s : State) : Host.Outcome State Fault Refusal :=
  .next (s.meshLive fun s =>
    s.meshRow rx tx h (.vote p) fun s =>
    State.advance rx 6 false (s.modCh rx fun c =>
      let old := c.votes.filter fun x => !(x.1 = tx && x.2.1 == h.cycle)
      { c with votes := (tx, h.cycle, p) :: old }))

/-- DELTA_REQ_START (R37, R39): CKPT_HASH tells the supplier nothing it needs. -/
def execDeltaReqStart (rx tx : Ch) (h : MeshHead) (ckptCycle : Nat) (ckptHash : W64) (map : List Nat) (s : State) :
    Host.Outcome State Fault Refusal :=
  .next (s.meshLive fun s =>
    s.meshRow rx tx h (.start ckptCycle ckptHash map) fun s => s.takeStart rx tx ckptCycle map)

/-- DELTA_REQ_REPAIR (R38, R39). -/
def execDeltaReqRepair (rx tx : Ch) (h : MeshHead) (round : Nat) (map : List Nat) (s : State) : Host.Outcome State Fault Refusal :=
  .next (s.meshLive fun s => s.meshRow rx tx h (.repair round map) fun s => s.takeRepair rx tx round map)

/-- A round the requester receives at present. -/
def State.inRound (s : State) (rx : Ch) (round : Nat) : Bool :=
  match (s.ch rx).req with | some x => x.round + 1 == round | none => false

/-- DELTA_PAGE (R38, R40). -/
def execDeltaPage (rx tx : Ch) (h : MeshHead) (round page : Nat) (crc : W32) (data : List Byte) (s : State) :
    Host.Outcome State Fault Refusal :=
  .next (s.meshLive fun s =>
    s.meshRow rx tx h (.page round page crc data) fun s => if s.inRound rx round then s.takePage rx tx page crc data else s)

/-- DELTA_END (R38, R40, R41): the map holds as many pages as COUNT says. -/
def execDeltaEnd (rx tx : Ch) (h : MeshHead) (round count : Nat) (hash : W64) (map : List Nat) (s : State) :
    Host.Outcome State Fault Refusal :=
  .next (s.meshLive fun s =>
    s.meshRow rx tx h (.deltaEnd round count hash map) fun s =>
    if count = map.length then s.takeEnd rx tx round hash map else s)

/-- MESH_IDLE_SEND (R14): an IDLE frame goes out when no other frame waits. -/
def execMeshIdleSend (tx rx : Ch) (s : State) : Host.Outcome State Fault Refusal :=
  .next (s.meshLive fun s => if tx = rx || !((s.ch tx).txq.get rx).isEmpty then s else s.mesh tx rx .idle)

/-- LINK_END_SILENCE (R15). -/
def execLinkEndSilence (rx tx : Ch) (s : State) : Host.Outcome State Fault Refusal :=
  .next (s.live fun s => if rx = tx then s else s.silent rx tx)

/-- DELTA_ROUND_DEADLINE (R41). -/
def execDeltaRoundDeadline (ch : Ch) (s : State) : Host.Outcome State Fault Refusal :=
  .next (s.live fun s =>
    match (s.ch ch).req with
    | some x => if x.round < 3 then s.failXfer ch else s
    | none => s)

/-! ## Resets -/

/-- One comparison of the Dovetail comparator (R24 to R26): `edge` holds the leader's bundle of two edges earlier and the
shadow's, `stores` are the leader's stores of the last two edges, which have
entered the buffer. A mismatch discards them and raises the source; else the oldest is released. -/
def dovetailEdge (ch : Ch) (stores : List StoreReq) (edge : Bundle × Bundle) (s : State) : State :=
  if (s.ch ch).role = .off || (s.ch ch).inReset then s
  else
    let s := s.modCh ch fun c => (stores.take 2).foldl Channel.store c
    match Bundle.mismatch edge.1 edge.2 with
    | some _ => (s.modCh ch fun c => { c with storeBuf := [] }).raise (chSrc ch 0)
    | none => s.modCh ch Channel.release

/-- DOVETAIL_MISMATCH (R24, R25, R26). -/
def execDovetailMismatch (ch : Ch) (stores : List StoreReq) (edge : Bundle × Bundle) (s : State) :
    Host.Outcome State Fault Refusal :=
  .next (s.live fun s => dovetailEdge ch stores edge s)

/-- SRAM_READ_ERROR (R29). -/
def execSramReadError (ch : Ch) (addr : Nat) (w : EccWord) (s : State) : Host.Outcome State Fault Refusal :=
  .next (s.live fun s => s.sramRead ch addr w)

/-- PAIR_RESET_RELEASE (R35): the pair leaves reset and boots; an `OFF` channel stays held (R45). -/
def execPairResetRelease (ch : Ch) (s : State) : Host.Outcome State Fault Refusal :=
  .next (s.live fun s =>
    if (s.ch ch).role = .off then s else s.modCh ch fun c => { c with inReset := false })

/-- CHANNEL_READY (R36, R89): the pair has booted, has validated the newest descriptor of its ring (one whose DESC_CRC fails is
not a checkpoint, R33) and has reloaded its working copy of the station data from its own flash. -/
def execChannelReady (ch : Ch) (s : State) : Host.Outcome State Fault Refusal :=
  .next (s.live fun s =>
    if (s.ch ch).role = .resync && !(s.ch ch).inReset then
      s.modCh ch fun c => { c.loadSdi s.sdi.raw with booting := false, ckpt := c.newest }
    else s)

/-- RESET_WINDOW_EXPIRY (R45). -/
def execResetWindowExpiry (ch : Ch) (s : State) : Host.Outcome State Fault Refusal :=
  .next (s.live fun s =>
    s.modCh ch fun c => { c with resets := c.recent s.svc.ms })

/-! ## The ladder's timers -/

/-- DUAL_LIMIT_REACHED (R49). -/
def execDualLimitReached (s : State) : Host.Outcome State Fault Refusal :=
  .next (s.live fun s =>
    if s.runs && s.vital.running && s.vital.ladder == .dual && s.dat.dualMin * 60000 ≤ s.vital.dualMs then s.raise 0x4E else s)

/-- DUAL_ACCUMULATOR_CLEAR (R48). -/
def execDualAccumulatorClear (s : State) : Host.Outcome State Fault Refusal :=
  .next (s.live fun s =>
    if 86400000 ≤ s.vital.fullMs then s.modV fun v => { v with dualMs := 0 } else s)

/-- ENABLE_GENERATOR_TIMEOUT (R67). -/
def execEnableGeneratorTimeout (ch : Ch) (bk : Bank) (s : State) : Host.Outcome State Fault Refusal :=
  .next (s.live fun s => s.modCh ch fun c => { c with gens := c.gens.set bk.ch false })

end Sys2Proof.Machine
end

