-- ==== Sys2Proof/Machine/BankRows.lean ====
section
/-! DEFINITION. The field banks beyond the barrier: configuration, inputs, voters, output tests, field supply, frames
(R66 to R68, R208 to R229). -/

namespace Sys2Proof.Machine

/-- A bank controller. -/
def State.hw (s : State) (bk : Bank) : BankHw := s.banks.get bk.ch
/-- A bank has started: it holds a complete image (R398). -/
def State.bankUp (s : State) (bk : Bank) : Bool := !s.upd.unbooted.contains (.bank bk)
/-- A bank controller changed; one that has not started does nothing (R398). -/
def State.modHw (s : State) (bk : Bank) (f : BankHw → BankHw) : State :=
  if s.bankUp bk then { s with banks := s.banks.modify bk.ch f } else s

/-! ## The voters -/

/-- The bank counts a line: its latest frame passed its CRC and is not old, and its enable is valid (R66). -/
def BankLine.counted (l : BankLine) : Bool := l.fresh && l.enable && l.cmd.isSome

/-- The command frames of the counted lines, in letter order. -/
def BankHw.votes (b : BankHw) : List CmdFrame := (b.lines.toList.filter (·.counted)).filterMap (·.cmd)

/-- The dual-rail pair of output `i` (R212). -/
def CmdFrame.pair (f : CmdFrame) (i : Nat) : Nat := f.dr.toNat / 4 ^ i % 4

/-- A byte from its bits. -/
def byteOfBits (f : Nat → Bool) : Byte := byteOf ((List.range 8).map fun i => bit (f i) * 2 ^ i).sum

/-- The outputs at least two counted lines command on by QV (R66). -/
def BankHw.voteP (b : BankHw) : Byte := byteOfBits fun i => 2 ≤ (b.votes.filter (·.qv.getLsbD i)).length
/-- The outputs at least two counted lines command on by their dual-rail pair (R66). -/
def BankHw.voteM (b : BankHw) : Byte := byteOfBits fun i => 2 ≤ (b.votes.filter fun f => CmdFrame.pair f i == 2).length

/-- The vital switches may close: configured, supplied, not cut (R68, R210, R221). -/
def BankHw.powered (b : BankHw) : Bool := !b.config && b.pumpReady && !b.ufCut

/-- A line of a bank once the voters have looked at it (R209): ECHO is the SEQ of its frame if the line counts. -/
def BankLine.echoed (l : BankLine) : BankLine :=
  match l.cmd with
  | some f => if l.counted then { l with echo := f.seq } else l
  | none => l

/-- The switches follow the voters (R66, R210, R222, R229); one opened by its current limit stays open until it is
commanded off (assumption 32). A non-vital output follows the lowest-lettered counted line. ECHO of every counted line is the SEQ of its
frame (R209). -/
def BankHw.revote (b : BankHw) : BankHw :=
  let p := b.voteP
  let m := b.voteM
  let b := { b with pOpen := b.pOpen &&& p, mOpen := b.mOpen &&& m }
  { b with
    lines := b.lines.map BankLine.echoed
    pSw := if b.powered then p &&& ~~~b.pOpen else 0
    mSw := if b.powered then m &&& ~~~b.mOpen else 0
    nOut := if b.config then 0 else match b.votes.head? with | some f => f.nv | none => b.nOut }

/-- How many enables are valid (R68). -/
def BankHw.enables (b : BankHw) : Nat := (b.lines.toList.filter (·.enable)).length

/-- An enable has changed: with fewer than two the pump is off (R68, R210). -/
def BankHw.pump (b : BankHw) : BankHw := if b.enables < 2 then { b with pumpReady := false } else b

/-- BANK_ENABLE_INVALID (R68). -/
def execBankEnableInvalid (bk : Bank) (ch : Ch) (s : State) : Host.Outcome State Fault Refusal :=
  .next (s.live fun s =>
    s.modHw bk fun b =>
    ({ b with lines := b.lines.modify ch fun (l : BankLine) => { l with enable := false, halves := 0 } }).pump.revote)

/-- DYNAMIC_ENABLE_EDGE (R68): four half-periods of 40 to 60 µs in a row make the line valid. -/
def execDynamicEnableEdge (bk : Bank) (ch : Ch) (halfUs : Nat) (s : State) : Host.Outcome State Fault Refusal :=
  .next (s.live fun s =>
    s.modHw bk fun b =>
    ({ b with lines := b.lines.modify ch fun (l : BankLine) =>
        if 40 ≤ halfUs && halfUs ≤ 60 then { l with halves := min 4 (l.halves + 1), enable := 4 ≤ l.halves + 1 }
        else { l with halves := 0, enable := false } }).pump.revote)

/-- CHARGE_PUMP_DECAY (R68): the switch supply is gone. -/
def execChargePumpDecay (bk : Bank) (s : State) : Host.Outcome State Fault Refusal :=
  .next (s.live fun s =>
    s.modHw bk fun b => if b.enables < 2 then { b with pumpReady := false, pSw := 0, mSw := 0 } else b)

/-- CHARGE_PUMP_READY (R68, R210). -/
def execChargePumpReady (bk : Bank) (s : State) : Host.Outcome State Fault Refusal :=
  .next (s.live fun s => s.modHw bk fun b => if 2 ≤ b.enables then ({ b with pumpReady := true }).revote else b)

/-- BANK_LINE_STALE (R66): the line's frame is older than 250 µs. -/
def execBankLineStale (bk : Bank) (ch : Ch) (s : State) : Host.Outcome State Fault Refusal :=
  .next (s.live fun s =>
    s.modHw bk fun b => ({ b with lines := b.lines.modify ch fun (l : BankLine) => { l with fresh := false } }).revote)

/-! ## Readback and tests -/

/-- RB_P of switches `p` under what holds the terminals from outside (R223): 1 above UF/2; a closed P switch lifts the terminal, and
the pull-down holds it low otherwise. -/
def readP (t : Terminals) (p : Byte) : Byte := (p ||| t.pHigh) &&& ~~~t.pLow
/-- RB_M of switches `m` (R223): 1 below UF/2; a closed M switch pulls the terminal down, and the pull-up holds it high otherwise. -/
def readM (t : Terminals) (m : Byte) : Byte := (m ||| t.mLow) &&& ~~~t.mHigh

/-- RB_P and RB_M of a frame (R223, R224): those of a running or held test, or of the instant. -/
def BankHw.readPM (b : BankHw) (t : Terminals) : Byte × Byte :=
  match b.test with
  | some x => (x.rbP, x.rbM)
  | none => (readP t b.pSw, readM t b.mSw)

/-- The test request two counted lines agree on (R224). -/
def BankHw.request (b : BankHw) : Option Nat :=
  (List.range 8).find? fun i => 2 ≤ (b.votes.filter fun f => f.test = 1 && f.testOut.toNat == i).length

/-- A test of an output the voters hold on starts (R224). -/
def BankHw.startTest (b : BankHw) (i : Nat) : BankHw :=
  if b.pSw.getLsbD i && b.mSw.getLsbD i then { b with test := some ⟨i, b.lastP, b.lastM, false, 0⟩ } else b

/-- An output test starts or ends (R224): on a two-line request, also on one for another output while the samples of a test stand
(R226), and when two counted lines carry none. -/
def BankHw.testStep (b : BankHw) : BankHw :=
  match b.test, b.request with
  | none, some i => b.startTest i
  | some t, some i => if t.held && i != t.out then b.startTest i else b
  | some t, none => if t.held && 2 ≤ (b.votes.filter (·.test = 0)).length then { b with test := none } else b
  | none, none => b

/-- A frame has gone out while a test runs (R224): both samples are taken 0.70 ms after the request, and stand in the
frames from the sixth frame on (assumption 126). The tested output's switches were open when they were sampled. -/
def BankHw.testSent (b : BankHw) (t : Terminals) : BankHw :=
  let (p, m) := b.readPM t
  let b := { b with lastP := p, lastM := m }
  match b.test with
  | some x =>
    if x.held then b
    else if 5 ≤ x.sent + 1 then
      let off : Byte := ~~~(byteOf (2 ^ x.out))
      { b with test := some ⟨x.out, readP t (b.pSw &&& off), readM t (b.mSw &&& off), true, x.sent + 1⟩ }
    else { b with test := some { x with sent := x.sent + 1 } }
  | none => b

/-! ## Command and configuration frames -/

/-- Every dual-rail pair is valid (R66). -/
def CmdFrame.railsOk (f : CmdFrame) : Bool := (List.range 8).all fun i => CmdFrame.pair f i == 1 || CmdFrame.pair f i == 2

/-- A frame that fails its CRC (R66, R211): whatever its TYPE would have been, the line's latest frame has failed. -/
def BankHw.badFrame (b : BankHw) (ch : Ch) : BankHw :=
  ({ b with lines := b.lines.modify ch fun (l : BankLine) => { l with fault := true, fresh := false } }).revote

/-- A command frame reaches a bank (R66, R211, R212). -/
def BankHw.takeFrame (b : BankHw) (own : Nat) (ch : Ch) (f : CmdFrame) : BankHw :=
  if !(CmdFrame.crcOk f) then b.badFrame ch
  else if f.typ != 1 || 2 ≤ f.test.toNat || f.src.toNat != ch.idx || f.bank.toNat != own then b
  else
    ({ b with lines := b.lines.modify ch fun (l : BankLine) =>
        { l with cmd := some f, fresh := true, fault := l.fault || !(CmdFrame.railsOk f) } }).revote.testStep

/-- COMMAND_FRAME_RECEIVE (R212). -/
def execCommandFrameReceive (bk : Bank) (ch : Ch) (f : CmdFrame) (s : State) : Host.Outcome State Fault Refusal :=
  .next (s.live fun s => s.modHw bk fun b => b.takeFrame bk.idx ch f)

/-- The number of items a bank holds before it may leave CONFIG (R213). -/
def cfgItemCount : Nat := 28

/-- A configuration item number (R213). -/
def cfgItemOk (n : Nat) : Bool := n < 24 || (0x20 ≤ n && n < 0x24)

/-- A configuration frame reaches a bank (R213). -/
def BankHw.takeConfig (b : BankHw) (own : Nat) (ch : Ch) (f : CfgFrame) : BankHw :=
  if !(CfgFrame.crcOk f) then b.badFrame ch
  else if !b.config || f.typ != 2 || 2 ≤ f.test.toNat || f.src.toNat != ch.idx || f.bank.toNat != own then b
  else if f.item = 0xFF then
    if f.v0.toNat != cfgItemCount || f.v1 != 0 || f.v2 != 0 then b
    else
    let b := { b with commits := if b.commits.contains ch then b.commits else ch :: b.commits }
    if 2 ≤ b.commits.length && b.items.length = cfgItemCount then ({ b with config := false, commits := [], offers := [] }).revote
    else b
  else if !cfgItemOk f.item.toNat then b
  else
    let it : CfgItem := ⟨f.item, f.v0, f.v1, f.v2⟩
    let offers := (ch, it) :: b.offers.filter fun x => !(x.1 = ch && x.2.item = it.item)
    let b := { b with offers := offers }
    if offers.any fun x => x.1 != ch && decide (x.2 = it) then
      { b with items := it :: b.items.filter fun x => x.item != it.item }
    else b

/-- CONFIGURATION_FRAME (R213). -/
def execConfigurationFrame (bk : Bank) (ch : Ch) (f : CfgFrame) (s : State) : Host.Outcome State Fault Refusal :=
  .next (s.live fun s => s.modHw bk fun b => b.takeConfig bk.idx ch f)

/-- The configuration item of an input or of a non-vital output. -/
def BankHw.item (b : BankHw) (n : Nat) : Option CfgItem := b.items.find? fun x => x.item.toNat == n

/-! ## Inputs -/

/-- A bit of a word set or cleared. -/
def setBit {w : Nat} (x : BitVec w) (i : Nat) (v : Bool) : BitVec w :=
  if v then x ||| BitVec.ofNat w (2 ^ i) else x &&& ~~~(BitVec.ofNat w (2 ^ i))

/-- An input of a bank, 1 to 24 (R208). -/
def inRange (inp : Nat) : Bool := 1 ≤ inp && inp ≤ 24

/-- DEBOUNCE_US of an input, 0 to 23: that of an unbound one until the bank holds the item (R213; assumption 125). -/
def BankHw.debounceUs (b : BankHw) (i : Nat) : Nat :=
  match b.item i with | some x => x.v0.toNat * 256 + x.v1.toNat | none => 1000

/-- The test-pulse source of an input with test pulses on (R213). -/
def BankHw.sourceOf (b : BankHw) (i : Nat) : Option Nat :=
  match b.item i with | some x => if x.v2.getLsbD 1 then some (bit (x.v2.getLsbD 2)) else none | none => none

/-- The pulse of an input's own source, or the 100 µs after it, freezes its filters and its wire-break measurement (R215). -/
def BankHw.frozen (b : BankHw) (i : Nat) : Bool := b.freeze.isSome && b.sourceOf i == b.freeze

/-- What an input current gives on a comparator path, and as UNDEF (R214). -/
def InPath.raw (uA : Nat) : InPath → Bool
  | .undef => 2000 ≤ uA && uA < 4000
  | _ => 4000 ≤ uA

/-- INPUT_DEBOUNCE (R214, R215): a path of an input takes the raw value of a current that has held for DEBOUNCE_US. -/
def execInputDebounce (bk : Bank) (inp : Nat) (path : InPath) (h : InputHold) (s : State) :
    Host.Outcome State Fault Refusal :=
  .next (s.live fun s =>
    s.modHw bk fun b =>
    let v := InPath.raw h.uA path
    if !inRange inp || b.frozen (inp - 1) || h.heldUs < b.debounceUs (inp - 1) then b
    else match path with
      | .i => { b with iPath := setBit b.iPath (inp - 1) v }
      | .j => { b with jPath := setBit b.jPath (inp - 1) v }
      | .undef => { b with undef := setBit b.undef (inp - 1) v })

/-- The inputs with test pulses on that a source feeds (R213, R217). -/
def BankHw.pulsed (b : BankHw) (src : Nat) : List Nat :=
  (List.range 24).filter fun i => b.sourceOf i == some src

/-- TEST_PULSE (R215, R217): sources 1 and 2, `carrying` are the inputs at 0.5 mA or more at the sample. -/
def execTestPulse (bk : Bank) (src : Nat) (carrying : List Nat) (s : State) : Host.Outcome State Fault Refusal :=
  .next (s.live fun s =>
    s.modHw bk fun b =>
    { b with freeze := some (src - 1), pulseFlag := (b.pulsed (src - 1)).foldl (fun w i => setBit w i (carrying.contains (i + 1))) b.pulseFlag })

/-- Wire-break detection is on for an input (R213, R216). -/
def BankHw.wireOn (b : BankHw) (inp : Nat) : Bool := inRange inp && (match b.item (inp - 1) with | some x => x.v2.getLsbD 0 | none => false)

/-- WIRE_BREAK_FLAG (R216). -/
def execWireBreakFlag (bk : Bank) (inp : Nat) (s : State) : Host.Outcome State Fault Refusal :=
  .next (s.live fun s =>
    s.modHw bk fun b => if b.wireOn inp && !b.frozen (inp - 1) then { b with wireBreak := setBit b.wireBreak (inp - 1) true } else b)

/-- WIRE_BREAK_CLEAR (R216). -/
def execWireBreakClear (bk : Bank) (inp : Nat) (s : State) : Host.Outcome State Fault Refusal :=
  .next (s.live fun s =>
    s.modHw bk fun b => if inRange inp && !b.frozen (inp - 1) then { b with wireBreak := setBit b.wireBreak (inp - 1) false } else b)

/-! ## Faults and supply -/

/-- BANK_SELF_FAULT (R211): any of the four checks latches BANK_FAULT. -/
def execBankSelfFault (bk : Bank) (chk : BankCheck) (s : State) : Host.Outcome State Fault Refusal :=
  .next (s.live fun s =>
    s.modHw bk fun b => match chk with
    | .voters | .pump | .clock | .config => { b with selfFault := true })

/-- BANK_LINE_FAULT_CLEAR (R211). -/
def execBankLineFaultClear (bk : Bank) (ch : Ch) (s : State) : Host.Outcome State Fault Refusal :=
  .next (s.live fun s =>
    s.modHw bk fun b => { b with lines := b.lines.modify ch fun (l : BankLine) => { l with fault := false } })

/-- UF_WARN (R221). -/
def execUfWarn (bk : Bank) (below : Bool) (s : State) : Host.Outcome State Fault Refusal :=
  .next (s.live fun s => s.modHw bk fun b => { b with ufWarn := below })

/-- UF_LOW (R221). -/
def execUfLow (bk : Bank) (below : Bool) (s : State) : Host.Outcome State Fault Refusal :=
  .next (s.live fun s => s.modHw bk fun b => { b with ufLow := below })

/-- UF_CUT (R221): every vital switch opens. -/
def execUfCut (bk : Bank) (s : State) : Host.Outcome State Fault Refusal :=
  .next (s.live fun s => s.modHw bk fun b => ({ b with ufCut := true }).revote)

/-- UF_CUT_RECOVERY (R221): the outputs follow the voters again. -/
def execUfCutRecovery (bk : Bank) (s : State) : Host.Outcome State Fault Refusal :=
  .next (s.live fun s => s.modHw bk fun b => ({ b with ufCut := false }).revote)

/-- SWITCH_CURRENT_LIMIT (R222): the switch opens after 20 ms at the limit. -/
def execSwitchCurrentLimit (out : Nat) (sw : OutSwitch) (s : State) : Host.Outcome State Fault Refusal :=
  .next (s.live fun s =>
    if 32 ≤ out then s else s.modHw (Bank.ofIdx (out / 8)) fun b =>
    (match sw with
     | .p => { b with pOpen := setBit b.pOpen (out % 8) true }
     | .m => { b with mOpen := setBit b.mOpen (out % 8) true }).revote)

/-- NV_SILENCE (R229): with no line counted, the output takes its SAFE_STATE. -/
def execNvSilence (bk : Bank) (out : Nat) (s : State) : Host.Outcome State Fault Refusal :=
  .next (s.live fun s =>
    s.modHw bk fun b =>
    if out = 0 || 4 < out || b.config || !b.votes.isEmpty then b
    else match b.item (0x1F + out) with
      | some x => if x.v2 = 2 then b else { b with nOut := setBit b.nOut (out - 1) (x.v2 = 1) }
      | none => { b with nOut := setBit b.nOut (out - 1) false })

/-! ## Frames to the channels -/

/-- BANK_STAT as a channel's line carries it (R210, R211). -/
def BankHw.statTo (b : BankHw) (ch : Ch) : Byte :=
  byteOf (bit b.config * 64 + bit (match b.test with | some t => t.held | none => false) * 32 + bit (!b.pumpReady) * 16
    + bit b.ufCut * 8 + bit b.ufLow * 4 + bit b.ufWarn * 2 + bit (b.selfFault || (b.lines.get ch).fault))

/-- The content of an input frame to a channel (R209, R213). -/
def BankHw.imageTo (b : BankHw) (i : BankInstant) (ch : Ch) : BankImage where
  stat := b.statTo ch
  iPath := if b.config then 0 else b.iPath
  jPath := if b.config then 0 else b.jPath
  wire := b.wireBreak ||| b.pulseFlag
  undef := b.undef
  rbP := (b.readPM i.ext).1
  rbM := (b.readPM i.ext).2
  rbN := (b.nOut ||| i.nHigh) &&& ~~~i.nLow

/-- An input frame to a channel (R209). -/
def BankHw.frameTo (b : BankHw) (i : BankInstant) (own : Nat) (ch : Ch) : InputFrame :=
  InputFrame.closed ⟨3, BitVec.ofNat 2 ch.idx, BitVec.ofNat 2 own, (b.lines.get ch).echo, b.frameSeq.toNat, b.imageTo i ch, 0⟩

/-- BANK_INPUT_FRAME_SEND (R209): one frame on each of the four lines. -/
def execBankInputFrameSend (i : BankInstant) (s : State) : Host.Outcome State Fault Refusal :=
  .next (s.live fun s =>
    let bk := i.bank
    if !s.bankUp bk then s
    else
    let s := s.modHw bk fun b => { b with frameSeq := b.frameSeq + 1, freeze := none }
    (s.emits (Ch.all.map fun c => .inputFrame bk c ((s.hw bk).frameTo i bk.idx c))).modHw bk fun b =>
      b.testSent (if b.test.isSome then i.pulse else i.ext))

/-- INPUT_FRAME_RECEIVE (R209): a frame with a bad CRC, TYPE, destination or bank is never latched. -/
def execInputFrameReceive (ch : Ch) (bk : Bank) (f : InputFrame) (s : State) : Host.Outcome State Fault Refusal :=
  .next (s.live fun s =>
    if InputFrame.crcOk f && f.typ = 3 && f.dest.toNat = ch.idx && f.bank.toNat = bk.idx then
      s.modCh ch fun c => { c with rx := c.rx.set bk.ch (some ⟨f.frameSeq % 65536, f.echo, f.img⟩) }
    else s)

/-- COMMAND_FRAME_REPEAT (R19, R212): 125 µs after the last one, under the line's next SEQ. -/
def execCommandFrameRepeat (ch : Ch) (bk : Bank) (s : State) : Host.Outcome State Fault Refusal :=
  .next (s.live fun s =>
    if s.runs && (s.ch ch).emitting && (s.ch ch).role = .voting then
      let s := s.modCh ch fun c => { c with cmdSeq := c.cmdSeq.modify bk.ch (· + 1) }
      s.emit (.cmdFrame bk ((s.ch ch).frameTo ch bk.idx))
    else s)

end Sys2Proof.Machine
end

