-- ==== Sys2Proof/Machine/SensorOps.lean ====
section
/-! DEFINITION. The sensor processors: records, system states, excitation commands, the dual feed, demodulated samples
(R183 to R205). -/

namespace Sys2Proof.Machine

/-- A sensor processor. -/
def State.proc (s : State) (sp : Sp) : SensorProc := match sp with | .x => s.sens.x | .y => s.sens.y
/-- A sensor processor has started: it holds a complete image (R398). -/
def State.spUp (s : State) (sp : Sp) : Bool := !s.upd.unbooted.contains (.sp sp)
/-- A sensor processor changed; one that has not started does nothing (R398). -/
def State.modProc (s : State) (sp : Sp) (f : SensorProc → SensorProc) : State :=
  if !s.spUp sp then s
  else match sp with
    | .x => { s with sens := { s.sens with x := f s.sens.x } }
    | .y => { s with sens := { s.sens with y := f s.sens.y } }
/-- A system of a head: the one its processor serves. -/
def State.sys (s : State) (sp : Sp) (head : Nat) : SensorSys := (s.proc sp).sys.getD head SensorSys.reset
/-- A system changed. -/
def State.modSys (s : State) (sp : Sp) (head : Nat) (f : SensorSys → SensorSys) : State :=
  s.modProc sp fun p => { p with sys := modNth p.sys head f }
/-- The feed of a head. -/
def State.feed (s : State) (head : Nat) : HeadFeed := s.sens.feeds.getD head ⟨.none, false, false, false, none⟩
/-- The feed of a head changed. -/
def State.modFeed (s : State) (head : Nat) (f : HeadFeed → HeadFeed) : State :=
  { s with sens := { s.sens with feeds := modNth s.sens.feeds head f } }

/-- A local head of the station data (R81). -/
def State.localHead (s : State) (head : Nat) : Option HeadRec :=
  if head < 16 then (s.dat.head head).filter fun h => h.kind == 0 else none

/-- A dual-fed head (R81). -/
def State.dualFed (s : State) (head : Nat) : Bool := match s.localHead head with | some h => bitAt h.flags 0 | none => false

/-! ## Records -/

/-- A record goes out under the processor's next number, and into every channel's queue (R58, R197). -/
def State.sendRec (s : State) (sp : Sp) (kind b5 flags b7 : Byte) (w8 w12 : W32) : State :=
  if !s.spUp sp then s
  else
  let n := (s.proc sp).seq
  let r : SensorRec := ⟨n, kind, b5, flags, b7, w8, w12⟩
  let s := (s.modProc sp fun p => { p with seq := (n + 1) % 2 ^ 32 }).modSent sp fun l => l ++ [(r, 3)]
  (s.emit (.record sp r)).putRec sp r

/-- CAUSE as 0x2510.0D codes it (R207): bit 7 names system 2, which Y serves; none is 0x00 (DEDUCED, assumption 120). -/
def causeByte (sp : Sp) (cause : Nat) : Nat := if cause = 0 then 0 else match sp with | .x => cause | .y => cause + 128

/-- A HEAD_STATE record of a system (R197). -/
def State.headRec (s : State) (sp : Sp) (head : Nat) (timeUs : W32) : State :=
  let x := s.sys sp head
  s.sendRec sp 5 (byteOf head) 0 (byteOf x.state.code) timeUs (BitVec.ofNat 32 (causeByte sp x.cause * 2 ^ 24))

/-- A time on X's counter as the processor's own counter shows it (R161, R195): the two start independently. -/
def State.timeOf (s : State) (sp : Sp) (timeUs : W32) : W32 :=
  match sp with | .x => timeUs | .y => timeUs + s.sens.skew.getD Config.counterSkew

/-- A system takes a new state with its record (R198). -/
def State.sysTo (s : State) (sp : Sp) (head : Nat) (st : HState) (cause : Nat) (timeUs : W32) : State :=
  let s := s.modSys sp head fun x => { x with state := st, cause := cause, active := false, cand := none, endEdge := none }
  (s.modProc sp fun p => { p with lastUs := timeUs }).headRec sp head timeUs

/-- A system's faults of the last 3,600 s (R198). -/
def SensorSys.recent (x : SensorSys) (now : Nat) : List Nat := x.faults.filter fun t => now < t + 3600000

/-- The fault source of a system (R340). -/
def sysSrc (sp : Sp) (head : Nat) : Nat := 0x100 + 2 * head + (match sp with | .x => 0 | .y => 1)

/-- A system goes `FAULT` (R198): counted, recorded, and raised; its excitation is kept, except for DRIVE (cause 3). -/
def State.sysFault (s : State) (sp : Sp) (head cause : Nat) (timeUs : W32) : State :=
  let s := s.modSys sp head fun x =>
    { x with faults := s.svc.ms :: x.recent s.svc.ms, causeUs := timeUs, exc := x.exc && cause != 3 }
  (s.sysTo sp head .fault cause timeUs).raise (sysSrc sp head)

/-- A cause that takes a system from `SETTLING`, `ACTIVE` or `INTERFERED` to `FAULT` (R198); in `FAULT` it is seen again. -/
def State.faultFrom (s : State) (sp : Sp) (head cause : Nat) (timeUs : W32) : State :=
  match (s.sys sp head).state with
  | .settling | .active | .interfered => if head < 16 then s.sysFault sp head cause timeUs else s
  | .fault => s.modSys sp head fun x => if x.cause = cause then { x with causeUs := timeUs } else x
  | .off => s

/-! ## Calibration -/

/-- The calibration of a head as the parameter store holds it (R201). -/
def State.stored (s : State) (head : Nat) : HeadCal :=
  let idx := 0x2580 + head
  let co := fun (base : Nat) => (List.range 12).map fun i =>
    BitVec.ofNat 32 (pstNat s.pst idx (base + i) (if i = 3 then 0x20000000 else 0))
  let gain := fun (n : Nat) => (List.range 3).map fun i => BitVec.ofNat 32 (leAt (Config.gain (head + 1) n) (4 * i) 4)
  ⟨co 1, co 0x0D, pstNat s.pst idx 0x19 10000, pstNat s.pst idx 0x1A 10000, pstNat s.pst idx 0x1B 0,
    pstNat s.pst idx 0x1C 0, gain 1, gain 2⟩

/-- The calibration of a head in force. -/
def State.cal (s : State) (head : Nat) : HeadCal := s.sens.cals.getD head HeadCal.default_

/-- A system that enters `SETTLING` takes the stored calibration (R201). -/
def State.latchCal (s : State) (sp : Sp) (head : Nat) : State :=
  let n := s.stored head
  { s with sens := { s.sens with cals := modNth s.sens.cals head fun c => match sp with
    | .x => { c with c1 := n.c1, coil1 := n.coil1, cable1 := n.cable1, gain1 := n.gain1 }
    | .y => { c with c2 := n.c2, coil2 := n.coil2, cable2 := n.cable2, gain2 := n.gain2 } } }

/-- A system starts to settle (R198), its amplitude ramped over `ramp` microseconds: 1 ms when the excitation starts or changes, none when
settling restarts with the excitation on (DEDUCED, assumption 123). -/
def State.settleSys (s : State) (sp : Sp) (head : Nat) (ramp : Nat) (timeUs : W32) : State :=
  let s := (s.latchCal sp head).modSys sp head fun x =>
    { x with exc := true, rampEnd := timeUs + BitVec.ofNat 32 ramp, rhoNew := false, lowRun := 0, hist := [], prev := none
             prevRs := false, above := false, endRun := 0 }
  s.sysTo sp head .settling 0 timeUs

/-- The excitation of a system stops (R198). -/
def State.stopSys (s : State) (sp : Sp) (head : Nat) (timeUs : W32) : State :=
  if (s.sys sp head).state == .off then s
  else (s.modSys sp head fun x => { x with exc := false }).sysTo sp head .off 0 timeUs

/-! ## Excitation commands -/

/-- The module may start to drive a head when it is commanded to (R202 to R204): a head without dual feed, or a dual-fed one
that no partner drives. -/
def State.mayDrive (s : State) (head : Nat) : Bool :=
  !s.dualFed head || (s.feed head).drive != .none || !(s.feed head).partner || s.kernel.twin.role == 0

/-- A system that L2 isolates: its excitation is off and it is in `FAULT` (R343), with cause DRIVE (assumption 134). -/
def State.holdSys (s : State) (sp : Sp) (head : Nat) (timeUs : W32) : State :=
  let t := s.modSys sp head fun x => { x with exc := false }
  match (s.sys sp head).state with
  | .off | .fault => t
  | _ => t.sysTo sp head .fault 3 timeUs

/-- The port of a head failed T1 in the self-test of this start (R387). -/
def State.portFailed (s : State) (head : Nat) : Bool := s.life.bad.contains (0, head + 1)

/-- The systems of a port that failed T1 are in `FAULT` when they are to start (R387), with cause DRIVE (DESIGN CHOICE, assumption
139). -/
def State.failSys (s : State) (sp : Sp) (head : Nat) (timeUs : W32) : State :=
  if (s.sys sp head).state == .fault then s else s.sysTo sp head .fault 3 timeUs

/-- A system follows an agreed command (R187, R198, R199); one that waits to join starts with its join ramp (R205). -/
def State.excite (s : State) (sp : Sp) (change : Bool) (timeUs : W32) (c : Nat × Bool × Nat × Nat) : State :=
  let (head, on, code, ampl) := c
  if 16 ≤ head then s
  else if s.col.isolated.contains (sysSrc sp head) then s.holdSys sp head timeUs
  else if !on then (s.stopSys sp head timeUs).modFeed head fun f => { f with drive := .none }
  else if s.portFailed head then s.failSys sp head timeUs
  else if !s.mayDrive head || (s.feed head).drive == .joining then s
  else
    let x := s.sys sp head
    let s := s.modFeed head fun f => { f with drive := if f.drive == .none then .full else f.drive }
    let take := s.modSys sp head fun x => { x with freq := code, ampl := ampl }
    match x.state with
    | .off => take.settleSys sp head 1000 timeUs
    | .active | .settling => if change then take.settleSys sp head 1000 timeUs else s
    | .fault =>
      if change && x.cause = 6 then (take.modSys sp head fun x => { x with faults := [] }).settleSys sp head 1000 timeUs
      else if change then take else s
    | .interfered => if change then take else s

/-- `a` minus `b` of the microsecond counter. -/
def usSince (a b : W32) : Nat := (a - b).toNat

/-- A command reaches a processor (R187): it is applied when another channel has delivered an identical copy within 2 ms. -/
def State.keepAlive (s : State) (sp : Sp) (ch : Ch) (cmd : ExcCmd) (timeUs : W32) : State :=
  let live := (s.proc sp).ka.filter fun k => usSince timeUs k.timeUs ≤ 2000
  let s := s.modProc sp fun p => { p with lastUs := timeUs }
  if live.any fun k => k.ch != ch && decide (k.cmd = cmd) then
    let s := s.modProc sp fun p => { p with ka := live.filter fun k => !decide (k.cmd = cmd), agreedUs := some timeUs }
    cmd.heads.foldl (fun s c => s.excite sp cmd.change timeUs c) s
  else s.modProc sp fun p => { p with ka := ⟨ch, cmd, timeUs⟩ :: live }

/-- No agreeing keep-alive has arrived for three cycle lengths (R187): every excitation of the processor stops. -/
def State.kaLoss (s : State) (sp : Sp) (timeUs : W32) : State :=
  match (s.proc sp).agreedUs with
  | some t =>
    if usSince timeUs t < 3000 * s.dat.cycleMs then s
    else
      let s := s.modProc sp fun p => { p with ka := [], agreedUs := none, lastUs := timeUs }
      (List.range 16).foldl (fun s h => (s.stopSys sp h timeUs).modFeed h fun f => { f with drive := .none }) s
  | none => s

/-! ## Demodulated samples -/

/-- One in fixed point: the signal is carried with 40 fractional bits. -/
def fx : Int := 2 ^ 40

/-- The calibrated ratio of a range to G0, times 2^24 (R191, R201). -/
def HeadCal.ratio (c : HeadCal) (sp : Sp) (range : Nat) : Nat :=
  if range = 0 then 2 ^ 24
  else ((match sp with | .x => c.gain1 | .y => c.gain2)[range - 1]?.getD (2 ^ 24)).toNat

/-- A coefficient of a system (R193). -/
def HeadCal.coef (c : HeadCal) (sp : Sp) (i : Nat) : Int := ((match sp with | .x => c.c1 | .y => c.c2)[i]?.getD 0).toInt

/-- The range-normalised envelope x in fixed point (R191). -/
def normal (env ratio : Nat) : Int := if ratio = 0 then 0 else Int.ofNat (env * 2 ^ 64) / Int.ofNat (65535 * ratio)

/-- A number kept within ±4.0 (R193). -/
def satY (y : Int) : Int := max (-4 * fx) (min (4 * fx) y)

/-- The linearised signal (R193); T is (θ − 25 °C) ÷ 100. -/
def linear (c : HeadCal) (sp : Sp) (x t : Int) : Int :=
  let pw := fun (b : Int) (n : Nat) => (List.range n).foldl (fun a _ => a * b / fx) fx
  satY (((List.range 12).map fun k => c.coef sp k * (pw x (k / 3) * pw t (k % 3) / fx) / 2 ^ 29).sum)

/-- D ≥ 0.30 (R193, R194). With a reference of 0 the spec states no D: a free value. -/
def deep (y yref : Int) (n : Nat) : Bool :=
  if yref = 0 then Config.freeNat n % 2 == 1
  else if 0 < yref then 10 * y ≤ 7 * yref else 7 * yref ≤ 10 * y

/-- The microsecond counter at a count of CLK_SNS (R195). -/
def tickUs (t : Nat) : Nat := t * 25 / 1024

/-- Time `til` on the 32-bit counter is still ahead of `us`. -/
def ahead (til us : Nat) : Bool := (til + 2 ^ 32 - us % 2 ^ 32) % 2 ^ 32 < 2 ^ 31

/-- A sample is UNSETTLED (R198). -/
def SensorSys.unsettled (x : SensorSys) (f : HeadFeed) (us : Nat) : Bool :=
  x.state == .settling || f.ramp.isSome || (match x.unsetTil with | some t => ahead t us | none => false)

/-! ## Raw samples and ranges -/

/-- A raw sample reaches 92 % of full scale (R190). -/
def RawSample.reaches (r : RawSample) : Bool := 92 * 32768 ≤ 100 * r.adc.natAbs

/-- A raw sample was clamped, or is at full scale (R189, R190). -/
def RawSample.clamped (r : RawSample) : Bool := r.conduct || 32767 ≤ r.adc || r.adc ≤ -32768

/-- A decided range switch as the next raw sample finds it (R190): it takes effect from the second raw sample after the decision, and the
raw samples of the 4 us after it, five of them, count with zero weight. -/
def SensorSys.switchRaw (x : SensorSys) (r : RawSample) : SensorSys :=
  match x.switch with
  | .left 0 => { x with rawRange := x.range, switch := .none, zeroLeft := 5, ages := 0 :: x.ages, hist := [] }
  | .left (n + 1) => { x with switch := .left n }
  | .decided => if RawSample.reaches r then { x with switch := .left 1 } else x
  | .none => x

/-- One raw sample enters the filter (R188 to R190, R198): the filter spans the last 250. -/
def SensorSys.takeRaw (x : SensorSys) (r : RawSample) : SensorSys :=
  let x := x.switchRaw r
  { x with
    window := (x.window ++ [(⟨r.adc, x.rawRange, x.zeroLeft != 0, RawSample.clamped r⟩ : HeldRaw)]).drop (x.window.length - 249)
    zeroLeft := x.zeroLeft - 1, rawNo := x.rawNo + 1, ages := x.ages.map (· + 1)
    conducts := if r.conduct then (x.rawNo :: x.conducts).take 2049 else x.conducts }

/-- The raw samples of one envelope sample (R188); an up-range whose raw sample has gone before was decided at the last one. -/
def SensorSys.takeRaws (x : SensorSys) (e : EnvSample) : SensorSys :=
  let x := if x.switch == .decided && !e.raws.any RawSample.reaches then { x with switch := .left 1 } else x
  let x := e.raws.foldl SensorSys.takeRaw x
  { x with ages := x.ages.filter (· ≤ 150)
           clampUs := if e.raws.any (·.conduct) then BitVec.ofNat 32 (tickUs e.ticks) else x.clampUs }

/-- The sample's filter centre lies nearest a range switch (R189, R190): the centre lies 125 raw samples back. -/
def SensorSys.rangeStep (x : SensorSys) : Bool := x.ages.any fun n => 100 < n && n ≤ 150

/-- A raw sample in the filter span was clamped or at full scale (R189). -/
def SensorSys.clampTag (x : SensorSys) : Bool := x.window.any (·.clamp)

/-- The clamp has conducted for more than 2 ms, 2,048 raw samples, in total within the last 60 ms (R198). -/
def SensorSys.clampedLong (x : SensorSys) : Bool :=
  match x.conducts[2048]? with | some n => x.rawNo < n + 61440 + 1 | none => false

/-- Coefficient `i` of the linear-phase filter (R188). -/
def tapOf (i : Nat) : Int := Config.tap (min i (249 - i))

/-- The envelope at the range in force, 0 to 0xFFFF (R188, R190): the raw samples scaled to it, mixed with both copies of the carrier and
filtered; full scale is 1.0 (assumption 124). -/
def SensorSys.demod (x : SensorSys) (c : HeadCal) (sp : Sp) : Nat :=
  let g : Int := c.ratio sp x.rawRange
  let m := x.window.length
  let iq := x.window.zipIdx.foldl (fun (a : Int × Int) (p : HeldRaw × Nat) =>
    if p.1.zero then a
    else
      let v := p.1.adc * g / c.ratio sp p.1.range * tapOf (p.2 + 250 - m)
      let w := Config.carrier x.freq (x.rawNo - m + p.2)
      (a.1 + v * w.1, a.2 + v * w.2)) (0, 0)
  min 65535 (isqrt (iq.1 * iq.1 + iq.2 * iq.2).toNat * 131070 / 2 ^ 60)

/-- The envelope sample word (R189). -/
def sampleWord (range env : Nat) (clamp unset rangeStep : Bool) : W32 :=
  BitVec.ofNat 32 (range % 4 * 2 ^ 30 + bit clamp * 2 ^ 29 + bit unset * 2 ^ 28 + bit rangeStep * 2 ^ 27 + env % 65536)

/-! ## Pulses -/

/-- How far D lies above or below 0.30 at a sample, times 10 y_ref: 0 at the crossing. -/
def SamplePt.margin (p : SamplePt) : Int := 7 * p.yref - 10 * p.y

/-- A crossing takes a sample beyond it (R195): a RANGE_STEP sample is none of the two. -/
def Crossing.take (c : Crossing) (p : SamplePt) (rs : Bool) : Crossing :=
  if c.after.isSome then c else if rs then { c with rs := true } else { c with after := some p }

/-- The stamp of a crossing (R195): interpolated linearly between its two samples, less 121.6 us of group delay, to the nearest
microsecond. Where the samples give no crossing the spec states no stamp: a free value. -/
def Crossing.stamp (c : Crossing) (n : Nat) : W32 :=
  match c.before, c.after with
  | some p, some q =>
    let a := p.margin * q.yref
    let b := q.margin * p.yref
    let num := if a < b then -a else a
    let den := if a < b then b - a else a - b
    if den = 0 then Config.freeStamp n
    else
      let x := (p.ticks * den + ((q.ticks : Int) - p.ticks) * num) * 250 - 1245184 * den
      BitVec.ofInt 32 ((2 * x + 10240 * den) / (20480 * den))
  | _, _ => Config.freeStamp n

/-- The crossing of D = 0.30 that a sample makes. -/
def SensorSys.crossing (x : SensorSys) : Crossing := ⟨x.prev, none, x.prevRs⟩

/-- A pulse is confirmed (R194): its candidate has held for three samples. -/
def SensorSys.confirmed (x : SensorSys) : Bool := x.active || x.cand.any (3 ≤ ·)

/-- The pulse detector takes a sample (R194 to R196): a RANGE_STEP sample neither counts nor breaks a run. -/
def SensorSys.detect (x : SensorSys) (p : SamplePt) (d rangeStep clamp unset : Bool) : SensorSys :=
  let opens := !x.active && x.cand.isNone && d && !x.above && x.prev.isSome
  let x :=
    if opens then { x with cand := some 0, edge := x.crossing, endEdge := none, endRun := 0, pClamp := clamp, pUnset := unset }
    else if x.active || x.cand.isSome then { x with pClamp := x.pClamp || clamp, pUnset := x.pUnset || unset }
    else x
  let x :=
    if x.confirmed then
      if d then (if rangeStep then x else { x with endRun := 0, endEdge := none })
      else { x with endEdge := some ((x.endEdge.getD x.crossing).take p rangeStep)
                    endRun := if rangeStep then x.endRun else x.endRun + 1 }
    else if d then { x with edge := x.edge.take p rangeStep, cand := if rangeStep then x.cand else x.cand.map (· + 1) }
    else { x with cand := if rangeStep then x.cand else none }
  { x with above := d, prev := if rangeStep then x.prev else some p, prevRs := rangeStep }

/-- A sample of `env` enters linearisation, the reference and the pulse detector (R190, R191, R193, R194); `n` numbers the free
values. -/
def SensorSys.measure (x : SensorSys) (c : HeadCal) (sp : Sp) (ticks env : Nat) (clamp unset rangeStep : Bool) (n : Nat) :
    SensorSys :=
  let y := linear c sp (normal env (c.ratio sp x.rawRange)) ((x.theta - 25000000) * fx / 100000000)
  let x := ({ x with y := y }).detect ⟨ticks, y, x.yref⟩ (deep y x.yref n) rangeStep clamp unset
  let busy := x.active || x.cand.isSome
  { x with
    lowRun := if env * 100 < 24 * 65535 && x.rawRange < 3 && !busy then min 1024 (x.lowRun + 1) else 0
    yref := if !busy && !unset && !clamp then x.yref + (y - x.yref) / 204800 else x.yref
    hist := if x.state == .settling then (y :: x.hist).take 2048 else x.hist }

/-- One envelope sample of a system (R188 to R198). Without excitation there is no carrier to demodulate (DESIGN CHOICE, assumption
119). -/
def SensorSys.sample (x : SensorSys) (c : HeadCal) (f : HeadFeed) (sp : Sp) (e : EnvSample) (n : Nat) : SensorSys :=
  let us := tickUs e.ticks
  let x := x.takeRaws e
  let unset := x.unsettled f us
  let env := x.demod c sp
  let x := { x with word := sampleWord x.rawRange env x.clampTag unset x.rangeStep
                    unsetTil := x.unsetTil.filter fun t => ahead t us }
  if x.state == .off then x else x.measure c sp e.ticks env x.clampTag unset x.rangeStep n

/-- The mean of the last 2,048 samples, when all of them lie within 1 % of it (R198). -/
def SensorSys.settledMean (x : SensorSys) : Option Int :=
  let m := x.hist.sum / 2048
  if x.hist.length = 2048 && x.hist.all (fun y => 100 * (y - m).natAbs ≤ m.natAbs) then some m else none

/-- The coil temperature in millionths of a degree (R192). -/
def coilTheta (loop cable coil25 : Nat) : Int :=
  if coil25 = 0 then 25000000
  else 25000000 + (Int.ofNat loop - Int.ofNat cable - Int.ofNat coil25) * 100000000000 / (393 * Int.ofNat coil25)

/-! ## Dual feed -/

/-- A STEP record on both systems, each at its processor's own time (R197, R204, R205). -/
def State.stepRecs (s : State) (head : Nat) (kind : Byte) (timeUs : W32) : State :=
  (s.sendRec .x 4 (byteOf head) 0 kind timeUs 0).sendRec .y 4 (byteOf head) 0 kind (s.timeOf .y timeUs) 0

/-- Both systems' samples are UNSETTLED until `us` microseconds after a time (R198). -/
def State.unsettle (s : State) (head : Nat) (timeUs : W32) (us : Nat) : State :=
  let f := fun (sp : Sp) (x : SensorSys) => { x with unsetTil := some ((s.timeOf sp timeUs).toNat + us) }
  (s.modSys .x head (f .x)).modSys .y head (f .y)

/-- A module that drives half alone doubles its amplitude, unless an excitation change suppresses it (R204). -/
def State.double (s : State) (head : Nat) (timeUs : W32) : State :=
  let f := s.feed head
  if s.dualFed head && f.drive == .half && !f.partner && !f.suppress then
    ((s.modFeed head fun f => { f with drive := .full, ramp := none }).stepRecs head 1 timeUs).unsettle head timeUs 2000
  else s

/-- A module that is not the reference drives only while its carrier is locked to it (R203): otherwise its excitation stops. -/
def State.stopUnlocked (s : State) (head : Nat) (timeUs : W32) : State :=
  let f := s.feed head
  if s.dualFed head && f.drive != .none && !f.locked && !s.isRef head then
    ((s.stopSys .x head timeUs).stopSys .y head (s.timeOf .y timeUs)).modFeed head fun f => { f with drive := .none, ramp := none }
  else s

end Sys2Proof.Machine
end

