-- ==== Sys2Proof/Machine/SensorRows.lean ====
section
/-! DEFINITION. The commands of the sensor processors and of the dual feed (R160, R187 to R205). -/

namespace Sys2Proof.Machine

/-! ## Pulses and samples -/

/-- ENVELOPE_SAMPLE (R188, R189, R193, R194). -/
def execEnvelopeSample (sp : Sp) (head : Nat) (e : EnvSample) (s : State) : Host.Outcome State Fault Refusal :=
  .next (s.live fun s => s.modSys sp head fun x => x.sample (s.cal head) (s.feed head) sp e s.svc.ms)

/-- FLAGS of a pulse record (R196, R197). -/
def SensorSys.flags (x : SensorSys) (rsEnd : Bool) : Byte :=
  byteOf (bit x.rsStart + 2 * bit rsEnd + 4 * bit x.pClamp + 8 * bit x.pUnset)

/-- PULSE_START (R194, R195, R197): a candidate that has held for three samples is confirmed, at the stamp its samples give. -/
def execPulseStart (sp : Sp) (head : Nat) (startUs : W32) (rsStart : Bool) (s : State) : Host.Outcome State Fault Refusal :=
  .next (s.live fun s =>
    let x := s.sys sp head
    if !x.active && x.confirmed && x.edge.stamp s.svc.ms = startUs && x.edge.rs == rsStart then
      let s := s.modSys sp head fun x => { x with active := true, cand := none, start := startUs, rsStart := rsStart }
      s.sendRec sp 1 (byteOf head) ((s.sys sp head).flags false) 0 startUs 0
    else s)

/-- PULSE_END (R194, R195, R197): a confirmed pulse whose end has held for three samples. -/
def execPulseEnd (sp : Sp) (head : Nat) (endUs : W32) (rsEnd : Bool) (s : State) : Host.Outcome State Fault Refusal :=
  .next (s.live fun s =>
    let x := s.sys sp head
    match x.endEdge with
    | some c =>
      if x.active && 3 ≤ x.endRun && c.stamp s.svc.ms = endUs && c.rs == rsEnd then
        (s.modSys sp head fun x => { x with active := false, cand := none, endRun := 0, endEdge := none, lowRun := 0 }).sendRec sp 2
          (byteOf head) (x.flags rsEnd) 0 x.start endUs
      else s
    | none => s)

/-- UP_RANGE (R190): a raw sample at G1, G2 or G3 has reached 92 % of full scale. The raw samples of the next envelope sample show which
(assumption 124). -/
def execUpRange (sp : Sp) (head : Nat) (s : State) : Host.Outcome State Fault Refusal :=
  .next (s.live fun s =>
    s.modSys sp head fun x => if x.range = 0 then x else { x with range := x.range - 1, switch := .decided, lowRun := 0 })

/-- DOWN_RANGE (R190): after 1,024 low samples; frozen while a pulse is active. -/
def execDownRange (sp : Sp) (head : Nat) (s : State) : Host.Outcome State Fault Refusal :=
  .next (s.live fun s =>
    s.modSys sp head fun x =>
    if x.active || x.cand.isSome || 3 ≤ x.range || x.lowRun < 1024 then x
    else { x with range := x.range + 1, switch := .left 1, lowRun := 0 })

/-- COIL_MEASUREMENT (R192). -/
def execCoilMeasurement (sp : Sp) (head loopMilliohm : Nat) (timeUs : W32) (s : State) : Host.Outcome State Fault Refusal :=
  .next (s.live fun s =>
    let c := s.cal head
    let t := match sp with
      | .x => coilTheta loopMilliohm c.cable1 c.coil1
      | .y => coilTheta loopMilliohm c.cable2 c.coil2
    let s := s.modSys sp head fun x =>
      { x with loop := loopMilliohm, theta := t, rhoNew := x.rhoNew || usSince timeUs x.rampEnd < 2 ^ 31 }
    if t < -55000000 || 155000000 < t then s.faultFrom sp head 2 timeUs else s)

/-! ## Time base -/

/-- TIMEBASE_STROBE (R160, R197). -/
def execTimebaseStrobe (sp : Sp) (sendUs : W32) (s : State) : Host.Outcome State Fault Refusal :=
  .next (s.live fun s =>
    if !s.spUp sp then s
    else
    let s := s.modProc sp fun p => { p with nOwn := p.nOwn + 1, lastUs := sendUs, sendUs := some sendUs }
    let p := s.proc sp
    (s.emit (.strobe sp)).sendRec sp 3 (byteOf p.nOwn) 0 (byteOf p.nPeer) sendUs p.peerStamp)

/-- What a strobe shows of the two counters: Y's less X's, but for the path (R161). -/
def State.skewOf (s : State) (sp : Sp) (stampUs : W32) : Option W32 :=
  match sp with
  | .y => s.sens.x.sendUs.map (stampUs - ·)
  | .x => s.sens.y.sendUs.map (· - stampUs)

/-- PEER_STROBE_RECEIVE (R160). -/
def execPeerStrobeReceive (sp : Sp) (stampUs : W32) (s : State) : Host.Outcome State Fault Refusal :=
  .next (s.live fun s =>
    let s := { s with sens := { s.sens with skew := match s.skewOf sp stampUs with | some k => some k | none => s.sens.skew } }
    s.modProc sp fun p => { p with nPeer := p.nPeer + 1, peerStamp := stampUs, lastUs := stampUs })

/-! ## System states -/

/-- DRIVE_FAULT (R187, R198): the system's excitation stops. -/
def execDriveFault (sp : Sp) (head : Nat) (timeUs : W32) (s : State) : Host.Outcome State Fault Refusal :=
  .next (s.live fun s => s.faultFrom sp head 3 timeUs)

/-- ADC_REFERENCE_FAULT (R198, R382). -/
def execAdcReferenceFault (sp : Sp) (head : Nat) (timeUs : W32) (s : State) : Host.Outcome State Fault Refusal :=
  .next (s.live fun s => s.faultFrom sp head 4 timeUs)

/-- KEEPALIVE_COMMAND (R187, R199). -/
def execKeepaliveCommand (sp : Sp) (ch : Ch) (cmd : ExcCmd) (timeUs : W32) (s : State) : Host.Outcome State Fault Refusal :=
  .next (s.live fun s => if s.spUp sp then s.keepAlive sp ch cmd timeUs else s)

/-- KEEPALIVE_LOSS (R187). -/
def execKeepaliveLoss (sp : Sp) (timeUs : W32) (s : State) : Host.Outcome State Fault Refusal :=
  .next (s.live fun s => s.kaLoss sp timeUs)

/-- SYSTEM_SETTLED (R198): at least 200 ms since the ramp, the last 2,048 samples within 1 % of their mean, a resistance measured since;
y_ref is that mean, in fixed point. Doubling is no longer suppressed once the head is `ACTIVE` (R204). -/
def execSystemSettled (sp : Sp) (head : Nat) (mean : Int) (timeUs : W32) (s : State) : Host.Outcome State Fault Refusal :=
  .next (s.live fun s =>
    let x := s.sys sp head
    let since := usSince timeUs x.rampEnd
    if head < 16 && x.state == .settling && x.rhoNew && 200000 ≤ since && since < 2 ^ 31 && x.settledMean == some mean then
      let s := (s.modSys sp head fun x => { x with yref := mean, hist := [] }).sysTo sp head .active 0 timeUs
      if (s.sys .x head).state == .active && (s.sys .y head).state == .active then
        (s.modFeed head fun f => { f with suppress := false }).double head (match sp with
          | .x => timeUs | .y => timeUs - s.sens.skew.getD Config.counterSkew)
      else s
    else s)

/-- SETTLE_TIMEOUT (R198): 2,000 ms since the ramp ended. -/
def execSettleTimeout (sp : Sp) (head : Nat) (timeUs : W32) (s : State) : Host.Outcome State Fault Refusal :=
  .next (s.live fun s =>
    let since := usSince timeUs (s.sys sp head).rampEnd
    if (s.sys sp head).state == .settling && 2000000 ≤ since && since < 2 ^ 31 then s.faultFrom sp head 1 timeUs else s)

/-- CLAMP_INTERFERENCE (R198): at the raw sample at which the conduction within 60 ms first exceeds 2 ms. -/
def execClampInterference (sp : Sp) (head : Nat) (timeUs : W32) (s : State) : Host.Outcome State Fault Refusal :=
  .next (s.live fun s =>
    let x := s.sys sp head
    match x.state with
    | .settling | .active =>
      if head < 16 && x.clampedLong then (s.modSys sp head fun x => { x with clampUs := timeUs }).sysTo sp head .interfered 5 timeUs
      else s
    | _ => s)

/-- INTERFERENCE_RECOVERY (R198): 5 s without clamp conduction. -/
def execInterferenceRecovery (sp : Sp) (head : Nat) (timeUs : W32) (s : State) : Host.Outcome State Fault Refusal :=
  .next (s.live fun s =>
    let x := s.sys sp head
    if x.state == .interfered && 5000000 ≤ usSince timeUs x.clampUs then s.settleSys sp head 0 timeUs else s)

/-- FAULT_RECOVERY (R198): the cause has been absent for 5 s; a stopped excitation starts again. -/
def execFaultRecovery (sp : Sp) (head : Nat) (timeUs : W32) (s : State) : Host.Outcome State Fault Refusal :=
  .next (s.live fun s =>
    let x := s.sys sp head
    if x.state == .fault && x.cause != 6 && !s.col.isolated.contains (sysSrc sp head) && !s.portFailed head
        && 5000000 ≤ usSince timeUs x.causeUs then
      if (x.recent s.svc.ms).length < 4 then s.settleSys sp head (if x.exc then 0 else 1000) timeUs
      else (s.modSys sp head fun x => { x with cause := 6 }).headRec sp head timeUs
    else s)

/-! ## Dual feed

The times of these commands are on X's counter (assumption 122). -/

/-- PARTNER_DRIVE_ABSENT (R202, R204): the amplitude is doubled within 50 µs. -/
def execPartnerDriveAbsent (head : Nat) (timeUs : W32) (s : State) : Host.Outcome State Fault Refusal :=
  .next (s.live fun s => (s.modFeed head fun f => { f with partner := false }).double head timeUs)

/-- PARTNER_DRIVE_PRESENT (R202, R203): a module that is not the reference then goes on only when it is locked. -/
def execPartnerDrivePresent (head : Nat) (s : State) : Host.Outcome State Fault Refusal :=
  .next (s.live fun s =>
    if s.dualFed head then
      (s.modFeed head fun f => { f with partner := true }).stopUnlocked head s.sens.x.lastUs
    else s)

/-- LOCK_LOST (R203, R204): a module that is not the reference stops driving. -/
def execLockLost (head : Nat) (timeUs : W32) (s : State) : Host.Outcome State Fault Refusal :=
  .next (s.live fun s => (s.modFeed head fun f => { f with locked := false }).stopUnlocked head timeUs)

/-- LOCK_ACQUIRED (R204): the module asks to join. -/
def execLockAcquired (head : Nat) (s : State) : Host.Outcome State Fault Refusal :=
  .next (s.live fun s => (s.modFeed head fun f => { f with locked := true }).joinHead head)

/-- JOIN_REQUEST at the reference (R204, R205): with both systems idle it halves its amplitude over the 20 ms of the ramp. -/
def execJoinRequest (head : Nat) (idle : Bool) (timeUs : W32) (s : State) : Host.Outcome State Fault Refusal :=
  .next (s.live fun s =>
    let quiet := fun (x : SensorSys) => !x.active && x.cand.isNone
    if s.dualFed head && s.isRef head && (s.feed head).drive == .full && idle && quiet (s.sys .x head) && quiet (s.sys .y head) then
      ((s.modFeed head fun f => { f with drive := .half, ramp := some s.svc.ms }).stepRecs head 2 timeUs).unsettle head timeUs 22000
    else s)

/-- The systems of a joining module settle: their drive began 20 ms ago, with the ramp (R198, R205; assumption 121). -/
def State.joinSys (s : State) (sp : Sp) (head : Nat) (timeUs : W32) : State :=
  let (f1, f2, a) := s.kernel.exciteOf s.dat head
  let s := s.modSys sp head fun x => { x with freq := match sp with | .x => f1 | .y => f2, ampl := a }
  s.settleSys sp head 20000 (s.timeOf sp timeUs - 20000)

/-- JOIN_RAMP_END (R205): both modules drive half; the systems of the joining one settle. -/
def execJoinRampEnd (head : Nat) (timeUs : W32) (s : State) : Host.Outcome State Fault Refusal :=
  .next (s.live fun s =>
    if (s.feed head).drive == .joining then
      ((s.modFeed head fun f => { f with drive := .half, ramp := none }).joinSys .x head timeUs).joinSys .y head timeUs
    else s.modFeed head fun f => { f with ramp := none })

end Sys2Proof.Machine
end

