-- ==== Sys2Proof/Machine/RingOps.lean ====
section
/-! DEFINITION. The Stratus node: its schedule and the schedule's checks, arrival delays, acceptance, clock corrections,
loops (R236 to R251). -/

namespace Sys2Proof.Machine

/-! ## The schedule -/

/-- Node record `n` of a schedule, when it is present (R242). -/
def schedNode (l : List Byte) (n : Nat) : Option SchedNode :=
  let f := leAt l (32 + 4 * n) 1
  if bitAt f 0 then some ⟨n, bitAt f 1, bitAt f 2, leAt l (33 + 4 * n) 1, leAt l (34 + 4 * n) 1⟩ else none

/-- Slot record `n` of a schedule, when it is used (R242). -/
def schedSlot (l : List Byte) (n : Nat) : Option SchedSlot :=
  let f := leAt l (289 + 8 * n) 1
  if bitAt f 0 then
    some ⟨n, leAt l (288 + 8 * n) 1, bitAt f 1, bitAt f 2, leAt l (290 + 8 * n) 2, leAt l (292 + 8 * n) 4⟩
  else none

/-- A schedule as its bytes spell it (R242). -/
def Schedule.parse (l : List Byte) : Schedule where
  id := leAt l 0 2
  cycleMs := leAt l 2 1
  nodeCount := leAt l 3 1
  slotCount := leAt l 4 1
  syncCount := leAt l 5 1
  coldCount := leAt l 6 1
  precision := leAt l 8 2
  offLimit := leAt l 10 2
  rateLimit := leAt l 12 2
  nitUs := leAt l 14 2
  nodes := (List.range 64).filterMap (schedNode l)
  slots := (List.range 256).filterMap (schedSlot l)

/-- A node of a schedule. -/
def Schedule.node (c : Schedule) (n : Nat) : Option SchedNode := c.nodes.find? (·.node == n)
/-- A slot of a schedule. -/
def Schedule.slot (c : Schedule) (n : Nat) : Option SchedSlot := c.slots.find? (·.slot == n)
/-- The used slots SLOTS states: a byte that reads 0 stands for 256 (assumption 33). -/
def Schedule.slotTotal (c : Schedule) : Nat := if c.slotCount = 0 then 256 else c.slotCount

/-- W of R243 in ns. -/
def Schedule.w (c : Schedule) : Nat := c.precision + 500

/-- The line time of a slot's longest frame in ns (R239). -/
def Schedule.lineNs (c : Schedule) (x : SchedSlot) : Nat :=
  match c.node x.owner with
  | some n => if n.sync && x.key then 3040 else (x.len + 26) * 80
  | none => (x.len + 26) * 80

/-- The lowest slot a node owns. -/
def Schedule.lowest (c : Schedule) (n : Nat) : Option Nat := (c.slots.find? (·.owner == n)).map (·.slot)

/-- Check 2 of R244: field ranges, owners, key slots. -/
def Schedule.rangesOk (c : Schedule) : Bool :=
  let pos := c.nodes.map (·.position)
  1 ≤ c.cycleMs && c.cycleMs ≤ 10 && 3 ≤ c.nodeCount && c.nodeCount ≤ 64 && 4 ≤ c.syncCount && c.syncCount ≤ 16
    && 1 ≤ c.coldCount && c.coldCount ≤ 4 && 250 ≤ c.precision && c.precision ≤ 1000 && 1000 ≤ c.offLimit
    && c.offLimit ≤ 10000 && 50 ≤ c.rateLimit && c.rateLimit ≤ 500 && c.nodes.length = c.nodeCount
    && c.slots.map (·.slot) == List.range c.slotTotal
    && c.nodes.all (fun n => n.position < 64 && (pos.filter (· == n.position)).length = 1
        && c.lowest n.node == some n.keySlot
        && (match c.slot n.keySlot with | some x => x.key && (!n.sync || x.len = 16) | none => false))
    && c.slots.all fun x => (c.node x.owner).isSome && 16 ≤ x.len && x.len ≤ 256

/-- Nodes in ring order: those at lower positions. -/
def Schedule.rank (c : Schedule) (n : SchedNode) : Nat := (c.nodes.filter (·.position < n.position)).length

/-- Hops from node of rank `i` to node of rank `j` of `n`: unbroken, or with the link after rank `b` broken (R243, R250). -/
def hops (n : Nat) (b : Option Nat) (i j : Nat) : Nat :=
  match b with
  | none => (j + n - i) % n
  | some b =>
    let i := (i + n - (b + 1) % n) % n
    let j := (j + n - (b + 1) % n) % n
    if i ≤ j then j - i else (n - 1 - i) + (n - 1) + j

/-- The hops from a slot's owner to the node of rank `j`. -/
def Schedule.hopsTo (c : Schedule) (b : Option Nat) (j : Nat) (x : SchedSlot) : Nat :=
  hops c.nodes.length b (match c.node x.owner with | some n => c.rank n | none => 0) j

/-- Latest end of the passage of a slot at a node of rank `j`, over every residence and link delay (R243). -/
def Schedule.lastEnd (c : Schedule) (b : Option Nat) (j : Nat) (x : SchedSlot) : Nat :=
  x.start + c.hopsTo b j x * 1705 + c.lineNs x + c.w

/-- The passage of `x` ends before that of `y` begins, whatever delay from 1,149 to 1,705 ns each hop takes that only one of the two
passes: of two paths to one node the shorter is the end of the longer (R243). -/
def Schedule.before (c : Schedule) (b : Option Nat) (j : Nat) (x y : SchedSlot) : Bool :=
  let hx := c.hopsTo b j x
  let hy := c.hopsTo b j y
  let lead : Int := if hx ≤ hy then Int.ofNat ((hy - hx) * 1149) else - Int.ofNat ((hx - hy) * 1705)
  decide (Int.ofNat (x.start + c.lineNs x + 2 * c.w) ≤ Int.ofNat y.start + lead)

/-- The configurations checked: unbroken, and each single broken link (R243). -/
def Schedule.configs (c : Schedule) : List (Option Nat) := none :: (List.range c.nodes.length).map some

/-- No two of some slots overlap at a node. -/
def Schedule.apart (c : Schedule) (b : Option Nat) (j : Nat) : List SchedSlot → Bool
  | [] => true
  | x :: l => (l.all fun y => c.before b j x y || c.before b j y x) && Schedule.apart c b j l

/-- Check 5 of R244. -/
def Schedule.passagesOk (c : Schedule) : Bool :=
  c.configs.all fun b => (List.range c.nodes.length).all fun j => c.apart b j c.slots

/-- Check 6 of R244. -/
def Schedule.nitOk (c : Schedule) : Bool :=
  c.nitUs * 1000 + c.offLimit + 20000 ≤ c.cycleMs * 1000000
    && c.configs.all fun b => (List.range c.nodes.length).all fun j =>
        c.slots.all fun x => c.lastEnd b j x < c.nitUs * 1000

/-- Why a schedule is refused, 0 when it is not (R244). -/
def Schedule.refusal (c : Schedule) (l : List Byte) (d : Sdi) (own twin : Nat) : Nat :=
  if (crc32c (slice l 2 2334)).toNat % 65536 != c.id || l.length != 2336 then 1
  else if !c.rangesOk then 2
  else if d.cycleMs % c.cycleMs != 0 then 3
  else if (c.nodes.filter (·.sync)).length != c.syncCount || (c.nodes.filter (·.cold)).length != c.coldCount
      || c.nodes.any fun n => n.cold && !n.sync then 4
  else if !c.passagesOk then 5
  else if !c.nitOk then 6
  else if (c.node own).isNone || !(twin == 0xFF || (c.node twin).isSome) then 7
  else
    let ok := fun (node slot : Nat) => match c.slot slot with | some x => x.owner == node | none => false
    if d.bindings.any fun b => match b.addr with | .stratus n s .. => !ok n s | _ => false then 8
    else if d.heads.any fun h => h.kind == 1 && !ok (h.source % 256) (h.source / 256) then 8
    else 0

/-- STR starts (R244, R249, R258): with a valid schedule it listens. -/
def Ring.start (r : Ring) (pst : List PstVal) (d : Sdi) : Ring :=
  let own := pstNat pst 0x2780 1 0xFF
  let twin := pstNat pst 0x2780 2 0xFF
  let l := (pstFind pst 0x2780 3).getD (List.replicate 2336 0)
  let base := { Ring.reset with own := own, twin := twin, portE := r.portE, portW := r.portW }
  if own = 0xFF then base
  else
    let c := Schedule.parse l
    let code := c.refusal l d own twin
    if code = 0 then
      { base with state := .listen, sched := some c
                  nodes := c.nodes.map fun n => ⟨n.node, 0, 0, 0, 0, 0, 0⟩ }
    else { base with refusal := code }

/-! ## Arrival and acceptance -/

/-- The delay of the link into a node's W port, as known here. -/
def Ring.linkOf (r : Ring) (n : Nat) : Nat :=
  if n == r.own then r.linkNs else match r.nodes.find? (·.node == n) with | some x => x.linkNs | none => 0

/-- The nodes of a schedule in ring order. -/
def Schedule.order (c : Schedule) : List Nat :=
  (List.range c.nodes.length).filterMap fun i => (c.nodes.find? fun n => c.rank n == i).map (·.node)

/-- The nodes a frame reaches after its sender, up to the receiver, along the current path (R243, R250). -/
def Ring.path (r : Ring) (c : Schedule) (x y : Nat) : List Nat :=
  let o := c.order
  let n := o.length
  let ix := (o.findIdx? (· == x)).getD 0
  let iy := (o.findIdx? (· == y)).getD 0
  let at_ := fun (i : Nat) => o.getD (i % n) 0
  match r.loopE, r.loopW with
  | some u, some w =>
    let iu := (o.findIdx? (· == u)).getD 0
    let iw := (o.findIdx? (· == w)).getD 0
    let fwd := (iu + n - ix) % n
    let dir := (iy + n - ix) % n
    if dir ≤ fwd then (List.range dir).map fun k => at_ (ix + k + 1)
    else
      let back := (iu + n - iw) % n
      ((List.range fwd).map fun k => at_ (ix + k + 1)) ++ ((List.range back).map fun k => at_ (iu + n - (k + 1)))
        ++ (List.range ((iy + n - iw) % n)).map fun k => at_ (iw + k + 1)
  | _, _ => (List.range ((iy + n - ix) % n)).map fun k => at_ (ix + k + 1)

/-- A(x, own) of R243 in ns. -/
def Ring.arrival (r : Ring) (c : Schedule) (x : Nat) : Nat := ((r.path c x r.own).map fun n => 1152 + r.linkOf n).sum

/-- The port a node receives from (R250). -/
def Ring.primary (r : Ring) : RingPort := if r.loopRole = 2 then .e else .w

/-- The payload length of a frame's type (R239); a DATA frame's is its slot's. -/
def typeLen (f : RingFrame) (x : SchedSlot) : Nat :=
  if f.typ = 0 then x.len else if f.typ = 1 then 0 else 16

/-- A frame of accepted format (R241): all conditions but the window. -/
def Ring.formatOk (c : Schedule) (f : RingFrame) : Bool :=
  RingFrame.fcsOk f && f.typ.toNat ≤ 4 && f.scheduleId.toNat == c.id && (match c.slot f.slot with
    | some x => x.owner == f.node && f.len == typeLen f x && f.payload.length == f.len
    | none => false)

/-- The deviation of a frame (R245, R248), its arrival on the node's ring time in steps of 8 ns (assumption 128). -/
def Ring.deviation (r : Ring) (c : Schedule) (f : RingFrame) : Int :=
  let start := match c.slot f.slot with | some x => x.start | none => 0
  f.arriveNs / 8 * 8 - Int.ofNat (start + r.arrival c f.node)

/-- A frame starts inside the acceptance window (R245). -/
def Ring.inWindow (r : Ring) (c : Schedule) (f : RingFrame) : Bool := (r.deviation c f).natAbs ≤ c.w

/-- A node's record changed. -/
def Ring.modNode (r : Ring) (n : Nat) (f : NodeInfo → NodeInfo) : Ring :=
  { r with nodes := r.nodes.map fun x => if x.node == n then f x else x }

/-- A receiver reads the LOOP field of a frame that passes the FCS check (R241, R250). -/
def Ring.readLoop (r : Ring) (f : RingFrame) : Ring :=
  if !(RingFrame.fcsOk f) then r
  else
    let e := if f.loopRole = 1 then some f.node else if r.loopE = some f.node then none else r.loopE
    let w := if f.loopRole = 2 then some f.node else if r.loopW = some f.node then none else r.loopW
    { r with loopE := e, loopW := w, readE := r.readE || f.loopRole = 1, readW := r.readW || f.loopRole = 2 }

/-- A frame is rejected and counted (R241, R245). -/
def Ring.reject (r : Ring) (f : RingFrame) (window : Bool) : Ring :=
  if !(RingFrame.fcsOk f) then { r with fcsErrors := r.fcsErrors + 1 }
  else
    let r := r.modNode f.node fun x => { x with rejects := x.rejects + 1 }
    if window then { r with winRejects := r.winRejects + 1 } else r

/-- A frame is accepted (R249, R259). -/
def Ring.accept (r : Ring) (f : RingFrame) : Ring :=
  ({ r with syncMiss := if f.typ = 2 || f.typ = 3 then 0 else r.syncMiss } : Ring).modNode f.node fun x => { x with state := f.nodeState, linkNs := f.linkNs, frames := x.frames + 1, lastCycle := f.ringCycle }

/-- A valid frame has arrived at a port (R250); an own COLDSTART has travelled the ring (R249). -/
def Ring.heard (r : Ring) (f : RingFrame) : Ring :=
  if !(RingFrame.fcsOk f) then r
  else
    let r := match f.port with | .e => { r with missE := 0 } | .w => { r with missW := 0 }
    if f.node == r.own && f.typ = 3 && f.port == r.primary then { r with noReturn := 0 } else r

/-- The node keeps a ring time against which a window can be judged (R245, R249). -/
def Ring.timed (r : Ring) : Bool := match r.state with | .notConfigured | .listen => false | _ => true

/-- A frame reaches the node as a receiver: none when it is not accepted, with what is counted either way. A node in `LISTEN` judges the
format alone, of SYNC and COLDSTART. -/
def Ring.receive (r : Ring) (f : RingFrame) (window : Bool) : Ring × Bool :=
  let r := (r.readLoop f).heard f
  match r.sched with
  | none => (if RingFrame.fcsOk f then r else r.reject f false, false)
  | some c =>
    if f.dir || f.node == r.own || f.port != r.primary || (window && !r.timed) then (if RingFrame.fcsOk f then r else r.reject f false, false)
    else if !Ring.formatOk c f then (r.reject f false, false)
    else if window && !r.inWindow c f then (r.reject f true, false)
    else (r.accept f, true)

/-! ## Forwarding -/

/-- The node sends in a slot (R249). -/
def Ring.sends (r : Ring) (x : SchedSlot) : Bool :=
  x.owner == r.own && (match r.state with | .synced => true | .coldstart => x.key | _ => false)

/-- What goes out of the node's own slot in primary direction: out of E, or back out of W where the node loops (R250). -/
def Ring.outPort (r : Ring) : RingPort := if r.loopRole = 1 then .w else .e

/-- Any frame read shows a LOOP role (R250). -/
def Ring.looped (r : Ring) : Bool := r.loopRole != 0 || r.loopE.isSome || r.loopW.isSome

/-- The node transmits on a port at a moment (R237): in its slots out of its port in primary direction, and at its key slot the heartbeat
out of W. -/
def Ring.busyAt (r : Ring) (p : RingPort) (t : Int) : Bool :=
  match r.sched with
  | some c => c.slots.any fun x => r.sends x && decide (Int.ofNat x.start ≤ t) &&
      ((p == r.outPort && decide (t < Int.ofNat (x.start + c.lineNs x)))
        || (p == .w && x.key && r.state == .synced && !r.looped && decide (t < Int.ofNat (x.start + 1760))))
  | none => false

/-- The slice of T6 is the one that runs, so both ring ports are down (R382). -/
def State.loopTest (s : State) : Bool :=
  match s.life.test.todo, s.life.test.slot with
  | (5, _) :: _, some n => (s.kernel.slot n).state == .running
  | _, _ => false

/-- The port a frame is forwarded out of (R237, R250), none when it is removed, consumed, or its port is down. An own frame that comes back in
primary direction has travelled the whole ring; on the looped path it passes its sender in counter direction first. -/
def Ring.forwardPort (r : Ring) (f : RingFrame) : Option RingPort :=
  if (f.node == r.own && f.port == r.primary) || f.dir then none
  else
    let p := match f.port with
      | .w => if r.loopRole = 1 then RingPort.w else .e
      | .e => if r.loopRole = 2 then .e else .w
    if (match p with | .e => r.portE | .w => r.portW) then some p else none

/-- The node guards what it forwards by passage intervals (R246); in other states it truncates a frame at 282 bytes. -/
def Ring.guards (r : Ring) : Bool := match r.state with | .integrating | .synced => true | _ => false

/-- A frame is forwarded in hardware, or dropped when the node itself transmits (R237); in a state without a guardian, and longer than 282
bytes, it ends in an error symbol (R246). -/
def State.ringForward (s : State) (f : RingFrame) : State :=
  match s.ring.forwardPort f with
  | none => s
  | some p =>
    if s.ring.busyAt p f.arriveNs then { s with ring := { s.ring with fwdDrops := s.ring.fwdDrops + 1 } }
    else s.emit (.forward p f.node f.slot (!s.ring.guards && 282 < f.payload.length + (if f.typ = 0 then 26 else 22)))

/-- A frame arrives: it is forwarded, and received; `g` acts on an accepted one. -/
def State.ringRow (s : State) (f : RingFrame) (window : Bool) (g : State → State) : State :=
  let s := s.ringForward f
  let (r, ok) := s.ring.receive f window
  let s := { s with ring := r }
  if ok then g s else s

/-! ## The clock -/

/-- k of R248. -/
def Schedule.k (c : Schedule) : Nat := if c.syncCount ≤ 7 then 1 else 2

/-- What is left of some values without the `k` lowest and the `k` highest. -/
def ftaKeep (k : Nat) (l : List Int) : List Int :=
  let s := l.foldr insInt []
  (s.drop k).take (s.length - 2 * k)

/-- fta of R248: the mean of what is left, rounded toward 0. -/
def fta (k : Nat) (l : List Int) : Int :=
  let m := ftaKeep k l
  if m.isEmpty then 0 else (m.foldl (· + ·) 0).tdiv (Int.ofNat m.length)

/-- The own node is a sync node. -/
def Ring.ownSync (r : Ring) : Bool :=
  match r.sched.bind fun c => c.node r.own with | some n => n.sync | none => false

/-- Voff of R248. -/
def Ring.voff (r : Ring) : List Int := r.devOdd.map (·.2) ++ (if r.ownSync then [0] else [])

/-- Vrate of R248. -/
def Ring.vrate (r : Ring) : List Int :=
  (r.devOdd.filterMap fun x => (r.devEven.find? (·.1 == x.1)).map fun y => x.2 - y.2) ++ (if r.ownSync then [0] else [])

/-- The node goes `SILENT` (R248, R257 .0E). -/
def Ring.silent (r : Ring) : Ring := { r with state := .silent, reints := r.reints + 1, short := 0, silentAt := r.cycle }

/-- A correction within the limits (R248). -/
def Schedule.within (c : Schedule) (off acc : Int) : Bool :=
  off.natAbs ≤ c.offLimit && acc.natAbs ≤ c.rateLimit * c.cycleMs

/-- The averaging of a double cycle with `k` values discarded at each end (R248). -/
def Ring.average (r : Ring) (k : Nat) : Ring :=
  let off := fta k r.voff
  let keep := ftaKeep k r.voff
  { r with offset := off, rate := r.rate + fta k r.vrate, syncVals := r.voff.length
           precision := match keep.head?, keep.getLast? with | some a, some b => (b - a).toNat | _, _ => 0 }

/-- The end of an odd ring cycle (R248, R249). A correction beyond its limits counts in the accumulated rate and is not applied
(assumption 96). -/
def Ring.correct (r : Ring) : Ring :=
  match r.sched with
  | none => r
  | some c =>
    let r := match r.state with
      | .synced =>
        let k := c.k
        if r.voff.length < 2 * k + 1 || r.vrate.length < 2 * k + 1 then
          if 1 ≤ r.short then r.silent else { r with short := r.short + 1 }
        else
          let n := ({ r with short := 0 }).average k
          if c.within n.offset n.rate then n else { n.silent with offset := r.offset }
      | .integrating =>
        let n := r.average 0
        if c.within n.offset n.rate then { n with doubles := n.doubles + 1 } else { n with doubles := 1, offset := r.offset }
      | .coldstart =>
        let both := r.devOdd.filter fun (x : Nat × Int) => x.1 != r.own && r.devEven.any (·.1 == x.1)
        if 2 * c.k ≤ both.length then { r with state := .synced, short := 0 } else r
      | _ => r
    { r with devEven := [], devOdd := [] }

/-- The deviation of an accepted SYNC or COLDSTART frame of a sync node is kept (R248, R259 .05). -/
def Ring.keepDev (r : Ring) (f : RingFrame) : Ring :=
  match r.sched with
  | none => r
  | some c =>
    let d := r.deviation c f
    let r := r.modNode f.node fun x => { x with deviation := d }
    if !(c.node f.node).any (·.sync) then r
    else if f.ringCycle % 2 = 0 then { r with devEven := r.devEven.filter (·.1 != f.node) ++ [(f.node, d)] }
    else { r with devOdd := r.devOdd.filter (·.1 != f.node) ++ [(f.node, d)] }

/-- The node takes the ring's cycle from a frame and integrates (R249); it measures its link again (R247). -/
def Ring.adopt (r : Ring) (f : RingFrame) : Ring :=
  let start := fun (n : Nat) => match r.sched.bind (·.slot n) with | some x => x.start | none => 0
  let key := match r.sched.bind (·.node r.own) with | some n => n.keySlot | none => 0
  { r with state := .integrating, cycle := f.ringCycle, keyDone := start key ≤ start f.slot, doubles := 0, measured := false
           syncMiss := 0, echoes := [], devEven := [], devOdd := [], short := 0 }

/-- A LOOP frame's payload (R240). -/
def loopPayload (kind run open_ : Nat) : List Byte :=
  [byteOf kind, byteOf run, 0, 0] ++ be 4 open_ ++ List.replicate 8 0

/-- A frame of the node's own, a DATA frame's payload with SAFETY at its end (R239, R253). -/
def Ring.ownFrame (r : Ring) (typ : BitVec 3) (dir : Bool) (slot : Nat) (payload : List Byte) : List Byte :=
  let len := if typ = 0 then payload.length - 4 else payload.length
  let sync := match r.sched.bind (·.node r.own) with | some n => n.sync | none => false
  [byteOf (typ.toNat * 32 + bit dir * 16), byteOf r.own, byteOf slot,
    byteOf (r.loopRole.toNat + 4 * bit sync + 8 * r.state.code)] ++ be 2 len ++ be 4 r.cycle
    ++ be 2 ((r.sched.map (·.id)).getD 0) ++ be 2 r.linkNs ++ [0, 0] ++ payload

/-- A ring frame goes out; CVU5 appends the FCS (R253, R390). -/
def State.ringOut (s : State) (port : RingPort) (typ : BitVec 3) (dir : Bool) (slot : Nat) (payload : List Byte) : State :=
  let (s, fcs) := s.cvuAppend 5 (s.ring.ownFrame typ dir slot payload)
  if s.loopTest then s
  else match fcs with
    | some v => s.emit (.ring port typ dir s.ring.own slot s.ring.cycle payload v)
    | none => s

/-- A ring frame comes in; CVU4 checks and strips the FCS (R252, R390). While T6 holds the ports down none does (R382). -/
def State.fromRing (s : State) (f : RingFrame) (g : RingFrame → State → State) : State :=
  if s.loopTest then s else
  let (s, ok) := s.cvuStrip 4 (RingFrame.bytes f ++ be 4 f.fcs.toNat)
  g (if ok then f else RingFrame.marked f) s

/-- The slot in which the node sends LOOP frames: its key slot. -/
def Ring.keySlot (r : Ring) : Nat := match r.sched.bind (·.node r.own) with | some n => n.keySlot | none => 0

/-- An ECHO_REQ goes out of port W (R247): one hop in counter direction (assumption 34). -/
def State.askEcho (s : State) : State :=
  ({ s with ring := { s.ring with asked := true } }).ringOut .w 4 true s.ring.keySlot (loopPayload 1 0 0)

end Sys2Proof.Machine
end

