-- ==== Sys2Proof/Machine/RingRows.lean ====
section
/-! DEFINITION. The commands of the Stratus node (R237 to R254). -/

namespace Sys2Proof.Machine

/-- The ring node changed. -/
def State.modRing (s : State) (f : Ring → Ring) : State := { s with ring := f s.ring }

/-! ## Frames -/

/-- STRATUS_DATA (R241, R252): an accepted frame of another node becomes an entry of its slot's stream. -/
def execStratusData (f : RingFrame) (s : State) : Host.Outcome State Fault Refusal :=
  .next (s.live fun s =>
    if f.typ != 0 then s else s.fromRing f fun f s => s.ringRow f true fun s =>
    s.newEntry .str ⟨0x100 + f.slot, f.ringCycle % 2 ^ 32, .ring f.node f.scheduleId.toNat f.payload f.safety⟩)

/-- STRATUS_NULL (R237, R241): a heartbeat is consumed; of it the LOOP field is read. -/
def execStratusNull (f : RingFrame) (s : State) : Host.Outcome State Fault Refusal :=
  .next (s.live fun s => if f.typ != 1 then s else s.fromRing f fun f s => s.ringRow f true id)

/-- An accepted synchronising frame in a state that follows the ring (R248). -/
def State.takeSync (s : State) (f : RingFrame) : State :=
  match s.ring.state with
  | .integrating | .synced | .coldstart | .silent => s.modRing (·.keepDev f)
  | _ => s

/-- SYNC (R248, R249). -/
def execSync (f : RingFrame) (s : State) : Host.Outcome State Fault Refusal :=
  .next (s.live fun s =>
    if f.typ != 2 then s else s.fromRing f fun f s =>
    if s.ring.state == .listen then s.ringRow f false fun s => (s.modRing (·.adopt f)).askEcho
    else s.ringRow f true fun s => s.takeSync f)

/-- COLDSTART (R249). -/
def execColdstart (f : RingFrame) (s : State) : Host.Outcome State Fault Refusal :=
  .next (s.live fun s =>
    if f.typ != 3 then s else s.fromRing f fun f s =>
    match s.ring.state with
    | .listen => s.ringRow f false fun s => (s.modRing (·.adopt f)).askEcho
    | .coldstart => s.ringRow f false fun s =>
        if f.node < s.ring.own then
          (s.modRing fun r => { r.adopt f with coldAborts := r.coldAborts + 1 }).askEcho
        else s
    | _ => s.ringRow f true fun s => s.takeSync f)

/-- A LOOP frame of good format; the window is that of the direct link and is not judged (assumption 34). -/
def State.loopOk (s : State) (f : RingFrame) (kind : Nat) : Bool :=
  f.typ = 4 && (byteAt f.payload 0).toNat = kind && f.node != s.ring.own && (match s.ring.sched with
    | some c => Ring.formatOk c f
    | none => false)

/-- A LOOP frame is forwarded like any other (R237), and read; one that is not of good format is counted. -/
def State.loopRow (s : State) (f : RingFrame) (kind : Nat) (g : State → State) : State :=
  let s := (s.ringForward f).modRing fun r => (r.readLoop f).heard f
  if s.loopOk f kind then g s else s.modRing fun r => if r.sched.isSome then r.reject f false else r

/-- ECHO_REQ (R247): the downstream neighbour asks at port E; answered in every state but `NOT_CONFIGURED`. -/
def execEchoReq (f : RingFrame) (s : State) : Host.Outcome State Fault Refusal :=
  .next (s.live fun s =>
    s.fromRing f fun f s => s.loopRow f 1 fun s =>
      if f.port != .e then s else s.ringOut .e 4 false s.ring.keySlot (loopPayload 2 0 0))

/-- ECHO (R247): the fourth exchange gives LINK_NS. -/
def execEcho (f : RingFrame) (roundTripNs : Nat) (s : State) : Host.Outcome State Fault Refusal :=
  .next (s.live fun s =>
    s.fromRing f fun f s => s.loopRow f 2 fun s =>
    let l := s.ring.echoes ++ [roundTripNs - 2000]
    if f.port != .w || !s.ring.asked then s
    else if 4 ≤ l.length then
      s.modRing fun r => { r with echoes := [], asked := false, linkNs := l.sum / (2 * l.length), measured := true }
    else (s.modRing fun r => { r with echoes := l }).askEcho)

/-- LINK_DELAY_REMEASURE (R247): a node that keeps ring cycles measures again. -/
def execLinkDelayRemeasure (s : State) : Host.Outcome State Fault Refusal :=
  .next (s.live fun s =>
    if s.ring.timed then (s.modRing fun r => { r with echoes := [] }).askEcho else s)

/-- PROBE (R251): it crosses the broken link. -/
def execProbe (f : RingFrame) (s : State) : Host.Outcome State Fault Refusal :=
  .next (s.live fun s =>
    s.fromRing f fun f s => s.loopRow f 3 fun s =>
    let broken : RingPort := if s.ring.loopRole = 1 then .e else .w
    if s.ring.loopRole = 0 || f.port != broken then s
    else s.modRing fun r =>
      let r := { r with probeRun := if r.probeSeen then r.probeRun else r.probeRun + 1, probeSeen := true
                        peerRun := (byteAt f.payload 1).toNat }
      if r.loopRole = 2 then
        (if 8 ≤ r.probeRun && 8 ≤ r.peerRun && r.openAt.isNone then { r with openAt := some (r.cycle + 4) } else r)
      else if beAt f.payload 4 4 = 0 then r else { r with openAt := some (beAt f.payload 4 4) })

/-! ## Slots -/

/-- A break declared in the last cycle is acted on (R250). -/
def Ring.loopBack (r : Ring) : Ring :=
  match r.breakAt with
  | none => r
  | some p =>
    let r := { r with breakAt := none, heals := r.heals + 1, probeRun := 0, probeSeen := false, peerRun := 0, openAt := none }
    match p with
    | .e => { r with loopRole := 1, loopE := some r.own }
    | .w => { r with loopRole := 2, loopW := some r.own }

/-- A LOOP role of another node that no frame of the ended cycle showed is gone (R250). -/
def Ring.forgetLoops (r : Ring) : Ring :=
  { r with loopE := if r.readE || r.loopRole = 1 then r.loopE else none, readE := false
           loopW := if r.readW || r.loopRole = 2 then r.loopW else none, readW := false }

/-- A new ring cycle begins with the node's key slot (assumption 35). -/
def Ring.keyStart (r : Ring) : Ring :=
  let r := r.forgetLoops
  ({ r with cycle := if r.keyDone then (r.cycle + 1) % 2 ^ 32 else r.cycle, keyDone := true
            coldCycles := r.coldCycles + 1, noReturn := r.noReturn + 1, syncMiss := r.syncMiss + 1
            missE := r.missE + 1, missW := r.missW + 1
            probeRun := if r.probeSeen then r.probeRun else 0, probeSeen := false } : Ring).loopBack

/-- The SYNC payload (R240). -/
def Ring.syncPayload (r : Ring) : List Byte :=
  [byteOf r.syncVals, 0, 0, 0] ++ be 4 (BitVec.ofInt 32 r.offset).toNat
    ++ be 4 (BitVec.ofInt 32 r.ratePpb).toNat ++ [0, 0, 0, 0]

/-- A slot sent NULL although an entry was due is counted in `RUN` (R253, R257 .0C): one entry is due in each vital cycle. -/
def State.nullSlot (s : State) (c : Schedule) (x : SchedSlot) : State :=
  let r := s.ring
  let per := max 1 (s.dat.cycleMs / max 1 c.cycleMs)
  let last := (r.sentAt.find? (·.1 == x.slot)).map (·.2)
  let due := match last with | some n => (r.cycle - n) % per = 0 && n < r.cycle | none => false
  let r := if last.isNone then { r with sentAt := assocSet r.sentAt x.slot r.cycle } else r
  let r := if due && s.mstate == .run && (x.status || s.kernel.drives) then { r with nullDrop := r.nullDrop + 1 } else r
  ({ s with ring := r }).ringOut r.outPort 1 false x.slot []

/-- A slot that carries DATA or NULL (R253), DATA with SAFETY over the ring cycle it is sent in (R239; assumption 129). -/
def State.dataSlot (s : State) (c : Schedule) (x : SchedSlot) : State :=
  match s.ring.ready.find? (·.1 == x.slot) with
  | some (_, p) =>
    (s.modRing fun r => { r with ready := r.ready.filter (·.1 != x.slot), sentAt := assocSet r.sentAt x.slot r.cycle
                                 lastVseq := if x.status then beAt p 0 4 else r.lastVseq }).ringOut s.ring.outPort 0 false x.slot
      (p ++ be 4 (ringSafety s.ring.own x.slot s.ring.cycle c.id p).toNat)
  | none => s.nullSlot c x

/-- What goes with a key slot in a state in which the node sends: a heartbeat in `SYNCED`, and a PROBE out of the broken port (R249 to
R251). -/
def State.keyExtras (s : State) : State :=
  let r := s.ring
  let s := if r.state == .synced && !r.looped then s.ringOut .w 1 true r.keySlot [] else s
  if r.loopRole = 0 || !(r.state == .synced || r.state == .coldstart) then s
  else s.ringOut (if r.loopRole = 1 then .e else .w) 4 (r.loopRole = 2) r.keySlot
    (loopPayload 3 r.probeRun (if r.loopRole = 2 then r.openAt.getD 0 else 0))

/-- STRATUS_SLOT_START (R249, R253). -/
def execStratusSlotStart (slot : Nat) (s : State) : Host.Outcome State Fault Refusal :=
  .next (s.live fun s =>
    match s.ring.sched with
    | none => s
    | some c =>
      match c.slot slot with
      | none => s
      | some x =>
        if x.owner != s.ring.own then s
        else
          let sync := match c.node s.ring.own with | some n => n.sync | none => false
          let s := if x.key then (s.modRing Ring.keyStart).keyExtras else s
          match s.ring.state with
          | .synced =>
            if x.key && sync then s.ringOut s.ring.outPort 2 false slot s.ring.syncPayload else s.dataSlot c x
          | .coldstart =>
            if x.key then
              s.ringOut s.ring.outPort 3 false slot (byteOf s.ring.attempts :: List.replicate 15 0)
            else s
          | _ => s)

/-- STATUS_FRAME_SELF (R254): outside `RUN`, OWNER 0 and SAFE 1. -/
def execStatusFrameSelf (s : State) : Host.Outcome State Fault Refusal :=
  .next (s.live fun s =>
    if s.mstate == .run then s
    else match s.ring.sched.bind fun c => c.slots.find? fun x => x.owner == s.ring.own && x.status with
      | some x =>
        s.modRing fun r =>
          let v := (r.lastVseq + 1) % 2 ^ 32
          let p := be 4 v ++ [byteOf s.mstate.code, byteOf s.kernel.twin.role, 2, byteOf s.vital.ladder.code]
            ++ be 4 s.dat.stationId.toNat ++ [0, 0, 0, 0]
          { r with ready := r.ready.filter (·.1 != x.slot) ++ [(x.slot, p)], lastVseq := v }
      | none => s)

/-! ## States -/

/-- LISTEN_TIMEOUT (R249). -/
def execListenTimeout (s : State) : Host.Outcome State Fault Refusal :=
  .next (s.live fun s =>
    s.modRing fun r =>
    let cold := match r.sched.bind (·.node r.own) with | some n => n.cold | none => false
    if r.state == .listen && cold then
      { r with state := .coldstart, cycle := 0, keyDone := false, attempts := r.attempts + 1, coldCycles := 0, noReturn := 0, devEven := [], devOdd := [] }
    else r)

/-- CLOCK_CORRECTION (R248, R249). -/
def execClockCorrection (s : State) : Host.Outcome State Fault Refusal :=
  .next (s.live fun s => s.modRing fun r => if r.cycle % 2 = 1 then r.correct else r)

/-- COLDSTART_LIMIT (R249): three cycles without the node's own frame, or 32 cycles, send it back to `LISTEN`. -/
def execColdstartLimit (noReturn : Bool) (s : State) : Host.Outcome State Fault Refusal :=
  .next (s.live fun s =>
    s.modRing fun r => if r.state == .coldstart && (if noReturn then 3 ≤ r.noReturn else 32 ≤ r.coldCycles) then
      { r with state := .listen } else r)

/-- INTEGRATION_COMPLETE (R249): the end of the second complete double cycle, the one of the entry not counted. -/
def execIntegrationComplete (s : State) : Host.Outcome State Fault Refusal :=
  .next (s.live fun s =>
    s.modRing fun r =>
    if r.state == .integrating && 3 ≤ r.doubles && r.measured then { r with state := .synced, short := 0 } else r)

/-- INTEGRATION_LOST (R249): two cycles without an accepted SYNC or COLDSTART. -/
def execIntegrationLost (s : State) : Host.Outcome State Fault Refusal :=
  .next (s.live fun s => s.modRing fun r => if r.state == .integrating && 2 ≤ r.syncMiss then { r with state := .listen } else r)

/-- SILENT_REINTEGRATE (R249): at the end of the double cycle after the one that ended in `SILENT`; the next one is complete. -/
def execSilentReintegrate (s : State) : Host.Outcome State Fault Refusal :=
  .next (s.live fun s =>
    if s.ring.state == .silent && s.ring.cycle % 2 = 1 && s.ring.cycle != s.ring.silentAt then
      (s.modRing fun r => { r with state := .integrating, doubles := 1, measured := false, syncMiss := 0, echoes := [], devEven := []
                                   devOdd := [] }).askEcho
    else s)

/-! ## Breaks -/

/-- LINK_BREAK (R250): no valid frame at the port in two cycles; the node acts on it from the start of its next cycle. -/
def execLinkBreak (port : RingPort) (s : State) : Host.Outcome State Fault Refusal :=
  .next (s.live fun s =>
    s.modRing fun r =>
    if r.sched.isNone || r.loopRole != 0 || r.breakAt.isSome || (match port with | .e => r.missE | .w => r.missW) < 2 then r
    else { r with breakAt := some port })

/-- LOOP_OPEN (R251). -/
def execLoopOpen (s : State) : Host.Outcome State Fault Refusal :=
  .next (s.live fun s =>
    s.modRing fun r =>
    match r.openAt with
    | some n =>
      if r.loopRole != 0 && n ≤ r.cycle + 1 then
        { r with loopRole := 0, openAt := none, probeRun := 0, probeSeen := false, peerRun := 0
                 loopE := if r.loopE = some r.own then none else r.loopE
                 loopW := if r.loopW = some r.own then none else r.loopW }
      else r
    | none => r)

/-- GUARDIAN_TRUNCATION (R246): a frame of another node, in a state in which the node guards. -/
def execGuardianTruncation (node : Nat) (s : State) : Host.Outcome State Fault Refusal :=
  .next (s.live fun s =>
    s.modRing fun r => if r.guards && node != r.own then { r with truncations := r.truncations + 1 } else r)

/-- STRATUS_PORT_LINK_CHANGE (R237). -/
def execStratusPortLinkChange (port : RingPort) (up : Bool) (s : State) : Host.Outcome State Fault Refusal :=
  .next (s.live fun s =>
    s.modRing fun r => match port with | .e => { r with portE := up } | .w => { r with portW := up })

end Sys2Proof.Machine
end

