-- ==== Sys2Proof/Machine/TimeOps.lean ====
section
/-! DEFINITION. Device time: its advance, the time-stamp units, the usable sources and their selection (R308 to
R315). -/

namespace Sys2Proof.Machine

/-- Device time `n` nanoseconds later (R308); a negative result stays at 0. -/
def DTime.add (t : DTime) (n : Int) : DTime :=
  let total := (t.nanos : Int) + n
  ⟨total.toNat / 1000000000, total.toNat % 1000000000⟩

/-- The part of the offset still to be slewed that one millisecond corrects: at most 100 us per second (R313). -/
def Time.slewMs (t : Time) : Int := max (-100) (min 100 t.slew)

/-- The thousandths of a nanosecond one millisecond of CLK_SVC comes to: the rate correction, in parts per 10^9, is added (R313). -/
def Time.msFine (t : Time) : Int := 1000000000 + t.rate + t.frac

/-- One millisecond of CLK_SVC passes: device time runs on with its rate correction and the slew (R308, R313). -/
def Time.msOn (t : Time) : Time :=
  { t with now := t.now.add (t.msFine / 1000 + t.slewMs), frac := (t.msFine % 1000).toNat, slew := t.slew - t.slewMs }

/-- A unit's stamps extended by the midpoint rule (R310): the extended count, none when the stamp is refused. The
unit's counter now is estimated from its last snapshot. -/
def TsuSt.extend (t : TsuSt) (stamp : W32) (ms : Nat) : Option Int :=
  let gone : Nat := (ms - t.lastMs) * 1000000
  let cNow : W32 := t.counter + BitVec.ofNat 32 gone
  let eNow : Nat := t.wraps * 2 ^ 32 + t.counter.toNat + gone
  let d := (stamp - cNow).toInt
  if d < -2000000000 || d > 1000000 then none else some (Int.ofNat eNow + d)

/-- SVC extends a stamp of a valid unit, or counts it as refused (R309, R310); the stamps of an invalid unit are not used. -/
def State.stamp (s : State) (t : TsuSt) (stamp : W32) : State × Bool :=
  if !t.valid then (s, false)
  else if (t.extend stamp s.svc.ms).isSome then (s, true)
  else ({ s with time := { s.time with rejects := s.time.rejects + 1 } }, false)

/-- The device time of an extended count (R309): from the last snapshot on, at the rate the last two give. -/
def TsuSt.deviceAt (t : TsuSt) (stamp : W32) (ms : Nat) : DTime :=
  match t.extend stamp ms with
  | some e =>
    let d : Int := e - (t.wraps * 2 ^ 32 + t.counter.toNat : Nat)
    t.devAt.add (if t.gone = 0 then d else (d * t.devGone).tdiv t.gone)
  | none => DTime.zero

/-- A source's priority, 1 highest; NONE below all (R311). -/
def prio : TimeSource → Nat
  | .ptpA => 1 | .ptpB => 2 | .can => 3 | .calendar => 4 | .none => 5

/-- The mask bit of a source in 0x2A80.01 (R321). -/
def State.permitted (s : State) (src : TimeSource) : Bool := bitAt (pstNat s.pstLive 0x2A80 1 0x0F) (prio src - 1)

/-- A network's clock is usable (R311). -/
def NetSide.ptpUsable (n : NetSide) : Bool := n.ptpState == .slave && n.goodSyncs ≥ 16

/-- Whether a source is usable (R311). -/
def State.usable (s : State) (src : TimeSource) : Bool :=
  s.permitted src && match src with
    | .ptpA => s.nets.a.ptpUsable
    | .ptpB => s.nets.b.ptpUsable
    | .can =>
      s.can.role != .master && match s.can.pairMs with
        | some p => s.svc.ms ≤ p + 3 * pstNat s.pstLive 0x2980 9 10
        | none => false
    | .calendar => s.time.calValid
    | .none => false

/-- SVC keeps since when each source has been usable, and since when the selected one has not (R312). -/
def State.track (s : State) : State :=
  let now := s.svc.ms
  let us := [TimeSource.ptpA, .ptpB, .can, .calendar].filterMap fun x =>
    if s.usable x then some (x, match s.time.usableMs.find? (·.1 = x) with | some p => p.2 | none => now) else none
  { s with time := { s.time with
      usableMs := us
      lostMs := if s.time.source == .none || s.usable s.time.source then none
                else match s.time.lostMs with | some m => some m | none => some now } }

/-- Since when a source has been usable without a break. -/
def State.usableFor (s : State) (src : TimeSource) : Option Nat :=
  (s.time.usableMs.find? (·.1 = src)).map fun p => s.svc.ms - p.2

/-- A source is selected (R312): the change is recorded and counted. A master on CAN whose own time it ends goes `BACKUP` (R295). -/
def State.selectSource (s : State) (src : TimeSource) : State :=
  if src = s.time.source then s
  else
    let ptp := if isPtp src then (match s.time.ptpMs with | some m => some m | none => some s.svc.ms) else none
    (({ s with time := { s.time with source := src, switches := s.time.switches + 1, ptpMs := ptp, lostMs := none
                                     slew := 0 } }).record 4 src.code 0).roleCheck

/-- Device time is set to `t`: a step (R313), counted and recorded at the new time with the old one in V0 to V3. -/
def State.stepTime (s : State) (t : DTime) : State :=
  let o := s.time.now
  let v := fun (n : Nat) => some (BitVec.ofNat 32 n : W32)
  ({ s with time := { s.time with now := t, steps := s.time.steps + 1 } }).recordVals 3 0 0
    [v o.ns, v o.s, v (o.s / 2 ^ 32), v 0, none, none, none, none]

end Sys2Proof.Machine
end

