-- ==== Sys2Proof/Machine/TimeCmds.lean ====
section
/-! DEFINITION. The commands of device time and the calendar clock (R309 to R321). -/

namespace Sys2Proof.Machine

/-- The mapping of a time-stamp unit. -/
def Time.tsu (t : Time) : Tsu → TsuSt
  | .na => t.na | .nb => t.nb | .can => t.can | .svc => t.svc

/-- The mapping of a time-stamp unit replaced. -/
def Time.setTsu (t : Time) (u : Tsu) (x : TsuSt) : Time :=
  match u with
  | .na => { t with na := x } | .nb => { t with nb := x } | .can => { t with can := x } | .svc => { t with svc := x }

/-- A unit's snapshot (R309), whose arrival SVC stamps: a counter value of 0 is a wrap; two consecutive snapshots make the stamps
valid and give the unit's rate to device time, which runs at `ppb` against CLK_SVC. -/
def TsuSt.snapshot (t : TsuSt) (counter arrival : W32) (ms : Nat) (now : DTime) (ppb : Int) : TsuSt :=
  { valid := t.run ≥ 1, run := t.run + 1, wraps := if counter = 0 then t.wraps + 1 else t.wraps
    counter := counter, arrival := arrival, lastMs := ms
    devAt := now
    devGone := if t.run ≥ 1 then (((arrival - t.arrival).toNat : Int) * (1000000000 + ppb) / 1000000000).toNat else 0
    gone := if t.run ≥ 1 then (counter - t.counter).toNat else 0 }

/-- TSU_SNAPSHOT (R309). -/
def execTsuSnapshot (u : Tsu) (counter arrival : W32) (s : State) : Host.Outcome State Fault Refusal :=
  .next (s.live fun s =>
    { s with time := s.time.setTsu u ((s.time.tsu u).snapshot counter arrival s.svc.ms s.time.now (s.time.rate + 1000 * s.time.slewMs)) })

/-- SNAPSHOT_TIMEOUT (R309): no snapshot for 1 s; recorded under 0x1C1 (assumption 12). -/
def execSnapshotTimeout (u : Tsu) (s : State) : Host.Outcome State Fault Refusal :=
  .next (s.live fun s =>
    let t := s.time.tsu u
    if t.run ≥ 1 && t.lastMs + 1000 ≤ s.svc.ms then
      ({ s with time := s.time.setTsu u { t with valid := false, run := 0 } }).raise 0x1C1
    else s)

/-- A new measurement from the selected source (R313): a step beyond 1 ms, else a slew of the offset.
The rate correction SVC derives is a free value (assumption 19). -/
def timeMeasurement (offsetNs : Int) (s : State) : State :=
  if s.time.source = .none then s
  else
    let n := s.svc.fresh
    let s := { s with svc := { s.svc with fresh := n + 1 }
                      time := { s.time with offset := offsetNs, rate := Config.rateCorr n } }
    if offsetNs > 1000000 || offsetNs < -1000000 then
      let s := s.stepTime (s.time.now.add (-offsetNs))
      { s with time := { s.time with slew := 0 } }
    else { s with time := { s.time with slew := -offsetNs } }

/-- TIME_MEASUREMENT (R313). -/
def execTimeMeasurement (offsetNs : Int) (s : State) : Host.Outcome State Fault Refusal :=
  .next (s.live fun s => timeMeasurement offsetNs s)

/-- The source SVC takes when the hold of the selected one ends (R312). -/
def State.nextSource (s : State) : TimeSource :=
  let ok := fun (x : TimeSource) => s.usable x &&
    (prio s.time.source < prio x || (match s.usableFor x with | some m => 10000 ≤ m | none => false))
  ([TimeSource.ptpA, .ptpB, .can, .calendar].find? ok).getD .none

/-- SOURCE_HOLD_EXPIRY (R312): the selected source has been unusable for 2 s. -/
def execSourceHoldExpiry (s : State) : Host.Outcome State Fault Refusal :=
  .next (s.live fun s =>
    let s := s.track
    match s.time.lostMs with
    | some m => if m + 2000 ≤ s.svc.ms then s.selectSource s.nextSource else s
    | none => s)

/-- SOURCE_QUALIFIED (R312): a higher-priority source has been usable for 10 s. -/
def execSourceQualified (src : TimeSource) (s : State) : Host.Outcome State Fault Refusal :=
  .next (s.live fun s =>
    let s := s.track
    match s.usableFor src with
    | some m => if 10000 ≤ m && prio src < prio s.time.source then s.selectSource src else s
    | none => s)

/-- CALENDAR_COMPARE (R315): while the source is PTP or CAN, the calendar is reset beyond 61 us. -/
def execCalendarCompare (calendarNs : Nat) (s : State) : Host.Outcome State Fault Refusal :=
  .next (s.live fun s =>
    let now := s.time.now.nanos
    let far := calendarNs + 61000 < now || now + 61000 < calendarNs
    if (isPtp s.time.source || s.time.source == .can) && far then
      { s with time := { s.time with calendar := now, calValid := true } }
    else { s with time := { s.time with calendar := calendarNs } })

/-- A signed value of two bytes, little-endian. -/
def le2s (n : Int) : List Byte := le 2 (BitVec.ofInt 16 n).toNat

/-- AUTO_CALIBRATION (R315): with AUTO_CAL set and PTP selected for 4,096 s, the trim is written, in 0.1 ppm, within
its range. -/
def execAutoCalibration (rateErr : Int) (s : State) : Host.Outcome State Fault Refusal :=
  .next (s.live fun s =>
    match s.time.ptpMs with
    | some m =>
      if m + 4096000 ≤ s.svc.ms && pstNat s.pst 0x2A80 3 1 = 1 then
        let s := s.pstWrite 0x2A80 2 (le2s (max (-300) (min 300 rateErr)))
        { s with time := { s.time with trimmed := true, ptpMs := some s.svc.ms } }
      else s
    | none => s)

/-- SET_TIME (R321): accepted at EXPERT while the source is CALENDAR or NONE. -/
def execSetTime (cl : Client) (ns sec : Nat) (s : State) : Host.Outcome State Fault Refusal :=
  .next (s.live fun s =>
    s.write cl .expert true (ns < 1000000000 && sec < 2 ^ 48) fun s =>
    if s.time.source = .calendar || s.time.source = .none then
      let s := s.stepTime ⟨sec, ns⟩
      ({ s with time := { s.time with calendar := (DTime.nanos ⟨sec, ns⟩), calValid := true } }).accept cl
    else s.abort cl 0x08000020)

end Sys2Proof.Machine
end

