-- ==== Sys2Proof/Machine/NetRows.lean ====
section
/-! DEFINITION. Networks A and B: the internal switch, addresses, PTP, the prefilter and the pairing of received copies,
and the egress engines (R65, R260 to R274, R279). -/

namespace Sys2Proof.Machine

/-! ## Access -/

/-- A network. -/
def Nets.side (n : Nets) : Net → NetSide | .a => n.a | .b => n.b

/-- A network changed. -/
def State.modNet (s : State) (net : Net) (f : NetSide → NetSide) : State :=
  match net with
  | .a => { s with nets := { s.nets with a := f s.nets.a } }
  | .b => { s with nets := { s.nets with b := f s.nets.b } }

/-- The number of a network. -/
def netNo : Net → Nat | .a => 0 | .b => 1

/-- The maintenance address of the module on a network, 0 when none is set (R264, R286). -/
def State.maintIp (s : State) (net : Net) : Nat := pstNat s.pstLive 0x2880 (1 + netNo net) 0

/-- The address safe telegrams use on a network (R264): none while a twin module does not hold the service address. -/
def State.telIp (s : State) (net : Net) : Option Nat :=
  if s.life.position = 0 then some (s.maintIp net)
  else if (s.nets.side net).service && s.serviceIp net != 0 then some (s.serviceIp net) else none

/-! ## The internal switch -/

/-- The speed of an external port: 0 down, 1 100BASE-TX, 2 1000BASE-T (R284). -/
def NetSide.port (n : NetSide) (p : Nat) : Nat := if p = 1 then n.port1 else n.port2

/-- ETHERNET_LINK_CHANGE (R260, R286 .0D): a forced port runs no faster than 100BASE-TX. -/
def execEthernetLinkChange (net : Net) (port speed : Nat) (s : State) : Host.Outcome State Fault Refusal :=
  .next (s.live fun s =>
    let forced := bitAt (pstNat s.pstLive 0x2880 13 0) (2 * netNo net + (port - 1))
    let v := min speed (if forced then 1 else 2)
    s.modNet net fun n => if port = 1 then { n with port1 := v } else if port = 2 then { n with port2 := v } else n)

/-- A source address is learned (R261): a full table learns no further one. -/
def NetSide.learn (n : NetSide) (mac port now : Nat) : NetSide :=
  let rest := n.macs.filter (·.mac != mac)
  if bitAt mac 40 || 1024 ≤ rest.length then n
  else { n with macs := rest ++ [⟨mac, port, now⟩] }

/-- MAC_AGEING (R261): 300 s after the address was last seen. -/
def execMacAgeing (net : Net) (mac : Nat) (s : State) : Host.Outcome State Fault Refusal :=
  .next (s.live fun s => s.modNet net fun n =>
    { n with macs := n.macs.filter fun (x : MacEntry) => !(x.mac == mac && x.since + 300000 ≤ s.svc.ms) })

/-- The group frames a port has taken in the second, with their limit of 2,000 (R261). -/
def NetSide.group (n : NetSide) (port sec : Nat) : NetSide × Bool :=
  let n := if n.bcastSec = sec then n else { n with bcastSec := sec, bcast := [] }
  let c := lookupD n.bcast port
  if c < 2000 then ({ n with bcast := assocSet n.bcast port (c + 1) }, true)
  else ({ n with discards := n.discards + 1 }, false)

/-- The broadcast address. -/
def macBroadcast : Nat := 2 ^ 48 - 1

/-- A frame goes out of the other external port, when that is up (R261, R263). -/
def State.forwardEth (s : State) (net : Net) (port : Nat) (f : EthFrame) : State :=
  let n := s.nets.side net
  let other := 3 - port
  if n.port other = 0 then s
  else
    let cut := 6 ≤ f.pcp && n.port 1 = 2 && n.port 2 = 2 && f.idle
    let s := if cut then s.modNet net fun n => { n with cut := n.cut + 1, resMax := max n.resMax f.resNs } else s
    if f.fcsOk then s.emit (.eth net other f)
    else if cut then (s.modNet net fun n => { n with discards := n.discards + 1 }).emit (.eth net other f)
    else s.modNet net fun n => { n with discards := n.discards + 1 }

/-- A frame that goes to the internal port (R261). -/
def State.toInternal (s : State) (net : Net) (f : EthFrame) : State :=
  if f.fcsOk then s.emit (.toEngine net f) else s

/-- A group frame: broadcast and PTP multicast reach the NET engine as well (R261). -/
def State.groupEth (s : State) (net : Net) (port : Nat) (f : EthFrame) : State :=
  let s := if f.dst = macBroadcast || f.ptp then s.toInternal net f else s
  let (n, ok) := (s.nets.side net).group port (s.svc.ms / 1000)
  let s := s.modNet net fun _ => n
  if ok then s.forwardEth net port f else s

/-- A frame enters an external port of the switch (R260, R261, R263). -/
def ethFrame (net : Net) (port : Nat) (f : EthFrame) (s : State) : State :=
  let n := s.nets.side net
  if !s.supply.on || (port != 1 && port != 2) || n.port port = 0 || f.pause then s
  else if 1522 < f.len then s.modNet net fun n => { n with discards := n.discards + 1 }
  else
    let s := if f.fcsOk then s.modNet net (·.learn f.src port s.svc.ms) else s
    if bitAt f.dst 40 then s.groupEth net port f
    else if f.dst = Config.mac (netNo net) then
      (if f.fcsOk then s.toInternal net f else s.modNet net fun n => { n with discards := n.discards + 1 })
    else match (s.nets.side net).macs.find? (·.mac == f.dst) with
      | some x => if x.port = port then s else s.forwardEth net port f
      | none => s.forwardEth net port f

/-- ETHERNET_FRAME_FORWARD (R261, R263). -/
def execEthernetFrameForward (net : Net) (port : Nat) (f : EthFrame) (s : State) : Host.Outcome State Fault Refusal :=
  .next (s.live fun s => ethFrame net port f s)

/-! ## ARP and ICMP -/

/-- ARP_REQUEST (R264, R265): answered for the maintenance address, and for the service address while it is held. -/
def execArpRequest (net : Net) (ip : W32) (s : State) : Host.Outcome State Fault Refusal :=
  .next (s.live fun s =>
    let own := ip.toNat != 0 &&
      (ip.toNat = s.maintIp net || ((s.nets.side net).service && ip.toNat = s.serviceIp net))
    if own then s.emit (.arp net ip) else s)

/-- ICMP_ECHO (R265): on maintenance addresses only, at most ten replies per second. -/
def execIcmpEcho (net : Net) (ip : W32) (s : State) : Host.Outcome State Fault Refusal :=
  .next (s.live fun s =>
    let n := s.nets.side net
    let sec := s.svc.ms / 1000
    let cnt := if n.icmpSec = sec then n.icmp else 0
    if ip.toNat != 0 && ip.toNat = s.maintIp net && cnt < 10 then
      (s.modNet net fun n => { n with icmpSec := sec, icmp := cnt + 1 }).emit (.icmp net ip)
    else s)

/-- GRATUITOUS_ARP_REPEAT (R264): the second and the third request, 10 ms apart. -/
def execGratuitousArpRepeat (net : Net) (s : State) : Host.Outcome State Fault Refusal :=
  .next (s.live fun s =>
    let n := s.nets.side net
    if n.service && 0 < n.garpLeft && s.serviceIp net != 0 && n.garpAt + 10 ≤ s.svc.ms then
      (s.modNet net fun n => { n with garpLeft := n.garpLeft - 1, garpAt := s.svc.ms }).emit (.garp net (BitVec.ofNat 32 (s.serviceIp net)))
    else s)

/-! ## PTP -/

/-- The time-stamp unit of a network (R309). -/
def netTsu (s : State) : Net → TsuSt | .a => s.time.na | .b => s.time.nb

/-- An offset from the master, measured by a Sync (R311): one within 1,000 ns continues the run. -/
def NetSide.offset (n : NetSide) (ns : Int) : NetSide :=
  { n with ptpOffset := ns, syncSeq := none, goodSyncs := if ns.natAbs ≤ 1000 then n.goodSyncs + 1 else 0 }

/-- An Announce (R266): the best master is followed, first `UNCALIBRATED`. -/
def NetSide.announce (n : NetSide) (master : Nat) (better utcValid : Bool) (utcOffset : Int) : NetSide :=
  match n.master with
  | some m =>
    if m = master then { n with utcValid := utcValid, utcOffset := utcOffset }
    else if better then
      { n with master := some master, utcValid := utcValid, utcOffset := utcOffset, ptpState := .uncalibrated
               goodSyncs := 0, syncSeq := none }
    else n
  | none =>
    { n with master := some master, utcValid := utcValid, utcOffset := utcOffset, ptpState := .uncalibrated, goodSyncs := 0
             syncSeq := none }

/-- A PTP message reaches the ordinary clock (R266); the first delay answer makes it `SLAVE` (assumption 36). -/
def NetSide.slave (n : NetSide) (m : PtpMsg) : NetSide :=
  match m with
  | .announce p better uv uo => n.announce p better uv uo
  | .sync p q two off => if n.master = some p then (if two then { n with syncSeq := some q } else n.offset off) else n
  | .followUp p q off => if n.master = some p && n.syncSeq = some q then n.offset off else n
  | .delayResp p _ _ =>
    if n.master = some p && n.ptpState == .uncalibrated then { n with ptpState := .slave } else n
  | _ => n

/-- The clock asks for a delay after each Sync of its master (R266). -/
def NetSide.asksDelay (n : NetSide) (m : PtpMsg) : Bool :=
  match m with
  | .sync p _ _ _ => n.master == some p
  | _ => false

/-- The ordinary clock reads a message of its domain over its transport (R266, R286 .0B, .0C). -/
def State.ptpOwn (s : State) (x : PtpIn) : Bool :=
  x.domain == pstNat s.pstLive 0x2880 11 0 && x.ieee == (pstNat s.pstLive 0x2880 12 0 == 1)

/-- PTP_SLAVE_MESSAGE (R266, R310): a Sync or a delay answer whose stamp SVC refuses is not used. -/
def execPtpSlaveMessage (net : Net) (x : PtpIn) (stamp : W32) (s : State) : Host.Outcome State Fault Refusal :=
  .next (s.live fun s =>
    let m := x.msg
    if !s.ptpOwn x then s
    else
    let ev := match m with | .sync _ _ _ _ => true | .delayResp _ _ _ => true | _ => false
    let (s, ok) := if ev then s.stamp (netTsu s net) stamp else (s, true)
    if ok then
      let ask := (s.nets.side net).asksDelay m
      let s := s.modNet net (·.slave m)
      if ask then s.emit (.delayReq net) else s
    else s)

/-- ANNOUNCE_RECEIPT_TIMEOUT (R266): no Announce of the master has come; the clock listens again. -/
def execAnnounceReceiptTimeout (net : Net) (s : State) : Host.Outcome State Fault Refusal :=
  .next (s.live fun s =>
    s.modNet net fun n => { n with ptpState := .listening, master := none, goodSyncs := 0, syncSeq := none })

/-- A residence time in the units of correctionField (R267). -/
def correction (ns : Nat) : Nat := ns * 2 ^ 16

/-- A two-step residence is held (R267): at most 16 per port pair, the oldest giving way (assumption 131). -/
def NetSide.hold (n : NetSide) (r : Residence) : NetSide :=
  let mine := n.residences.filter (·.from_ == r.from_)
  let drop := if 16 ≤ mine.length then mine.head? else none
  { n with residences := (n.residences.filter fun (x : Residence) =>
      !(some x == drop) && !(x.from_ == r.from_ && x.port == r.port && x.seq == r.seq)) ++ [r] }

/-- The transparent clock forwards a message (R267, R268): what it adds to correctionField. -/
def ptpForward (net : Net) (m : PtpIn) (ns : Nat) (s : State) : State :=
  let from_ := m.inPort
  let m := m.msg
  match m with
  | .sync p q true _ => (s.modNet net (·.hold ⟨from_, s.svc.ms, p, q, ns⟩)).emit (.ptp net m 0)
  | .sync _ _ false _ => s.emit (.ptp net m (correction ns))
  | .delayReq _ _ => s.emit (.ptp net m (correction ns))
  | .followUp p q _ =>
    match (s.nets.side net).residences.find? fun x => x.from_ == from_ && x.port == p && x.seq == q with
    | some x =>
      (s.modNet net fun n => { n with residences := n.residences.filter (· != x) }).emit (.ptp net m (correction x.ns))
    | none => (s.modNet net fun n => { n with fuUnmatched := n.fuUnmatched + 1 }).emit (.ptp net m 0)
  | _ => s.emit (.ptp net m 0)

/-- PTP_TC_FORWARD (R267, R268). -/
def execPtpTcForward (net : Net) (m : PtpIn) (residenceNs : Nat) (s : State) : Host.Outcome State Fault Refusal :=
  .next (s.live fun s => ptpForward net m residenceNs s)

/-- RESIDENCE_HOLD_EXPIRY (R267): a residence is held for 1 s. -/
def execResidenceHoldExpiry (net : Net) (port seq : Nat) (s : State) : Host.Outcome State Fault Refusal :=
  .next (s.live fun s =>
    s.modNet net fun n =>
    { n with residences := n.residences.filter fun (x : Residence) =>
        !(x.port == port && x.seq == seq && x.since + 1000 ≤ s.svc.ms) })

/-! ## Received telegrams -/

/-- The partner whose copy a telegram is (R273 check 2). -/
def State.sender (s : State) (net : Net) (dg : Datagram) : Option Partner :=
  s.dat.partners.find? fun p =>
    p.id == dg.tel.srcId && dg.srcIp == (match net with | .a => p.ipA | .b => p.ipB) && dg.tel.dstId == s.dat.stationId

/-- The checks of R273, in their order: the partner of a valid copy. SC_C is the check-value unit's, when the copy
reaches it. -/
def State.prefilter (s : State) (net : Net) (dg : Datagram) : State × Option Partner :=
  let t := dg.tel
  if dg.port != pstNat s.pstLive 0x2880 9 30712 || s.telIp net != some dg.dstIp.toNat then (s, none)
  else match s.sender net dg with
    | none => (s, none)
    | some p =>
      if t.version != 1 || p.maxPayload < t.payload.length || !t.wire then (s, none)
      else
        let (s, v) := s.cvuCompute (2 * netNo net) (telBytes t)
        if v = some (t.scC.setWidth 64) && t.scH == crc32h (telBody t) && tagOk s.pstLive p t then (s, some p) else (s, none)

/-- A key of the pairing table is completed as single-path (R274, R285 .0A). -/
def State.singlePath (s : State) (k : PairKey) : State :=
  let s := { s with nets := { s.nets with single := s.nets.single + 1 } }
  match s.kernel.sessOf k.partner with
  | some (n, x) =>
    if x.sid = k.session then { s with kernel := s.kernel.modSess n fun x => { x with single := x.single + 1 } } else s
  | none => s

/-- A key enters the pairing table (R274): in a full table the oldest key is completed first. -/
def State.addKey (s : State) (k : PairKey) : State :=
  let s := match s.nets.keys with
    | old :: rest =>
      if 2048 ≤ s.nets.keys.length then
        let s := { s with nets := { s.nets with keys := rest } }
        if old.second || old.done then s else s.singlePath old
      else s
    | [] => s
  { s with nets := { s.nets with keys := s.nets.keys ++ [k] } }

/-- The session index the NET engines have associated with a partner (R272). -/
def State.boundOf (s : State) (net : Net) (partner : Nat) : Option Nat :=
  ((s.nets.side net).binds.find? (·.partner == partner)).map (·.index)

/-- DISC MODULE_SAFE on a CONN_REQ outside `RUN` (R279); its SEQ is a free value (assumption 37). -/
def State.refuseConn (s : State) (net : Net) (p : Partner) (t : Telegram) : State :=
  let seq := Config.freeNat (2 * (s.nets.side net).rxValid + netNo net)
  (s.modNet net fun n => { n with txTel := n.txTel + 1 }).emit
    (.telegram net p.index (telBytes (safeDisc s.pstLive p s.dat.stationId t.session seq t.seq t.timeMs)))

/-- The first copy of a telegram is routed (R274, R279). -/
def State.routeCopy (s : State) (net : Net) (p : Partner) (t : Telegram) : State :=
  if s.mstate != .run then (if t.typ = 1 then s else { s with nets := { s.nets with unbound := s.nets.unbound + 1 } })
  else match s.boundOf net p.index with
    | some i => s.newEntry (match net with | .a => .netA | .b => .netB) ⟨i, t.seq, .tel t⟩
    | none =>
      if t.typ = 1 then s.svcEntry (.connReq p.index t)
      else { s with nets := { s.nets with unbound := s.nets.unbound + 1 } }

/-- A valid copy meets the pairing table (R274). The table has rows for two copies: a third does nothing (assumption 132). -/
def State.pairCopy (s : State) (net : Net) (p : Partner) (t : Telegram) : State :=
  let mine := fun (k : PairKey) => k.partner == p.index && k.session == t.session && k.seq == t.seq
  match s.nets.keys.find? mine with
  | none => (s.addKey ⟨s.svc.ms, p.index, t.session, t.seq, t, false, false⟩).routeCopy net p t
  | some k =>
    let l := s.nets.keys.map fun (x : PairKey) => if mine x then { x with second := true } else x
    let s' := { s with nets := { s.nets with keys := l } }
    if k.second then s
    else if k.done then { s' with nets := { s'.nets with late := s'.nets.late + 1 } }
    else if k.tel = t then { s' with nets := { s'.nets with dual := s'.nets.dual + 1 } }
    else s'.svcEntry (.mismatch p.index)

/-- A datagram reaches a NET engine (R265, R273, R274); outside `RUN` each engine answers every valid CONN_REQ itself (R279). -/
def netDatagram (net : Net) (dg : Datagram) (s : State) : State :=
  if dg.frag || dg.opts || !dg.sumOk then s.modNet net fun n => { n with discards := n.discards + 1 }
  else match s.prefilter net dg with
    | (s, none) => s.modNet net fun n => { n with rejects := n.rejects + 1 }
    | (s, some p) =>
      let s := s.modNet net fun n => { n with rxValid := n.rxValid + 1 }
      (if s.mstate != .run && dg.tel.typ = 1 then s.refuseConn net p dg.tel else s).pairCopy net p dg.tel

/-- NET_DATAGRAM_RECEIVE (R265, R273, R274). -/
def execNetDatagramReceive (net : Net) (dg : Datagram) (s : State) : Host.Outcome State Fault Refusal :=
  .next (s.live fun s => netDatagram net dg s)

/-- SKEW_TIMER_EXPIRY (R274): the skew window of a key, SKEW_MS of its partner, ends. -/
def execSkewTimerExpiry (partner session seq : Nat) (s : State) : Host.Outcome State Fault Refusal :=
  .next (s.live fun s =>
    let mine := fun (k : PairKey) => k.partner == partner && k.session == session && k.seq == seq
    match s.nets.keys.find? mine with
    | some k =>
      if k.done || (match s.dat.partner partner with | some p => s.svc.ms < k.since + p.skewMs | none => false) then s
      else
        let l := s.nets.keys.map fun (x : PairKey) => if mine x then { x with done := true } else x
        let s := { s with nets := { s.nets with keys := l } }
        if k.second then s else s.singlePath k
    | none => s)

/-! ## Egress -/

/-- The queue of an egress engine (R65). -/
def Nets.egress (n : Nets) : Egress → List EgEntry
  | .netA => n.egA | .netB => n.egB | .str => n.egStr | .twin => n.egTwin

/-- The queue of an egress engine replaced. -/
def Nets.setEgress (n : Nets) (e : Egress) (l : List EgEntry) : Nets :=
  match e with
  | .netA => { n with egA := l } | .netB => { n with egB := l } | .str => { n with egStr := l } | .twin => { n with egTwin := l }

/-- What a NET engine keeps of the telegram of an entry (R272, R279). -/
def bindOf (e : List Byte) (index : Nat) : Bind :=
  ⟨index, beAt e 0 2, beAt e 16 2, beAt e 20 4, beAt e 24 4, beAt e 32 4⟩

/-- The associations of a NET engine after an entry (R272). -/
def NetSide.associate (n : NetSide) (e : List Byte) : NetSide :=
  let p := beAt e 0 2
  let b := (byteAt e 3).toNat
  let old := n.binds.find? (·.partner == p)
  let rest := n.binds.filter (·.partner != p)
  let kept := if bitAt b 0 then [bindOf e (byteAt e 2).toNat]
              else match old with | some x => (if e.length ≤ 4 then [x] else [bindOf e x.index]) | none => []
  { n with binds := if bitAt b 1 then rest else rest ++ kept }

/-- A NET engine sends a confirmed entry (R272): its SC_C is checked by CVU1 or CVU3; an entry without a telegram changes
the association only. -/
def State.sendEntry (s : State) (net : Net) (e : List Byte) : State :=
  if e.length ≤ 4 then s.modNet net (·.associate e)
  else
    let (s, v) := s.cvuCompute (1 + 2 * netNo net) e
    if v = some (BitVec.ofNat 64 (beAt e (36 + beAt e 6 2) 4)) then
      (s.modNet net fun n => { n.associate e with txTel := n.txTel + 1 }).emit (.telegram net (beAt e 0 2) (e.drop 4))
    else s.modNet net fun n => { n with egressFail := n.egressFail + 1 }

/-- A Veneer frame in the units of the twin link, each through CVU6 (R324). -/
def State.sendVeneer (s : State) (e : List Byte) : State :=
  let n := (e.length + 4095) / 4096
  let (s, crcs) := (List.range n).foldl (fun (p : State × List (List Byte)) i =>
    let (s, v) := p.1.cvuAppend 6 (slice e (4096 * i) 4096)
    (s, p.2 ++ v.toList)) (s, [])
  let s := { s with twin := { s.twin with sent := beAt e 4 4 } }
  if crcs.length = n then s.emit (.veneer e crcs) else s

/-- A confirmed entry is transmitted (R65, R253, R272, R328). -/
def State.transmit (s : State) (eng : Egress) (e : List Byte) : State :=
  match eng with
  | .netA => s.sendEntry .a e
  | .netB => s.sendEntry .b e
  | .str =>
    let slot := (byteAt e 0).toNat
    s.modRing fun r => { r with ready := r.ready.filter (·.1 != slot) ++ [(slot, e.drop 1)] }
  | .twin => s.sendVeneer e

/-- The engine has read an entry out of a channel's queue (R12, R13). -/
def Channel.readEgress (c : Channel) (eng : Egress) (e : List Byte) : Channel := { c with egress := c.egress.erase (eng, e) }

/-- An entry a voting channel wrote into an egress queue reaches the engine (R65): the second identical copy has it
transmitted, once. -/
def egressEntry (eng : Egress) (ch : Ch) (e : List Byte) (s : State) : State :=
  if s.mstate != .run || (s.ch ch).role != .voting then s
  else
    let s := s.modCh ch fun c => c.readEgress eng e
    let cyc := s.vital.cycle
    let q := (s.nets.egress eng).filter fun (x : EgEntry) => x.cycle == cyc || !x.sent
    match q.find? fun (x : EgEntry) => x.cycle == cyc && x.data == e with
    | none => { s with nets := s.nets.setEgress eng (q ++ [⟨e, [ch], false, cyc⟩]) }
    | some x =>
      if x.writers.contains ch then s
      else
        let s := { s with nets := s.nets.setEgress eng (q.map fun (y : EgEntry) =>
                    if y.cycle == cyc && y.data == e then { y with writers := ch :: y.writers, sent := true } else y) }
        if x.sent then s else s.transmit eng e

/-- EGRESS_ENTRY (R65). -/
def execEgressEntry (eng : Egress) (ch : Ch) (entry : List Byte) (s : State) : Host.Outcome State Fault Refusal :=
  .next (s.live fun s => egressEntry eng ch entry s)

/-- The source of an egress engine (R340). -/
def egressSrc : Egress → Nat | .netA => 0x60 | .netB => 0x61 | .str => 0x62 | .twin => 0x63

/-- The senders' P5 has ended (R65): an entry without a matching second copy is dropped. -/
def egressTimeout (eng : Egress) (s : State) : State :=
  let q := s.nets.egress eng
  let lost := q.filter fun (x : EgEntry) => !x.sent
  if lost.isEmpty then s
  else
    let s := { s with nets := s.nets.setEgress eng (q.filter (·.sent)) }
    let net := match eng with | .netA => true | .netB => true | _ => false
    let s := if net then { s with nets := { s.nets with drops := s.nets.drops + lost.length } } else s
    s.raise (egressSrc eng)

/-- EGRESS_CONFIRM_TIMEOUT (R65). -/
def execEgressConfirmTimeout (eng : Egress) (s : State) : Host.Outcome State Fault Refusal :=
  .next (s.live fun s => egressTimeout eng s)

end Sys2Proof.Machine
end

