-- ==== Sys2Proof/Machine/TwinRows.lean ====
section
/-! DEFINITION. The twin link as SVC runs it: heartbeats, twin-status entries and received Veneer frames (R324 to R328). -/

namespace Sys2Proof.Machine

/-- The module has given up `ACTIVE` (R325, R333): it has held the role and holds it no more. -/
def State.gaveUp (s : State) : Bool := s.mstate == .run && s.kernel.twin.role ≥ 2 && 0 < s.kernel.twin.takeovers

/-- The module has left `RUN` (R325, R331). -/
def State.hasLeftRun (s : State) : Bool :=
  match s.mstate with | .run | .start => false | _ => true

/-- FLAGS of the heartbeat (R325). -/
def State.hbFlags (s : State) : Byte :=
  byteOf (bit (s.hasLeftRun || s.gaveUp) + 2 * bit (s.mstate == .run && s.kernel.twin.role == 1) + 4)

/-- The role the module reports (R322). -/
def State.reportedRole (s : State) : Nat := if s.mstate == .run || s.kernel.twin.role == 0 then s.kernel.twin.role else 2

/-- The FEED record of a head as it stands, with the phases measured (R325). -/
def State.feedRec (s : State) (f : FeedRec) : FeedRec :=
  let (f1, f2, a) := s.kernel.exciteOf s.dat f.head
  { f with freqs := byteOf (f1 + 16 * f2), ampl := byteOf a }

/-- The content of the heartbeat of the moment (R325), with a FEED record for every dual-fed head the module is the reference of (R203); the operand
brings the measured phases, and one it does not bring is a free value. -/
def State.beatNow (s : State) (feeds : List FeedRec) : Heartbeat where
  position := s.life.position
  role := s.reportedRole
  modState := s.mstate.code
  ladder := s.vital.ladder.code
  flags := s.hbFlags
  hbSeq := s.twin.hbSeq
  station := s.dat.stationId
  sdiCrc := s.dat.crcC
  sent := s.twin.sent
  ack := s.twin.ack
  version := 1
  feeds := ((List.range 16).filter fun n => s.isRef n && bitAt ((s.dat.head n).elim 0 (·.flags)) 0).map fun n =>
    s.feedRec ((feeds.find? (·.head == n)).getD ⟨n, 0, 0, Config.freePhase (2 * s.twin.hbSeq), Config.freePhase (2 * s.twin.hbSeq + 1)⟩)
  crc := 0
  link := 0

/-- The heartbeat of the moment with its CRC (R325). -/
def State.heartbeat (s : State) (feeds : List FeedRec) : Heartbeat :=
  { s.beatNow feeds with crc := crc32c (Heartbeat.body (s.beatNow feeds)) }

/-- TWIN_HEARTBEAT_SEND (R324, R325): on both lanes, through CVU6; a module in position `SINGLE` sends none. -/
def execTwinHeartbeatSend (feeds : List FeedRec) (s : State) : Host.Outcome State Fault Refusal :=
  .next (s.live fun s =>
    if s.life.position = 0 then s
    else
      let s := { s with twin := { s.twin with hbSeq := (s.twin.hbSeq + 1) % 65536 } }
      let h := s.heartbeat feeds
      let (s, v) := s.cvuAppend 6 (Heartbeat.wire h)
      match v with
      | some v => let h := { h with link := BitVec.ofNat 32 (ofBe v) }
                  s.emits [.heartbeat false h, .heartbeat true h]
      | none => s)

/-- Why a valid heartbeat is not compatible (R326, R339 .0F): 0 when it is. -/
def State.incompatible (s : State) (h : Heartbeat) : Nat :=
  if h.position = s.life.position || h.position = 0 || 2 < h.position then 1
  else if h.station != s.dat.stationId then 2
  else if h.sdiCrc != s.dat.crcC then 3
  else if h.version != 1 then 4
  else 0

/-- A lane shows whether its last unit passed the link check (R339 .05). -/
def State.laneUp (s : State) (lane up : Bool) : State :=
  { s with twin := if lane then { s.twin with lane1 := up } else { s.twin with lane0 := up } }

/-- The receipts of a heartbeat release the responses that wait for them (R146). -/
def State.release (s : State) (ack : Nat) : State := s.settleWaits fun c => ack = c % 2 ^ 32 || seqLater 32 ack c

/-- A heartbeat arrives on a lane (R324, R326): the first copy that passes its link check is taken, and it is valid when its own CRC
passes. -/
def heartbeatReceive (lane : Bool) (h : Heartbeat) (s : State) : State :=
  if s.life.position = 0 then s
  else
    let (s, ok) := s.cvuStrip 7 (Heartbeat.wire h ++ be 4 h.link.toNat)
    let s := s.laneUp lane ok
    if !ok || !(Heartbeat.crcOk h) then s
    else if s.twin.valid && (match s.twin.last with | some o => o.hbSeq == h.hbSeq | none => false) then s
    else
      let c := s.incompatible h
      ({ s with twin := { s.twin with last := some h, valid := true, compatible := c == 0, cause := c } }).release h.ack

/-- TWIN_HEARTBEAT_RECEIVE (R146, R326). -/
def execTwinHeartbeatReceive (lane : Bool) (hb : Heartbeat) (s : State) : Host.Outcome State Fault Refusal :=
  .next (s.live fun s => heartbeatReceive lane hb s)

/-- The twin-status entry of the moment (R326). -/
def State.twinEntry (s : State) : TwinEntry :=
  match s.twin.last with
  | some h => ⟨true, h.hbSeq, h.role, h.modState, h.ladder, h.flags, h.ack, s.twin.compatible, s.twin.cause, s.ring.state.code⟩
  | none => ⟨false, 0, 0, 0, 0, 0, 0, false, 0, s.ring.state.code⟩

/-- TWIN_STATUS_ENTRY (R326). -/
def execTwinStatusEntry (s : State) : Host.Outcome State Fault Refusal :=
  .next (s.live fun s =>
    if s.mstate == .run && s.life.position != 0 then s.svcEntry (.twin s.twinEntry) else s)

/-- A Veneer frame as it stands on the link (R328). -/
def Veneer.wire (v : Veneer) : List Byte :=
  [2, byteOf v.version, byteOf (bit v.offer + 2 * bit v.taken + 4 * bit v.overlap), byteOf v.position] ++ be 4 v.cycle
    ++ be 4 v.station.toNat ++ be 4 v.offerCycle
    ++ [byteOf v.changed.length, byteOf v.refresh.length, byteOf v.ladder, byteOf v.backlog] ++ be 8 v.hash.toNat
    ++ v.cmd.toList.flatMap (fun w => be 2 w.toNat) ++ List.replicate 12 0
    ++ (v.changed ++ v.refresh).flatMap fun p => be 2 p.index ++ [0, 0] ++ be 4 p.value.toNat ++ p.data

/-- A Veneer frame passes CVU7 in its units of up to 4,096 bytes, each followed by the check value it came with: whether all of them
are good (R324). -/
def State.stripUnits (s : State) (w : List Byte) (crcs : List W32) : State × Bool :=
  (List.range ((w.length + 4095) / 4096)).foldl (fun (p : State × Bool) i =>
    let q := p.1.cvuStrip 7 (slice w (4096 * i) 4096 ++ be 4 (crcs.getD i 0).toNat)
    (q.1, p.2 && q.2)) (s, true)

/-- A Veneer frame whose units are good or not is written into the channels, and its receipt reported (R330). -/
def State.takeVeneer (s : State) (lane ok : Bool) (v : Veneer) : State :=
  let s := s.laneUp lane ok
  if !ok || v.version != 1 || s.twin.gotVeneer = some v.cycle then s
  else ({ s with twin := { s.twin with gotVeneer := some v.cycle, ack := v.cycle } }).newEntry .svc
    ⟨0x300, v.cycle % 2 ^ 32, .veneer v⟩

/-- A Veneer frame arrives on a lane (R324, R330): the first good copy is taken. -/
def veneerReceive (lane : Bool) (v : Veneer) (s : State) : State :=
  if s.life.position = 0 then s
  else (s.stripUnits (Veneer.wire v) v.unitCrcs).1.takeVeneer lane (s.stripUnits (Veneer.wire v) v.unitCrcs).2 v

/-- VENEER_FRAME_RECEIVE (R324, R330). -/
def execVeneerFrameReceive (lane : Bool) (v : Veneer) (s : State) : Host.Outcome State Fault Refusal :=
  .next (s.live fun s => veneerReceive lane v s)

end Sys2Proof.Machine
end

