-- ==== Sys2Proof/Machine/CanRows.lean ====
section
/-! DEFINITION. The CAN engine: filters, transmission, the link states, the time role and the CANopen services (R287 to
R296, R304, R306). -/

namespace Sys2Proof.Machine

/-! ## Filters (R289, R290) -/

/-- A configured element with a reserved ACTION or a non-zero reserved bit. -/
def filterBad (w : W64) : Bool :=
  let n := w.toNat
  field n 63 62 = 3 || bitAt n 61 || (!bitAt n 29 && (field n 28 11 != 0 || field n 60 43 != 0))

/-- An element matches an identifier (R289). -/
def filterHit (w : W64) (ext : Bool) (id : Nat) : Bool :=
  let n := w.toNat
  let a := field n 28 0
  let b := field n 60 32
  bitAt n 29 == ext && (match field n 31 30 with
    | 1 => a ≤ id && id ≤ b
    | 2 => id = a || id = b
    | 3 => id &&& b = a
    | _ => false)

/-- The configured elements 3 to 127 of the parameter store (R307). -/
def pstFilters (pst : List PstVal) : List W64 :=
  (List.range 125).map fun i => BitVec.ofNat 64 (pstNat pst 0x2981 (i + 4) 0)

/-- The ACTION of the first element that matches (R290). -/
def Can.action (c : Can) (node base : Nat) (ext : Bool) (id : Nat) : Nat :=
  match (fixedFilters node base ++ c.filters).find? fun w => filterHit w ext id with
  | some w => field w.toNat 63 62
  | none => 0

/-! ## Transmission (R291, R292) -/

/-- A reference frame (R293): its PREV fields are the stamp of the previous one, when that was acknowledged. -/
def State.reference (s : State) : State × CanOut :=
  let c := s.can
  let p := c.prevStamp.getD DTime.zero
  (s.modCan fun c => { c with refNext := (c.refNext + 1) % 256 },
    .reference s.masterPrio c.refNext c.prevStamp.isSome (isPtp s.time.source) p.ns p.s)

/-- The CAN engine goes `ALONE` (R292). -/
def State.goAlone (s : State) : State :=
  s.modCan fun c => { c with link := .alone, noAck := c.noAck + c.queue.length, queue := [], attempts := 0
                             alones := c.alones + 1, aloneAt := s.svc.ms }

/-- The head of the queue is dropped; a dropped reference leaves no stamp (R291, R293). -/
def State.canDrop (s : State) (ack : Bool) : State :=
  let ref := match s.can.queue with | f :: _ => f.isRef | [] => false
  let s := s.modCan fun c =>
    { c with queue := c.queue.tail, attempts := 0, prevStamp := if ref then none else c.prevStamp
             noAck := c.noAck + bit ack, noAckRun := c.noAckRun + bit ack, errLimit := c.errLimit + bit (!ack) }
  if ack && 8 ≤ s.can.noAckRun && s.can.link == .online then s.goAlone else s.canHead

/-- The error counters after an attempt or a frame; error passive from 128 on has its EMCY (R291, R304). -/
def State.canCount (s : State) (tec rec_ : Nat) : State :=
  let s := s.modCan fun c => { c with tec := tec, rec_ := rec_ }
  let p := 128 ≤ tec || 128 ≤ rec_
  if p && !s.can.passive then (s.modCan fun c => { c with passive := true }).queueEmcy 0x8120 0xFFFF
  else s.modCan fun c => { c with passive := p }

/-- A failed attempt (R291), which takes the transmit error counter to `tec`: the frame is sent again, or dropped after
RETRY_LIMIT + 1 attempts; in `ALONE` there is one attempt. -/
def State.canFailed (s : State) (ack : Bool) (tec : Nat) : State :=
  let s := s.canCount tec s.can.rec_
  if 255 < tec then
    s.modCan fun c => { c with link := .busOff, errLimit := c.errLimit + c.queue.length, queue := [], attempts := 0
                               prevStamp := none }
  else if s.can.queue.isEmpty then s
  else
    let limit := if s.can.link == .alone then 0 else s.retryLimit
    if limit ≤ s.can.attempts then s.canDrop ack
    else (s.modCan fun c => { c with attempts := c.attempts + 1 }).canHead

/-- A stamp referred to the end of the sixth end-of-frame bit (R294): the entry latency is subtracted and, at the transmitter, one
nominal bit time. -/
def State.refStamp (s : State) (stamp : Nat) (sender : Bool) : W32 :=
  BitVec.ofNat 32 stamp - BitVec.ofNat 32 (Config.stampLatency + (if sender then s.nominal.clocks * 25 / 2 else 0))

/-- A frame was sent and acknowledged (R291 to R294): the transmit error counter falls, and a reference's stamp is that of the next
one's PREV fields. -/
def State.canAcked (s : State) (stamp : Nat) : State :=
  let s := s.canCount (s.can.tec - 1) s.can.rec_
  match s.can.queue with
  | [] => s
  | f :: rest =>
    let x := s.refStamp stamp true
    let (s, ok) := if f.isRef then s.stamp s.time.can x else (s, false)
    let at_ := s.time.can.deviceAt x s.svc.ms
    (s.modCan fun c => { c with queue := rest, attempts := 0, noAckRun := 0
                                prevStamp := if f.isRef then (if ok then some at_ else none) else c.prevStamp }).canHead

/-- The transmit error counter after a failed attempt (R291, assumption 133): an error passive transmitter does not count an
acknowledgement error with no dominant bit in its error flag, and a stuff error in the arbitration field is not counted. -/
def Can.failTec (c : Can) : TxResult → Nat
  | .ackError dominant => if 128 ≤ c.tec && !dominant then c.tec else c.tec + 8
  | .otherError arbStuff => if arbStuff then c.tec else c.tec + 8
  | _ => c.tec

/-- An attempt ends (R291). -/
def canTransmit (r : TxResult) (s : State) : State :=
  if s.can.link == .busOff then s
  else match r with
    | .acked stamp => s.canAcked stamp
    | .ackError _ => s.canFailed true (s.can.failTec r)
    | .otherError _ => s.canFailed false (s.can.failTec r)
    | .lostArbitration => s.canHead

/-- CAN_TRANSMIT_COMPLETE (R291, R292). -/
def execCanTransmitComplete (r : TxResult) (s : State) : Host.Outcome State Fault Refusal :=
  .next (s.live fun s => canTransmit r s)

/-! ## Start and link states (R292) -/

/-- A heartbeat goes out now, and the producer's period runs from it (R292, R296). -/
def State.canBeatSend (s : State) : State := (s.modCan fun c => { c with beatAt := some s.svc.ms }).canSend s.canBeat

/-- The CAN engine starts (R290, R292, R295, R306): the link is `ONLINE` with a heartbeat at once. -/
def State.canStart (s : State) : State :=
  let l := pstFilters s.pstLive
  let bad := l.any filterBad
  let s := { s with can := { Can.reset with
      role := if s.masterCapable then .backup else .slave
      wStart := s.svc.ms, emcys := s.can.emcys
      filters := l.map fun w => if filterBad w then 0 else w } }
  let s := if bad then s.raise 0x1C0 else s
  s.canBeatSend

/-- A valid frame received ends `ALONE` (R292). -/
def State.endAlone (s : State) : State :=
  if s.can.link == .alone then
    (s.modCan fun c => { c with link := .online, noAckRun := 0, refDue := s.svc.ms + s.refPeriod }).canBeatSend
  else s

/-- ALONE_SEND (R292): one attempt each of a heartbeat and, when `MASTER` and not stopped, a reference. -/
def execAloneSend (s : State) : Host.Outcome State Fault Refusal :=
  .next (s.live fun s =>
    if s.can.link == .alone && s.can.aloneAt + 1000 ≤ s.svc.ms then
      let s := (s.modCan fun c => { c with aloneAt := s.svc.ms }).canQueue s.canBeat
      if s.can.role == .master && !s.can.stopped then let (s, f) := s.reference; s.canQueue f else s
    else s)

/-- BUS_OFF_RECOVERY (R292). -/
def execBusOffRecovery (s : State) : Host.Outcome State Fault Refusal :=
  .next (s.live fun s =>
    if s.can.link == .busOff then
      let s := s.modCan fun c => { c with link := .online, busOffs := c.busOffs + 1, tec := 0, rec_ := 0
                                          passive := false, noAckRun := 0 }
      s.canBeatSend.queueEmcy 0x8140 0xFFFF
    else s)

/-- The producer heartbeat time has passed since the last heartbeat (R296, R299). -/
def State.beatDue (s : State) : Bool :=
  match s.can.beatAt with | some t => t + pstNat s.pst 0x1017 0 1000 ≤ s.svc.ms | none => true

/-- CAN_HEARTBEAT (R296): in `ALONE` the heartbeat is that of ALONE_SEND. -/
def execCanHeartbeat (s : State) : Host.Outcome State Fault Refusal :=
  .next (s.live fun s =>
    if s.can.link == .online && s.beatDue then s.canBeatSend else s)

/-! ## Reception (R287, R290) -/

/-- A service the module serves: NMT commands of R292 for all nodes or its own, and USDO requests unless stopped. -/
def State.served (s : State) (f : CanFrame) : Bool :=
  if f.ident = 0 then
    f.data.length = 2 && [1, 2, 0x81, 0x82].contains (byteAt f.data 0).toNat
      && ((byteAt f.data 1).toNat = 0 || (byteAt f.data 1).toNat = s.nodeId)
  else f.ident = 0x600 + s.nodeId && !s.can.stopped

/-- The bytes of the frames a queue into SVC holds. -/
def frameBytes (l : List CanFrame) : Nat := (l.map fun f => f.data.length).sum

/-- A frame is discarded and counted (R290). -/
def State.canReject (s : State) : State := s.modCan fun c => { c with rejects := c.rejects + 1 }

/-- The receive error counter after a frame (R291, assumption 133): one more for an error and eight more for a dominant bit after the own
error flag, one less for a good frame, which takes a count above 127 to a value from 119 to 127. -/
def State.recAfter (s : State) (f : CanFrame) : Nat :=
  match f.error with
  | some dominant => s.can.rec_ + 1 + 8 * bit dominant
  | none => if 127 < s.can.rec_ then 119 + (Config.recGood s.svc.fresh).val else s.can.rec_ - 1

/-- A frame the controller has received (R287, R290): one with an error is none, and remote frames are discarded. -/
def canReceive (f : CanFrame) (s : State) : State :=
  if s.can.link == .busOff || 0x20000000 ≤ f.ident || (!f.ext && 0x800 ≤ f.ident) then s
  else
    let s := { s.canCount s.can.tec (s.recAfter f) with svc := { s.svc with fresh := s.svc.fresh + 1 } }
    if f.error.isSome then s
    else
    let s := s.endAlone
    if f.remote then s
    else match s.can.action s.nodeId s.refBase f.ext f.ident with
      | 1 =>
        if f.ext || !s.served f then s.canReject
        else if 2048 < frameBytes s.can.service + f.data.length then s.raise 0x6B
        else s.modCan fun c => { c with service := c.service ++ [f] }
      | 2 =>
        if 2048 < frameBytes s.can.timeq + f.data.length then s.raise 0x6B
        else s.modCan fun c => { c with timeq := c.timeq ++ [f] }
      | _ => s.canReject

/-- CAN_FRAME_RECEIVE (R287 to R290, R292). -/
def execCanFrameReceive (f : CanFrame) (stamp : Nat) (s : State) : Host.Outcome State Fault Refusal :=
  .next (s.live fun s =>
    let _ := stamp
    canReceive f s)

/-- An NMT frame leaves the service queue as its command acts. -/
def State.nmtServed (s : State) (cs : Nat) : State :=
  s.modCan fun c => { c with service := match c.service.findIdx? fun f =>
    f.ident = 0 && (byteAt f.data 0).toNat = cs with | some i => c.service.eraseIdx i | none => c.service }

/-- NMT_START (R292): USDO resumes. -/
def execNmtStart (s : State) : Host.Outcome State Fault Refusal :=
  .next (s.live fun s => (s.nmtServed 1).modCan fun c => { c with stopped := false })

/-- NMT_STOP (R292): heartbeats and EMCY only. -/
def execNmtStop (s : State) : Host.Outcome State Fault Refusal :=
  .next (s.live fun s => (s.nmtServed 2).modCan fun c => { c with stopped := true })

/-- NMT_RESET_NODE (R292): the CAN engine restarts, and nothing else does. -/
def execNmtResetNode (s : State) : Host.Outcome State Fault Refusal := .next (s.live fun s => s.canStart)

/-- NMT_RESET_COMMUNICATION (R292): the CAN engine restarts. -/
def execNmtResetCommunication (s : State) : Host.Outcome State Fault Refusal := .next (s.live fun s => s.canStart)

/-- USDO_SEGMENT_TIMEOUT (R296). -/
def execUsdoSegmentTimeout (cl : Client) (s : State) : Host.Outcome State Fault Refusal :=
  .next (s.live fun s => s.abort cl 0x05040000)

/-! ## Time on the bus (R293 to R295) -/

/-- The pair a message completes (R294). -/
def pairs (k n : RefMsg) : Bool := k.priority == n.priority && n.seq == (k.seq + 1) % 256 && n.prevValid

/-- A valid reference message (R294, R295): its stamp, and the pair it completes with the message before, give the device time at that
one's stamp. -/
def referenceReceive (m : RefMsg) (s : State) : State :=
  let s := s.modCan fun c => { c with timeq := c.timeq.tail }
  if s.frameMode = 0 || 8 ≤ m.priority || 256 ≤ m.seq then s
  else
    let x := s.refStamp m.stamp false
    let (s, ok) := s.stamp s.time.can x
    let at_ := s.time.can.deviceAt x s.svc.ms
    let pair := match s.can.lastRef with | some (k, t) => if pairs k m then some (t, ⟨m.prevS, m.prevNs⟩) else none | none => none
    let s := s.modCan fun c => { c with masterSeen := m.priority, lastRef := if ok then some (m, at_) else none
                                        pairMs := if pair.isSome then some s.svc.ms else c.pairMs
                                        pair := if pair.isSome then pair else c.pair }
    match s.can.role with
    | .slave => s
    | .backup => s.modCan fun c => { c with wStart := s.svc.ms }
    | .master => if m.priority < s.masterPrio then s.toBackup else s

/-- REFERENCE_MESSAGE_RECEIVE (R294, R295). -/
def execReferenceMessageReceive (m : RefMsg) (s : State) : Host.Outcome State Fault Refusal :=
  .next (s.live fun s => referenceReceive m s)

/-- A reference message goes out, and the next is due one period later. -/
def State.sendRef (s : State) : State :=
  let (s, f) := s.reference
  (s.modCan fun c => { c with refDue := s.svc.ms + s.refPeriod }).canSend f

/-- REFERENCE_SEND (R293, R295): in `ALONE` references are those of ALONE_SEND. -/
def execReferenceSend (s : State) : Host.Outcome State Fault Refusal :=
  .next (s.live fun s =>
    if s.can.role != .master then s
    else if !s.ownTime then s.toBackup
    else if s.can.link == .online && !s.can.stopped && s.can.refDue ≤ s.svc.ms then s.sendRef else s)

/-- Timer W (R295). -/
def State.wTime (s : State) : Nat := 3 * s.refPeriod + s.masterPrio

/-- TIME_ROLE_W_EXPIRY (R295). -/
def execTimeRoleWExpiry (s : State) : Host.Outcome State Fault Refusal :=
  .next (s.live fun s =>
    if s.can.role == .backup && s.can.wStart + s.wTime ≤ s.svc.ms then
      if s.ownTime then
        let s := s.modCan fun c => { c with role := .master, prevStamp := none }
        if s.can.link == .online && !s.can.stopped then s.sendRef else s
      else s.modCan fun c => { c with wStart := s.svc.ms }
    else s)

/-! ## Emergency messages (R304) -/

/-- The tunnel clients that hold OPERATE or above. -/
def State.tunnels (s : State) : List Nat := s.clients.filterMap fun c => match c.client with
  | .udp ip => if 1 ≤ c.level then some ip else none
  | .can _ => none

/-- The inhibit time 0x1015, in units of 100 us, has passed since the last EMCY (R299, R304). -/
def State.emcyDue (s : State) : Bool :=
  match s.can.emcyAt with | some t => 10 * t + pstNat s.pst 0x1015 0 100 ≤ 10 * s.svc.ms | none => true

/-- EMCY_SEND (R304): the next queued EMCY goes out on CAN and to the tunnel clients, once the inhibit time has passed. -/
def execEmcySend (s : State) : Host.Outcome State Fault Refusal :=
  .next (s.live fun s =>
    if s.emcyDue then
      match s.can.emcys with
      | e :: t =>
        ((s.modCan fun c => { c with emcys := t, emcyAt := some s.svc.ms }).canSend (.emcy e)).emits
          (s.tunnels.map fun ip => .tunnelEmcy (BitVec.ofNat 32 ip) (tunnelBytes 3 0 e.bytes))
      | [] => s
    else s)

end Sys2Proof.Machine
end

