-- ==== Sys2Proof/Machine/Slots.lean ====
section
/-! DEFINITION. The commands of the launcher and of the slots: launches, controls, limits, SCC records (R136 to R158). -/

namespace Sys2Proof.Machine

/-! ## Launches -/

/-- SVC has a launch for the slot whose verdict is still to come (R145). -/
def State.pendingLaunch (s : State) (slot : Nat) : Bool :=
  s.clients.any fun c => c.launched.any fun w => w.launch && w.slot == slot && w.verdict.isNone

/-- Why SVC refuses a launch (R145). -/
def State.launchBar (s : State) (op : Nat) (l : Launch) : Option Nat :=
  s.kernel.launchBar s.dat s.env (s.pendingLaunch l.slot) (s.client l.client).level op l

/-- The slot of a launch is entered and starts when nothing holds it (R147, R149, R155). -/
def State.enterSlot (s : State) (op : Nat) (l : Launch) : State :=
  let lev := (s.client l.client).level
  if s.mstate = .run then s.kRow fun d env k => k.launched d env op lev s.time.now.nanos l
  else ({ s with kernel :=
    s.kernel.enter l.slot (Launch.entry l op lev s.time.now.nanos) (l.flags.getLsbD 0) }).svcTry l.slot

/-- A launch record for one operation whose entry is agreed at once (R144 to R149; assumption 6). -/
def State.launch (op : Nat) (l : Launch) (s : State) : State :=
  let s := s.touch l.client
  match s.launchBar op l with
  | some c => s.refuse l.client c
  | none => (s.enterSlot op l).respond l.client ⟨l.slot, true, 0, s.svc.ms, none⟩ 0

/-- ROUTE_SET (R96 to R104, R147). -/
def execRouteSet (l : Launch) (s : State) : Host.Outcome State Fault Refusal := .next (s.live fun s =>
    s.launch 0x0101 l)
/-- ROUTE_CANCEL (R104, R112). -/
def execRouteCancel (l : Launch) (s : State) : Host.Outcome State Fault Refusal := .next (s.live fun s =>
    s.launch 0x0102 l)
/-- POINT_THROW (R122 to R126). -/
def execPointThrow (l : Launch) (s : State) : Host.Outcome State Fault Refusal := .next (s.live fun s =>
    s.launch 0x0201 l)
/-- BIST_RUN (R384). -/
def execBistRun (l : Launch) (s : State) : Host.Outcome State Fault Refusal := .next (s.live fun s =>
    s.launch 0x0401 l)
/-- IMAGE_TRANSFER (R401, R402). -/
def execImageTransfer (l : Launch) (s : State) : Host.Outcome State Fault Refusal := .next (s.live fun s =>
    s.launch 0x0501 l)
/-- ACTIVATE_SCHEDULE (R403). -/
def execActivateSchedule (l : Launch) (s : State) : Host.Outcome State Fault Refusal := .next (s.live fun s =>
    s.launch 0x0502 l)
/-- REC_EXPORT (R371). -/
def execRecExport (l : Launch) (s : State) : Host.Outcome State Fault Refusal := .next (s.live fun s =>
    s.launch 0x0601 l)
/-- TWIN_SWITCHOVER (R336, R337). -/
def execTwinSwitchover (l : Launch) (s : State) : Host.Outcome State Fault Refusal := .next (s.live fun s =>
    s.launch 0x0701 l)
/-- HEAD_EXCITATION_CHANGE (R199). -/
def execHeadExcitationChange (l : Launch) (s : State) : Host.Outcome State Fault Refusal :=
  .next (s.live fun s => s.launch 0x0801 l)
/-- SHUTDOWN (R383). -/
def execShutdown (l : Launch) (s : State) : Host.Outcome State Fault Refusal := .next (s.live fun s =>
    s.launch 0x0901 l)

/-! ## Controls -/

/-- A control of a slot (R146 to R149): in `RUN` it acts in the current evaluation, else in SVC (R155). -/
def State.control (s : State) (cl : Client) (n code : Nat) : State :=
  let s := s.touch cl
  let lev := (s.client cl).level
  if 96 ≤ n then s.abort cl 0x06020000
  else match s.kernel.control s.dat s.env ((s.kernel.slot n).ownedBy cl lev) lev code n with
    | .error c => s.refuse cl c
    | .ok k =>
      let s := if s.mstate = .run then { s with kernel := k.after s.dat s.env } else { s with kernel := k }
      s.kernelDone.respond cl ⟨n, false, 0, s.svc.ms, none⟩ 0

/-- SLOT_SUSPEND (R147, R149). -/
def execSlotSuspend (cl : Client) (slot : Nat) (s : State) : Host.Outcome State Fault Refusal :=
  .next (s.live fun s => s.control cl slot 1)

/-- SLOT_RESUME (R140, R149). -/
def execSlotResume (cl : Client) (slot : Nat) (s : State) : Host.Outcome State Fault Refusal :=
  .next (s.live fun s => s.control cl slot 2)

/-- SLOT_CANCEL (R112, R147, R149). -/
def execSlotCancel (cl : Client) (slot : Nat) (s : State) : Host.Outcome State Fault Refusal :=
  .next (s.live fun s => s.control cl slot 3)

/-- SLOT_RELEASE (R148, R149). -/
def execSlotRelease (cl : Client) (slot : Nat) (s : State) : Host.Outcome State Fault Refusal :=
  .next (s.live fun s => s.control cl slot 4)

/-! ## Limits -/

/-- A limit of a slot acts, in the current evaluation or in SVC (R149, R155). -/
def State.slotLimit (s : State) (f : Sdi → Kernel → Kernel) : State :=
  if s.mstate = .run then s.kRow fun d _ k => f d k
  else ({ s with kernel := f s.dat s.kernel }).kernelDone

/-- QUEUE_TIMEOUT (R149): 300 s in `QUEUED`. -/
def execQueueTimeout (slot : Nat) (s : State) : Host.Outcome State Fault Refusal :=
  .next (s.live fun s => s.slotLimit fun d k => k.queueLimit d slot)

/-- SLOT_AUTO_RELEASE (R149): 60 s in a final state. -/
def execSlotAutoRelease (slot : Nat) (s : State) : Host.Outcome State Fault Refusal :=
  .next (s.live fun s => s.slotLimit fun _ k => k.autoRelease slot)

/-- LAUNCH_GIVE_UP (R146): no verdict within 5 vital cycles of the write; 0x0D0D. -/
def execLaunchGiveUp (cl : Client) (s : State) : Host.Outcome State Fault Refusal :=
  .next (s.live fun s =>
    match (s.client cl).launched.find? fun w => w.verdict.isNone && w.ms + 5 * s.dat.cycleMs ≤ s.svc.ms with
    | some w => (s.modClient cl fun c => { c with launched := c.launched.filter (· != w) }).refuse cl 0x0D0D
    | none => s)

/-! ## SCC records -/

/-- An SCC record of a session acts (R136 to R139, R434). -/
def State.sccRow (s : State) (kind session : Nat) (r : SccRec) : State :=
  s.kRow fun d _ k =>
    if r.kind.toNat = kind && r.r1 = 0 && r.r11 = 0 && r.r14 = 0 && k.drives
        && (match d.partner (k.session session).partner with | some p => p.cls == 4 | none => false) then
      k.sccRecord d s.time.now.nanos (session, r)
    else k

/-- SCC_REQUEST (R138, R144). -/
def execSccRequest (session : Nat) (r : SccRec) (s : State) : Host.Outcome State Fault Refusal :=
  .next (s.live fun s => s.sccRow 1 session r)

/-- SCC_CONFIRM (R138, R140). -/
def execSccConfirm (session : Nat) (r : SccRec) (s : State) : Host.Outcome State Fault Refusal :=
  .next (s.live fun s => s.sccRow 3 session r)

/-- SCC_CONFIRM_TIMEOUT (R138): the window of a slot has ended. -/
def execSccConfirmTimeout (slot : Nat) (s : State) : Host.Outcome State Fault Refusal :=
  .next (s.live fun s => s.kRow fun d _ k => k.sccWindow d k.cycle slot)

/-- The CONFIRM that the pending SCC slot of one operation waits for acts (R138, R140). -/
def Kernel.confirmed (d : Sdi) (k : Kernel) (op slot : Nat) : Kernel :=
  let x := k.slot slot
  match x.scc with
  | some c =>
    if x.op == op && (x.state == .running || x.state == .suspended) && x.stage == 1 then
      k.sccConfirm d c.session
        { kind := 3, r1 := 0, op := x.op, target := x.target, requestId := c.requestId, challenge := c.challenge
          slot := slot, r11 := 0, result := 0, r14 := 0 }
    else k
  | none => k

/-- ROUTE_EMERGENCY_RELEASE (R110): the confirmed operation of a slot executes. -/
def execRouteEmergencyRelease (slot : Nat) (s : State) : Host.Outcome State Fault Refusal :=
  .next (s.live fun s => s.kRow fun d _ k => k.confirmed d 0x0103 slot)

/-- POINT_EMERGENCY_THROW (R126): the confirmed operation of a slot executes. -/
def execPointEmergencyThrow (slot : Nat) (s : State) : Host.Outcome State Fault Refusal :=
  .next (s.live fun s => s.kRow fun d _ k => k.confirmed d 0x0202 slot)

/-- AC_PREP_RESET (R173, R174): the confirmed operation of a slot executes. -/
def execAcPrepReset (slot : Nat) (s : State) : Host.Outcome State Fault Refusal :=
  .next (s.live fun s => s.kRow fun d _ k => k.confirmed d 0x0301 slot)

/-- AC_DIRECT_RESET (R173, R174): the confirmed operation of a slot executes. -/
def execAcDirectReset (slot : Nat) (s : State) : Host.Outcome State Fault Refusal :=
  .next (s.live fun s => s.kRow fun d _ k => k.confirmed d 0x0302 slot)

end Sys2Proof.Machine
end

