-- ==== Sys2Proof/Machine/KernelRows.lean ====
section
/-! DEFINITION. Commands that are one event of the kernel: expiries of its timers, element commands, field inputs and
outputs, telegrams of a session, twin entries (R94 to R135, R162 to R169, R218 to R235, R274 to R285, R326 to R337). -/

namespace Sys2Proof.Machine

/-- The in-attributes and the sections as they stand, after an input has changed within the evaluation. -/
def Kernel.reattr (d : Sdi) (k : Kernel) : Kernel := ((k.stepAttrs d).tsStep d).step4 d

/-! ## Routes and points -/

/-- A route timer of one kind expires (R94 step 3, R111). -/
def Kernel.routeTimer (d : Sdi) (k : Kernel) (t : RTimer) (rid : Nat) : Kernel :=
  match k.rst rid with
  | some s => match s.timer with
    | some (u, due) => if u = t && due ≤ k.cycle then (k.timerActs d s).step4 d else k
    | none => k
  | none => k

/-- OVERLAP_TIMER_EXPIRY (R106). -/
def execOverlapTimerExpiry (route : Nat) (s : State) : Host.Outcome State Fault Refusal :=
  .next (s.live fun s => s.kRow fun d _ k => k.driving fun k => k.routeTimer d .overlap route)

/-- APPROACH_TIMER_EXPIRY (R107). -/
def execApproachTimerExpiry (route : Nat) (s : State) : Host.Outcome State Fault Refusal :=
  .next (s.live fun s => s.kRow fun d _ k => k.driving fun k => k.routeTimer d .approach route)

/-- EMERGENCY_TIMER_EXPIRY (R110). -/
def execEmergencyTimerExpiry (route : Nat) (s : State) : Host.Outcome State Fault Refusal :=
  .next (s.live fun s => s.kRow fun d _ k => k.driving fun k => k.routeTimer d .emergency route)

/-- The throw supervision of a moving point or derailer ends (R124): `LOST` with THROW_TIMEOUT. -/
def Kernel.throwTimeout (d : Sdi) (k : Kernel) (el : Nat) : Kernel :=
  match k.pt el with
  | some p =>
    if p.state == .moving && p.deadline ≤ k.cycle then
      ((k.lose d el true fun _ p => { p with timeout := true }).settlePoints).step4 d
    else k
  | none => k

/-- THROW_TIMEOUT (R124). -/
def execThrowTimeout (el : Nat) (s : State) : Host.Outcome State Fault Refusal :=
  .next (s.live fun s => s.kRow fun d _ k => k.driving fun k => k.throwTimeout d el)

/-- The grace without own detection ends (R123): the point goes `LOST`. This evaluation is the last of the grace. -/
def Kernel.graceEnds (d : Sdi) (k : Kernel) (el : Nat) : Kernel :=
  match k.pt el with
  | some p => match p.state.pos with
    | some pos =>
      if k.attr el (1 + pos) == 0 && d.grace el ≤ p.missing + 1 then
        ((k.lose d el true fun x p => if x = el then { p with missing := p.missing + 1 } else p).settlePoints).step4 d
      else k
    | none => k
  | none => k

/-- DETECTION_GRACE_EXPIRY (R123). -/
def execDetectionGraceExpiry (el : Nat) (s : State) : Host.Outcome State Fault Refusal :=
  .next (s.live fun s => s.kNext fun d _ k => k.driving fun k => k.graceEnds d el)

/-- The proof of a signal is judged 300 ms after its shown code changed (R129). -/
def Kernel.judgeSignal (d : Sdi) (k : Kernel) (el : Nat) : Kernel :=
  match d.elem el, k.sg el with
  | some e, some g => (k.setSignal el g (k.stepSignal e g)).step4 d
  | _, _ => k

/-- LAMP_PROOF_JUDGEMENT (R129). -/
def execLampProofJudgement (el : Nat) (s : State) : Host.Outcome State Fault Refusal :=
  .next (s.live fun s => s.kRow fun d _ k => k.driving fun k => k.judgeSignal d el)

/-! ## Element commands -/

/-- An element command of a client (R120): a write of 0x2330.01 at OPERATE. The entry goes to the kernel in `RUN`. -/
def State.elemRow (s : State) (cl : Client) (code el : Nat) : State :=
  s.write cl .operate true (el < 4096) fun s => (s.kRow fun d _ k => k.elemCmd d code el).accept cl

/-- BLOCK (R120, R121). -/
def execBlock (cl : Client) (el : Nat) (s : State) : Host.Outcome State Fault Refusal := .next (s.live fun s =>
    s.elemRow cl 1 el)
/-- UNBLOCK (R120). -/
def execUnblock (cl : Client) (el : Nat) (s : State) : Host.Outcome State Fault Refusal :=
  .next (s.live fun s => s.elemRow cl 2 el)
/-- FAULT_RESET (R120, R129, R131, R132). -/
def execFaultReset (cl : Client) (el : Nat) (s : State) : Host.Outcome State Fault Refusal :=
  .next (s.live fun s => s.elemRow cl 3 el)
/-- KEY_GRANT (R120, R131). -/
def execKeyGrant (cl : Client) (el : Nat) (s : State) : Host.Outcome State Fault Refusal :=
  .next (s.live fun s => s.elemRow cl 4 el)
/-- KEY_WITHDRAW (R120, R131). -/
def execKeyWithdraw (cl : Client) (el : Nat) (s : State) : Host.Outcome State Fault Refusal :=
  .next (s.live fun s => s.elemRow cl 5 el)

/-- A key lock's timer ends in a state (R131). -/
def Kernel.keyTimer (k : Kernel) (d : Sdi) (st : KState) (el : Nat) : Kernel :=
  match k.kind el with
  | some (.kl l) => if l.state = st then (k.setKey el l (k.stepKey el l)).step4 d else k
  | _ => k

/-- KEY_REMOVAL_TIMEOUT (R131): 60 s `RELEASED` with the key in. -/
def execKeyRemovalTimeout (el : Nat) (s : State) : Host.Outcome State Fault Refusal :=
  .next (s.live fun s => s.kRow fun d _ k => k.driving fun k => k.keyTimer d .released el)

/-- KEY_RETURN (R131): the key back for 1 s. -/
def execKeyReturn (el : Nat) (s : State) : Host.Outcome State Fault Refusal :=
  .next (s.live fun s => s.kRow fun d _ k => k.driving fun k => k.keyTimer d .keyOut el)

/-- A level crossing's timer ends in a state (R132). -/
def Kernel.lxTimer (k : Kernel) (d : Sdi) (st : LState) (el : Nat) : Kernel :=
  match k.kind el with
  | some (.lx x) => if x.state = st then (k.setLx el x (k.stepLx d el x)).step4 d else k
  | _ => k

/-- LX_CLOSE_TIMEOUT (R132). -/
def execLxCloseTimeout (el : Nat) (s : State) : Host.Outcome State Fault Refusal :=
  .next (s.live fun s => s.kRow fun d _ k => k.driving fun k => k.lxTimer d .closing el)

/-- LX_RECOVERY (R132): protection proved for 2 s in `FAILED`. -/
def execLxRecovery (el : Nat) (s : State) : Host.Outcome State Fault Refusal :=
  .next (s.live fun s => s.kRow fun d _ k => k.driving fun k => k.lxTimer d .failed el)

/-! ## Axle counting -/

/-- A sensor processor is declared failed (R162) when the horizon or the mapping has been stuck for three evaluations and is in this one,
whose own records have not come: the one whose SEND_US alone has not advanced, else both. -/
def Kernel.spStuck (d : Sdi) (k : Kernel) (sp : Sp) : Kernel :=
  let c := k.ev.culprits 3
  if (3 ≤ k.ev.noAdvance || 3 ≤ k.ev.invalidRun) && (match sp with | .x => c.1 | .y => c.2) then (k.spFailed d c.1 c.2).reattr d
  else k

/-- SENSOR_PROCESSOR_FAILED (R162). -/
def execSensorProcessorFailed (sp : Sp) (s : State) : Host.Outcome State Fault Refusal :=
  .next (s.live fun s => s.kNext fun d _ k => k.spStuck d sp)

/-- A remote head has sent no report for 2,000 ms (R168). -/
def Kernel.remoteGone (d : Sdi) (k : Kernel) (head : Nat) : Kernel :=
  match d.head head, k.head head with
  | some r, some h =>
    if r.kind != 0 && 2000 ≤ k.reportAge h then (k.silentRemote d head).reattr d else k
  | _, _ => k

/-- REMOTE_SILENT (R168). -/
def execRemoteSilent (head : Nat) (s : State) : Host.Outcome State Fault Refusal :=
  .next (s.live fun s => s.kRow fun d _ k => k.remoteGone d head)

/-- The sections of a remote head hold their state for route logic no longer than three cycles (R169). -/
def Kernel.holdStale (d : Sdi) (k : Kernel) (head : Nat) : Kernel :=
  let secs := (d.bounds head).map (·.1)
  ({ k with sections := k.sections.map fun (x : SectionSt) =>
      if secs.contains x.index then { x with stale := k.staleSec d x.index } else x }).reattr d

/-- STALE_HOLD (R169). -/
def execStaleHold (head : Nat) (s : State) : Host.Outcome State Fault Refusal :=
  .next (s.live fun s => s.kRow fun d _ k => k.holdStale d head)

/-- CLEAR_DELAY_MS of a TS element has passed (R172): route logic sees it clear in this evaluation, which is still to come. -/
def Kernel.clearDelay (d : Sdi) (k : Kernel) (el : Nat) : Kernel :=
  match d.elem el, k.ts el with
  | some e, some t =>
    match e.spec with
    | .ts src _ ac _ delay =>
      let stale := src = 0 && (match k.sec ac with | some x => x.stale | none => false)
      if t.state == .clear && !stale && d.cycles delay ≤ t.clearRun then
        (k.setKind el (.ts { t with routeClear := true })).step4 d
      else k
    | _ => k
  | _, _ => k

/-- CLEAR_DELAY_EXPIRY (R172). -/
def execClearDelayExpiry (el : Nat) (s : State) : Host.Outcome State Fault Refusal :=
  .next (s.live fun s => s.kNext fun d _ k => k.clearDelay d el)

/-! ## Field inputs and outputs -/

/-- The discrepancy time or the restrictive time of a pair ends (R220). -/
def Kernel.pairTimer (d : Sdi) (k : Kernel) (first : Nat) : Kernel :=
  match k.pairs.find? (·.first == first) with
  | some p => (k.stepPair d p).reattr d
  | none => k

/-- DISCREPANCY_TIMEOUT (R220). -/
def execDiscrepancyTimeout (first : Nat) (s : State) : Host.Outcome State Fault Refusal :=
  .next (s.live fun s => s.kRow fun d _ k => k.pairTimer d first)

/-- An input's timers end (R218): its judgement, which is no evaluation of its own to the run of differing paths. -/
def Kernel.inputTimer (d : Sdi) (k : Kernel) (n : Nat) : Kernel :=
  if n < 96 then ((((k.stepInput d n).modInput n fun x => { x with pathRun := (k.input n).pathRun }).stepPairs d).reattr d) else k

/-- UNDEF_LATCH (R218): UNDEF agreed for 100 ms. -/
def execUndefLatch (inp : Nat) (s : State) : Host.Outcome State Fault Refusal :=
  .next (s.live fun s => s.kRow fun d _ k => k.inputTimer d inp)

/-- UNDEF_LATCH_CLEAR (R218): UNDEF agreed clear for 1 s. -/
def execUndefLatchClear (inp : Nat) (s : State) : Host.Outcome State Fault Refusal :=
  .next (s.live fun s => s.kRow fun d _ k => k.inputTimer d inp)

/-- SUPPLY_HOLD_EXPIRY (R218, R221): 10 ms after UF_LOW the inputs of the bank hold no longer. -/
def execSupplyHoldExpiry (bk : Bank) (s : State) : Host.Outcome State Fault Refusal :=
  .next (s.live fun s =>
    s.kRow fun d _ k =>
    (((List.range 24).foldl (fun k i => k.stepInput d (bk.idx * 24 + i)) k).stepPairs d).reattr d)

/-- OUTPUT_TEST_DUE (R224): the test of an output is requested when it is due and its bank runs no other. -/
def execOutputTestDue (out : Nat) (s : State) : Host.Outcome State Fault Refusal :=
  .next (s.live fun s =>
    s.kRow fun d _ k =>
    if out < 32 && k.testDue d out && (k.tests.get (Ch.ofIdx (out / 8))).isNone then k.requestTest d out else k)

/-- BANK_ABSENT_FAILED (R211): the bank is absent in a third evaluation in a row. -/
def execBankAbsentFailed (bk : Bank) (s : State) : Host.Outcome State Fault Refusal :=
  .next (s.live fun s =>
    s.kNext fun d _ k =>
    let b := k.bank bk.idx
    if !b.present && 2 ≤ b.absentRun then ((((k.failBank bk.idx 2)).stepInputs d).stepPairs d).reattr d else k)

/-- FIELD_RESET_TARGET (R230): one reset pends at a time, bound to the client that named it. -/
def fieldTarget (cl : Client) (target : W16) (s : State) : State :=
  s.write cl .operate true (targetOk target.toNat) fun s =>
    match s.kernel.reset.client with
    | some c => if c = cl then (s.kRow fun _ _ k => (k.endReset 0x0E05).resetTarget cl target).accept cl
                else s.abort cl 0x08000020
    | none => (s.kRow fun _ _ k => k.resetTarget cl target).accept cl

/-- FIELD_RESET_TARGET (R230, R235). -/
def execFieldResetTarget (cl : Client) (target : W16) (s : State) : Host.Outcome State Fault Refusal :=
  .next (s.live fun s => fieldTarget cl target s)

/-- FIELD_RESET_CONFIRM (R230): by the client of the pending reset only. -/
def fieldConfirm (cl : Client) (code : W16) (s : State) : State :=
  s.write cl .operate true true fun s =>
    if s.kernel.reset.client = some cl then (s.kRow fun d _ k => (k.resetConfirm code).reattr d).accept cl
    else s.abort cl 0x08000020

/-- FIELD_RESET_CONFIRM (R230, R235). -/
def execFieldResetConfirm (cl : Client) (code : W16) (s : State) : Host.Outcome State Fault Refusal :=
  .next (s.live fun s => fieldConfirm cl code s)

/-- FIELD_RESET_TIMEOUT (R230): 30 s without a confirm. -/
def execFieldResetTimeout (s : State) : Host.Outcome State Fault Refusal :=
  .next (s.live fun s => s.kRow fun _ _ k => k.resetTimeout)

/-! ## Telegrams -/

/-- An agreed telegram of a session stream, when it is of one of the types (R275 to R277). -/
def State.telRow (s : State) (types : List Nat) (idx : Nat) (t : Telegram) : State :=
  s.kRow fun d env k => if idx < 128 && types.contains t.typ.toNat then k.telegram d env.pst idx t else k

/-- CONN_REQ (R277): from an unbound partner by SVC's entry, from a bound one on its session stream (R274). -/
def connRow (partner : Nat) (t : Telegram) (s : State) : State :=
  s.kRow fun d env k =>
    if t.typ != 1 then k
    else match k.sessOf partner with
      | some (n, _) => k.telegram d env.pst n t
      | none => k.connReq d env.pst partner t

/-- CONN_REQ (R277). -/
def execConnReq (partner : Nat) (t : Telegram) (s : State) : Host.Outcome State Fault Refusal :=
  .next (s.live fun s => connRow partner t s)

/-- CONN_RESP (R277). -/
def execConnResp (idx : Nat) (t : Telegram) (s : State) : Host.Outcome State Fault Refusal :=
  .next (s.live fun s => s.telRow [2] idx t)

/-- DATA (R275 to R278). -/
def execDataTelegram (idx : Nat) (t : Telegram) (s : State) : Host.Outcome State Fault Refusal :=
  .next (s.live fun s => s.telRow [3] idx t)

/-- HEAD_REPORT (R167, R275): an accepted report acts on the head at once. -/
def headRow (idx : Nat) (t : Telegram) (s : State) : State :=
  s.kRow fun d env k =>
    if idx < 128 && t.typ = 5 then
      let k := { k.telegram d env.pst idx t with cycle := k.cycle }
      let l := k.reports
      (l.foldl (Kernel.remotePayload d) { k with reports := [] }).reattr d
    else k

/-- HEAD_REPORT (R167, R168, R275). -/
def execHeadReport (idx : Nat) (t : Telegram) (s : State) : Host.Outcome State Fault Refusal :=
  .next (s.live fun s => headRow idx t s)

/-- DISC (R277). -/
def execDisc (idx : Nat) (t : Telegram) (s : State) : Host.Outcome State Fault Refusal :=
  .next (s.live fun s => s.telRow [6] idx t)

/-- PATH_MISMATCH_NOTICE (R274, R277). -/
def execPathMismatchNotice (partner : Nat) (s : State) : Host.Outcome State Fault Refusal :=
  .next (s.live fun s => s.kRow fun _ _ k => k.pathMismatchNotice partner)

/-- A session's timer ends while it is in one of some states (R277). -/
def State.sessTimer (s : State) (p : SessSt → Bool) (idx : Nat) : State :=
  s.kRow fun d _ k => if idx < 128 && p (k.session idx) then k.timeSess d idx else k

/-- SESSION_TIMEOUT (R277): now later than the deadline of an `OPEN` session. -/
def execSessionTimeout (idx : Nat) (s : State) : Host.Outcome State Fault Refusal :=
  .next (s.live fun s => s.sessTimer (fun x => x.state == .open_) idx)

/-- CONN_REQ_REPEAT (R277): 200 ms since the opener's last CONN_REQ. -/
def execConnReqRepeat (idx : Nat) (s : State) : Host.Outcome State Fault Refusal :=
  .next (s.live fun s => s.sessTimer (fun x => x.state == .opening && x.opener) idx)

/-- RESPONDER_TIMEOUT (R277): TIMEOUT_MS since the responder's CONN_RESP. -/
def execResponderTimeout (idx : Nat) (s : State) : Host.Outcome State Fault Refusal :=
  .next (s.live fun s => s.sessTimer (fun x => x.state == .opening && !x.opener) idx)

/-- HOLD_OFF_EXPIRY (R277): 1 s in `HOLD_OFF`. -/
def execHoldOffExpiry (idx : Nat) (s : State) : Host.Outcome State Fault Refusal :=
  .next (s.live fun s => s.sessTimer (fun x => x.state == .holdOff) idx)

/-! ## Twin -/

/-- SWITCHOVER_NOT_TAKEN (R337): the offer was not taken within five cycles. -/
def execSwitchoverNotTaken (s : State) : Host.Outcome State Fault Refusal :=
  .next (s.live fun s => s.kRow fun _ env k => k.notTaken env)

/-- SWITCHOVER_NO_STANDBY (R337): no standby in synchronism within 10 s. -/
def execSwitchoverNoStandby (s : State) : Host.Outcome State Fault Refusal :=
  .next (s.live fun s =>
    s.kRow fun _ env k =>
    if k.twin.role == 1 && !k.twin.offer && ((k.running 0x0701).isSome || k.twin.request) then
      k.noStandby env
    else k)

end Sys2Proof.Machine
end

