-- ==== Sys2Proof/Machine/LoginRows.lean ====
section
/-! DEFINITION. Login to the object dictionary, and two writes that clear counters (R22, R69, R300 to R303). -/

namespace Sys2Proof.Machine

/-- The key of a level (R303). -/
def State.levelKey (s : State) (level : Nat) : List Byte := pstKey s.pst 0x2081 level

/-- A login key that is all 0 (R303). -/
def noKey (k : List Byte) : Bool := k == List.replicate 16 0

/-- Logins of a client are blocked (R302). -/
def State.isBlocked (s : State) (cl : Client) : Bool :=
  match (s.client cl).blocked with | some t => s.svc.ms < t | none => false

/-- A login granted or refused (R302 .05), with its record (R364). -/
def State.loginResult (s : State) (cl : Client) (code : Nat) : State :=
  ((s.modClient cl fun c => { c with result := code }).record 5 code 0).accept cl

/-- A request for a level (R302): a fresh challenge; 0 logs out. -/
def loginRequest (cl : Client) (level : Nat) (s : State) : State :=
  let s := s.touch cl
  if level = 0 then (s.modClient cl fun c => { c with level := 0, challenge := none }).accept cl
  else if 3 < level then s.abort cl 0x06090030
  else if s.isBlocked cl then s.loginResult cl 0x0F04
  else
    let n := s.svc.fresh
    (({ s with svc := { s.svc with fresh := n + 1 } }).modClient cl fun c =>
      { c with challenge := some (level, Config.challenge n, s.svc.ms) }).accept cl

/-- LOGIN_REQUEST (R302). -/
def execLoginRequest (cl : Client) (level : Byte) (s : State) : Host.Outcome State Fault Refusal :=
  .next (s.live fun s => loginRequest cl level.toNat s)

/-- The response to a challenge (R302); the identity is taken little-endian (assumption 39). -/
def State.loginWord (s : State) (cl : Client) (level : Nat) (ch : List Byte) : W64 :=
  BitVec.ofNat 64 (ofLe ((Config.cmac (s.levelKey level) (ch ++ [byteOf level] ++ le 4 cl.identity)).take 8))

/-- A wrong response (R302): the third within 60 s blocks the identity for 60 s. -/
def State.wrongResponse (s : State) (cl : Client) : State :=
  let now := s.svc.ms
  (s.modClient cl fun c =>
    let w := now :: c.wrong.filter fun t => now < t + 60000
    { c with wrong := w, blocked := if 3 ≤ w.length then some (now + 60000) else c.blocked }).loginResult cl 0x0F01

/-- A response (R302, R303): for one challenge only. -/
def loginResponse (cl : Client) (resp : W64) (s : State) : State :=
  let s := s.touch cl
  if s.isBlocked cl then s.loginResult cl 0x0F04
  else match (s.client cl).challenge with
    | none => s.loginResult cl 0x0F05
    | some (level, ch, t) =>
      let s := s.modClient cl fun c => { c with challenge := none }
      if ch.isEmpty || t + 30000 < s.svc.ms then s.loginResult cl 0x0F02
      else if (level != 3 && noKey (s.levelKey level)) || resp != s.loginWord cl level ch then s.wrongResponse cl
      else if !s.levelSwitch cl level then s.loginResult cl 0x0F03
      else (s.modClient cl fun c => { c with level := level }).loginResult cl 0

/-- LOGIN_RESPONSE (R302). -/
def execLoginResponse (cl : Client) (resp : W64) (s : State) : Host.Outcome State Fault Refusal :=
  .next (s.live fun s => loginResponse cl resp s)

/-- CHALLENGE_EXPIRY (R302): 30 s after the challenge was placed. -/
def execChallengeExpiry (cl : Client) (s : State) : Host.Outcome State Fault Refusal :=
  .next (s.live fun s =>
    match (s.client cl).challenge with
    | some (level, _, t) =>
      if t + 30000 ≤ s.svc.ms then s.modClient cl fun c => { c with challenge := some (level, [], t) } else s
    | none => s)

/-- LOGIN_BLOCK_EXPIRY (R302): 60 s after the block. -/
def execLoginBlockExpiry (cl : Client) (s : State) : Host.Outcome State Fault Refusal :=
  .next (s.live fun s =>
    match (s.client cl).blocked with
    | some t => if t ≤ s.svc.ms then s.modClient cl fun c => { c with blocked := none, wrong := [] } else s
    | none => s)

/-- IDLE_LOGOUT (R300): 600 s without a request. -/
def execIdleLogout (cl : Client) (s : State) : Host.Outcome State Fault Refusal :=
  .next (s.live fun s =>
    if (s.client cl).lastReq + 600000 ≤ s.svc.ms then s.modClient cl fun c => { c with level := 0 } else s)

/-- RESET_MAXIMA (R22 .09). -/
def execResetMaxima (cl : Client) (v : Byte) (s : State) : Host.Outcome State Fault Refusal :=
  .next (s.live fun s =>
    s.write cl .operate true (v = 1) fun s =>
    ({ s with vital := { s.vital with p2Max := 0, p3Max := 0, spreadMax := 0 } }).accept cl)

/-- RESET_COUNTS (R69 .0B). -/
def execResetCounts (cl : Client) (v : Byte) (s : State) : Host.Outcome State Fault Refusal :=
  .next (s.live fun s =>
    s.write cl .operate true (v = 1) fun s =>
    let st : AgreeStats := ⟨0, 0, 0, 0, 0, 0, 0, 0, 0, s.kernel.stats.lastUsed⟩
    ({ s with kernel := { s.kernel with stats := st } }).accept cl)

end Sys2Proof.Machine
end

