-- ==== Sys2Proof/Machine/LifeRows.lean ====
section
/-! DEFINITION. Life-cycle requests, SW1 and the slices of the self-test (R376 to R385, R388, R389). -/

namespace Sys2Proof.Machine

/-! ## Life cycle -/

/-- The transitions of R378 from a state to a target: the level, whether SW1 position 3 is needed, and whether the condition
holds. -/
def State.lcRule (s : State) (v : Nat) : Option (Nat × Bool × Bool) :=
  let free := s.col.forces.isEmpty
  match s.life.state, v with
  | 0, 1 => some (3, true, true)
  | 1, 2 => some (3, false, s.sdi.state = 1 && pstNat s.pst 0x2380 1 0 != 0
      && pstKey s.pst 0x2081 3 != List.replicate 16 0 && free)
  | 2, 3 => some (2, false, true)
  | 3, 2 => some (2, false, free)
  | 3, 1 => some (3, true, true)
  | 1, 4 => some (3, true, true)
  | 2, 4 => some (3, true, true)
  | 3, 4 => some (3, true, true)
  | _, _ => none

/-- A request is refused (R378, R301): its code stands in 0x2001.04. -/
def State.lcRefuse (s : State) (cl : Client) (code : Nat) : State :=
  ({ s with life := { s.life with result := code } }).abort cl 0x08000020

/-- A life-cycle request (R378); withdrawing one is taken at EXPERT (assumption 40). -/
def lcRequest (cl : Client) (v : Nat) (s : State) : State :=
  let s := s.touch cl
  let level := (s.client cl).level
  if 4 < v then s.abort cl 0x06090030
  else if v = s.life.state then
    if s.life.state = 4 then s.lcRefuse cl 0x1001
    else if level < 2 then s.abort cl 0x06010000
    else ({ s with life := { s.life with pending := none, result := 0 } }).accept cl
  else match s.lcRule v with
    | none => s.lcRefuse cl 0x1001
    | some (need, three, cond) =>
      if level < need then s.abort cl 0x06010000
      else if !s.sw 6 || (three && !s.sw 3) then s.lcRefuse cl 0x1002
      else if !cond then s.lcRefuse cl 0x1003
      else ({ s with life := { s.life with pending := some v, result := 0 } }).accept cl

/-- LC_REQUEST (R378). -/
def execLcRequest (cl : Client) (v : Byte) (s : State) : Host.Outcome State Fault Refusal :=
  .next (s.live fun s => lcRequest cl v.toNat s)

/-! ## SW1 -/

/-- A position reads closed only when its normally open contact is closed and its normally closed one open (R379). -/
def Contact.closed (c : Contact) : Bool := c.no && !c.nc

/-- The place of a reader in the order A, B, C, D, SVC. -/
def readerIdx (r : SwReader) : Nat := match r with | .ch x => x.idx | .svc => 4

/-- A contact set changes after its debounce (R379, R380). -/
def sw1Change (rd : SwReader) (pos : Nat) (c : Contact) (s : State) : State :=
  if pos < 1 || 8 < pos then s
  else
    let v := Contact.closed c
    let old := match rd with | .svc => s.life.sw1Svc | .ch x => s.life.sw1Ch.get x
    let w := setBit old (pos - 1) v
    let s := match rd with
      | .svc => ({ s with life := { s.life with sw1Svc := w } }).switchLevels.transferSwitch
      | .ch x => ({ s with life := { s.life with sw1Ch := s.life.sw1Ch.set x w } }).sw1Diffs
    let s := if c.no == c.nc then s.raisePath (readerIdx rd) else s
    -- positions 1 and 2 take effect at the next start only (R380)
    let twin := pos ≤ 2 && old != w && (match rd with | .ch _ => true | .svc => false)
    if twin && s.mstate == .run then s.raise 0x1ED else s

/-- SW1_CHANGE (R379 to R381). -/
def execSw1Change (rd : SwReader) (pos : Nat) (c : Contact) (s : State) : Host.Outcome State Fault Refusal :=
  .next (s.live fun s => sw1Change rd pos c s)

/-- SW1_WORD_ENTRY (R381). -/
def execSw1WordEntry (s : State) : Host.Outcome State Fault Refusal :=
  .next (s.live fun s =>
    s.svcEntry (.sw1 s.life.sw1Svc))

/-- SW1_MISMATCH (R381): a channel's reading has differed for 100 ms. -/
def execSw1Mismatch (ch : Ch) (s : State) : Host.Outcome State Fault Refusal :=
  .next (s.live fun s =>
    if s.mstate == .run && s.sw1Raisers.contains ch then s.sw1Judge else s)

/-! ## Self-test -/

/-- A slice's result enters the run (R382): which tests are complete, which have passed, and FIRST_FAIL. -/
def SelfTest.slice (t : SelfTest) (bt : Nat) (rest : List (Nat × Nat)) (r : SliceResult) : SelfTest :=
  let failed := if r.ok then t.failed else bt :: t.failed
  let done := !(rest.any fun x => x.1 == bt)
  { t with
    slices := t.slices + 1, todo := rest, failed := failed
    firstFail := if !r.ok && t.firstFail = 0xFFFFFFFF then BitVec.ofNat 32 (bt % 256 * 256 + r.where_ % 256) else t.firstFail
    run := if done then setBit t.run bt true else t.run
    passed := if done && !failed.contains bt then setBit t.passed bt true else t.passed }

/-- All slices of a run have ended (R383, R384). -/
def State.testDone (s : State) (n : Nat) : State :=
  let t := s.life.test
  let ok := t.run = t.passed
  let s := s.endTest (if ok then 2 else 3)
  if (s.kernel.slot n).op = 0x0901 then s.stopping n t
  else
    let sealed := bitAt (leAt (s.kernel.slot n).param 1 1) 0 && t.run = 0x3F
    let s := if sealed then s.writeSeal 2 else s
    if ok then s.finish n .done 0 t.data else s.finish n .failed 0x0401 t.data

/-- A slice of the self-test ends (R382 to R384). -/
def sliceEnd (r : SliceResult) (s : State) : State :=
  match s.life.test.todo, s.life.test.slot with
  | (bt, _) :: rest, some n =>
    if (s.kernel.slot n).state == .suspended then s
    else
      let s := { s with life := { s.life with test := s.life.test.slice bt rest r } }
      let s := if r.ok then s else s.raise 0x1EC
      let t := s.life.test
      let s := s.modSlot n fun x => { x with percent := t.slices * 100 / max 1 (t.slices + t.todo.length) }
      if t.abort then
        let s := s.cutTest n
        match s.shutdownDue with | some m => s.startTest m 0x3F | none => s
      else if t.cancel then s.cutTest n
      else if t.todo.isEmpty then s.testDone n
      else s
  | _, _ => s

/-- SELFTEST_SLICE_END (R382 to R385). -/
def execSelftestSliceEnd (r : SliceResult) (s : State) : Host.Outcome State Fault Refusal :=
  .next (s.live fun s => sliceEnd r s)

end Sys2Proof.Machine
end

