-- ==== Sys2Proof/Machine/ObjectRows.lean ====
section
/-! DEFINITION. A write to an object with no row of its own (R92, R201, R258, R286, R299, R301, R303, R307, R321, R359, R375,
R409): its access, length and range, and what it stores. -/

namespace Sys2Proof.Machine

/-- What a write of an object needs and does: access, length and range checks, effect. -/
structure Write where
  need    : Need
  lenOk   : Bool
  rangeOk : Bool
  effect  : State → State

/-- A parameter stored at once; most take effect at the next start (R300). -/
def storing (n : Need) (len : Nat) (range : Nat → Bool) (idx sub : Nat) (d : List Byte) : Write :=
  ⟨n, d.length == len, range (ofLe d), fun s => s.pstWrite idx sub d⟩

/-- Any value. -/
def anyVal (_ : Nat) : Bool := true

/-- Ring, network and CAN configuration (R258, R286, R307). -/
def writeConfig (idx sub : Nat) (d : List Byte) : Option Write :=
  let w := fun (len : Nat) (r : Nat → Bool) => some (storing .rwc len r idx sub d)
  match idx with
  | 0x2780 => if sub ≤ 2 then w 1 fun v => v ≤ 63 || v = 0xFF else w 2336 anyVal
  | 0x2880 =>
    if sub ≤ 4 || sub = 7 || sub = 8 then w 4 anyVal
    else if sub ≤ 6 then w 1 (among 8 30)
    else if sub ≤ 10 then w 2 anyVal
    else w 1 (if sub = 11 then among 0 127 else if sub = 12 then among 0 1 else among 0 15)
  | 0x2980 =>
    if sub = 10 then w 2 (among 8 0x77)
    else w 1 (match sub with
      | 1 => among 1 127 | 2 => among 0 4 | 3 => among 0 3 | 4 => among 0 2 | 5 => among 0 15 | 8 => among 0 7
      | 9 => among 1 100 | _ => among 0 1)
  | 0x2981 => w 8 anyVal
  | _ => none

/-- Calibration, binding and keys (R92, R201, R286, R303). -/
def writeCal (idx sub : Nat) (d : List Byte) : Option Write :=
  if among 0x2580 0x258F idx then
    some (storing .rwc 4 (if sub ≤ 0x18 then anyVal else if sub ≤ 0x1A then among 1000 50000 else among 0 40000) idx sub d)
  else match idx with
    | 0x2380 => some (storing .rwc (if sub = 3 then 32 else 4) anyVal idx sub d)
    | 0x2081 => some (storing .keyC 16 anyVal idx sub d)
    | 0x2881 => some (storing .keyC 16 anyVal idx sub d)
    | _ => none

/-- The snapshot configuration of the code shown, with its image list and the standard bucket when none is held. -/
def Recorder.snapOf (r : Recorder) : SnapCfg :=
  match r.snaps.find? (·.code == r.selCode) with
  | some c => c
  | none => ⟨r.selCode, Config.snapList r.selCode, 16, 1000⟩

/-- The snapshot configuration of the code shown replaced (R375): for the next record of that code. At most 64 codes are
held (assumption 43). -/
def State.setSnap (s : State) (cl : Client) (c : SnapCfg) : State :=
  let rest := s.rcd.snaps.filter fun x => !(x.code == c.code)
  if 64 ≤ rest.length then s.abort cl 0x08000020
  else ({ s with rcd := { s.rcd with snaps := c :: rest } }).accept cl

/-- Eight address words. -/
def words8 (d : List Byte) : List W32 := (List.range 8).map fun i => BitVec.ofNat 32 (leAt d (4 * i) 4)

/-- Fault and recorder windows (R359, R375). -/
def writeWindow (cl : Client) (idx sub : Nat) (d : List Byte) : Option Write :=
  let n := ofLe d
  let bucket := fun (f : SnapCfg → SnapCfg) (s : State) =>
    if vCode s.rcd.selCode then s.abort cl 0x08000020 else s.setSnap cl (f s.rcd.snapOf)
  match idx, sub with
  | 0x2C81, 1 => some ⟨.expert, d.length == 2, n ≤ 0x1FF, fun s => ({ s with col := { s.col with select := n } }).accept cl⟩
  | 0x2D81, 1 => some ⟨.expert, d.length == 2, true, fun s => ({ s with rcd := { s.rcd with selCode := n } }).accept cl⟩
  | 0x2D81, 2 => some ⟨.rwm, d.length == 32, true, fun s => s.setSnap cl { s.rcd.snapOf with list := words8 d }⟩
  | 0x2D81, 3 => some ⟨.rwm, d.length == 1, 1 ≤ n, bucket fun c => { c with depth := n }⟩
  | 0x2D81, 4 => some ⟨.rwm, d.length == 2, 1 ≤ n, bucket fun c => { c with refill := n }⟩
  | _, _ => none

/-- A signed value of two bytes lies from `lo` to `hi`. -/
def among16 (lo hi : Int) (n : Nat) : Bool := lo ≤ (BitVec.ofNat 16 n).toInt && (BitVec.ofNat 16 n).toInt ≤ hi

/-- The remaining stored parameters (R299, R321, R375, R409). -/
def writeParam (idx sub : Nat) (d : List Byte) : Option Write :=
  let w := fun (n : Need) (len : Nat) (r : Nat → Bool) => some (storing n len r idx sub d)
  match idx, sub with
  | 0x1015, _ => w .rwe 2 anyVal
  | 0x1017, _ => w .rwe 2 (among 100 10000)
  | 0x2A80, 1 => w .rwc 1 (among 0 15)
  | 0x2A80, 2 =>
    some ⟨.rwm, d.length == 2, among16 (-300) 300 (ofLe d), fun s =>
      let s := s.pstWrite idx sub d
      { s with time := { s.time with trimmed := true } }⟩
  | 0x2A80, 3 => w .rwe 1 (among 0 1)
  | 0x2A80, 4 => w .rwe 2 anyVal
  | 0x2D80, _ => w .rwm 1 (among 0 2)
  | 0x2F80, 1 => w .rwe 1 (among 0 1)
  | 0x2F80, _ => w .rwe 2 (among 0 720)
  | _, _ => none

/-- A write that is stored, with its answer. -/
def Write.accepted (w : Write) (cl : Client) : Write := { w with effect := fun s => (w.effect s).accept cl }

/-- An entry of SVC's stream under its next counter, of which the client's write waits for the verdict (R145, R146). -/
def State.postEntry (s : State) (cl : Client) (slot : Nat) (launch : Bool) (e : Nat → SvcEntry) : State :=
  let n := s.nets.svcSeq
  (s.svcEntry (e n)).modClient cl fun c => { c with launched := c.launched ++ [⟨slot, launch, n, s.svc.ms, none⟩] }

/-- A launch record as it is written to 0x3100.01 (R144). -/
def launchOf (cl : Client) (d : List Byte) : Launch :=
  ⟨cl, leAt d 2 2, leAt d 4 1, byteAt d 5, BitVec.ofNat 16 (leAt d 6 2), BitVec.ofNat 32 (leAt d 8 4), d.drop 12⟩

/-- A write of 0x3100.01 (R145): in `RUN` a launch that passes SVC's checks becomes an entry of stream 0x0200; outside it SVC runs the
service operations itself (R155). -/
def postLaunch (cl : Client) (d : List Byte) (s : State) : State :=
  let op := leAt d 0 2
  let l := launchOf cl d
  if s.mstate = .run then
    match s.launchBar op l with
    | some c => s.refuse cl c
    | none => s.postEntry cl l.slot true fun n => .launch n op (s.client cl).level l
  else s.launch op l

/-- A write of 0x3000 + slot .03 (R146, R149): in `RUN` an entry of stream 0x0200. -/
def postControl (cl : Client) (slot code : Nat) (s : State) : State :=
  if s.mstate = .run then s.postEntry cl slot false fun n => .control n cl (s.client cl).level slot code
  else s.control cl slot code

/-- A write of 0x2330.01 (R120): an entry of stream 0x0200. -/
def postElem (cl : Client) (code el : Nat) (s : State) : State :=
  (if s.mstate = .run then s.svcEntry (.elem code el) else s).accept cl

/-- A write of a launch, a control or an element command, which becomes an entry of SVC's stream (R120, R145, R146); and a write whose
right form is another row's: that row carries it out (assumption 42), and here its length and the values no row has are
judged. -/
def writeOther (cl : Client) (idx sub : Nat) (d : List Byte) : Option Write :=
  let w := fun (n : Need) (lenOk rangeOk : Bool) => some (⟨n, lenOk, rangeOk, id⟩ : Write)
  let len := d.length
  if among 0x3000 0x305F idx then
    some ⟨.operate, len == 1, among 1 4 (ofLe d), postControl cl (idx - 0x3000) (ofLe d)⟩
  else match idx, sub with
    | 0x2001, _ => w .operate (len == 1) true
    | 0x2010, 1 => w .view (len == 1) true
    | 0x2010, _ => w .view (len == 8) true
    | 0x2101, _ => w .operate (len == 1) true
    | 0x2201, _ => w .operate (len == 1) true
    | 0x2330, _ =>
      some ⟨.operate, len == 4, among 1 5 (leAt d 3 1) && leAt d 0 3 < 4096, postElem cl (leAt d 3 1) (leAt d 0 3)⟩
    | 0x2620, _ => w .operate (len == 2) true
    | 0x2A80, _ => w .expert (len == 10) true
    | 0x2C10, _ => w .operate (len == 2) true
    | 0x2C11, _ => w .operate (len == 2) true
    | 0x2C81, 3 => w .rwm (len == 4) true
    | 0x2C81, _ => w .rwm (len == 1) true
    | 0x2D01, _ => w (if sub = 0x0C then .expert else .operate) (len == 2) true
    | 0x2D02, 1 => w .operate (len == 1) (among 1 3 (ofLe d))
    | 0x2D02, _ => w .operate (len == 4) true
    | 0x2D81, _ => w .expert (len == 1) true
    | 0x2F01, 1 => w .expert (among 5 1028 len) true
    | 0x2F01, _ => w .expert (len == 1) true
    | 0x3100, _ => some ⟨.view, among 12 64 len, true, postLaunch cl d⟩
    | _, _ => none

/-- What a write of an object needs and does. -/
def writeOf (cl : Client) (idx sub : Nat) (d : List Byte) : Option Write :=
  match (writeConfig idx sub d <|> writeCal idx sub d <|> writeParam idx sub d) with
  | some w => some (w.accepted cl)
  | none => writeWindow cl idx sub d <|> writeOther cl idx sub d

/-- A row of its own carries the write out: its checks are that row's. -/
def ownRow (idx sub : Nat) (d : List Byte) : Bool :=
  idx != 0x3100 && idx != 0x2330 && !among 0x3000 0x305F idx && match writeOther (.can 0) idx sub d with
    | some w => (writeConfig idx sub d <|> writeCal idx sub d <|> writeParam idx sub d).isNone
        && (writeWindow (.can 0) idx sub d).isNone && w.lenOk && w.rangeOk
    | none => false

/-- A write of an object (R301): checks 2 to 4, then the object's own. -/
def objectWrite (cl : Client) (idx sub : Nat) (d : List Byte) (s : State) : State :=
  match s.access idx sub with
  | .error e => (s.touch cl).abort cl e
  | .ok .const => (s.touch cl).abort cl 0x06010002
  | .ok .ro => (s.touch cl).abort cl 0x06010002
  | .ok _ =>
    if ownRow idx sub d then s
    else match writeOf cl idx sub d with
      | some w => s.write cl w.need w.lenOk w.rangeOk w.effect
      | none => s

/-- OBJECT_WRITE (R301). -/
def execObjectWrite (cl : Client) (idx sub : Nat) (data : List Byte) (s : State) : Host.Outcome State Fault Refusal :=
  .next (s.live fun s => objectWrite cl idx sub data s)

end Sys2Proof.Machine
end

