-- ==== Sys2Proof/Machine/Recording.lean ====
section
/-! DEFINITION. The recorder's commands: tokens, scrub, marker, clear, cursors and export (R367 to R375). -/

namespace Sys2Proof.Machine

/-- A bucket that is not full gains a token once its refill time has passed (R367). -/
def Recorder.refill (r : Recorder) (code ms : Nat) : Recorder :=
  match r.buckets.find? (·.code == code) with
  | some b =>
    let (depth, every) := r.bucketCfg code
    if b.tokens < depth && b.at_ + every ≤ ms then r.setTokens code (b.tokens + 1) (b.at_ + every) else r
  | none => r

/-- TOKEN_REFILL (R367): a bucket gains one token up to its depth. -/
def execTokenRefill (code : Nat) (s : State) : Host.Outcome State Fault Refusal :=
  .next (s.live fun s => { s with rcd := s.rcd.refill code s.svc.ms })

/-- A failure of the recorder's own memory (R304, R373): its source asserts at L1 and sends EMCY 0xFF30, and opens no fault record, as
the worked example of chapter 17 shows (DEDUCED, assumption 135). -/
def State.memoryFault (s : State) (src : Nat) : State :=
  let s := s.countAssert src
  let s := { s with col := { s.col with highest := max s.col.highest 1 } }
  ((s.queueEmcy (emcyCode src 1) src).settleSource src).checkClear

/-- One 4 KiB region is fenced (R373). -/
def fenceRegion (s : State) (region : Nat) : State :=
  let r := s.rcd
  if r.fenced.contains region || recPlaces r.size ≤ region * 64 then s
  else
    let lost := (r.recs.filter fun p => p.1 / 64 == region).length
    let n := r.lrLast % 8
    let w := s.time.now.s % 65536 * 65536 + region * 128 + lost
    let r := { (r.lose lost) with
      fenced := region :: r.fenced, recs := r.recs.filter fun p => !(p.1 / 64 == region)
      lr := modNth r.lr n fun _ => BitVec.ofNat 32 w, lrLast := n + 1
      fencedSeq := ((r.recs.filter fun p => p.1 / 64 == region).map (·.2.rseq)) ++ r.fencedSeq }
    let s := ({ s with rcd := r }).memoryFault 0x1E0
    let s := s.record 7 region 0
    if recPlaces s.rcd.size / 64 ≤ 2 * s.rcd.fenced.length && !s.rcd.stopped then
      ({ s with rcd := { s.rcd with stopped := true } }).memoryFault 0x1E1
    else s

/-- RECORDER_SCRUB (R373): `bad` lists the places that hold an uncorrectable word. -/
def execRecorderScrub (bad : List Nat) (corrected : Nat) (s : State) : Host.Outcome State Fault Refusal :=
  .next (s.live fun s =>
    (bad.map (· / 64)).foldl fenceRegion
      { s with rcd := { s.rcd with corrected := s.rcd.corrected + corrected } })

/-- MARKER (R374). -/
def execMarker (cl : Client) (v : W16) (s : State) : Host.Outcome State Fault Refusal :=
  .next (s.live fun s => s.write cl .operate true true fun s => (s.record 0x8000 v.toNat 0).accept cl)

/-- The ring emptied; fences and RSEQ stay (R372). -/
def Recorder.clear (r : Recorder) : Recorder := { r with recs := [], lost := 0, next := 0 }

/-- RECORDER_CLEAR (R372). -/
def recorderClear (cl : Client) (v : W16) (s : State) : State :=
  let s := s.touch cl
  if (s.client cl).level < 2 then s.abort cl 0x06010000
  else if !(s.life.state == 1 || s.life.state == 3) then s.abort cl 0x08000021
  else if v.toNat != 0xC1EA then s.abort cl 0x06090030
  else if (s.kernel.slots.any fun x => x.op == 0x0601 && x.state == .running) then s.abort cl 0x08000022
  else (({ s with rcd := s.rcd.clear }).record 6 1 0).accept cl

/-- RECORDER_CLEAR (R372). -/
def execRecorderClear (cl : Client) (v : W16) (s : State) : Host.Outcome State Fault Refusal :=
  .next (s.live fun s => recorderClear cl v s)

/-- A client's cursor moved; of more than eight clients the one longest unused loses its cursor (R370,
assumption 18). -/
def Recorder.setCursor (r : Recorder) (cl : Client) (n : Nat) : Recorder :=
  { r with cursors := ((⟨cl, n⟩ : Cursor) :: r.cursors.filter (fun c => !decide (c.client = cl))).take 8 }

/-- The records of a range as the export reads them (R371). -/
def Recorder.range (r : Recorder) (lo n : Nat) : List Byte := (List.range n).flatMap fun i => r.at_ (lo + i)

/-- The export moves on with its client's cursor (R371, R394): CVU8 holds the running value, PROGRESS the share; past
the last record the slot is DONE. -/
def exportAdvance (s : State) (cl : Client) (cur : Nat) : State :=
  match s.rcd.pin with
  | none => s
  | some p =>
    if p.client = cl && p.lo ≤ cur then
      let total := p.hi + 1 - p.lo
      let n := min total (cur - p.lo)
      let u := (s.cvu 8).castagnoli
      let reg := u.feed u.init (s.rcd.range p.lo n)
      let s := s.modCvu 8 fun u => { u.castagnoli with running := reg }
      let s := { s with rcd := { s.rcd with pin := some { p with lastMs := s.svc.ms } } }
      let s := { s with kernel := s.kernel.modSlot p.slot fun x => { x with percent := n * 100 / max 1 total } }
      if p.hi < cur then
        let crc := u.final reg
        let s := s.modCvu 8 fun u => { u with result := crc, units := u.units + 1 }
        let s := { s with kernel := s.kernel.finish p.slot .done 0 (exportData p.lo total (crc.truncate 32))
                          rcd := { s.rcd with pin := none } }
        s.slotRecords
      else s
    else s

/-- A cursor moves to `n` by an ADVANCE. -/
def advanceTo (cl : Client) (n : Nat) (s : State) : State :=
  (exportAdvance { s with rcd := s.rcd.setCursor cl n } cl n).accept cl

/-- ADVANCE_NEXT (R370): one past NEWEST at most. -/
def execAdvanceNext (cl : Client) (s : State) : Host.Outcome State Fault Refusal :=
  .next (s.live fun s =>
    s.write cl .operate true true fun s =>
    let c := s.rcd.cursorOf cl
    advanceTo cl (if s.rcd.newest < c then c else nextRseq c) s)

/-- ADVANCE_OLDEST (R370). -/
def execAdvanceOldest (cl : Client) (s : State) : Host.Outcome State Fault Refusal :=
  .next (s.live fun s =>
    s.write cl .operate true true fun s =>
    ({ s with rcd := s.rcd.setCursor cl s.rcd.oldest }).accept cl)

/-- ADVANCE_NEWEST (R370). -/
def execAdvanceNewest (cl : Client) (s : State) : Host.Outcome State Fault Refusal :=
  .next (s.live fun s => s.write cl .operate true true fun s => advanceTo cl s.rcd.newest s)

/-- CURSOR (R370). -/
def execCursor (cl : Client) (rseq : W32) (s : State) : Host.Outcome State Fault Refusal :=
  .next (s.live fun s =>
    s.write cl .operate true true fun s =>
    ({ s with rcd := s.rcd.setCursor cl rseq.toNat }).accept cl)

/-- REVERT (R375). -/
def execRevert (cl : Client) (v : Byte) (s : State) : Host.Outcome State Fault Refusal :=
  .next (s.live fun s =>
    s.write cl .expert true (v = 1) fun s =>
    ({ s with rcd := { s.rcd with snaps := s.rcd.snaps.filter fun c => !(c.code == s.rcd.selCode) } }).accept cl)

/-- EXPORT_IDLE (R371): 60 s without an advance. -/
def execExportIdle (s : State) : Host.Outcome State Fault Refusal :=
  .next (s.live fun s =>
    match s.rcd.pin with
    | some p =>
      if p.lastMs + 60000 ≤ s.svc.ms then
        ({ s with kernel := s.kernel.finish p.slot .failed 0x0601 (s.exported p), rcd := { s.rcd with pin := none } }).slotRecords
      else s
    | none => s)

end Sys2Proof.Machine
end

