-- ==== Sys2Proof/Machine/SdiRead.lean ====
section
/-! DEFINITION. Reading a station-data image from its bytes: header, directory, tables and records (R70 to R83). -/

namespace Sys2Proof.Machine

/-- Bytes [lo, hi] of a record are 0. -/
def zeros (l : List Byte) (lo hi : Nat) : Bool := (slice l lo (hi + 1 - lo)).all (· == 0)

/-- One byte as a number. -/
def nb (l : List Byte) (o : Nat) : Nat := (byteAt l o).toNat

/-- Two bytes, little-endian. -/
def n2 (l : List Byte) (o : Nat) : Nat := leAt l o 2

/-! ## Directory (R72) -/

/-- A directory entry. -/
structure DirEntry where
  id    : Nat
  size  : Nat
  off   : Nat
  len   : Nat
  count : Nat
  deriving DecidableEq, Repr

/-- Directory entry `i` of an image. -/
def dirEntry (d : List Byte) (i : Nat) : DirEntry :=
  let o := 128 + 16 * i
  ⟨n2 d o, n2 d (o + 2), leAt d (o + 4) 4, leAt d (o + 8) 4, leAt d (o + 12) 4⟩

/-- The record size of a table (R72 and the tables' rules); 0 for variable-length tables. -/
def recordSize : Nat → Nat
  | 1 => 64 | 2 => 32 | 5 => 12 | 6 => 32 | 7 => 16 | 8 => 20 | 9 => 32 | _ => 0

/-- The entry of a table by its TABLE_ID. -/
def table (d : List Byte) (id : Nat) : DirEntry := dirEntry d (id - 1)

/-- The bytes of a table. -/
def tableBytes (d : List Byte) (id : Nat) : List Byte := slice d (table d id).off (table d id).len

/-- The records of a table of fixed records. -/
def records (d : List Byte) (id : Nat) : List (List Byte) :=
  let t := tableBytes d id
  (List.range (table d id).count).map fun i => slice t (recordSize id * i) (recordSize id)

/-- Rounded up to a multiple of `k`. -/
def alignUp (k n : Nat) : Nat := (n + k - 1) / k * k

/-- A table stands where it must (R72): `last` is the end of the table before it, none before the first. -/
def tablePlaced (d : List Byte) (last : Option Nat) (id : Nat) : Bool :=
  let e := table d id
  e.id == id && e.size == recordSize id && e.off % 16 == 0 && 384 ≤ e.off && e.off + e.len ≤ leAt d 24 4
    && (match last with | some n => e.off == alignUp 16 n && zeros d n (e.off - 1) | none => zeros d 384 (e.off - 1))
    && (recordSize id == 0 || e.len == recordSize id * e.count) && (e.count != 0 || e.len == 0)

/-- Every table stands where it must (R72). -/
def tablesPlaced (d : List Byte) : Bool :=
  ((List.range 9).all fun i =>
    tablePlaced d (if i = 0 then none else some ((table d i).off + (table d i).len)) (i + 1))
    && (table d 9).off + (table d 9).len == leAt d 24 4

/-! ## Variable-length records (R76, R77) -/

/-- The records of the ROUTE table, `n` of them; a record that is not whole ends the reading. -/
def routeBytes : Nat → List Byte → List (List Byte)
  | 0, _ => []
  | n + 1, l =>
    let k := n2 l 2
    if k < 32 || l.length < k then [] else l.take k :: routeBytes n (l.drop k)

/-- The lists of the LIST table, `n` of them, each with its list index. -/
def listBytes : Nat → Nat → List Byte → List (Nat × List Byte)
  | 0, _, _ => []
  | n + 1, at_, l =>
    let k := alignUp 4 (4 + 2 * nb l 1)
    if l.length < k then [] else (at_, l.take k) :: listBytes n (at_ + k / 4) (l.drop k)

/-! ## Records -/

/-- A profile record (R73). -/
def profileOf (b : List Byte) : Profile where
  id := nb b 0
  flags := nb b 1
  ovlPolicy := nb b 2
  apprModel := nb b 3
  ovlS := n2 b 4
  apprS := n2 b 6
  emergS := n2 b 8
  throwMs := n2 b 10
  flankDepth := nb b 12
  ovlSpeed := n2 b 14
  mask := n2 b 16
  rank := leAt b 18 8
  tag := slice b 26 4

/-- The type-specific part of an element record (R75). -/
def specOf (b : List Byte) : ElemSpec :=
  match nb b 2 with
  | 1 => .ts (nb b 16) (nb b 17) (n2 b 18) (n2 b 20) (n2 b 22)
  | 2 => .pt (nb b 16) (n2 b 18) (n2 b 20) (n2 b 22) (n2 b 24) (n2 b 26) (n2 b 28)
  | 3 => .sg (nb b 16) (nb b 17) (nb b 18) (n2 b 20) (n2 b 22) (n2 b 24)
  | 4 => .dr (nb b 16) (n2 b 18) (n2 b 20)
  | 5 => .kl (n2 b 18) (nb b 20)
  | 6 => .lx (nb b 16) (n2 b 18) (n2 b 20)
  | 7 => .bd (n2 b 18) (n2 b 20)
  | _ => .bk (nb b 16) (n2 b 18) (n2 b 20)

/-- The address of a binding record (R78). -/
def addrOf (b : List Byte) : BindAddr :=
  match nb b 3 with
  | 1 => .input (nb b 4) (nb b 5) (bitAt (nb b 6) 0) (bitAt (nb b 6) 1) (bit (bitAt (nb b 6) 2)) (bitAt (nb b 6) 3) (n2 b 8)
  | 2 => .pair (nb b 4) (nb b 5) (nb b 6) (bitAt (nb b 7) 0) (bitAt (nb b 7) 1) (bitAt (nb b 7) 2) (n2 b 8) (n2 b 10)
  | 3 => .vout (nb b 4) (nb b 5) (bitAt (nb b 6) 0) (bitAt (nb b 6) 1) (n2 b 8)
  | 4 => .nv (nb b 4) (nb b 5) (nb b 6) (n2 b 8)
  | 5 => .head (n2 b 4) (bitAt (nb b 6) 0) (bitAt (nb b 6) 1) (bitAt (nb b 6) 2)
  | 6 => .stratus (nb b 4) (nb b 5) (n2 b 6) (nb b 8) (nb b 9) (n2 b 10)
  | _ => .field (n2 b 4) (n2 b 6) (nb b 8) (nb b 9)

/-- A binding record (R78). -/
def bindingOf (b : List Byte) : Binding := ⟨n2 b 0, nb b 2, nb b 3, addrOf b⟩

/-- An element record with its bindings (R74). -/
def elemOf (binds : List (List Byte)) (b : List Byte) : Elem where
  id := n2 b 0
  profile := nb b 3
  flags := nb b 7
  linkA := n2 b 8
  linkB := n2 b 10
  linkC := n2 b 12
  spec := specOf b
  binds := ((binds.drop (n2 b 4)).take (nb b 6)).map bindingOf

/-- Item `i` of a route record. -/
def routeItem (b : List Byte) (i : Nat) : Nat := n2 b (32 + 2 * i)

/-- A route record (R76). -/
def routeOf (b : List Byte) : Route :=
  let np := nb b 16
  let ns := nb b 17
  let no := nb b 18
  let nc := nb b 19
  let items := fun (at_ n : Nat) => (List.range n).map fun i => routeItem b (at_ + i)
  { id := n2 b 0, entry := n2 b 4, exit_ := n2 b 6, cls := nb b 8, flags := nb b 9, aspect := nb b 10
    profileSet := nb b 11, speed := n2 b 12, overlap := n2 b 14
    points := (items 0 np).map fun x => (x % 4096, x / 4096 % 2)
    sections := (items np ns).map (· % 4096)
    others := (items (np + ns) no).map fun x => (x % 4096, x / 4096)
    conflicts := (items (np + ns + no) nc).map (· % 2048) }

/-- A list (R77). -/
def listOf (x : Nat × List Byte) : SList :=
  let b := x.2
  let kind := nb b 0
  { index := x.1, kind := kind, nextAlt := n2 b 2
    items := (List.range (nb b 1)).map fun i =>
      let v := n2 b (4 + 2 * i)
      if kind = 1 then ⟨v % 4096, v / 16384 % 2, v / 4096 % 4 + 1⟩ else ⟨v % 4096, v / 4096 % 2, 0⟩ }

/-- A partner record (R80). -/
def partnerOf (i : Nat) (b : List Byte) : Partner where
  index := i
  id := BitVec.ofNat 32 (leAt b 0 4)
  cls := nb b 4
  flags := nb b 5
  port := n2 b 6
  ipA := BitVec.ofNat 32 (leAt b 8 4)
  ipB := BitVec.ofNat 32 (leAt b 12 4)
  timeoutMs := n2 b 16
  skewMs := n2 b 18
  maxPayload := n2 b 20
  keySlot := n2 b 22
  periodMs := n2 b 24

/-- A head record (R81). -/
def headOf (b : List Byte) : HeadRec :=
  ⟨n2 b 0, nb b 2, nb b 3, n2 b 4, nb b 6, nb b 7, nb b 8, nb b 9, n2 b 10⟩

/-- A section record (R82). -/
def sectionOf (b : List Byte) : SectionRec :=
  ⟨n2 b 0, (List.range (nb b 2)).map fun i => (n2 b (4 + 2 * i) % 1024, bitAt (n2 b (4 + 2 * i)) 15)⟩

/-- The budget record (R83). -/
def budgetOf (b : List Byte) : Budget :=
  ⟨leAt b 0 4, leAt b 4 4, leAt b 8 4, leAt b 12 4, leAt b 16 4, leAt b 20 4, n2 b 24, nb b 26⟩

/-- The routes of an image as bytes. -/
def routesRaw (d : List Byte) : List (List Byte) := routeBytes (table d 3).count (tableBytes d 3)

/-- The lists of an image as bytes. -/
def listsRaw (d : List Byte) : List (Nat × List Byte) := listBytes (table d 4).count 0 (tableBytes d 4)

/-- An image as records (R71 to R83). -/
def readSdi (d : List Byte) : Sdi where
  format := n2 d 4
  stationId := BitVec.ofNat 32 (leAt d 8 4)
  revision := BitVec.ofNat 32 (leAt d 12 4)
  buildTime := leAt d 16 6
  cycleMs := nb d 28
  dualMin := n2 d 30
  keyId := BitVec.ofNat 32 (leAt d 32 4)
  crcC := BitVec.ofNat 32 (leAt d 48 4)
  crcH := BitVec.ofNat 32 (leAt d 52 4)
  profiles := (records d 1).map profileOf
  elems := (records d 2).map (elemOf (records d 5))
  routes := (routesRaw d).map routeOf
  lists := (listsRaw d).map listOf
  partners := (records d 6).zipIdx.map fun x => partnerOf x.2 x.1
  heads := (records d 7).map headOf
  sections := (records d 8).map sectionOf
  budget := budgetOf (tableBytes d 9)

end Sys2Proof.Machine
end

