-- ==== Sys2Proof/Machine/SdiCheck.lean ====
section
/-! DEFINITION. The checks of a station-data image at start (R70 to R87, R119, R130, R186). -/

namespace Sys2Proof.Machine

/-- A failed check: its code, the TABLE_ID of the failing record and the record (R86, R90). -/
structure SdiFault where
  code   : Nat
  table  : Nat
  record : Nat
  deriving DecidableEq, Repr

/-- A check of the header. -/
def headCheck (code : Nat) (ok : Bool) : Option SdiFault := if ok then none else some ⟨code, 0, 0⟩

/-- A check that every record of a table satisfies; the first that does not is named. -/
def eachCheck {α : Type} (code table : Nat) (l : List α) (ok : α → Bool) : Option SdiFault :=
  (l.findIdx? fun x => !ok x).map fun i => ⟨code, table, i⟩

/-- A check of every list, named by its list index. -/
def listCheck (code : Nat) (l : List (Nat × List Byte)) (ok : Nat × List Byte → Bool) : Option SdiFault :=
  (l.find? fun x => !ok x).map fun x => ⟨code, 4, x.1⟩

/-- The first failure of several checks. -/
def firstFault (l : List (Option SdiFault)) : Option SdiFault := l.findSome? id

/-- A number within bounds. -/
def within (lo hi n : Nat) : Bool := lo ≤ n && n ≤ hi

/-! ## Checks 1 to 7 -/

/-- The bytes the CRCs cover (R71). -/
def sdiCovered (d : List Byte) : List Byte := zeroAt (d.take (leAt d 24 4)) 48 80

/-- FORMAT_VERSION is the one supported, or one from `low` upward, which the running VCH migrates (R71, R408). -/
def formatOk (low f : Nat) : Bool := f = 0x0100 || (low ≤ f && f < 0x0100)

/-- Checks 1 to 7 on the signed original. -/
def checkOriginal (low : Nat) (pst : List PstVal) (unusable : Bool) (d : List Byte) : Option SdiFault :=
  let total := leAt d 24 4
  let key := (pstFind pst 0x2380 3).getD (List.replicate 32 0)
  firstFault
    [headCheck 1 (slice d 0 4 == [0x50, 0x4A, 0x56, 0x53] && n2 d 6 == 0x80),
     headCheck 2 (formatOk low (n2 d 4)),
     headCheck 3 (!unusable && within 384 3145728 total && total % 16 == 0 && total ≤ d.length),
     headCheck 4 (leAt d 48 4 == (crc32c (sdiCovered d)).toNat),
     headCheck 5 (leAt d 52 4 == (crc32h (sdiCovered d)).toNat),
     headCheck 6 (leAt d 32 4 == pstNat pst 0x2380 2 0),
     headCheck 7 (key != List.replicate 32 0
       && Config.ed25519 key (zeroAt (d.take total) 64 64) (slice d 64 64))]

/-! ## Check 12: fields and reserved bits -/

/-- The rank of a code in a rank word (R73). -/
def rankIn (rank c : Nat) : Nat := rank / 16 ^ c % 16

/-- A profile record (R73). -/
def profileFields (i : Nat) (b : List Byte) : Bool :=
  let p := profileOf b
  let codes := List.range 16
  p.id == i + 1 && p.flags < 16 && p.ovlPolicy ≤ 2 && p.apprModel ≤ 1 && within 5 600 p.ovlS && within 30 600 p.apprS
    && within 30 600 p.emergS && within 1000 30000 p.throwMs && within 1 4 p.flankDepth && nb b 13 == 0
    && p.ovlSpeed ≤ 500 && (p.ovlPolicy == 2 || p.ovlSpeed == 0) && bitAt p.mask 0 && rankIn p.rank 0 == 0
    && codes.all (fun c => bitAt p.mask c || rankIn p.rank c == 0)
    && codes.all (fun c => codes.all fun e => c == e || rankIn p.rank c == 0 || rankIn p.rank c != rankIn p.rank e)
    && p.tag.all (fun x => within 0x20 0x7E x.toNat) && zeros b 30 63

/-- A throw limit override (R75). -/
def overrideOk (n : Nat) : Bool := n == 0 || within 1000 30000 n

/-- Bytes 16 to 31 of an element record (R75). -/
def specFields (profiles : List Profile) (prof : Nat) (b : List Byte) : Bool :=
  match specOf b with
  | .ts src fl ac _ delay =>
    src ≤ 2 && fl ≤ 1 && (if src = 0 then ac ≤ 511 else ac == 0xFFFF) && delay ≤ 10000 && zeros b 24 31
  | .pt fl _ t g _ _ _ => fl ≤ 3 && nb b 17 == 0 && overrideOk t && g ≤ 2000 && zeros b 30 31
  | .sg k fl m _ _ _ =>
    k ≤ 3 && fl ≤ 1 && m < 16 && nb b 19 == 0 && zeros b 26 31
      && (profiles.any fun p => p.id == prof && bitAt p.mask m)
  | .dr fl _ t => fl ≤ 1 && nb b 17 == 0 && overrideOk t && zeros b 22 31
  | .kl _ pos => zeros b 16 17 && pos ≤ 1 && zeros b 21 31
  | .lx fl c _ => fl ≤ 1 && nb b 17 == 0 && within 10 600 c && zeros b 22 31
  | .bd p _ => zeros b 16 17 && p ≤ 1023 && zeros b 22 31
  | .bk fl p _ => fl ≤ 1 && nb b 17 == 0 && p ≤ 1023 && zeros b 22 31

/-- An element record (R74). -/
def elemFields (profiles : List Profile) (b : List Byte) : Bool :=
  within 1 4095 (n2 b 0) && within 1 8 (nb b 2) && within 1 profiles.length (nb b 3)
    && nb b 6 ≤ 16 && (nb b 6 != 0 || n2 b 4 == 0) && nb b 7 ≤ 3
    && n2 b 8 ≤ 4095 && n2 b 10 ≤ 4095 && n2 b 12 ≤ 4095 && (nb b 2 == 2 || n2 b 12 == 0) && zeros b 14 15
    && specFields profiles (nb b 3) b

/-- The state codes of an "other" item by the type of its element (R130). -/
def otherCode (s : ElemSpec) (c : Nat) : Bool :=
  match s with
  | .dr .. => c == 1 || c == 2
  | .kl .. => c == 1
  | .lx .. => c == 1
  | .bk .. => c == 1 || c == 2
  | .bd .. => c == 1
  | _ => true

/-- A route record (R76, R130). -/
def routeFields (elems : List Elem) (b : List Byte) : Bool :=
  let np := nb b 16
  let ns := nb b 17
  let no := nb b 18
  let n := np + ns + no + nb b 19
  let r := routeOf b
  r.id ≤ 1535 && n2 b 2 == 32 + alignUp 4 (2 * n) && n2 b 2 ≤ 800 && r.cls ≤ 1 && r.flags ≤ 7 && r.profileSet ≤ 7
    && r.speed ≤ 500 && np ≤ 32 && within 1 64 ns && no ≤ 32 && zeros b 20 31
    && ((List.range np).all fun i => routeItem b i < 8192)
    && ((List.range ns).all fun i => routeItem b (np + i) < 4096)
    && ((List.range (nb b 19)).all fun i => routeItem b (np + ns + no + i) < 2048)
    && (n % 2 == 0 || routeItem b n == 0)
    && (r.others.all fun x => match elems.find? (·.id == x.1) with | some e => otherCode e.spec x.2 | none => true)

/-- Depths do not fall. -/
def ascending : List Nat → Bool
  | a :: b :: t => a ≤ b && ascending (b :: t)
  | _ => true

/-- A list (R77). -/
def listFields (x : Nat × List Byte) : Bool :=
  let b := x.2
  let n := nb b 1
  let item := fun i => n2 b (4 + 2 * i)
  within 1 3 (nb b 0) && 1 ≤ n && (nb b 0 == 2 || n2 b 2 == 0xFFFF)
    && ((List.range n).all fun i => match nb b 0 with
      | 1 => item i < 32768
      | 2 => item i < 8192
      | _ => item i < 4096)
    && (n % 2 == 0 || item n == 0) && (nb b 0 != 1 || ascending ((listOf x).items.map (·.depth)))

/-- A debounce time (R78). -/
def debounceOk (n : Nat) : Bool := n == 0 || within 10 65535 n

/-- A binding record (R78). -/
def bindingFields (b : List Byte) : Bool :=
  within 1 4095 (n2 b 0) && nb b 2 != 0 && (match nb b 3 with
    | 1 => within 1 4 (nb b 4) && within 1 24 (nb b 5) && nb b 6 < 16 && nb b 7 == 0 && debounceOk (n2 b 8) && zeros b 10 11
    | 2 => within 1 4 (nb b 4) && within 1 24 (nb b 5) && within 1 24 (nb b 6) && nb b 5 != nb b 6 && nb b 7 < 8
        && debounceOk (n2 b 8) && within 5 2000 (n2 b 10)
    | 3 => within 1 4 (nb b 4) && within 1 8 (nb b 5) && nb b 6 < 4 && nb b 7 == 0 && within 250 10000 (n2 b 8) && zeros b 10 11
    | 4 => within 1 4 (nb b 4) && within 1 4 (nb b 5) && nb b 6 ≤ 2 && nb b 7 == 0 && within 10 1000 (n2 b 8) && zeros b 10 11
    | 5 => n2 b 4 ≤ 511 && nb b 6 < 8 && zeros b 7 11
    | 6 => nb b 4 ≤ 63 && n2 b 6 ≤ 255 && nb b 8 ≤ 7 && within 1 16 (nb b 9) && within 1 8 (n2 b 10)
    | 7 => n2 b 4 ≤ 1023 && n2 b 6 ≤ 1023 && nb b 8 ≤ 7 && within 1 16 (nb b 9) && zeros b 10 11
    | _ => false)

/-- A partner record (R80). -/
def partnerFields (cycleMs : Nat) (b : List Byte) : Bool :=
  let p := partnerOf 0 b
  p.id != 0 && within 1 4 p.cls && p.flags ≤ 3 && 1 ≤ p.port && p.ipA != 0 && p.ipB != 0 && within 50 5000 p.timeoutMs
    && within 1 100 p.skewMs && p.maxPayload ≤ 1024 && (p.keySlot ≤ 63 || p.keySlot == 0xFFFF)
    && within 10 5000 p.periodMs && p.periodMs % cycleMs == 0 && zeros b 26 31

/-- A head record (R81). -/
def headFields (b : List Byte) : Bool :=
  let h := headOf b
  h.index ≤ 511 && h.kind ≤ 2 && decide (h.kind = 0 ↔ h.index ≤ 15) && h.flags ≤ 1 && within 60 300 h.spacing
    && within 10 90 h.overlap && zeros b 12 15
    && (if h.kind = 0 then h.freq1 ≤ 15 && h.freq2 ≤ 15 && h.freq1 != h.freq2 && within 5 50 h.ampl && h.source == 0
        else h.freq1 == 0 && h.freq2 == 0 && h.ampl == 0)

/-- A section record (R82). -/
def sectionFields (b : List Byte) : Bool :=
  let n := nb b 2
  n2 b 0 ≤ 511 && within 1 8 n && nb b 3 == 0
    && ((List.range n).all fun i => n2 b (4 + 2 * i) / 1024 % 32 == 0 && n2 b (4 + 2 * i) % 1024 ≤ 511)
    && zeros b (4 + 2 * n) 19

/-- The budget record (R83). -/
def budgetFields (d : List Byte) (items : Nat) (b : List Byte) : Bool :=
  let x := budgetOf b
  x.totalNs == x.fixedNs + x.elemNs + x.routeNs + x.axleNs && x.items == items && x.cycleMs == nb d 28 && zeros b 27 31

/-- Check 12. -/
def checkFields (d : List Byte) (x : Sdi) : Option SdiFault :=
  let items := (x.routes.map fun r => r.points.length + r.sections.length + r.others.length + r.conflicts.length).sum
  firstFault
    [headCheck 12 (leAt d 8 4 != 0 && zeros d 22 23 && zeros d 38 47 && zeros d 56 63),
     eachCheck 12 1 (records d 1).zipIdx (fun p => profileFields p.2 p.1),
     eachCheck 12 2 (records d 2) (elemFields x.profiles),
     (if (routesRaw d).length = (table d 3).count && ((routesRaw d).map List.length).sum = (table d 3).len then none
      else some ⟨12, 3, (routesRaw d).length⟩),
     eachCheck 12 3 (routesRaw d) (routeFields x.elems),
     (if (listsRaw d).length = (table d 4).count && ((listsRaw d).map (·.2.length)).sum = (table d 4).len then none
      else some ⟨12, 4, (listsRaw d).length⟩),
     listCheck 12 (listsRaw d) listFields,
     eachCheck 12 5 (records d 5) bindingFields,
     eachCheck 12 6 (records d 6) (partnerFields (nb d 28)),
     eachCheck 12 7 (records d 7) headFields,
     eachCheck 12 8 (records d 8) sectionFields,
     eachCheck 12 9 (records d 9) (budgetFields d items)]

/-! ## Check 13: references -/

/-- Strictly ascending numbers; the index of the first that is not. -/
def rising (table : Nat) (l : List Nat) : Option SdiFault :=
  ((List.range (l.length - 1)).find? fun i => l.getD (i + 1) 0 ≤ l.getD i 0).map fun i => ⟨13, table, i + 1⟩

/-- An element exists and is of a type. -/
def Sdi.isA (d : Sdi) (n : Nat) (p : ElemSpec → Bool) : Bool := match d.elem n with | some e => p e.spec | none => false

/-- A track section. -/
def ElemSpec.isTs : ElemSpec → Bool | .ts .. => true | _ => false
/-- A point. -/
def ElemSpec.isPt : ElemSpec → Bool | .pt .. => true | _ => false
/-- A signal. -/
def ElemSpec.isSg : ElemSpec → Bool | .sg .. => true | _ => false
/-- A derailer. -/
def ElemSpec.isDr : ElemSpec → Bool | .dr .. => true | _ => false
/-- A boundary element. -/
def ElemSpec.isBd : ElemSpec → Bool | .bd .. => true | _ => false
/-- An element an "other" item may name (R76). -/
def ElemSpec.isOther : ElemSpec → Bool
  | .dr .. | .kl .. | .lx .. | .bk .. | .bd .. => true
  | _ => false

/-- A list exists and is of a kind. -/
def Sdi.isList (d : Sdi) (n kind : Nat) : Bool := match d.list n with | some l => l.kind == kind | none => false

/-- A list index of a kind, or none. -/
def Sdi.listOr (d : Sdi) (n kind : Nat) : Bool := n == 0xFFFF || d.isList n kind

/-- An element's references (R74, R75, R119). -/
def Sdi.elemRefs (d : Sdi) (e : Elem) : Bool :=
  ([e.linkA, e.linkB, e.linkC].all fun x => x == 0 || (d.elem x).isSome) && (match e.spec with
    | .ts src _ ac _ _ => src != 0 || (d.section_ ac).isSome
    | .pt _ cp _ _ fn fr fs =>
      (cp == 0 || (match d.elem cp with
        | some o => match o.spec with | .pt _ back _ _ _ _ _ => back == e.id | _ => false
        | none => false))
        && d.listOr fn 1 && d.listOr fr 1 && (fs == 0 || d.isA fs ElemSpec.isTs)
    | .sg kind _ _ ap pr ms =>
      (d.isList ap 3 || (ap == 0xFFFF && (match d.profile e.profile with | some p => p.apprModel == 0 | none => false)))
        && d.isA pr ElemSpec.isTs && (if 2 ≤ kind then d.isA ms ElemSpec.isSg else ms == 0)
    | .dr _ p _ => d.isA p ElemSpec.isTs
    | .kl l _ => d.isA l fun s => s.isPt || s.isDr
    | .lx _ _ st => d.listOr st 3
    | .bd p _ => (d.partner p).isSome && d.isA e.linkB ElemSpec.isTs
    | .bk _ p b => (d.partner p).isSome && d.isA b ElemSpec.isTs)

/-- The profiles a route names, as a PROFILE_SET (R76). -/
def Sdi.routeSet (d : Sdi) (r : Route) : Nat :=
  let ids := [r.entry, r.exit_] ++ r.points.map (·.1) ++ r.sections ++ r.others.map (·.1)
  let ps := ids.map fun n => ((d.elem n).map (·.profile)).getD 0
  bit (ps.contains 1) + 2 * bit (ps.contains 2) + 4 * bit (ps.contains 3)

/-- A route's PROCEED_ASPECT against its entry signal (R76). -/
def Sdi.aspectOk (d : Sdi) (r : Route) : Bool :=
  match d.elem r.entry with
  | some e => match e.spec, d.profile e.profile with
    | .sg _ _ m _ _ _, some p =>
      r.aspect != 0 && r.aspect < 16 && bitAt p.mask r.aspect && rankIn p.rank r.aspect ≤ rankIn p.rank m
    | _, _ => false
  | none => false

/-- A route's references (R76). -/
def Sdi.routeRefs (d : Sdi) (r : Route) : Bool :=
  let set := d.routeSet r
  let many := set != 1 && set != 2 && set != 4
  d.isA r.entry ElemSpec.isSg && d.isA r.exit_ (fun s => s.isSg || s.isBd)
    && (r.points.all fun x => d.isA x.1 ElemSpec.isPt) && (r.points.map (·.1)).eraseDups.length == r.points.length
    && (r.sections.all fun x => d.isA x ElemSpec.isTs) && (r.others.all fun x => d.isA x.1 ElemSpec.isOther)
    && (r.conflicts.all fun c => match d.route c with | some o => o.conflicts.contains r.id | none => false)
    && r.profileSet == set && bitAt r.flags 1 == many && d.aspectOk r && d.listOr r.overlap 2

/-- A chain of overlap alternatives ends within `n` lists (R77). -/
def Sdi.chainOk (d : Sdi) : Nat → Nat → Bool
  | 0, i => i == 0xFFFF
  | n + 1, i =>
    if i = 0xFFFF then true
    else match d.list i with
      | some l => l.kind == 2 && d.chainOk n l.nextAlt
      | none => false

/-- A list's references (R77). -/
def Sdi.listRefs (d : Sdi) (l : SList) : Bool :=
  (l.items.all fun i => d.isA i.id fun s => match l.kind with
    | 1 => s.isPt || s.isDr || s.isSg
    | 2 => s.isTs || s.isPt
    | _ => s.isTs) && (l.kind != 2 || d.chainOk 4 l.index)

/-- The elements whose BIND_FIRST and BIND_COUNT cover a binding (R74). -/
def ownersOf (owners : List (Nat × Nat × Nat)) (i : Nat) : List Nat :=
  (owners.filter fun o => o.2.1 ≤ i && i < o.2.1 + o.2.2).map (·.1)

/-- Every binding names its owner, the one element that covers it, and every address names a record (R78). -/
def Sdi.bindingRefs (d : Sdi) (owners : List (Nat × Nat × Nat)) (i : Nat) (b : List Byte) : Bool :=
  ownersOf owners i == [n2 b 0] && (match addrOf b with
    | .head h .. => (d.head h).isSome
    | .field p .. => (d.partner p).isSome
    | _ => true)

/-- The BIND_FIRST and BIND_COUNT of every element, by id. -/
def bindOwners (d : List Byte) : List (Nat × Nat × Nat) := (records d 2).map fun b => (n2 b 0, n2 b 4, nb b 6)

/-- Check 13. -/
def checkRefs (raw : List Byte) (d : Sdi) : Option SdiFault :=
  firstFault
    [rising 2 (d.elems.map (·.id)),
     eachCheck 13 2 (bindOwners raw) (fun o => o.2.1 + o.2.2 ≤ (table raw 5).count),
     eachCheck 13 2 d.elems d.elemRefs,
     rising 3 (d.routes.map (·.id)),
     eachCheck 13 3 d.routes d.routeRefs,
     (d.lists.find? fun l => !d.listRefs l).map fun l => ⟨13, 4, l.index⟩,
     eachCheck 13 5 (records raw 5).zipIdx (fun x => d.bindingRefs (bindOwners raw) x.2 x.1),
     eachCheck 13 6 d.partners (fun p => d.partners.all fun q => q.index == p.index || q.id != p.id),
     rising 7 (d.heads.map (·.index)),
     eachCheck 13 7 d.heads (fun h => h.kind != 2 || (d.partner h.source).isSome),
     rising 8 (d.sections.map (·.index)),
     eachCheck 13 8 d.sections (fun s => s.heads.all fun h => (d.head h.1).isSome)]

/-! ## Check 14: rules -/

/-- The binding kinds an attribute of a type admits (R118, R172). -/
def attrKinds (s : ElemSpec) (a : Nat) : List Nat :=
  let in_ := [1, 2, 6, 7]
  let out := [3, 6, 7]
  match s with
  | .ts .. => if a = 1 then in_ else if a = 2 then [6, 7] else if a = 3 then [5] else if a = 0x81 || a = 0x82 then [6, 7] else []
  | .pt .. => if within 1 3 a then in_ else if a = 0x81 || a = 0x82 then out else if a = 0x83 then 4 :: out else []
  | .sg .. => if a = 1 || a = 2 then in_ else if within 0x80 0x8F a then out else if a = 0x90 then [6, 7] else []
  | .dr .. => if a = 1 || a = 2 then in_ else if a = 0x81 || a = 0x82 then out else []
  | .kl .. => if a = 1 then in_ else if a = 0x81 then [3] else []
  | .lx .. => if within 1 3 a then in_ else if a = 0x81 then out else []
  | .bd .. => if a = 1 || a = 2 || a = 0x81 || a = 0x82 then [7] else []
  | .bk .. => if a = 1 || a = 2 then in_ else if a = 0x81 || a = 0x82 then [6, 7] else []

/-- The attributes an element must bind (R119, R172). -/
def Elem.complete (e : Elem) : Bool :=
  let has := fun a => e.binds.any (·.attr == a)
  match e.spec with
  | .ts src .. => src == 0 || has 1
  | .pt .. | .dr .. | .bd .. => has 1 && has 2 && has 0x81 && has 0x82
  | .sg _ fl .. => (e.binds.any fun b => within 0x80 0x90 b.attr) && (fl % 2 == 0 || (has 1 && has 2))
  | .kl .. => has 1 && has 0x81
  | .lx fl .. => has 1 && has 0x81 && (fl % 2 == 0 || has 2)
  | .bk .. => has 1 && has 2 && has 0x81

/-- An element's bindings: an attribute once, each of a kind its attribute admits, the widths of R118 and R172. -/
def Elem.bindRule (e : Elem) : Bool :=
  e.complete && (e.binds.map (·.attr)).eraseDups.length == e.binds.length
    && e.binds.all fun b => (attrKinds e.spec b.attr).contains b.kind && (match b.addr with
      | .stratus _ _ _ _ w _ => (if e.spec.isSg && b.attr == 0x90 then w == 4 else if e.spec.isTs && b.attr == 0x82 then w == 2
                                 else true)
      | .field _ _ _ w => (if e.spec.isSg && b.attr == 0x90 then w == 4 else if e.spec.isTs && b.attr == 0x82 then w == 2
                           else true)
      | _ => true)

/-- Two bit ranges of one payload overlap. -/
def overlaps (o1 b1 w1 o2 b2 w2 : Nat) : Bool := 8 * o1 + b1 < 8 * o2 + b2 + w2 && 8 * o2 + b2 < 8 * o1 + b1 + w1

/-- Two bindings of one image get on with each other (R79). -/
def bindPair (x y : Binding) : Bool :=
  match x.addr, y.addr with
  | .input b i _ w s t d, .input b' i' _ w' s' t' d' => !(b == b' && i == i') || (w == w' && s == s' && t == t' && d == d')
  | .input b i .., .pair b' i1 i2 .. => !(b == b' && (i == i1 || i == i2))
  | .pair b' i1 i2 .., .input b i .. => !(b == b' && (i == i1 || i == i2))
  | .pair b i j a w t d c, .pair b' i' j' a' w' t' d' c' =>
    if b != b' then true
    else if i == i' then j == j' && a == a' && w == w' && t == t' && d == d' && c == c'
    else i != j' && j != i' && j != j'
  | .vout b o .., .vout b' o' .. => !(b == b' && o == o')
  | .nv b o .., .nv b' o' .. => !(b == b' && o == o')
  | .stratus n s o b w _, .stratus n' s' o' b' w' _ =>
    x.attr < 0x80 || y.attr < 0x80 || !(n == n' && s == s') || !overlaps o b w o' b' w'
  | .field p o b w, .field p' o' b' w' => x.attr < 0x80 || y.attr < 0x80 || p != p' || !overlaps o b w o' b' w'
  | _, _ => true

/-- The bindings of the image get on with each other (R79); the first that does not is named by its index in the table. -/
def bindRules (raw : List Byte) : Option SdiFault :=
  let l := ((records raw 5).map bindingOf).zipIdx
  (l.find? fun x => l.any fun y => x.2 != y.2 && !bindPair x.1 y.1).map fun x => ⟨14, 5, x.2⟩

/-- A head bounds at most two sections, with opposite SENSE (R82). The rule speaks of a head that bounds one or two sections; a
head that one record lists twice counts as two references, which must differ in SENSE (DESIGN CHOICE, assumption 101). -/
def Sdi.headRule (d : Sdi) (h : HeadRec) : Bool :=
  match d.sections.flatMap fun s => s.heads.filter (·.1 == h.index) with
  | [] => true
  | [_] => true
  | [a, b] => a.2 != b.2
  | _ => false

/-- Check 14. -/
def checkRules (raw : List Byte) (d : Sdi) : Option SdiFault :=
  firstFault
    [eachCheck 14 2 d.elems Elem.bindRule,
     bindRules raw,
     eachCheck 14 7 d.heads (fun h => (h.kind != 0 || freqRule h.freq1 h.freq2) && d.headRule h),
     eachCheck 14 8 d.sections (fun s => (d.elems.filter fun e => match e.spec with
       | .ts 0 _ ac _ _ => ac == s.index
       | _ => false).length == 1)]

/-! ## Checks 8 to 14 -/

/-- The counts of the tables (R85). -/
def countsOk (d : List Byte) : Bool :=
  (table d 1).count == nb d 29 && (table d 2).count ≤ 4095 && (table d 3).count ≤ 1536 && (table d 4).len ≤ 262140
    && (table d 5).count ≤ 16384 && (table d 6).count ≤ 1024 && (table d 7).count ≤ 512 && (table d 8).count ≤ 512
    && (table d 9).count == 1

/-- The counts of a route record: points, sections, others and its length (R85). -/
def routeCounts (b : List Byte) : Bool := nb b 16 ≤ 32 && nb b 17 ≤ 64 && nb b 18 ≤ 32 && n2 b 2 ≤ 800

/-- Check 11 (R85). -/
def checkCounts (d : List Byte) : Option SdiFault :=
  firstFault
    [headCheck 11 (countsOk d),
     eachCheck 11 2 (records d 2) (fun b => nb b 6 ≤ 16),
     eachCheck 11 3 (routesRaw d) routeCounts,
     eachCheck 11 8 (records d 8) (fun b => nb b 2 ≤ 8),
     headCheck 11 (((records d 7).filter fun b => nb b 2 = 0).length ≤ 16)]

/-- Checks 8 to 14 on an image, migrated or not. -/
def checkContent (pst : List PstVal) (lc : Nat) (d : List Byte) : Option SdiFault :=
  let own := pstNat pst 0x2380 1 0
  let c := nb d 28
  let x := readSdi d
  firstFault
    [headCheck 8 (if own = 0 then lc = 1 else leAt d 8 4 = own),
     headCheck 9 ((c = 10 || c = 20 || c = 40) && within 1 3 (nb d 29) && n2 d 30 ≤ 4320),
     headCheck 10 (n2 d 36 = 9 && tablesPlaced d && zeros d 272 383),
     checkCounts d,
     checkFields d x, checkRefs d x, checkRules d x]

end Sys2Proof.Machine
end

