-- ==== Sys2Proof/Machine/SupplyRows.lean ====
section
/-! DEFINITION. The control supply, its loss, and the board temperature (R68, R351, R361, R419, R424, R428). -/

namespace Sys2Proof.Machine

/-- The report of the last self-test, which a restart keeps; a run that it cuts off is ABORTED (R385, R389; DEDUCED, assumption
137). -/
def SelfTest.kept (t : SelfTest) : SelfTest :=
  { t with state := if t.state = 1 then 4 else t.state, todo := [], slot := none, cancel := false, abort := false }

/-- The life-cycle memory a power loss leaves (R376, R378, R385). -/
def Life.kept (l : Life) : Life :=
  { Life.reset with copies := l.copies, state := l.state, pending := l.pending, count := l.count, seals := l.seals
                    test := SelfTest.kept l.test }

/-- The image memory a restart leaves (R397 to R405): the transfers that ran are gone, and their slots stay `EMPTY`. -/
def Update.kept (u : Update) : Update :=
  { u.transfers.foldl (fun u t => u.emptyTarget t.typ) u with transfers := [], schedule := none, result := 0, runMs := 0 }

/-- The lock-out memory a restart leaves (R351, R355). -/
def Lockout.kept (l : Lockout) : Lockout := { l with code := 0, result := 0, window := none }

/-- What of the collector lies in the parameter store (R342). -/
def Collector.kept (c : Collector) : Collector := { Collector.reset with overrides := c.overrides }

/-- The power fails (R419): channels, enables and outputs stop, and what is not in non-volatile or backed memory is lost. -/
def State.powerDown (s : State) : State :=
  { State.reset with
    pending := s.pending
    out := s.out
    svc := { State.reset.svc with ms := s.svc.ms, fresh := s.svc.fresh }
    col := s.col.kept
    lock := s.lock.kept
    rcd := { Recorder.reset with snaps := s.rcd.snaps, size := s.rcd.size }
    nets := { Nets.reset with startCount := s.nets.startCount }
    time := { Time.reset with calendar := s.time.calendar, calValid := s.time.calValid, trimmed := s.time.trimmed }
    life := s.life.kept
    upd := s.upd.kept
    supply := { s.supply with on := false, low := false, high := false, tempHigh := false, tempCrit := false }
    pst := s.pst
    pstLive := s.pst }

/-- An input voltage is read (R428). -/
def Supply.read (p : Supply) (mv : Nat) : Supply := { p with mv := mv, minMv := min p.minMv mv }

/-- A supply source follows its flag (R419). -/
def State.supplySource (s : State) (src : Nat) (old new : Bool) : State :=
  if old == new then s else if new then s.raise src else (s.deassert src).checkClear

/-- The supply monitor has read the input for 10 ms (R419): SUPPLY_LOW below 16.8 V, SUPPLY_HIGH above 154 V; a reading in between ends
both (DESIGN CHOICE, assumption 141). -/
def State.supplyRead (s : State) (mv : Nat) : State :=
  let p := s.supply
  let low := decide (mv < 16800)
  let high := decide (154000 < mv)
  let s := { s with supply := { p.read mv with low := low, high := high } }
  (s.supplySource 0x1F2 p.low low).supplySource 0x1F3 p.high high

/-- The input has been below 16.8 V for 10 ms (R419). -/
def supplyLow (mv : Nat) (s : State) : State := if 154000 < mv then s else s.supplyRead mv

/-- SUPPLY_LOW (R419). -/
def execSupplyLow (mv : Nat) (s : State) : Host.Outcome State Fault Refusal := .next (s.live fun s => supplyLow mv s)

/-- The input has been above 154 V for 10 ms (R419); above 165 V the converter is off, which is a power failure. -/
def supplyHigh (mv : Nat) (s : State) : State :=
  if 165000 < mv then ({ s with supply := s.supply.read mv }).powerDown
  else if mv < 16800 then s
  else s.supplyRead mv

/-- SUPPLY_HIGH (R419). -/
def execSupplyHigh (mv : Nat) (s : State) : Host.Outcome State Fault Refusal := .next (s.live fun s => supplyHigh mv s)

/-- POWER_FAIL (R419): the internal bus falls below its limit, or the input exceeds 165 V. -/
def execPowerFail (mv : Nat) (s : State) : Host.Outcome State Fault Refusal :=
  .next (s.live fun s => ({ s with supply := s.supply.read mv }).powerDown)

/-- The highest of the board readings. -/
def hottest (l : List Int) : Option Int := l.foldl (fun b x => match b with | none => some x | some y => some (max x y)) none

/-- A temperature flag as a reading leaves it: set from `hi`, cleared from `lo` down (R424). -/
def tempFlag (old : Bool) (t hi lo : Int) : Bool := if hi ≤ t then true else if t ≤ lo then false else old

/-- A temperature source follows its flag. -/
def State.tempSource (s : State) (src : Nat) (old new : Bool) : State :=
  if old == new then s else if new then s.raise src else (s.deassert src).checkClear

/-- The board sensors are read (R424, R428). TEMP_CRIT has no lower threshold of its own: it is cleared below +110 °C. -/
def temperatureRead (dc : List Int) (s : State) : State :=
  match hottest dc with
  | none => s
  | some t =>
    let p := s.supply
    let h := tempFlag p.tempHigh t 950 900
    let c := tempFlag p.tempCrit t 1100 1099
    let s := { s with supply := { p with temp := t, tempMax := max p.tempMax t, tempHigh := h, tempCrit := c } }
    (s.tempSource 0x1F4 p.tempHigh h).tempSource 0x1F5 p.tempCrit c

/-- TEMPERATURE_READ (R424). -/
def execTemperatureRead (dc : List Int) (s : State) : Host.Outcome State Fault Refusal :=
  .next (s.live fun s => temperatureRead dc s)

/-! ## Front panel -/

/-- How an LED is driven (R426). -/
inductive Led where
  | on | flash1 | flash4 | off
  deriving DecidableEq, Repr

/-- The SAFE line (R351): asserted in `SAFE` and `LOCKOUT`. -/
def State.safeLine (s : State) : Bool := s.mstate == .safe || s.mstate == .lockout

/-- The PWR LED (R426). -/
def State.ledPwr (s : State) : Led := if s.supply.on then .on else .off

/-- The RUN LED (R426). -/
def State.ledRun (s : State) : Led :=
  if !s.supply.on then .off
  else match s.mstate with | .run => .on | .start => .flash1 | .shutdown => .flash4 | _ => .off

/-- The SAFE LED (R426). -/
def State.ledSafe (s : State) : Led :=
  match s.mstate with
  | .safe => .on
  | .lockout => if s.lock.window.isSome then .flash1 else .flash4
  | _ => .off

/-- The LADDER LED (R426). -/
def State.ledLadder (s : State) : Led :=
  if s.mstate != .run then .off
  else match s.vital.ladder with | .dual => .on | .noReserve => .flash1 | _ => .off

/-- The TWIN LED (R426). -/
def State.ledTwin (s : State) : Led :=
  if !s.supply.on then .off
  else match s.kernel.twin.role with | 0 => .off | 1 => .on | 3 => .flash1 | _ => .flash4

/-- The NET LED (R426). -/
def State.ledNet (s : State) : Led :=
  let a := s.nets.a.port1 != 0 || s.nets.a.port2 != 0
  let b := s.nets.b.port1 != 0 || s.nets.b.port2 != 0
  let r := s.ring.state == .synced
  if !s.supply.on then .off
  else if a && b && r then .on else if a || b || r then .flash1 else .off

/-- The LC LED (R426). -/
def State.ledLc (s : State) : Led :=
  if !s.supply.on then .off
  else match s.life.state with | 1 => .on | 3 => .on | 0 => .flash4 | 4 => .flash4 | _ => .off

end Sys2Proof.Machine
end

