-- ==== Sys2Proof/Machine/UpdateRows.lean ====
section
/-! DEFINITION. The transfer window, the end of a written image, and confirming or withdrawing an activation (R401 to
R405, R409). -/

namespace Sys2Proof.Machine

/-- A refused BLOCK, CONFIRM or WITHDRAW (R409 .09, R301). -/
def State.updRefuse (s : State) (cl : Client) (code : Nat) : State :=
  ({ s with upd := { s.upd with result := code } }).abort cl 0x08000020

/-- The check of the first 128 bytes (R402); a shorter image is checked when it is complete. -/
def Update.headerBar (u : Update) (t : Transfer) : Option Nat :=
  if !ImageType.matches_ t.typ t.got then some 0x0501
  else if ImageType.lenOf t.typ t.got != t.len || ImageType.size t.typ < t.len then some 0x0502
  else if ImageType.firmware t.typ && !compatible (u.firmware t.typ t.got) then some 0x0504
  else none

/-- A block is appended (R401, R402). -/
def State.appendBlock (s : State) (t : Transfer) (data : List Byte) : State :=
  let n := { t with got := t.got ++ data, lastMs := s.svc.ms }
  let at_ := min 128 t.len
  let first := t.got.length < at_ && at_ ≤ n.got.length
  let n := { n with writing := n.got.length = t.len }
  let s := { s with upd := s.upd.putTransfer n }
  match (if first then s.upd.headerBar n else none) with
  | some c => s.dropTransfer t.slot .failed c
  | none => s.modSlot t.slot fun x =>
      { x with percent := n.got.length * 100 / max 1 t.len, stage := if n.writing then 0x51 else x.stage }

/-- The transfer a client's block goes to: its oldest one that takes blocks (R401; DESIGN CHOICE where it runs two, assumption 115). -/
def State.window (s : State) (cl : Client) : Option Transfer :=
  s.upd.transfers.find? fun t => decide (t.client = cl) && !t.writing && (s.kernel.slot t.slot).state != .suspended

/-- A block of the transfer window (R401, R409). -/
def blockWrite (cl : Client) (offset : Nat) (data : List Byte) (s : State) : State :=
  s.write cl .expert (1 ≤ data.length && data.length ≤ 1024 && offset < 2 ^ 32) true fun s =>
    match s.window cl with
    | none => s.updRefuse cl 0x050A
    | some t =>
      if offset = t.got.length && t.got.length + data.length ≤ t.len then (s.appendBlock t data).accept cl
      else if offset < t.got.length && slice t.got offset data.length == data then
        ({ s with upd := s.upd.putTransfer { t with lastMs := s.svc.ms } }).accept cl
      else s.updRefuse cl 0x050A

/-- BLOCK_WRITE (R401). -/
def execBlockWrite (cl : Client) (offset : Nat) (data : List Byte) (s : State) : Host.Outcome State Fault Refusal :=
  .next (s.live fun s => blockWrite cl offset data s)

/-- The type is held in the channels' flash (R397). -/
def ImageType.inChannels (t : ImageType) : Bool := t == .vch || t == .sdi

/-- The packages that hold a copy of a type and have failed a write (R397, R402). -/
def badPackages (t : ImageType) (l : List SwReader) : List SwReader :=
  l.filter fun x => match x with | .svc => !ImageType.inChannels t | .ch _ => ImageType.inChannels t

/-- A slot whose write failed (R402): `UNUSABLE` where it failed, `EMPTY` in the other packages; the state the channels agree
is that of three of them. -/
def ImgSlot.writeFailed (x : ImgSlot) (t : ImageType) (l : List SwReader) : ImgSlot :=
  let bad := (x.bad ++ l).eraseDups
  let all := if ImageType.inChannels t then 3 ≤ bad.length else true
  { x with bad := bad, data := [], copies := [], state := if all then .unusable else .empty }

/-- A slot is written (R401): a channel that is `OFF` keeps what its own flash holds. -/
def ImgSlot.written (x : ImgSlot) (d : List Byte) (off : List Ch) : ImgSlot :=
  { x with state := .unchecked, data := d, copies := off.map fun c => (c, x.copyOf c) }

/-- The oldest image being written is read back (R402, R403). -/
def writeComplete (failed : List SwReader) (s : State) : State :=
  match s.upd.transfers.find? (·.writing) with
  | none => s
  | some t =>
      let bad := badPackages t.typ failed
      let u := s.upd.withoutTransfer t.slot
      let n := (u.img t.typ).inactive
      if bad.isEmpty then
        let act := if pstNat s.pst 0x2F80 1 0 = 0 then Activation.pending else .staged
        let off := Ch.all.filter fun c => (s.ch c).role = .off
        let u := u.mod t.typ fun i => { (i.modSlot n fun x => x.written t.got off) with act := act }
        let crc := ImageType.crcOf t.typ t.got
        (({ s with upd := u }).cvuJob 9 (ImageType.covered t.typ t.got)).finish t.slot .done 0 ([byteOf (ImageType.code t.typ), byteOf n, 0, 0] ++ le 4 crc.toNat)
      else
        ({ s with upd := u.mod t.typ fun i => i.modSlot n fun x => x.writeFailed t.typ bad }).finish t.slot .failed 0x0507 []

/-- IMAGE_WRITE_COMPLETE (R402, R403). -/
def execImageWriteComplete (failed : List SwReader) (s : State) : Host.Outcome State Fault Refusal :=
  .next (s.live fun s => writeComplete failed s)

/-- TRANSFER_IDLE (R402): 60 s without an accepted block. -/
def execTransferIdle (s : State) : Host.Outcome State Fault Refusal :=
  .next (s.live fun s =>
    match s.upd.transfers.find? fun t => !t.writing && t.lastMs + 60000 ≤ s.svc.ms with
    | some t => s.dropTransfer t.slot .failed 0x0509
    | none => s)

/-- A type is confirmed (R405); with SVC a migrated PST goes into both slots (R408). -/
def Update.confirm (u : Update) (t : ImageType) : Update :=
  let u := u.mod t fun i => { i with act := .none, event := 2, prev := none }
  if t == .svc && u.migPst then
    let d := u.pst.data
    { u with migPst := false
             pst := { u.pst with s0 := { u.pst.s0 with data := d, state := .valid }
                                 s1 := { u.pst.s1 with data := d, state := .valid } } }
  else u

/-- IMAGE_CONFIRM (R405): in `RUN`. -/
def execImageConfirm (cl : Client) (typ : Byte) (s : State) : Host.Outcome State Fault Refusal :=
  .next (s.live fun s =>
    s.write cl .expert true (ImageType.ofCode typ.toNat).isSome fun s =>
    match ImageType.ofCode typ.toNat with
    | some t =>
      if s.mstate == .run && (s.upd.img t).act == .unconfirmed then ({ s with upd := s.upd.confirm t }).accept cl
      else s.updRefuse cl 0x050B
    | none => s)

/-- IMAGE_WITHDRAW (R403): a `STAGED` or `PENDING` activation. -/
def execImageWithdraw (cl : Client) (typ : Byte) (s : State) : Host.Outcome State Fault Refusal :=
  .next (s.live fun s =>
    s.write cl .expert true (ImageType.ofCode typ.toNat).isSome fun s =>
    match ImageType.ofCode typ.toNat with
    | some t =>
      match (s.upd.img t).act with
      | .staged | .pending =>
        ({ s with upd := s.upd.mod t fun i => { i with act := .none, event := 6 } }).accept cl
      | _ => s.updRefuse cl 0x050B
    | none => s)

/-- AUTO_CONFIRM (R405): after the hours of 0x2F80.02 of uninterrupted `RUN`. -/
def execAutoConfirm (typ : ImageType) (s : State) : Host.Outcome State Fault Refusal :=
  .next (s.live fun s =>
    let h := pstNat s.pst 0x2F80 2 0
    if s.mstate == .run && h != 0 && h * 3600000 ≤ s.upd.runMs && (s.upd.img typ).act == .unconfirmed then
      { s with upd := s.upd.confirm typ }
    else s)

end Sys2Proof.Machine
end

