-- ==== Sys2Proof/Machine/BootOps.lean ====
section
/-! DEFINITION. The first steps of a start: what a restart keeps, device time, the recorder, the image checks, life cycle
and SW1, the Dovetail test and the link delays (R15, R27, R314, R361, R376 to R380, R387, R397 to R408). -/

namespace Sys2Proof.Machine

/-- What a restart without loss of control supply leaves (R93, R314, R361, R373). Force bits stay set (R347, R378). -/
def State.restartBase (s : State) : State :=
  let f := s.col.forces
  { s.powerDown with
    supply := { s.supply with on := true, low := false, high := false, tempHigh := false, tempCrit := false
                              tempMax := s.supply.temp }
    col := { s.col.kept with forces := f, asserted := f, allClear := f.isEmpty }
    rcd := { s.rcd with pin := none, selCode := 1 }
    time := { s.time with na := TsuSt.reset, nb := TsuSt.reset, can := TsuSt.reset, svc := TsuSt.reset, usableMs := [] }
    sens := { Sensors.reset with feeds := s.sens.feeds.map fun f => { f with drive := .none, locked := false
                                                                             suppress := false, ramp := none } }
    nets := { Nets.reset with
      startCount := s.nets.startCount
      a := { NetSide.reset with port1 := s.nets.a.port1, port2 := s.nets.a.port2 }
      b := { NetSide.reset with port1 := s.nets.b.port1, port2 := s.nets.b.port2 } }
    ring := { Ring.reset with portE := s.ring.portE, portW := s.ring.portW } }

/-- Device time of a count of nanoseconds. -/
def DTime.ofNanos (n : Nat) : DTime := ⟨n / 1000000000, n % 1000000000⟩

/-- Device time after a loss of control supply (R314, R315). -/
def State.timeStart (s : State) (o : StartObs) : State :=
  let t := { s.time with trimmed := leAt ((pstFind s.pst 0x2A80 2).getD []) 0 2 != 0 }
  if o.rtcValid then
    { s with time := { t with now := DTime.ofNanos o.rtcNs, source := .calendar, calendar := o.rtcNs, calValid := true } }
  else { s with time := { t with now := DTime.zero, source := .none, calendar := 0, calValid := false, backupLost := true } }

/-- The recorder at a start (R360, R361, R364). -/
def State.recStart (s : State) (o : StartObs) (loss : Bool) : State :=
  let size := pstNat s.pst 0x2D80 1 2
  let pw := if loss then 512 else 0
  let s :=
    if size != s.rcd.size then ({ s with rcd := { s.rcd.clear with size := size } }).record 6 2 pw
    else if !loss && !o.pointersOk then ({ s with rcd := s.rcd.clear }).record 6 3 0
    else s
  ({ s with rcd := { s.rcd with pointersOk := loss || o.pointersOk } }).record 1 0 pw

/-! ## Image checks -/

/-- A channel's flash can hold the slot (R397). -/
def ImgSlot.usable (x : ImgSlot) (c : Ch) : Bool := !x.bad.contains (.ch c)

/-- A channel holds the image of a slot. -/
def ImgSlot.heldBy (x : ImgSlot) (c : Ch) : Bool := x.usable c && x.copyOf c == x.data

/-- The image at least `m` of some channels hold alike. -/
def ImgSlot.common (x : ImgSlot) (l : List Ch) (m : Nat) : Option (List Byte) :=
  ((l.filter x.usable).find? fun c => m ≤ (l.filter fun e => x.usable e && x.copyOf e == x.copyOf c).length).map x.copyOf

/-- The slot's image is what `d` says; every channel keeps its own copy. -/
def ImgSlot.rebase (x : ImgSlot) (d : List Byte) : ImgSlot :=
  { x with data := d, copies := (Ch.all.filter fun c => x.copyOf c != d).map fun c => (c, x.copyOf c) }

/-- A slot's image passes the boot check of its type (R399, R404); a VCH image is the one that at least three channels can
run. -/
def ImgSlot.bootable (x : ImgSlot) (t : ImageType) : Bool :=
  x.state != .empty && x.state != .unusable && ImageType.passes t x.data
    && (t != .vch || 3 ≤ (Ch.all.filter x.heldBy).length)

/-- A VCH slot holds what at least three channels hold, when they do (R404). -/
def ImgSlot.shared (x : ImgSlot) : ImgSlot := match x.common Ch.all 3 with | some d => x.rebase d | none => x

/-- A slot as a boot check leaves it. -/
def ImgSlot.checked (x : ImgSlot) (ok : Bool) : ImgSlot :=
  if x.state == .empty || x.state == .unusable then x else { x with state := if ok then .valid else .failed }

/-- A type goes back to its previous slot (R404, R405). -/
def Img.revert (i : Img) (event : Nat) : Img :=
  { i with running := i.prev, prev := none, trial := false, act := .none, event := event }

/-- Start step 2 begins for a type: a trial start that did not reach `RUN` is undone; a `PENDING` type whose switch is open is
withdrawn (R403, R405). -/
def Img.before (i : Img) (closed : Bool) : Img :=
  if i.trial then i.revert 5
  else if i.act = .pending && !closed then { i with act := .none, event := 6 } else i

/-- A slot runs; it is the type's first start in it when `pend`. -/
def Img.run (i : Img) (n : Nat) (pend : Bool) : Img :=
  if pend then { i with running := some n, prev := i.running, trial := true, act := .none, event := 1 }
  else { i with running := some n }

/-- A type's check (R404): the slot that runs, and whether another was taken. SDI slots are judged by R86. -/
def Img.boot (i : Img) (t : ImageType) : Img × Bool :=
  let pend := i.act = .pending
  match (if pend then some i.inactive else i.running) with
  | none => (i, false)
  | some n =>
    if t == .sdi then (i.run n pend, false)
    else
      let i := if t == .vch then (i.modSlot 0 ImgSlot.shared).modSlot 1 ImgSlot.shared else i
      let ok := (i.slot n).bootable t
      let i := i.modSlot n fun x => x.checked ok
      if ok then (i.run n pend, false)
      else
        let m := 1 - n
        let ok2 := (i.slot m).bootable t
        ({ (i.modSlot m fun x => x.checked ok2) with running := if ok2 then some m else none, act := .none
                                                     event := if ok2 then 3 else i.event, prev := none }, ok2)

/-- The PST that runs changes with its slot (R397, R404): the parameters of the other slot are kept. -/
def State.pstSlot (s : State) (i : Img) : State :=
  if i.running = s.upd.pst.running then s
  else
    let new := if i.trial then (Config.pstParams i.data).map fun v => ⟨v.1, v.2.1, v.2.2⟩ else s.upd.pstPrev
    { s with pst := new, upd := { s.upd with pstPrev := s.pst } }

/-- An image check falls back: recorded (L1) under 0x1E3 (assumption 12), and the start is a full one (R386, R387). -/
def State.fellBack (s : State) : State := ({ s with life := { s.life with fell := true } }).raise 0x1E3

/-- The CRC of an image in SVC's flash is a job of CVU9 (R394; DESIGN CHOICE, assumption 140); VCH and SDI are checked by the channels. -/
def State.bootJob (s : State) (t : ImageType) : State :=
  if t == .vch || t == .sdi then s
  else if (s.upd.img t).data.isEmpty then s.modCvu 9 fun u =>
    if u.out then u else { u.castagnoli with running := ~~~(Config.imageCrc (ImageType.code t)), result := Config.imageCrc (ImageType.code t)
                                             units := u.units + 1 }
  else s.cvuJob 9 (ImageType.covered t (s.upd.img t).data)

/-- One type is checked. -/
def State.bootType (s : State) (t : ImageType) : State :=
  let (i, fell) := ((s.upd.img t).before (s.sw (ImageType.switch t))).boot t
  let s := if t == .pst then s.pstSlot i else s
  let s := ({ s with upd := s.upd.setImg t i }).bootJob t
  if fell then s.fellBack else s

/-- The firmware set is compatible and every engine has an image (R400, R404). -/
def Update.setOk (u : Update) : Bool :=
  (firmwareTypes.all fun t => (u.img t).running.isSome) && compatible u.selected

/-- Every type activated at this start goes back, with event 0x04 (R404). -/
def State.undoSet (s : State) : State :=
  imageTypes.foldl (fun s t =>
    let i := s.upd.img t
    if i.trial then
      let n := i.revert 4
      let s := if t == .pst then s.pstSlot n else s
      ({ s with upd := s.upd.setImg t n }).fellBack
    else s) s

/-- An older PST is migrated into the other PST slot, which then runs (R408): parameters the new format does not know are dropped, each
recorded (L1) under 0x1EE (assumption 12). -/
def State.pstMigrated (s : State) : State :=
  let f := s.upd.pstFormat
  let keep := s.pst.filter fun v => Config.pstKnows f v.idx v.sub
  let drop := s.pst.filter fun v => !Config.pstKnows f v.idx v.sub
  let i := s.upd.pst
  let m := i.inactive
  let i := { (i.modSlot m fun x => { x with data := pstImage f keep, copies := [], state := .valid }) with running := some m }
  drop.foldl (fun s v => s.raiseAbout 0x1EE v.idx v.sub)
    { s with pst := keep, upd := { s.upd with pst := i, migPst := true, pstPrev := s.pst } }

/-- The PST follows the SVC (R408): an older one is migrated at the first start on a new SVC, and the original comes back, with its slot,
when SVC falls back. -/
def State.migratePst (s : State) (before : Option Nat) : State :=
  let u := s.upd
  if u.migPst && u.svc.running != before then
    { s with pst := u.pstPrev, upd := { u with migPst := false, pst := { u.pst with running := some u.pst.inactive } } }
  else if u.svc.trial && !u.migPst && ImageType.versionOf .pst u.pst.data < u.pstFormat then s.pstMigrated
  else s

/-- Start step 2 (R387, R404). -/
def State.bootImages (s : State) : State :=
  let before := s.upd.svc.running
  let s := imageTypes.foldl State.bootType s
  (if compatible s.upd.selected then s else s.undoSet).migratePst before

/-! ## Life cycle and SW1 -/

/-- The value at least three of some readings hold. -/
def threeAgree (l : List Nat) : Option Nat := l.find? fun v => 3 ≤ (l.filter (· == v)).length

/-- The life-cycle state a request names is applied (R378): recorded (L1) under 0x1E4, counted; force bits clear on leaving
COMMISSIONING and MAINTENANCE (R347); RETIRED loses its keys and its station data. -/
def State.applyLc (s : State) (v : Nat) : State :=
  let l := s.life
  let s := { s with life := { l with copies := List.replicate 5 v, state := v, pending := none, result := 0, count := l.count + 1 } }
  let s := if v == 1 || v == 3 then s
           else State.checkClear { s with
             col := { s.col with forces := [], asserted := s.col.asserted.filter fun x => !s.col.forces.contains x } }
  let s :=
    if v = 4 then
      let erase := fun (x : ImgSlot) => if x.state == .unusable then x else ImgSlot.empty
      { s with pst := pstDrop (pstDropObj (pstDropObj s.pst 0x2081) 0x2881) 0x2380 3
               upd := s.upd.mod .sdi fun i => { i with running := none, s0 := erase i.s0, s1 := erase i.s1, act := .none
                                                       prev := none, trial := false } }
    else s
  s.raise 0x1E4

/-- Whether the condition of a pending transition still holds (R378); 0x2301.02 is judged at the request (assumption 41). -/
def State.lcHolds (s : State) (v : Nat) : Bool :=
  match s.life.state, v with
  | 1, 2 => pstNat s.pst 0x2380 1 0 != 0 && pstKey s.pst 0x2081 3 != List.replicate 16 0 && s.col.forces.isEmpty
  | 3, 2 => s.col.forces.isEmpty
  | _, _ => true

/-- The life-cycle copies and a pending transition (R376, R378): a copy whose CRC is wrong holds no value. -/
def State.lifeStart (s : State) (o : StartObs) : State :=
  match threeAgree ((s.life.copies.zipIdx.filter fun x => !o.lcBad.contains x.2).map (·.1)) with
  | none => s.raise 0x1EA
  | some v =>
    let s := { s with life := { s.life with state := v } }
    match s.life.pending with
    | none => s
    | some p =>
      if s.lcHolds p then s.applyLc p
      else { s with life := { s.life with pending := none, result := 0x1003 } }

/-- SW1 as it is read at a start (R379). -/
def State.readSw1 (s : State) (o : StartObs) : State :=
  let ch := o.chans.map fun c => c.sw1
  { s with life := { s.life with sw1Svc := o.sw1Svc, sw1Ch := ch, sw1Agreed := o.sw1Svc } }

/-- The channels that have passed their own tests so far (R46). -/
def testers (o : StartObs) : List Ch := Ch.all.filter fun c => (o.chans.get c).testsPass

/-- The readers raise their path faults, and the channels that send their readings settle the twin position (R379, R380). -/
def State.twinPosition (s : State) (o : StartObs) : State :=
  let s := ((o.chans.toList.map (·.sw1Path) ++ [o.svcPath]).zipIdx.filter fun x => x.1 != 0).foldl (fun s x => s.raisePath x.2) s
  match threeAgree ((testers o).map fun c => (s.life.sw1Ch.get c).toNat % 4) with
  | none => s.raise 0x1EB
  | some 3 => s.raise 0x1EB
  | some v => { s with life := { s.life with position := v } }

/-! ## Images relayed to the sensor processors and the banks -/

/-- The image type a target runs (R397). -/
def relayedType : Relayed → ImageType | .sp _ => .sns | .bank _ => .fld

/-- The blocks a target's boot loader accepts: two channels have delivered them bit-identical (R398). -/
def acceptedBlocks (l : List RelayBlock) (t : Relayed) : List RelayBlock :=
  let mine := l.filter fun b => b.target = t
  mine.filter fun b => mine.any fun c => c.ch != b.ch && c.offset == b.offset && c.data == b.data

/-- The accepted blocks make up a whole image. -/
def wholeImage (l : List RelayBlock) (d : List Byte) : Bool :=
  (List.range d.length).all fun i => l.any fun b =>
    b.offset ≤ i && i < b.offset + b.data.length && byteAt b.data (i - b.offset) == byteAt d i

/-- The targets of the relay (R398). -/
def relayTargets : List Relayed := [.sp .x, .sp .y, .bank .b1, .bank .b2, .bank .b3, .bank .b4]

/-- The SNS and FLD images go to the sensor processors and the banks (R398): a target without a complete image does not
start. -/
def State.relayImages (s : State) (o : StartObs) : State :=
  let bad := relayTargets.filter fun t => !wholeImage (acceptedBlocks o.relay t) (s.upd.img (relayedType t)).data
  { s with upd := { s.upd with unbooted := bad } }

/-! ## Dovetail and links -/

/-- The Dovetail test (R27, R355): an undetected injection, or a changed sentinel, takes the module to `LOCKOUT`. -/
def State.dovetailTest (s : State) (o : StartObs) : State :=
  Ch.all.foldl (fun s c =>
    match (o.chans.get c).dovetail.miss with
    | some (g, b) => s.raiseWith State.raiseSafe 0x4C (BitVec.ofNat 32 (c.idx * 256 + g % 16 * 16 + b % 256 * 65536)) false
    | none => s.modCh c fun x => { x with dovetail := true }) s

/-- The links in the order of LINK_STATE (R22). -/
def meshLinks : List (Ch × Ch) := [(.a, .b), (.a, .c), (.a, .d), (.b, .c), (.b, .d), (.c, .d)]

/-- The largest of some numbers. -/
def largest (l : List Nat) : Nat := l.foldl max 0

/-- The link delay constants (R15): half the longest of ten round trips; the ends are `UP`. -/
def State.linkDelays (s : State) (o : StartObs) : State :=
  (meshLinks.zip (o.linkRtt ++ List.replicate 6 [])).foldl (fun s x =>
    let ((p, q), l) := x
    let d := largest l / 2
    let up : LinkEnd := { LinkEnd.reset with up := true }
    let s := s.modCh p fun c => { c with linkDelay := c.linkDelay.set q d, ends := c.ends.set q up }
    s.modCh q fun c => { c with linkDelay := c.linkDelay.set p d, ends := c.ends.set p up }) s

end Sys2Proof.Machine
end

