-- ==== Sys2Proof/Machine/StartRows.lean ====
section
/-! DEFINITION. The rest of a start, station data, seal, roles and `RUN`, and the commands that start the module
(R46, R84 to R93, R213, R316, R353, R354, R386, R387, R427). -/

namespace Sys2Proof.Machine

/-! ## Station data -/

/-- The longest measured evaluation of the image in a slot (R84). -/
def measured (o : StartObs) (n : Nat) : Nat :=
  largest ((testers o).map fun c => let p := (o.chans.get c).evalNs; if n = 0 then p.1 else p.2)

/-- The image as it runs: migrated from an older format (R408). -/
def migrated (d : List Byte) : List Byte := if leAt d 4 2 < 0x0100 then Config.migrate d else d

/-- CRC_C and CRC_H of an image, as a channel sends them (R71, R87). -/
def crcsOf (d : List Byte) : Nat × Nat := (leAt d 48 4, leAt d 52 4)

/-- Checks 1 to 14 of a channel's own copy (R86, R408). -/
def State.checkCopy (s : State) (x : ImgSlot) (c : Ch) : Option SdiFault :=
  let d := x.copyOf c
  firstFault [checkOriginal s.upd.migrateMin s.pst (x.state == .unusable || !x.usable c) d, checkContent s.pst s.life.state (migrated d)]

/-- All sixteen checks of a slot by the channels that take part (R84, R86, R87): the image a majority of them holds, and why the
slot is refused. Where no pair has a majority and at least half of the copies already fail an earlier check, the first
channel's failure is reported (assumption 99). -/
def State.judgeSdi (s : State) (o : StartObs) (n : Nat) (x : ImgSlot) : List Byte × Option SdiFault :=
  let l := testers o
  let sent := l.filter fun c => (s.checkCopy x c).isNone
  match sent.find? fun c => l.length < 2 * (sent.filter fun e => crcsOf (x.copyOf e) == crcsOf (x.copyOf c)).length with
  | some c => (x.copyOf c, headCheck 16 (measured o n ≤ p3Limit (leAt (migrated (x.copyOf c)) 28 1)))
  | none => match l.findSome? (s.checkCopy x) with
    | some f => (x.data, if 2 * sent.length ≤ l.length then some f else headCheck 15 false)
    | none => (x.data, headCheck 15 false)

/-- The station data of a slot in use (R84, R88, R90). -/
def useSdi (o : StartObs) (n state : Nat) (x : List Byte) (f : Option (Nat × SdiFault)) : SdiUse :=
  let d := migrated x
  let sd := readSdi d
  let ns := measured o n
  { sdi := some sd, raw := d, slot := some n, state := state
    code := match f with | some y => y.2.code | none => 0
    table := match f with | some y => y.2.table | none => 0
    record := match f with | some y => y.2.record | none => 0
    refused := f.map (·.1)
    measUs := (ns + 999) / 1000
    estLow := sd.budget.totalNs * 125 < ns * 100 }

/-- An image is accepted (R84, R86, R88, R89): every channel loads its working copy, the estimate found low is recorded (L1)
under 0x1E6, a migration shown, and STATION_ID bound in COMMISSIONING. -/
def State.acceptSdi (s : State) (u : SdiUse) (mig : Bool) : State :=
  let s := { s with sdi := u, upd := { s.upd with migSdi := mig } }
  let s := s.modV fun v => { v with chans := v.chans.map fun (c : Channel) => c.loadSdi u.raw }
  let s := if u.estLow then s.raise 0x1E6 else s
  match u.sdi with
  | some d =>
    if pstNat s.pst 0x2380 1 0 = 0 && s.life.state = 1 then s.pstWrite 0x2380 1 (le 4 d.stationId.toNat) else s
  | none => s

/-- A slot's state and its image as its checks leave them (R397). -/
def State.sdiChecked (s : State) (n : Nat) (d : List Byte) (ok : Bool) : State :=
  { s with upd := s.upd.mod .sdi fun i => i.modSlot n fun x => (x.rebase d).checked ok }

/-- No station data (R88, R377): the module goes `SAFE`. -/
def State.noSdi (s : State) (u : SdiUse) : State := ({ s with sdi := u, upd := { s.upd with migSdi := false } }).raise 0x4D

/-- Start step 6 (R86 to R88). A refusal is recorded (L1) under 0x1E5 (assumption 12). -/
def State.sdiStart (s : State) (o : StartObs) : State :=
  if s.life.state = 0 || s.life.state = 4 then s.noSdi SdiUse.none_
  else
    let i := s.upd.sdi
    let n := i.running.getD 0
    let (d, r) := s.judgeSdi o n (i.slot n)
    match r with
    | none => (s.sdiChecked n d true).acceptSdi (useSdi o n 1 d none) (leAt d 4 2 < 0x0100)
    | some f =>
      let m := 1 - n
      let (e, q) := s.judgeSdi o m (i.slot m)
      let s := (s.sdiChecked n d false).raise 0x1E5
      match q with
      | none =>
        let s := s.sdiChecked m e true
        let s := { s with upd := s.upd.mod .sdi fun i => { i with running := some m, event := 3, trial := false, prev := none } }
        s.acceptSdi (useSdi o m 2 e (some (n, f))) (leAt e 4 2 < 0x0100)
      | some _ =>
        (s.sdiChecked m e false).noSdi { SdiUse.none_ with code := f.code, table := f.table, record := f.record, refused := some n }

/-! ## Seal and self-test -/

/-- A step of the start that runs only while the module is still in `START`. -/
def State.inStart (s : State) (f : State → State) : State := if s.mstate == .start then f s else s


/-- The first failing criterion of a copy of the seal, 0 when none fails (R386). A fallback of this start fails its criterion, since a
fallback is made only in a full start (R387; DEDUCED, assumption 136). -/
def State.sealReason (s : State) (x : Option Seal) : Nat :=
  match x with
  | none => 1
  | some x =>
    let now := s.time.now.nanos
    let at_ := x.time.nanos
    if !x.crcOk then 2
    else if x.run != 0x3F || x.passed != 0x3F then 3
    else if x.serial != Config.serial then 4
    else if s.life.fell || x.images != s.upd.imagesCrc then 5
    else if s.sdi.state = 2 || !(match s.sdi.sdi with | some d => d.crcC == x.sdiCrc | none => false) then 6
    else if x.source = 0 || !s.time.calValid then 7
    else if now < at_ || at_ + 259200000000000 < now then 8
    else if x.used then 9 else 0

/-- The self-test of a full start (R382, R387): a failure is recorded and the start goes on. -/
def State.startSelftest (s : State) (o : StartObs) : State :=
  let bad := (o.failed.map (·.1)).eraseDups
  let passed := 0x3F - ((([0, 1, 2, 3, 4, 5].filter bad.contains).map (2 ^ ·)).sum)
  let first : W32 := match o.failed with
    | [] => 0xFFFFFFFF
    | f :: _ => BitVec.ofNat 32 (f.1 % 256 * 256 + f.2 % 256)
  let t : SelfTest := { SelfTest.reset with
    state := if o.failed.isEmpty then 2 else 3, run := 0x3F, passed := byteOf passed, firstFail := first, slices := 22
    failed := bad }
  o.failed.foldl (fun s _ => s.raise 0x1EC) { s with life := { s.life with test := t, bad := o.failed } }

/-- The copies of the seal as they read: those of `l` with a wrong CRC (R386). -/
def sealsRead (l : List Nat) (x : List (Option Seal)) : List (Option Seal) :=
  x.zipIdx.map fun y => y.1.map fun (z : Seal) => { z with crcOk := z.crcOk && !l.contains y.2 }

/-- Start step 7 (R386, R389): at least three channels and SVC must find no failing criterion. The seal is judged at every start, the
self-test runs in one that has not left `START`. Where SVC alone finds a reason, its reason stands (DESIGN CHOICE, assumption 136). -/
def State.sealStart (s : State) (o : StartObs) : State :=
  let s := { s with life := { s.life with seals := sealsRead o.sealBad s.life.seals } }
  let l := s.life.seals.map s.sealReason
  let svc := l.headD 1
  let chans := l.tail
  let quick := svc = 0 && 3 ≤ (chans.filter (· == 0)).length
  let found := chans.filter (· != 0)
  let why := if found.isEmpty then svc else found.foldl min 9
  let used := s.life.seals.map fun x => x.map fun (y : Seal) => { y with used := true }
  let s := { s with life := { s.life with seals := used, lastStart := if quick then 1 else 2
                                          reason := if quick then 0 else why, startMs := o.durationMs } }
  if quick then s else s.inStart fun s => s.startSelftest o

/-! ## Roles and `RUN` -/

/-- A channel's copy of a slot carries the pair the majority holds (R87). -/
def ImgSlot.pairHeld (x : ImgSlot) (c : Ch) : Bool := x.usable c && crcsOf (x.copyOf c) == crcsOf x.data

/-- A channel passes its start tests (R46, R87, R404): its own tests, and the images it has to run. -/
def State.passes (s : State) (o : StartObs) (c : Ch) : Bool :=
  (o.chans.get c).testsPass
    && (match s.upd.vch.running with | some n => (s.upd.vch.slot n).heldBy c | none => false)
    && (match s.sdi.slot with | some n => (s.upd.sdi.slot n).pairHeld c | none => true)

/-- The role of the `n`-th channel that passes (R46). -/
def startRole (n : Nat) : Role := if n < 3 then .voting else .reserve

/-- The links of a channel that is `OFF` are down by design (R15). -/
def State.offEnds (s : State) (ch : Ch) : State :=
  s.modV fun v => { v with chans := (v.chans.map fun (x : Channel) => x.dropEnd ch).modify ch Channel.dropEnds }

/-- The start assignment (R46): a channel that failed is `OFF`, which is recorded. -/
def State.assignRoles (s : State) (o : StartObs) : State :=
  let l := Ch.all.filter (s.passes o)
  let s := l.zipIdx.foldl (fun s x =>
    s.modCh x.1 fun c => { c with role := startRole x.2, roleSeen := startRole x.2 }) s
  (Ch.all.filter fun c => !l.contains c).foldl (fun s c => (s.offEnds c).raise (chSrc c 0xF)) s

/-- The mark of the alignment of channel `x` on a channel's own time base (R16, R435). -/
def State.alignMark (s : State) (o : StartObs) (c x : Ch) : Int :=
  (o.chans.get c).align.get x - (if x = c then 0 else Int.ofNat ((s.ch c).linkDelay.get x))

/-- Every hot channel sends its `MARK` frames of the alignment (R435). -/
def State.alignMarks (s : State) (l : List Ch) : State :=
  l.foldl (fun s tx => (Ch.others tx).foldl (fun s rx => s.mesh tx rx (.mark 0)) s) s

/-- Channel `c` sets its first cycle mark from the reference over the hot channels' marks (R16, R435); `steer` holds the
correction, which brings the mark onto the reference at once. -/
def State.alignTo (s : State) (o : StartObs) (l : List Ch) (c : Ch) : State :=
  match median (l.map (s.alignMark o c)) with
  | some ref => s.modCh c fun y => { y with steer := ref - s.alignMark o c c }
  | none => s

/-- Cycle alignment (R435). -/
def State.alignCycles (s : State) (o : StartObs) : State :=
  let l := Ch.all.filter fun c => (s.ch c).role.hot
  (l.foldl (fun s c => s.alignTo o l c) (s.alignMarks l)).sendMesh

/-- The station's cold start (R93, R277): the module's next START_COUNT. -/
def State.coldStart (s : State) : State :=
  let n := s.nets.startCount + 1
  { s with nets := { s.nets with startCount := n }
           kernel := Kernel.modTwin (s.dat.coldKernel n (if s.life.position = 0 then 0 else 2)) fun t => { t with position := s.life.position } }

/-- The banks whose T3 or T4 failed are `FAILED` (R387), with cause BANK_FAULT (DESIGN CHOICE, assumption 139). -/
def State.failBanks (s : State) : State :=
  let l := (s.life.bad.filter fun x => (x.1 = 2 || x.1 = 3) && 1 ≤ x.2 && x.2 ≤ 4).map (·.2)
  { s with kernel := l.foldl (fun k n => k.failBank (n - 1) 1) s.kernel }

/-- The engines start (R244, R258, R292): the ring's schedule is judged, the CAN engine comes up. -/
def State.startEngines (s : State) : State :=
  let s := { s with pstLive := s.pst }
  let s := { s with ring := s.ring.start s.pstLive s.dat }
  let s := if s.ring.refusal = 0 then s else s.raise 0x181
  s.canStart

/-- The module enters `RUN` (R46, R47, R387, R405): the banks have been sent their configuration, types on trial become
`UNCONFIRMED`, and SVC's SW1 word goes into its stream (R381). -/
def State.enterRun (s : State) : State :=
  let s := s.vital.voting.foldl (fun s c => [0, 1, 2, 3].foldl (fun s n => s.sendConfig c n) s) s
  let s := { s with
    mstate := .run
    vital := { s.vital with ladder := s.vital.level }
    upd := imageTypes.foldl (fun u t => u.mod t fun i =>
      if i.trial then { i with trial := false, act := .unconfirmed } else i) s.upd }
  (s.record 2 1 0).svcEntry (.sw1 s.life.sw1Svc)

/-- The start tests are complete (R46, R351): `LOCKOUT` with an ACTIVE entry, an unreadable copy or LOCKOUT_PENDING; `RUN`
with at least three channels and a compatible set of images; else the module stays in `START`. A start that took more than 45 s goes
`SAFE` (R387). -/
def State.startDone (s : State) (o : StartObs) : State :=
  if s.mstate != .start then s
  else if 45000 < o.durationMs then s.goSafe 0xFFFF
  else if s.lock.pending || !o.lockRead || s.lock.entries.any (·.state == 1) then
    let s := s.leaveRun .lockout
    { s with lock := { s.lock with pending := false } }
  else if 3 ≤ (Ch.all.filter (s.passes o)).length && s.upd.setOk then s.enterRun
  else s

/-- The start sequence (R387), after what a restart leaves. -/
def State.startSequence (s : State) (o : StartObs) (loss : Bool) : State :=
  let s := { s with svc := { s.svc with startMs := s.svc.ms }, supply := { s.supply with mv := o.mv, minMv := o.mv } }
  let s := ((if loss then s.timeStart o else s).recStart o loss).readSw1 o
  let s := s.bootImages.relayImages o
  let s := (s.lifeStart o).inStart fun s => s.twinPosition o
  let s := (s.inStart fun s => s.dovetailTest o).linkDelays o
  let s := s.inStart fun s => s.sdiStart o
  let s := s.sealStart o
  let s := s.assignRoles o
  ((s.coldStart.failBanks.startEngines).inStart fun s => s.alignCycles o).startDone o

/-- A restart without loss of control supply (R353). -/
def State.restart (s : State) (o : StartObs) : State := s.restartBase.startSequence o false

/-! ## Commands -/

/-- The module starts after a loss of control supply, once the input has been within range for 20 ms (R387, R419). -/
def powerOn (o : StartObs) (s : State) : State :=
  if o.mv < 16800 || 165000 < o.mv then s
  else
  let s := s.powerDown
  ({ s with supply := { s.supply with on := true, cycles := s.supply.cycles + 1, temp := 0, tempMax := -32768 } }).startSequence
    o true

/-- POWER_ON (R387): the one command that acts without control supply. -/
def execPowerOn (o : StartObs) (s : State) : Host.Outcome State Fault Refusal := .next (powerOn o s.begin)

/-- A start that has not reached `RUN` within 45 s (R46, R387). -/
def startTimeout (s : State) : State :=
  if s.mstate == .start && s.svc.startMs + 45000 ≤ s.svc.ms then s.goSafe 0xFFFF else s

/-- START_TIMEOUT (R387). -/
def execStartTimeout (s : State) : Host.Outcome State Fault Refusal := .next (s.live fun s => startTimeout s)

/-- A module state in which a restart is taken (R353, R383). -/
def MState.restarts : MState → Bool | .safe | .lockout | .shutdown => true | _ => false

/-- A write of RESTART (R353, R358). -/
def restart (cl : Client) (v : W16) (o : StartObs) (s : State) : State :=
  s.write cl .operate true (v.toNat = 0x5A5A) fun s =>
    if s.mstate.restarts then (s.accept cl).restart o else s.abort cl 0x08000022

/-- RESTART (R353). -/
def execRestart (cl : Client) (v : W16) (o : StartObs) (s : State) : Host.Outcome State Fault Refusal :=
  .next (s.live fun s => restart cl v o s)

/-- A press of RESET is released (R353, R427): it acts when SVC and at least two channels register it. -/
def resetPress (ms : Nat) (svc : Bool) (chans : List Ch) (o : StartObs) (s : State) : State :=
  if svc && 2 ≤ chans.eraseDups.length && 50 ≤ ms && ms ≤ 2000 && s.mstate.restarts then s.restart o else s

/-- RESET_BUTTON_PRESS (R427). -/
def execResetButtonPress (ms : Nat) (svc : Bool) (chans : List Ch) (o : StartObs) (s : State) :
    Host.Outcome State Fault Refusal :=
  .next (s.live fun s => resetPress ms svc chans o s)

/-- Every ACTIVE lock-out entry is CLEARED (R354). -/
def Lockout.clear (l : Lockout) (now : DTime) : Lockout :=
  { l with pending := false, window := none, code := 0, result := 0
           entries := l.entries.map fun e => if e.state = 1 then { e with state := 2, clearTime := now } else e }

/-- A write of CODE (R354, R358). -/
def lockoutConfirm (cl : Client) (code : W16) (o : StartObs) (s : State) : State :=
  s.write cl .operate true true fun s =>
    if s.mstate != .lockout then ({ s with lock := { s.lock with result := 0x0E01 } }).accept cl
    else match s.lock.window with
      | none => s.abort cl 0x08000020
      | some d =>
        if d ≤ s.svc.ms then ({ s with lock := { s.lock with window := none, code := 0, result := 0x0E04 } }).abort cl 0x08000020
        else if code.toNat = s.lock.code then
          (({ s with lock := s.lock.clear s.time.now }).lockWritten.accept cl).restart o
        else ({ s with lock := { s.lock with window := none, code := 0, result := 0x0E03 } }).accept cl

/-- LOCKOUT_RESET_CONFIRM (R354). -/
def execLockoutResetConfirm (cl : Client) (code : W16) (o : StartObs) (s : State) : Host.Outcome State Fault Refusal :=
  .next (s.live fun s => lockoutConfirm cl code o s)

/-- The time of a schedule has come (R316, R403). -/
def scheduledActivation (o : StartObs) (s : State) : State :=
  match s.upd.schedule with
  | none => s
  | some (n, t) =>
    if s.time.now.nanos < t.nanos then s
    else
      let ptp := isPtp s.time.source && match s.time.ptpMs with | some m => m + 60000 ≤ s.svc.ms | none => false
      if ptp then (s.finish n .done 0 []).restart o
      else s.dropSchedule.finish n .failed 0x0511 []

/-- SCHEDULED_ACTIVATION (R316). -/
def execScheduledActivation (o : StartObs) (s : State) : Host.Outcome State Fault Refusal :=
  .next (s.live fun s => scheduledActivation o s)

end Sys2Proof.Machine
end

