-- ==== Sys2Proof/Machine/Dispatch.lean ====
section
/-! DEFINITION. The dispatch: one arm per command. -/

namespace Sys2Proof.Machine

/-- The effect of a command on everything but the queue. -/
def exec (i : Instr) (s : State) : Host.Outcome State Fault Refusal :=
  match i with
  | .powerOn o => Sys2Proof.Machine.execPowerOn o s
  | .startTimeout => Sys2Proof.Machine.execStartTimeout s
  | .vitalCycleMark ch o => Sys2Proof.Machine.execVitalCycleMark ch o s
  | .phaseOverrun ch ph => Sys2Proof.Machine.execPhaseOverrun ch ph s
  | .tenonDeadline ch st => Sys2Proof.Machine.execTenonDeadline ch st s
  | .voteDeadline ch => Sys2Proof.Machine.execVoteDeadline ch s
  | .markFrame rx tx h arrivalNs waitNs => Sys2Proof.Machine.execMarkFrame rx tx h arrivalNs waitNs s
  | .tenon1 rx tx h part parts data => Sys2Proof.Machine.execTenon1 rx tx h part parts data s
  | .tenon2 rx tx h p => Sys2Proof.Machine.execTenon2 rx tx h p s
  | .vote rx tx h p => Sys2Proof.Machine.execVote rx tx h p s
  | .deltaReqStart rx tx h ckptCycle ckptHash map => Sys2Proof.Machine.execDeltaReqStart rx tx h ckptCycle ckptHash map s
  | .deltaReqRepair rx tx h round map => Sys2Proof.Machine.execDeltaReqRepair rx tx h round map s
  | .deltaPage rx tx h round page crc data => Sys2Proof.Machine.execDeltaPage rx tx h round page crc data s
  | .deltaEnd rx tx h round count hash map => Sys2Proof.Machine.execDeltaEnd rx tx h round count hash map s
  | .idleFrame rx tx h => Sys2Proof.Machine.execIdleFrame rx tx h s
  | .linkEndSilence rx tx => Sys2Proof.Machine.execLinkEndSilence rx tx s
  | .dovetailMismatch ch stores edge => Sys2Proof.Machine.execDovetailMismatch ch stores edge s
  | .sramReadError ch addr w => Sys2Proof.Machine.execSramReadError ch addr w s
  | .pairResetRelease ch => Sys2Proof.Machine.execPairResetRelease ch s
  | .channelReady ch => Sys2Proof.Machine.execChannelReady ch s
  | .deltaRoundDeadline ch => Sys2Proof.Machine.execDeltaRoundDeadline ch s
  | .resetWindowExpiry ch => Sys2Proof.Machine.execResetWindowExpiry ch s
  | .dualLimitReached => Sys2Proof.Machine.execDualLimitReached s
  | .dualAccumulatorClear => Sys2Proof.Machine.execDualAccumulatorClear s
  | .enableGeneratorTimeout ch bk => Sys2Proof.Machine.execEnableGeneratorTimeout ch bk s
  | .bankEnableInvalid bk ch => Sys2Proof.Machine.execBankEnableInvalid bk ch s
  | .chargePumpDecay bk => Sys2Proof.Machine.execChargePumpDecay bk s
  | .chargePumpReady bk => Sys2Proof.Machine.execChargePumpReady bk s
  | .bankLineStale bk ch => Sys2Proof.Machine.execBankLineStale bk ch s
  | .commandFrameRepeat ch bk => Sys2Proof.Machine.execCommandFrameRepeat ch bk s
  | .commandFrameReceive bk ch f => Sys2Proof.Machine.execCommandFrameReceive bk ch f s
  | .configurationFrame bk ch f => Sys2Proof.Machine.execConfigurationFrame bk ch f s
  | .bankInputFrameSend bk => Sys2Proof.Machine.execBankInputFrameSend bk s
  | .inputFrameReceive ch bk f => Sys2Proof.Machine.execInputFrameReceive ch bk f s
  | .inputDebounce bk inp path v => Sys2Proof.Machine.execInputDebounce bk inp path v s
  | .testPulse bk src carrying => Sys2Proof.Machine.execTestPulse bk src carrying s
  | .wireBreakFlag bk inp => Sys2Proof.Machine.execWireBreakFlag bk inp s
  | .wireBreakClear bk inp => Sys2Proof.Machine.execWireBreakClear bk inp s
  | .bankSelfFault bk chk => Sys2Proof.Machine.execBankSelfFault bk chk s
  | .bankLineFaultClear bk ch => Sys2Proof.Machine.execBankLineFaultClear bk ch s
  | .ufWarn bk below => Sys2Proof.Machine.execUfWarn bk below s
  | .ufLow bk below => Sys2Proof.Machine.execUfLow bk below s
  | .ufCut bk => Sys2Proof.Machine.execUfCut bk s
  | .ufCutRecovery bk => Sys2Proof.Machine.execUfCutRecovery bk s
  | .nvSilence bk out => Sys2Proof.Machine.execNvSilence bk out s
  | .discrepancyTimeout first => Sys2Proof.Machine.execDiscrepancyTimeout first s
  | .undefLatch inp => Sys2Proof.Machine.execUndefLatch inp s
  | .undefLatchClear inp => Sys2Proof.Machine.execUndefLatchClear inp s
  | .supplyHoldExpiry bk => Sys2Proof.Machine.execSupplyHoldExpiry bk s
  | .outputTestDue out => Sys2Proof.Machine.execOutputTestDue out s
  | .bankAbsentFailed bk => Sys2Proof.Machine.execBankAbsentFailed bk s
  | .fieldResetTarget cl target => Sys2Proof.Machine.execFieldResetTarget cl target s
  | .fieldResetConfirm cl code => Sys2Proof.Machine.execFieldResetConfirm cl code s
  | .fieldResetTimeout => Sys2Proof.Machine.execFieldResetTimeout s
  | .pulseStart sp head startUs rsStart => Sys2Proof.Machine.execPulseStart sp head startUs rsStart s
  | .pulseEnd sp head endUs rsEnd => Sys2Proof.Machine.execPulseEnd sp head endUs rsEnd s
  | .timebaseStrobe sp sendUs => Sys2Proof.Machine.execTimebaseStrobe sp sendUs s
  | .peerStrobeReceive sp stampUs => Sys2Proof.Machine.execPeerStrobeReceive sp stampUs s
  | .upRange sp head => Sys2Proof.Machine.execUpRange sp head s
  | .downRange sp head => Sys2Proof.Machine.execDownRange sp head s
  | .coilMeasurement sp head loopMilliohm timeUs => Sys2Proof.Machine.execCoilMeasurement sp head loopMilliohm timeUs s
  | .driveFault sp head timeUs => Sys2Proof.Machine.execDriveFault sp head timeUs s
  | .keepaliveCommand sp ch cmd timeUs => Sys2Proof.Machine.execKeepaliveCommand sp ch cmd timeUs s
  | .keepaliveLoss sp timeUs => Sys2Proof.Machine.execKeepaliveLoss sp timeUs s
  | .systemSettled sp head mean timeUs => Sys2Proof.Machine.execSystemSettled sp head mean timeUs s
  | .settleTimeout sp head timeUs => Sys2Proof.Machine.execSettleTimeout sp head timeUs s
  | .clampInterference sp head timeUs => Sys2Proof.Machine.execClampInterference sp head timeUs s
  | .interferenceRecovery sp head timeUs => Sys2Proof.Machine.execInterferenceRecovery sp head timeUs s
  | .faultRecovery sp head timeUs => Sys2Proof.Machine.execFaultRecovery sp head timeUs s
  | .adcReferenceFault sp head timeUs => Sys2Proof.Machine.execAdcReferenceFault sp head timeUs s
  | .partnerDriveAbsent head timeUs => Sys2Proof.Machine.execPartnerDriveAbsent head timeUs s
  | .partnerDrivePresent head => Sys2Proof.Machine.execPartnerDrivePresent head s
  | .lockLost head timeUs => Sys2Proof.Machine.execLockLost head timeUs s
  | .lockAcquired head => Sys2Proof.Machine.execLockAcquired head s
  | .joinRequest head idle timeUs => Sys2Proof.Machine.execJoinRequest head idle timeUs s
  | .joinRampEnd head timeUs => Sys2Proof.Machine.execJoinRampEnd head timeUs s
  | .sensorProcessorFailed sp => Sys2Proof.Machine.execSensorProcessorFailed sp s
  | .remoteSilent head => Sys2Proof.Machine.execRemoteSilent head s
  | .staleHold head => Sys2Proof.Machine.execStaleHold head s
  | .clearDelayExpiry el => Sys2Proof.Machine.execClearDelayExpiry el s
  | .routeSet l => Sys2Proof.Machine.execRouteSet l s
  | .routeCancel l => Sys2Proof.Machine.execRouteCancel l s
  | .routeEmergencyRelease slot => Sys2Proof.Machine.execRouteEmergencyRelease slot s
  | .overlapTimerExpiry route => Sys2Proof.Machine.execOverlapTimerExpiry route s
  | .approachTimerExpiry route => Sys2Proof.Machine.execApproachTimerExpiry route s
  | .emergencyTimerExpiry route => Sys2Proof.Machine.execEmergencyTimerExpiry route s
  | .pointThrow l => Sys2Proof.Machine.execPointThrow l s
  | .pointEmergencyThrow slot => Sys2Proof.Machine.execPointEmergencyThrow slot s
  | .throwTimeout el => Sys2Proof.Machine.execThrowTimeout el s
  | .detectionGraceExpiry el => Sys2Proof.Machine.execDetectionGraceExpiry el s
  | .lampProofJudgement el => Sys2Proof.Machine.execLampProofJudgement el s
  | .block cl el => Sys2Proof.Machine.execBlock cl el s
  | .unblock cl el => Sys2Proof.Machine.execUnblock cl el s
  | .faultReset cl el => Sys2Proof.Machine.execFaultReset cl el s
  | .keyGrant cl el => Sys2Proof.Machine.execKeyGrant cl el s
  | .keyWithdraw cl el => Sys2Proof.Machine.execKeyWithdraw cl el s
  | .keyRemovalTimeout el => Sys2Proof.Machine.execKeyRemovalTimeout el s
  | .keyReturn el => Sys2Proof.Machine.execKeyReturn el s
  | .lxCloseTimeout el => Sys2Proof.Machine.execLxCloseTimeout el s
  | .lxRecovery el => Sys2Proof.Machine.execLxRecovery el s
  | .acPrepReset slot => Sys2Proof.Machine.execAcPrepReset slot s
  | .acDirectReset slot => Sys2Proof.Machine.execAcDirectReset slot s
  | .sccConfirm session r => Sys2Proof.Machine.execSccConfirm session r s
  | .sccConfirmTimeout slot => Sys2Proof.Machine.execSccConfirmTimeout slot s
  | .bistRun l => Sys2Proof.Machine.execBistRun l s
  | .imageTransfer l => Sys2Proof.Machine.execImageTransfer l s
  | .activateSchedule l => Sys2Proof.Machine.execActivateSchedule l s
  | .recExport l => Sys2Proof.Machine.execRecExport l s
  | .twinSwitchover l => Sys2Proof.Machine.execTwinSwitchover l s
  | .headExcitationChange l => Sys2Proof.Machine.execHeadExcitationChange l s
  | .shutdown l => Sys2Proof.Machine.execShutdown l s
  | .slotSuspend cl slot => Sys2Proof.Machine.execSlotSuspend cl slot s
  | .slotResume cl slot => Sys2Proof.Machine.execSlotResume cl slot s
  | .slotCancel cl slot => Sys2Proof.Machine.execSlotCancel cl slot s
  | .slotRelease cl slot => Sys2Proof.Machine.execSlotRelease cl slot s
  | .queueTimeout slot => Sys2Proof.Machine.execQueueTimeout slot s
  | .slotAutoRelease slot => Sys2Proof.Machine.execSlotAutoRelease slot s
  | .launchGiveUp cl => Sys2Proof.Machine.execLaunchGiveUp cl s
  | .netDatagramReceive net dg => Sys2Proof.Machine.execNetDatagramReceive net dg s
  | .skewTimerExpiry partner session seq => Sys2Proof.Machine.execSkewTimerExpiry partner session seq s
  | .connReq partner t => Sys2Proof.Machine.execConnReq partner t s
  | .connResp idx t => Sys2Proof.Machine.execConnResp idx t s
  | .dataTelegram idx t => Sys2Proof.Machine.execDataTelegram idx t s
  | .headReport idx t => Sys2Proof.Machine.execHeadReport idx t s
  | .disc idx t => Sys2Proof.Machine.execDisc idx t s
  | .pathMismatchNotice partner => Sys2Proof.Machine.execPathMismatchNotice partner s
  | .sessionTimeout idx => Sys2Proof.Machine.execSessionTimeout idx s
  | .connReqRepeat idx => Sys2Proof.Machine.execConnReqRepeat idx s
  | .responderTimeout idx => Sys2Proof.Machine.execResponderTimeout idx s
  | .holdOffExpiry idx => Sys2Proof.Machine.execHoldOffExpiry idx s
  | .egressEntry eng ch entry => Sys2Proof.Machine.execEgressEntry eng ch entry s
  | .egressConfirmTimeout eng => Sys2Proof.Machine.execEgressConfirmTimeout eng s
  | .ethernetFrameForward net port f => Sys2Proof.Machine.execEthernetFrameForward net port f s
  | .macAgeing net mac => Sys2Proof.Machine.execMacAgeing net mac s
  | .arpRequest net ip => Sys2Proof.Machine.execArpRequest net ip s
  | .icmpEcho net ip => Sys2Proof.Machine.execIcmpEcho net ip s
  | .ptpSlaveMessage net m stamp => Sys2Proof.Machine.execPtpSlaveMessage net m stamp s
  | .ptpTcForward net m residenceNs => Sys2Proof.Machine.execPtpTcForward net m residenceNs s
  | .residenceHoldExpiry net port seq => Sys2Proof.Machine.execResidenceHoldExpiry net port seq s
  | .stratusSlotStart slot => Sys2Proof.Machine.execStratusSlotStart slot s
  | .stratusData f => Sys2Proof.Machine.execStratusData f s
  | .stratusNull f => Sys2Proof.Machine.execStratusNull f s
  | .sync f => Sys2Proof.Machine.execSync f s
  | .coldstart f => Sys2Proof.Machine.execColdstart f s
  | .echoReq f => Sys2Proof.Machine.execEchoReq f s
  | .echo f roundTripNs => Sys2Proof.Machine.execEcho f roundTripNs s
  | .probe f => Sys2Proof.Machine.execProbe f s
  | .guardianTruncation node => Sys2Proof.Machine.execGuardianTruncation node s
  | .listenTimeout => Sys2Proof.Machine.execListenTimeout s
  | .clockCorrection => Sys2Proof.Machine.execClockCorrection s
  | .coldstartLimit noReturn => Sys2Proof.Machine.execColdstartLimit noReturn s
  | .integrationComplete => Sys2Proof.Machine.execIntegrationComplete s
  | .integrationLost => Sys2Proof.Machine.execIntegrationLost s
  | .silentReintegrate => Sys2Proof.Machine.execSilentReintegrate s
  | .linkBreak port => Sys2Proof.Machine.execLinkBreak port s
  | .loopOpen => Sys2Proof.Machine.execLoopOpen s
  | .linkDelayRemeasure => Sys2Proof.Machine.execLinkDelayRemeasure s
  | .statusFrameSelf => Sys2Proof.Machine.execStatusFrameSelf s
  | .canFrameReceive f stamp => Sys2Proof.Machine.execCanFrameReceive f stamp s
  | .nmtStart => Sys2Proof.Machine.execNmtStart s
  | .nmtStop => Sys2Proof.Machine.execNmtStop s
  | .nmtResetNode => Sys2Proof.Machine.execNmtResetNode s
  | .nmtResetCommunication => Sys2Proof.Machine.execNmtResetCommunication s
  | .referenceMessageReceive m => Sys2Proof.Machine.execReferenceMessageReceive m s
  | .canTransmitComplete r => Sys2Proof.Machine.execCanTransmitComplete r s
  | .aloneSend => Sys2Proof.Machine.execAloneSend s
  | .busOffRecovery => Sys2Proof.Machine.execBusOffRecovery s
  | .canHeartbeat => Sys2Proof.Machine.execCanHeartbeat s
  | .referenceSend => Sys2Proof.Machine.execReferenceSend s
  | .timeRoleWExpiry => Sys2Proof.Machine.execTimeRoleWExpiry s
  | .usdoSegmentTimeout cl => Sys2Proof.Machine.execUsdoSegmentTimeout cl s
  | .emcySend => Sys2Proof.Machine.execEmcySend s
  | .objectWrite cl idx sub data => Sys2Proof.Machine.execObjectWrite cl idx sub data s
  | .resetMaxima cl v => Sys2Proof.Machine.execResetMaxima cl v s
  | .resetCounts cl v => Sys2Proof.Machine.execResetCounts cl v s
  | .loginRequest cl level => Sys2Proof.Machine.execLoginRequest cl level s
  | .loginResponse cl resp => Sys2Proof.Machine.execLoginResponse cl resp s
  | .challengeExpiry cl => Sys2Proof.Machine.execChallengeExpiry cl s
  | .loginBlockExpiry cl => Sys2Proof.Machine.execLoginBlockExpiry cl s
  | .idleLogout cl => Sys2Proof.Machine.execIdleLogout cl s
  | .tsuSnapshot u counter arrival => Sys2Proof.Machine.execTsuSnapshot u counter arrival s
  | .snapshotTimeout u => Sys2Proof.Machine.execSnapshotTimeout u s
  | .timeMeasurement offsetNs => Sys2Proof.Machine.execTimeMeasurement offsetNs s
  | .sourceHoldExpiry => Sys2Proof.Machine.execSourceHoldExpiry s
  | .sourceQualified src => Sys2Proof.Machine.execSourceQualified src s
  | .calendarCompare calendarNs => Sys2Proof.Machine.execCalendarCompare calendarNs s
  | .autoCalibration rateErr => Sys2Proof.Machine.execAutoCalibration rateErr s
  | .scheduledActivation o => Sys2Proof.Machine.execScheduledActivation o s
  | .setTime cl ns sec => Sys2Proof.Machine.execSetTime cl ns sec s
  | .twinHeartbeatSend feeds => Sys2Proof.Machine.execTwinHeartbeatSend feeds s
  | .twinHeartbeatReceive lane hb => Sys2Proof.Machine.execTwinHeartbeatReceive lane hb s
  | .twinStatusEntry => Sys2Proof.Machine.execTwinStatusEntry s
  | .veneerFrameReceive lane v => Sys2Proof.Machine.execVeneerFrameReceive lane v s
  | .switchoverNotTaken => Sys2Proof.Machine.execSwitchoverNotTaken s
  | .switchoverNoStandby => Sys2Proof.Machine.execSwitchoverNoStandby s
  | .faultSourceAssert src by_ => Sys2Proof.Machine.execFaultSourceAssert src by_ s
  | .escalationExpiry src => Sys2Proof.Machine.execEscalationExpiry src s
  | .ackHandled w who => Sys2Proof.Machine.execAckHandled w who s
  | .ackLowered w who => Sys2Proof.Machine.execAckLowered w who s
  | .ackDismissed w who => Sys2Proof.Machine.execAckDismissed w who s
  | .ackRedirect w who => Sys2Proof.Machine.execAckRedirect w who s
  | .configScan bad => Sys2Proof.Machine.execConfigScan bad s
  | .noMajorityHw => Sys2Proof.Machine.execNoMajorityHw s
  | .forceWrite cl v => Sys2Proof.Machine.execForceWrite cl v s
  | .overrideWrite cl word => Sys2Proof.Machine.execOverrideWrite cl word s
  | .restart cl v o => Sys2Proof.Machine.execRestart cl v o s
  | .resetButtonPress ms svc chans o => Sys2Proof.Machine.execResetButtonPress ms svc chans o s
  | .resetHold svc chans => Sys2Proof.Machine.execResetHold svc chans s
  | .lockoutResetConfirm cl code o => Sys2Proof.Machine.execLockoutResetConfirm cl code o s
  | .lockoutResetWindowExpiry => Sys2Proof.Machine.execLockoutResetWindowExpiry s
  | .tokenRefill code => Sys2Proof.Machine.execTokenRefill code s
  | .recorderScrub bad corrected => Sys2Proof.Machine.execRecorderScrub bad corrected s
  | .marker cl v => Sys2Proof.Machine.execMarker cl v s
  | .recorderClear cl v => Sys2Proof.Machine.execRecorderClear cl v s
  | .advanceNext cl => Sys2Proof.Machine.execAdvanceNext cl s
  | .advanceOldest cl => Sys2Proof.Machine.execAdvanceOldest cl s
  | .advanceNewest cl => Sys2Proof.Machine.execAdvanceNewest cl s
  | .cursor cl rseq => Sys2Proof.Machine.execCursor cl rseq s
  | .revert cl v => Sys2Proof.Machine.execRevert cl v s
  | .exportIdle => Sys2Proof.Machine.execExportIdle s
  | .lcRequest cl v => Sys2Proof.Machine.execLcRequest cl v s
  | .sw1Change rd pos c => Sys2Proof.Machine.execSw1Change rd pos c s
  | .sw1WordEntry => Sys2Proof.Machine.execSw1WordEntry s
  | .sw1Mismatch ch => Sys2Proof.Machine.execSw1Mismatch ch s
  | .selftestSliceEnd r => Sys2Proof.Machine.execSelftestSliceEnd r s
  | .cvuKat unit result => Sys2Proof.Machine.execCvuKat unit result s
  | .blockWrite cl offset data => Sys2Proof.Machine.execBlockWrite cl offset data s
  | .imageWriteComplete failed => Sys2Proof.Machine.execImageWriteComplete failed s
  | .transferIdle => Sys2Proof.Machine.execTransferIdle s
  | .imageConfirm cl typ => Sys2Proof.Machine.execImageConfirm cl typ s
  | .imageWithdraw cl typ => Sys2Proof.Machine.execImageWithdraw cl typ s
  | .autoConfirm typ => Sys2Proof.Machine.execAutoConfirm typ s
  | .supplyLow mv => Sys2Proof.Machine.execSupplyLow mv s
  | .supplyHigh mv => Sys2Proof.Machine.execSupplyHigh mv s
  | .powerFail mv => Sys2Proof.Machine.execPowerFail mv s
  | .temperatureRead dc => Sys2Proof.Machine.execTemperatureRead dc s
  | .sccRequest session r => Sys2Proof.Machine.execSccRequest session r s
  | .entryRepeatWrite p n => Sys2Proof.Machine.execEntryRepeatWrite p n s
  | .meshIdleSend tx rx => Sys2Proof.Machine.execMeshIdleSend tx rx s
  | .dynamicEnableEdge bk ch halfUs => Sys2Proof.Machine.execDynamicEnableEdge bk ch halfUs s
  | .envelopeSample sp head e => Sys2Proof.Machine.execEnvelopeSample sp head e s
  | .switchCurrentLimit out sw => Sys2Proof.Machine.execSwitchCurrentLimit out sw s
  | .ethernetLinkChange net port speed => Sys2Proof.Machine.execEthernetLinkChange net port speed s
  | .stratusPortLinkChange port up => Sys2Proof.Machine.execStratusPortLinkChange port up s
  | .gratuitousArpRepeat net => Sys2Proof.Machine.execGratuitousArpRepeat net s
  | .announceReceiptTimeout net => Sys2Proof.Machine.execAnnounceReceiptTimeout net s

end Sys2Proof.Machine
end

