-- ==== Sys2Proof/Machine/Tick.lean ====
section
/-! DEFINITION. What one millisecond of CLK_SVC does when no command waits (assumption 2). -/

namespace Sys2Proof.Machine

/-- The calendar clock counts on (R315): it is backed without the control supply. -/
def State.rtc (s : State) : State := { s with time := { s.time with calendar := s.time.calendar + 1000000 } }

/-- One millisecond of CLK_SVC (R49, R308, R312, R405, R428 .07). -/
def State.clkSvc (s : State) : State :=
  State.track
    { s with
      svc := { s.svc with ms := s.svc.ms + 1 }
      time := s.time.msOn
      supply := { s.supply with hoursMs := s.supply.hoursMs + 1 }
      vital := { s.vital with
        dualMs := s.vital.dualMs + (if s.vital.running && s.vital.ladder == .dual then 1 else 0)
        fullMs := if s.vital.running && s.vital.ladder == .full then s.vital.fullMs + 1 else 0 }
      upd := { s.upd with runMs := if s.mstate == .run then s.upd.runMs + 1 else 0 } }

/-- A millisecond of a slot whose wait or final state SVC times (R155). -/
def SlotSt.svcMs (x : SlotSt) : SlotSt := if x.state == .queued || x.state.final then { x with outMs := x.outMs + 1 } else x

/-- Outside `RUN` SVC counts the time of the slots it holds, and the limits of R149 act there (R155; DEDUCED, assumption 114). -/
def State.svcLimits (s : State) : State :=
  match s.mstate with
  | .start | .safe | .lockout =>
    ({ s with kernel := ({ s.kernel with slots := s.kernel.slots.map SlotSt.svcMs }).timeSlots s.dat }).slotRecords
  | _ => s

/-- One millisecond passes with no command: CLK_SVC and what SVC has queued (R155) while the module is supplied, the
calendar always. -/
def tick (s : State) : State := (s.rtc).live fun s => s.clkSvc.svcLimits.svcQueued.settleAll

end Sys2Proof.Machine
end

