-- ==== Sys2Proof/Safety.lean ====
section
/-! DEFINITION. What counts as a safe run, and the words the claims about single commands use. -/

namespace Sys2Proof.Machine

/-- A step ends in a next state: neither a fault nor a refusal. -/
def Completes (s : State) : Prop := ∃ t, step s = .next t

/-- A channel that drives no enable generator and emits no command frames (R19, R67). -/
@[simp] abbrev Channel.dark (c : Channel) : Prop := c.gens = Quad.all false ∧ c.emitting = false

/-- In module state `m` with channels `q`: outside `RUN` every channel is dark, so that no bank finds an enable (R67, R68,
R352). -/
def Quiet (m : MState) (q : Quad Channel) : Prop := m ≠ .run → ∀ ch, (q.get ch).dark

/-- The invariant of the block: it keeps its sixteen fault-record slots (R348), sixteen lock-out entries (R355), twelve
check-value units (R390) and five copies of the life-cycle word (R376), and outside `RUN` no channel drives an enable (R352). -/
def Inv (s : State) : Prop :=
  s.col.recs.length = 16 ∧ s.lock.entries.length = 16 ∧ s.cvus.length = 12 ∧ s.life.copies.length = 5
    ∧ Quiet s.mstate s.vital.chans

/-- The module has its control supply (R419). -/
def Supplied (s : State) : Prop := s.supply.on = true

/-- `s` after a command that sends `o` and changes nothing but the channel group, which becomes `v`. -/
def State.vitalTo (s : State) (v : Vital) (o : List Out) : State := { s with vital := v, out := o }

/-- `s` after a command that sends `o` and changes nothing but channel `ch`, which becomes `c`. -/
def State.chTo (s : State) (ch : Ch) (c : Channel) (o : List Out) : State :=
  s.vitalTo { s.vital with chans := s.vital.chans.set ch c } o

/-- `s` after a command that sends `o` and changes nothing but bank `bk`, whose controller becomes `b`. -/
def State.bankTo (s : State) (bk : Bank) (b : BankHw) (o : List Out) : State :=
  { s with banks := s.banks.set bk.ch b, out := o }

/-- `s` after a command that sends `o` and changes nothing but the sensor processors. -/
def State.sensTo (s : State) (x : Sensors) (o : List Out) : State := { s with sens := x, out := o }

/-- `s` after a command that sends `o` and changes nothing but the ring node. -/
def State.ringTo (s : State) (r : Ring) (o : List Out) : State := { s with ring := r, out := o }

/-- `s` after a command that sends `o` and changes nothing but the two networks. -/
def State.netsTo (s : State) (n : Nets) (o : List Out) : State := { s with nets := n, out := o }

/-- `s` after a command that sends `o` and changes nothing but the CAN engine. -/
def State.canTo (s : State) (c : Can) (o : List Out) : State := { s with can := c, out := o }

/-- `s` after a command that sends `o` and changes nothing but device time and its units. -/
def State.timeTo (s : State) (t : Time) (o : List Out) : State := { s with time := t, out := o }

/-- `s` after a command that made the kernel `k` within the current evaluation: aspects, outputs and telegrams follow
(R94 step 6), and what the kernel noted acts. -/
def State.acted (s : State) (k : Kernel) : State :=
  ({ s.begin with kernel := k.after s.dat s.env }).kernelDone

/-- A request of client `cl` has arrived (R300): where an object command starts from. -/
def State.asked (s : State) (cl : Client) : State := s.begin.touch cl

/-- A frame of what `m` says, with the header `h` (R14). -/
def frameOf (h : MeshHead) (m : MeshOut) : MeshFrame := ⟨h, m.payload⟩

/-- A mesh frame that the receiving channel takes up (R14, R15): from another channel, kept by a link that is judged over an end that is
`UP`, of the type of `m`, and of the running cycle or the next. -/
def Held (s : State) (rx tx : Ch) (h : MeshHead) (m : MeshOut) : Prop :=
  rx ≠ tx ∧ (frameOf h m).sound tx = true ∧ h.typ = m.typ ∧ s.judged rx tx = true ∧ ((s.ch rx).ends.get tx).up = true
    ∧ (h.cycle = s.vital.cycle ∨ h.cycle = s.vital.cycle + 1)

/-- `s` once the link end of `rx` has taken a kept frame from `tx` (R15). -/
def linked (s : State) (rx tx : Ch) (h : MeshHead) : State :=
  s.begin.modCh rx fun c => { c with ends := c.ends.set tx (((s.ch rx).ends.get tx).frame h.seq true) }

/-- The state of an element in the evaluation that blocks or unblocks it (R120, R134): a boundary element leaves or takes
up its demand. -/
def kindBlocked (s : State) (el : Nat) (on : Bool) (x : ElemKind) : ElemKind :=
  match x with
  | .bd b => .bd (BdState.onBlock b (s.kernel.itemHeld s.dat el (some 1)) on)
  | y => y

/-- Session `n`, bound to partner `p`, accepts a telegram: the checks 1 to 5 of R275 hold, by its confirmation too. -/
def Accepts (s : State) (n : Nat) (p : Partner) (t : Telegram) : Prop :=
  let x := s.kernel.session n
  s.dat.partner x.partner = some p ∧ (x.state = .open_ ∨ x.state = .opening) ∧ codesOk s.env.pst p t = true ∧ t.srcId = p.id
    ∧ typePermitted p.cls t.typ.toNat = true ∧ t.typ ≠ 4 ∧ t.payload.length ≤ p.maxPayload ∧ t.session = x.sid
    ∧ (x.rxAny = true → seqLater 32 t.seq x.rxSeq = true) ∧ sequenceOnly x t = false ∧ s.kernel.confOk x t = true

/-- The two networks and what stands beside them changed. -/
def State.modNets (s : State) (f : Nets → Nets) : State := { s with nets := f s.nets }

/-- The node accepts a frame that arrived (R241, R245, R249): it travels in primary direction to the port the node receives from, comes
from another node, has the format of its type and slot, and where a window is judged starts inside it. -/
def Ring.Takes (r : Ring) (c : Schedule) (f : RingFrame) (window : Bool) : Prop :=
  r.sched = some c ∧ f.dir = false ∧ f.node ≠ r.own ∧ f.port = r.primary ∧ Ring.formatOk c f = true
    ∧ (window = true → r.timed = true ∧ (r.deviation c f).natAbs ≤ c.w)

/-- The bank `c` differs from `b` in nothing but its lines and what its voters drive: pump, switches, outputs and a test
(R66, R68). -/
def Voted (b c : BankHw) : Prop :=
  c = { b with
    lines := c.lines, pumpReady := c.pumpReady, pSw := c.pSw, mSw := c.mSw, pOpen := c.pOpen, mOpen := c.mOpen
    nOut := c.nOut, test := c.test }

end Sys2Proof.Machine
end

