-- ==== Sys2Proof/Certificates/Slice0/Obligations.lean ====
section
/-! DEFINITION. The statements about the PJV-7302 block. -/

open Sys2Proof Sys2Proof.Machine

/-- A step runs the command at the front of the queue with the queue's rest; on an empty queue one millisecond of CLK_SVC
passes (the second clause is the model's choice, assumption 2). -/
def Obligations.StepRunsTheFrontCommand : Prop :=
  (∀ (s : State) (c : Instr) (rest : List Instr), s.pending = c :: rest → step s = exec c { s with pending := rest })
  ∧ (∀ s : State, s.pending = [] → step s = .next (tick s) ∧ (tick s).pending = []
      ∧ (Supplied s → (tick s).svc.ms = s.svc.ms + 1))

/-- Without control supply only the power-on acts (R419, R428): every other command sends nothing and changes nothing, and at a
tick only the backed-up calendar counts. What stands of it beyond the supply rules is the model's choice (assumption 46). -/
def Obligations.WithoutSupplyNothingActs : Prop :=
  ∀ s : State, ¬ Supplied s →
    (∀ c : Instr, (∀ o, c ≠ .powerOn o) → exec c s = .next { s with out := [] })
    ∧ tick s = { s with out := [], time := { s.time with calendar := s.time.calendar + 1000000 } }

/-- Every command completes: it answers a next state, leaves the commands that wait as they are, and passes no time of
CLK_SVC, which the tick alone counts. -/
def Obligations.EveryCommandCompletesAndKeepsTheQueue : Prop :=
  ∀ (c : Instr) (s : State), ∃ t, exec c s = .next t ∧ t.pending = s.pending ∧ t.svc.ms = s.svc.ms

/-- The invariant holds at reset. -/
def Obligations.ResetMeetsTheInvariant : Prop :=
  Inv State.reset

/-- Every step keeps the invariant (R67, R348, R352, R355, R376, R390): sixteen fault records, sixteen lock-out entries, twelve
check-value units and five life-cycle copies stand, and outside `RUN` no channel drives an enable generator or emits a
command frame. -/
def Obligations.EveryStepKeepsTheInvariant : Prop :=
  ∀ s t : State, Inv s → step s = .next t → Inv t

/-- What the spec states for the start of everything (R157, R232, R233, R285, R348, R355, R371): no command waits, the module
is in `START`, every slot is `FREE` under SEQ 0, every session unbound, every input INVALID by its bank, every bank in CONFIG,
every fault record free and every lock-out entry EMPTY; at a cold start with station data every section is `DISTURBED`, every
head `OFF` and every route idle (R93, R171, R175). -/
def Obligations.ResetAndColdStartLeaveTheStatedValues : Prop :=
  (State.reset.pending = [] ∧ State.reset.mstate = .start
    ∧ State.reset.kernel.slots = List.replicate 96 SlotSt.free ∧ SlotSt.free.state = .free ∧ SlotSt.free.seq = 0
    ∧ State.reset.kernel.sess.length = 128
    ∧ (∀ x ∈ State.reset.kernel.sess, x.state = .unbound ∧ x.partner = 0xFFFF)
    ∧ State.reset.kernel.inputs.length = 96
    ∧ (∀ x ∈ State.reset.kernel.inputs, x.state = .invalid ∧ x.cause = 1)
    ∧ (∀ bk, (State.reset.kernel.banks.get bk).img.stat = 0x50 ∧ (State.reset.banks.get bk).config = true)
    ∧ (∀ n, n < 16 → State.reset.frec n = none)
    ∧ (∀ e ∈ State.reset.lock.entries, e.state = 0))
  ∧ (∀ (d : Sdi) (n role : Nat),
      (d.coldKernel n role).slots = List.replicate 96 SlotSt.free
      ∧ (∀ x ∈ (d.coldKernel n role).sections, x.state = .disturbed)
      ∧ (∀ x ∈ (d.coldKernel n role).heads, x.state = .off)
      ∧ (∀ x ∈ (d.coldKernel n role).routes, x.state = .idle)
      ∧ (d.coldKernel n role).elems.map (·.id) = d.elems.map (·.id)
      ∧ (∀ x ∈ (d.coldKernel n role).partners, x.nextSid = n % 65536))

/-- A source without escalation that no shadow takes reacts at its level at once (R343, R345): L0 and L1 leave the module
and its channels, L2 isolates, L3 resets the target channel where the channels cycle, L4 takes the module `SAFE`, L5 writes a
lock-out entry and takes it `LOCKOUT`; an assertion that a shadow takes is merged and has no reaction (R350). In every case
the queue, the clients, the sensors, the banks, device time, the life cycle, the twin link, the update, the supply, the station
data and the parameter store stay, the ring node but for the cycles it stands ready for, and the check-value units but for
CVU11, which works on the lock-out record (assumption 140). -/
def Obligations.AnAssertionReactsAtItsLevel : Prop :=
  ∀ (s : State) (src : Nat),
    (let t := s.raise src
     t.pending = s.pending ∧ t.sens = s.sens ∧ t.banks = s.banks ∧ t.ring = { s.ring with ready := t.ring.ready }
      ∧ t.clients = s.clients ∧ t.time = s.time ∧ t.twin = s.twin ∧ t.life = s.life ∧ (∀ n, n ≠ 11 → t.cvu n = s.cvu n)
      ∧ t.upd = s.upd ∧ t.supply = s.supply ∧ t.pst = s.pst ∧ t.sdi = s.sdi)
    ∧ (∀ n, s.shadowSlot src = some n → (s.raise src).mstate = s.mstate ∧ (s.raise src).vital = s.vital
        ∧ (s.raise src).can = s.can ∧ ((s.frec n).isSome = true →
          (s.raise src).col.mergedTotal = s.col.mergedTotal + 1))
    ∧ (s.shadowSlot src = none → (s.srcCfg src).esc = 0 →
      ((s.srcCfg src).level ≤ 1 → (s.raise src).mstate = s.mstate ∧ (s.raise src).vital = s.vital)
      ∧ ((s.srcCfg src).level = 2 → (s.raise src).mstate = s.mstate ∧ (s.raise src).vital = s.vital
          ∧ src ∈ (s.raise src).col.isolated)
      ∧ ((s.srcCfg src).level = 3 → s.resettable = false → (s.raise src).mstate = s.mstate
          ∧ (s.raise src).vital = s.vital)
      ∧ (∀ ch, (s.srcCfg src).level = 3 → Ch.ofIdx (s.srcCfg src).target = ch → s.resettable = true →
          (s.ch ch).role ≠ .off → ((s.raise src).ch ch).inReset = true ∧ ((s.raise src).ch ch).gens = Quad.all false
          ∧ (s.vital.ladder ≠ .dual ∨ s.vital.running = false →
            (s.raise src).mstate = s.mstate ∧ (s.raise src).vital.resetsTotal = s.vital.resetsTotal + 1
            ∧ ((s.raise src).ch ch).role = (if ((s.ch ch).recent s.svc.ms).length ≥ 2 then .off else .resync)
            ∧ ((s.raise src).ch ch).pages = (s.ch ch).pages))
      ∧ ((s.srcCfg src).level = 4 → s.resettable = true → (s.raise src).mstate = .safe
          ∧ (s.raise src).vital.running = false ∧ (s.raise src).col.safeCause = src
          ∧ ∀ ch, ((s.raise src).ch ch).gens = Quad.all false)
      ∧ ((s.srcCfg src).level = 5 → (s.raise src).lock.total = s.lock.total + 1
          ∧ (s.mstate ≠ .lockout → s.mstate ≠ .shutdown → (s.raise src).mstate = .lockout
            ∧ ∀ ch, ((s.raise src).ch ch).gens = Quad.all false)))

/-- In `SAFE` and `LOCKOUT` (R345) no channel cycles, a level 3 that falls due is recorded at level 1 and not applied, level 4
changes nothing more, and level 5 still writes its lock-out entry. -/
def Obligations.InSafeAndLockoutNoChannelCycles : Prop :=
  ∀ (s : State) (src : Nat), Supplied s → (s.mstate = .safe ∨ s.mstate = .lockout) →
    (∀ ch o, exec (.vitalCycleMark ch o) s = .next s.begin.sendMesh)
    ∧ (s.shadowSlot src = none → (s.srcCfg src).esc = 0 →
      let t := s.raise src
      ((s.srcCfg src).level = 3 → t.mstate = s.mstate ∧ t.vital = s.vital ∧ t.lock = s.lock
        ∧ (s.can.emcys.length < 16 → ∃ e ∈ t.can.emcys, e.source = src ∧ e.code = emcyCode src 1))
      ∧ ((s.srcCfg src).level = 4 → t.mstate = s.mstate ∧ t.vital = s.vital ∧ t.lock = s.lock
        ∧ t.col.safeCause = s.col.safeCause)
      ∧ ((s.srcCfg src).level = 5 → t.mstate = .lockout ∧ t.lock.total = s.lock.total + 1
        ∧ (∀ n, s.lock.place = some n → ∃ e ∈ t.lock.entries, e.state = 1 ∧ e.source = src ∧ e.setTime = s.time.now)))
    ∧ (∀ e, s.escalOf src = some e → e.due ≤ s.svc.ms → (s.srcCfg src).level = 3 →
      ∃ t : State, exec (.escalationExpiry src) s = .next t ∧ t.mstate = s.mstate ∧ t.vital = s.vital ∧ t.lock = s.lock)

/-- NO_MAJORITY_HW (R346), the end of the cycle length plus 1 ms: with fewer than two ends of P5 the collector asserts
NO_MAJORITY (0x049) by itself, whose level takes the module `SAFE`; with two it does nothing. -/
def Obligations.NoMajorityIsAssertedInHardware : Prop :=
  ∀ s : State, Supplied s → s.mstate = .run →
    (s.vital.p5Count < 2 → exec .noMajorityHw s = .next (s.begin.raise 0x49)
      ∧ lookupD (s.begin.raise 0x49).col.counts 0x49 = lookupD s.col.counts 0x49 + 1
      ∧ (s.begin.raise 0x49).mstate = .safe ∧ (s.begin.raise 0x49).vital.running = false
      ∧ (s.begin.raise 0x49).col.safeCause = 0x49)
    ∧ (2 ≤ s.vital.p5Count → exec .noMajorityHw s = .next s.begin)

/-- FAULT_SOURCE_ASSERT and ESCALATION_EXPIRY (R341, R344, R359): an assertion by a detector is counted, and with an escalation
time it waits that long; at the expiry the configured level is applied and counted, and nothing waits any more.
ACK_HANDLED, ACK_LOWERED, ACK_DISMISSED and ACK_REDIRECT (R344): an acknowledgement in time from the parties of the source's
class settles it: recorded at the level applied or dismissed with no reaction of the hardware, or redirected as an L3 to the
link end it names; a V-class source is neither lowered nor dismissed; any other word changes nothing. -/
def Obligations.AssertionsEscalateUntilAcknowledged : Prop :=
  (∀ (s : State) (src : Nat), Supplied s → src < 0x200 →
    exec (.faultSourceAssert src none) s = .next (s.begin.raise src)
    ∧ (∀ ch, exec (.faultSourceAssert src (some ch)) s = .next (s.begin.raiseAgreed src ch))
    ∧ lookupD (s.raise src).col.counts src = lookupD s.col.counts src + 1
    ∧ (s.shadowSlot src = none → (s.srcCfg src).esc ≠ 0 →
      (s.raise src).escalOf src = some ⟨src, s.svc.ms + (s.srcCfg src).esc, false⟩ ∧ (s.raise src).vital = s.vital)
    ∧ (∀ e, s.escalOf src = some e → e.due ≤ s.svc.ms →
      ∃ t : State, exec (.escalationExpiry src) s = .next t ∧ t.escalOf src = none
        ∧ t.col.escalated = s.col.escalated + 1
        ∧ ((s.srcCfg src).level = 3 → s.resettable = true → (s.ch (Ch.ofIdx (s.srcCfg src).target)).role ≠ .off →
          (t.ch (Ch.ofIdx (s.srcCfg src).target)).inReset = true))
    ∧ (∀ e, s.escalOf src = some e → s.svc.ms < e.due → exec (.escalationExpiry src) s = .next s.begin))
  ∧ (∀ (s : State) (w : AckWord) (who : AckBy), Supplied s →
    (∀ e, s.ackable w 1 who = some e → (s.srcCfg w.source).level ≤ w.applied →
      ∃ t : State, exec (.ackHandled w who) s = .next t ∧ t.escalOf w.source = none ∧ t.vital = s.vital ∧ t.mstate = s.mstate
        ∧ t = s.begin.ackSettle e w.source w.applied)
    ∧ (∀ e, s.ackable w 1 who = some e → w.applied < (s.srcCfg w.source).level →
      exec (.ackHandled w who) s = .next s.begin)
    ∧ (∀ e, s.ackable w 2 who = some e → (s.srcCfg w.source).v = false →
      ∃ t : State, exec (.ackLowered w who) s = .next t ∧ t.escalOf w.source = none ∧ t.vital = s.vital ∧ t.mstate = s.mstate
        ∧ t = s.begin.ackSettle e w.source w.applied)
    ∧ (∀ e, s.ackable w 3 who = some e → (s.srcCfg w.source).v = false →
      ∃ t : State, exec (.ackDismissed w who) s = .next t ∧ t.escalOf w.source = none ∧ t.vital = s.vital
        ∧ t.mstate = s.mstate ∧ t.col.recs = s.col.recs)
    ∧ ((s.srcCfg w.source).v = true → exec (.ackLowered w who) s = .next s.begin
      ∧ exec (.ackDismissed w who) s = .next s.begin)
    ∧ (∀ e, s.ackable w 4 who = some e → 0x40 ≤ w.source → w.source < 0x46 → w.applied = 3 →
        (w.channel = (linkEnds w.source).1 ∨ w.channel = (linkEnds w.source).2) → s.resettable = true →
        (s.ch w.channel).role ≠ .off →
      ∃ t : State, exec (.ackRedirect w who) s = .next t ∧ t.escalOf w.source = none ∧ (t.ch w.channel).inReset = true)
    ∧ (s.ackable w w.code who = none → exec (.ackHandled w who) s = .next s.begin ∧ exec (.ackLowered w who) s = .next s.begin
      ∧ exec (.ackDismissed w who) s = .next s.begin ∧ exec (.ackRedirect w who) s = .next s.begin))

/-- CONFIG_SCAN, FORCE_WRITE and OVERRIDE_WRITE (R342, R347, R349): a V-class pair that disagrees is L5 at once, an N-class one is
marked in the lowest open record or recorded, a force bit asserts its source with FORCED, and an override changes an N-class source only. -/
def Obligations.CollectorIsScannedForcedAndOverridden : Prop :=
  ∀ (s : State) (cl : Client), Supplied s →
    (∀ p, CfgPair.agrees p = false → CfgPair.vital p = true → (s.mstate = .start ∨ s.mstate = .run ∨ s.mstate = .safe) →
      ∃ t : State, exec (.configScan [p]) s = .next t ∧ t.mstate = .lockout ∧ t.lock.total = s.lock.total + 1
        ∧ t.col.configErrs = s.col.configErrs + 1)
    ∧ (∀ p, CfgPair.agrees p = false → CfgPair.vital p = false →
      let e : State := { s.begin with col := { s.col with configErrs := s.col.configErrs + 1 } }
      (s.col.recs.findIdx? (·.isSome) = none → exec (.configScan [p]) s = .next (e.raise 0x1F1))
      ∧ ∀ n r, s.col.recs.findIdx? (·.isSome) = some n → s.frec n = some r →
        exec (.configScan [p]) s = .next ((e.setRec n (some { r with config := true })).mergeInto n 0x1F1 false))
    ∧ (∀ p, CfgPair.agrees p = true → exec (.configScan [p]) s = .next s.begin)
    ∧ exec (.configScan []) s = .next s.begin
    ∧ (2 ≤ (s.client cl).level → (s.life.state = 1 ∨ s.life.state = 3) →
      exec (.forceWrite cl 1) s = .next ((State.raiseWith ({ s.asked cl with col := { s.col with
          forces := s.col.select :: s.col.forces.filter (· != s.col.select) } }) State.raiseSafe s.col.select 0 true).accept cl)
      ∧ exec (.forceWrite cl 0) s = .next ((State.deassert ({ s.asked cl with col := { s.col with
          forces := s.col.forces.filter (· != s.col.select) } }) s.col.select).checkClear.accept cl)
      ∧ exec (.forceWrite cl 2) s = .next ((s.asked cl).abort cl 0x06090030))
    ∧ (2 ≤ (s.client cl).level → s.life.state ≠ 1 → s.life.state ≠ 3 → ∀ v, exec (.forceWrite cl v) s =
      .next ((s.asked cl).abort cl 0x08000021))
    ∧ (∀ w, (s.asked cl).check cl .rwm true ((SrcCfg.ofWord w).level ≤ 2 && (SrcCfg.ofWord w).esc ≤ 1000) = none →
      ((imageCfg s.col.select).v = true → exec (.overrideWrite cl w) s = .next ((s.asked cl).abort cl 0x08000020))
      ∧ ((imageCfg s.col.select).v = false → w ≠ 0 →
        ∃ t : State, exec (.overrideWrite cl w) s = .next (t.accept cl)
          ∧ t.srcCfg s.col.select = { imageCfg s.col.select with
            level := (SrcCfg.ofWord w).level, esc := (SrcCfg.ofWord w).esc }))

/-- START_TIMEOUT (R387): a module still in `START` 45 s after its start began goes `SAFE` under SAFE_CAUSE 0xFFFF; before
that, and in every other module state, nothing happens.
DUAL_LIMIT_REACHED and DUAL_ACCUMULATOR_CLEAR (R48, R49): the limit asserts source 0x4E in `DUAL` alone; 24 h in `FULL`
clear the accumulated time.
POWER_ON (R387, R419, R428) acts even without control supply: with an input from 16.8 V to 165 V the supply is there, the
power cycle is counted, the input voltage is the one observed, and the commands that wait still wait; with another input the
module does not start. -/
def Obligations.StartAndDualTimeAreLimited : Prop :=
  (∀ s : State, Supplied s →
    (s.mstate = .start → s.svc.startMs + 45000 ≤ s.svc.ms →
      ∃ t, exec .startTimeout s = .next t ∧ t.mstate = .safe ∧ t.col.safeCause = 0xFFFF ∧ t.vital.running = false
        ∧ (∀ ch bk : Ch, (t.ch ch).gens.get bk = false) ∧ (∀ ch : Ch, (t.ch ch).pages = (s.ch ch).pages))
    ∧ (s.mstate ≠ .start ∨ s.svc.ms < s.svc.startMs + 45000 → exec .startTimeout s = .next s.begin))
  ∧ (∀ s : State, Supplied s →
    (s.mstate = .run → s.vital.running = true → s.vital.ladder = .dual → s.dat.dualMin * 60000 ≤ s.vital.dualMs →
      exec .dualLimitReached s = .next (s.begin.raise 0x4E))
    ∧ (s.vital.dualMs < s.dat.dualMin * 60000 → exec .dualLimitReached s = .next s.begin)
    ∧ (86400000 ≤ s.vital.fullMs → exec .dualAccumulatorClear s = .next (s.vitalTo { s.vital with dualMs := 0 } []))
    ∧ (s.vital.fullMs < 86400000 → exec .dualAccumulatorClear s = .next s.begin))
  ∧ (∀ (s : State) (o : StartObs),
    (16800 ≤ o.mv → o.mv ≤ 165000 → ∃ t, exec (.powerOn o) s = .next t ∧ t.supply.on = true
      ∧ t.supply.cycles = s.supply.cycles + 1 ∧ t.supply.mv = o.mv ∧ t.supply.minMv = o.mv ∧ t.pending = s.pending)
    ∧ (o.mv < 16800 ∨ 165000 < o.mv → exec (.powerOn o) s = .next s.begin))

/-- RESTART, RESET_BUTTON_PRESS and SCHEDULED_ACTIVATION (R316, R353, R403): a restart is taken in `SAFE`, `LOCKOUT` and
`SHUTDOWN` only, is no power cycle, and at a scheduled time needs PTP.
SUPPLY_LOW, SUPPLY_HIGH, POWER_FAIL and TEMPERATURE_READ (R351, R419, R424): a low or high input asserts its source and operation
continues, and a reading in between ends both (log entry 141); above 165 V and at a power failure the module is off, its lock-out record kept and its recorder lost; the
highest reading sets the temperature flags, and +110 °C takes the module `SAFE`. -/
def Obligations.RestartsAreTakenOutsideRun : Prop :=
  (∀ (s : State) (cl : Client) (o : StartObs), Supplied s →
    (s.restart o).supply.cycles = s.supply.cycles
    ∧ (1 ≤ (s.client cl).level → s.mstate.restarts = true →
      exec (.restart cl 0x5A5A o) s = .next (((s.asked cl).accept cl).restart o))
    ∧ (1 ≤ (s.client cl).level → s.mstate = .run → exec (.restart cl 0x5A5A o) s = .next ((s.asked cl).abort cl 0x08000022))
    ∧ (1 ≤ (s.client cl).level → ∀ v, v ≠ 0x5A5A → exec (.restart cl v o) s = .next ((s.asked cl).abort cl 0x06090030))
    ∧ (∀ ms chans, s.mstate.restarts = true → 50 ≤ ms → ms ≤ 2000 → 2 ≤ chans.eraseDups.length →
      exec (.resetButtonPress ms true chans o) s = .next (s.begin.restart o))
    ∧ (∀ ms svc chans, (s.mstate = .run ∨ svc = false ∨ chans.eraseDups.length < 2) →
      exec (.resetButtonPress ms svc chans o) s = .next s.begin)
    ∧ (∀ n t, s.upd.schedule = some (n, t) → t.nanos ≤ s.time.now.nanos →
      (isPtp s.time.source = true → ∀ m, s.time.ptpMs = some m → m + 60000 ≤ s.svc.ms →
        exec (.scheduledActivation o) s = .next ((s.begin.finish n .done 0 []).restart o))
      ∧ ((isPtp s.time.source = false ∨ s.time.ptpMs = none) →
        exec (.scheduledActivation o) s = .next (s.begin.dropSchedule.finish n .failed 0x0511 [])))
    ∧ (∀ n t, s.upd.schedule = some (n, t) → s.time.now.nanos < t.nanos → exec (.scheduledActivation o) s = .next s.begin))
  ∧ (∀ (s : State) (mv : Nat), Supplied s →
    (mv < 16800 → ∃ t : State, exec (.supplyLow mv) s = .next t ∧ t.supply.low = true ∧ t.supply.high = false ∧ t.supply.mv = mv
      ∧ t.supply.minMv = min s.supply.minMv mv ∧ t.mstate = s.mstate ∧ t.vital = s.vital
      ∧ (s.supply.low = false → 0x1F2 ∈ t.col.asserted))
    ∧ (154000 < mv → mv ≤ 165000 → ∃ t : State, exec (.supplyHigh mv) s = .next t ∧ t.supply.high = true ∧ t.supply.mv = mv
      ∧ t.mstate = s.mstate ∧ t.vital = s.vital ∧ (s.supply.high = false → 0x1F3 ∈ t.col.asserted))
    ∧ (16800 ≤ mv → mv ≤ 154000 → ∃ t : State, exec (.supplyLow mv) s = .next t ∧ exec (.supplyHigh mv) s = .next t
      ∧ t.supply.low = false ∧ t.supply.high = false ∧ t.supply.mv = mv)
    ∧ (154000 < mv → exec (.supplyLow mv) s = .next s.begin)
    ∧ (mv < 16800 → exec (.supplyHigh mv) s = .next s.begin)
    ∧ (∃ t : State, exec (.powerFail mv) s = .next t ∧ t.supply.on = false ∧ t.lock.entries = s.lock.entries
      ∧ t.lock.pending = s.lock.pending ∧ t.rcd.recs = [] ∧ t.pst = s.pst ∧ t.pending = s.pending
      ∧ (∀ n, (t.kernel.vout n).cmd = false) ∧ (165000 < mv → exec (.supplyHigh mv) s = .next t))
    ∧ (∀ dc x, x ∈ dc → (∀ y ∈ dc, y ≤ x) → ∃ t : State, exec (.temperatureRead dc) s = .next t ∧ t.supply.temp = x
      ∧ (950 ≤ x → t.supply.tempHigh = true) ∧ (x ≤ 900 → t.supply.tempHigh = false)
      ∧ (1100 ≤ x → s.supply.tempCrit = false → s.mstate = .run → t.mstate = .safe))
    ∧ exec (.temperatureRead []) s = .next s.begin)

/-- RESET_HOLD, LOCKOUT_RESET_CONFIRM and LOCKOUT_RESET_WINDOW_EXPIRY (R354, R427): a hold in `LOCKOUT` opens a window of 30 s
with a code that is never 0; the code clears every ACTIVE entry and restarts, a wrong one or the window's end closes it. -/
def Obligations.LockoutIsResetByItsCodeOnly : Prop :=
  ∀ (s : State) (cl : Client) (code : W16) (o : StartObs), Supplied s →
    (0 < lockCode s ∧ lockCode s < 65536)
    ∧ (let c := (crc32c (le 4 Config.serial.toNat ++ le 4 s.lock.total ++ le 6 s.time.now.s)).toNat % 65536
      lockCode s = if c = 0 then 1 else c)
    ∧ (∀ chans, s.mstate = .lockout → 2 ≤ chans.eraseDups.length → exec (.resetHold true chans) s =
      .next { s.begin with lock := { s.lock with code := lockCode s, result := 0xFFFF, window := some (s.svc.ms + 30000) } })
    ∧ (∀ chans, s.mstate ≠ .lockout → exec (.resetHold true chans) s = .next s.begin)
    ∧ (1 ≤ (s.client cl).level → s.mstate = .lockout →
      (∀ d, s.lock.window = some d → s.svc.ms < d → code.toNat = s.lock.code → exec (.lockoutResetConfirm cl code o) s =
        .next ((State.accept (State.lockWritten { s.asked cl with lock := s.lock.clear s.time.now }) cl).restart o))
      ∧ (∀ d, s.lock.window = some d → s.svc.ms < d → code.toNat ≠ s.lock.code → exec (.lockoutResetConfirm cl code o) s =
        .next (State.accept ({ s.asked cl with lock := { s.lock with window := none, code := 0, result := 0x0E03 } }) cl))
      ∧ (∀ d, s.lock.window = some d → d ≤ s.svc.ms → exec (.lockoutResetConfirm cl code o) s = .next (State.abort
        { s.asked cl with lock := { s.lock with window := none, code := 0, result := 0x0E04 } } cl 0x08000020))
      ∧ (s.lock.window = none → exec (.lockoutResetConfirm cl code o) s = .next ((s.asked cl).abort cl 0x08000020)))
    ∧ (1 ≤ (s.client cl).level → s.mstate ≠ .lockout → exec (.lockoutResetConfirm cl code o) s =
      .next (State.accept ({ s.asked cl with lock := { s.lock with result := 0x0E01 } }) cl))
    ∧ ((s.client cl).level < 1 → exec (.lockoutResetConfirm cl code o) s = .next ((s.asked cl).abort cl 0x06010000))
    ∧ ((s.lock.clear s.time.now).pending = false ∧ (s.lock.clear s.time.now).entries = s.lock.entries.map fun e =>
      if e.state = 1 then { e with state := 2, clearTime := s.time.now } else e)
    ∧ (∀ d, s.lock.window = some d → d ≤ s.svc.ms → exec .lockoutResetWindowExpiry s =
      .next { s.begin with lock := { s.lock with window := none, code := 0, result := 0x0E04 } })
    ∧ (∀ d, s.lock.window = some d → s.svc.ms < d → exec .lockoutResetWindowExpiry s = .next s.begin)

/-- VITAL_CYCLE_MARK (R16, R18): a channel that takes part sends its mark, samples its sources and sends its raw image, and
what waits on the mesh goes out; a channel in `RESYNC` sends its mark and goes on with its transfer; one that is `OFF` or in reset
does nothing.
A channel that has passed its output verdict emits (R12, R13, R19, R65, R67): its four enable generators run, one command
frame goes to each bank under the line's next SEQ with the kernel's command words, and the cycle's telegrams and frames, where
they find room, stand in its egress queues; no other channel changes. -/
def Obligations.MarkBeginsTheCycleAndEmissionEndsIt : Prop :=
  (∀ (s : State) (ch : Ch) (o : MarkObs), Supplied s →
    (s.mstate = .run → (s.ch ch).inReset = false → s.vital.running = true → (s.ch ch).marked = false →
      let m := (s.chTo ch { s.ch ch with
        marked := true, obs := some o, elapsed := o.elapsedNs, overrun := []
        marks := (s.ch ch).marks.set ch (some o.markNs) } []).sendMarks ch o
      ((s.ch ch).role.hot = true → (s.ch ch).echoLags = false → (s.ch ch).holdsAny o.spoilt = false → Phase.p1 ∉ o.late →
        exec (.vitalCycleMark ch o) s = .next (State.advance ch 6 false
          (((m.modCh ch fun c => c.sample m.vital o).sendRaw ch).round2 ch)).sendMesh)
      ∧ ((s.ch ch).role.hot = true → (s.ch ch).echoLags = false → (s.ch ch).holdsAny o.spoilt = false → Phase.p1 ∈ o.late →
        exec (.vitalCycleMark ch o) s = .next ((m.modCh ch fun c => c.sampleLate m.vital).round2 ch).sendMesh)
      ∧ ((s.ch ch).role = .resync → exec (.vitalCycleMark ch o) s = .next (m.markResync ch).sendMesh)
      ∧ (m.ch ch).marked = true ∧ (m.ch ch).elapsed = o.elapsedNs ∧ (m.ch ch).marks.get ch = some o.markNs
      ∧ (∀ x, x ≠ ch → (m.ch ch).txq.get x = insWaiting (s.vital.cycle, .mark (o.waitNs.get x)) ((s.ch ch).txq.get x)))
    ∧ ((s.ch ch).role = .off ∨ (s.ch ch).inReset = true → exec (.vitalCycleMark ch o) s = .next s.begin.sendMesh))
  ∧ (∀ (s : State) (ch : Ch),
    (∀ e, e ≠ .twin → ((((s.ch ch).egress ++ s.kernel.egressOut).filter fun y => y.1 = e).map fun y => y.2.length).sum
      ≤ egressDepth e) →
    let c : Channel := { s.ch ch with
      cmds := s.kernel.cmds, tests := s.kernel.tests, cmdSeq := (s.ch ch).cmdSeq.map (· + 1), gens := Quad.all true
      emitting := true, p5End := true }
    let t := s.emitP5 ch
    (t.ch ch).gens = Quad.all true ∧ (t.ch ch).emitting = true ∧ (t.ch ch).cmds = s.kernel.cmds ∧ (t.ch ch).p5End = true
    ∧ (∀ n, n < 4 → .cmdFrame (Bank.ofIdx n) (c.frameTo ch n) ∈ t.out)
    ∧ (t.ch ch).egress = (s.ch ch).egress ++ s.kernel.egressOut
    ∧ (∀ e, e ≠ ch → t.ch e = s.ch e) ∧ t.pending = s.pending)

/-- PHASE_OVERRUN (R19, R61): a phase whose window closes with its work unfinished is overrun: what it has not finished is
not used, its source asserts (P1, P3, P4, P5: offset 8; P6: offset 9; P2: none of its own), a majority overrunning P2 or P3
raises NO_MAJORITY, and the channel goes on with its P6; a phase whose work is done is no overrun.
TENON_DEADLINE and VOTE_DEADLINE (R62, R64): the stage whose deadline has passed ends with what the channel holds; a
deadline of another stage does nothing. -/
def Obligations.OverrunsAndDeadlinesEndTheirStage : Prop :=
  (∀ (s : State) (ch : Ch), Supplied s →
    let u := fun (p : Phase) => s.chTo ch { s.ch ch with overrun := p :: (s.ch ch).overrun, stage := .done } []
    (s.mstate = .run → (s.ch ch).role = .reserve →
      ((s.ch ch).stage = .sampling → exec (.phaseOverrun ch .p1) s =
        .next ((((u .p1).raise (chSrc ch 8)).modCh ch fun c => { c with raw := none }).halt ch).sendMesh)
      ∧ ((s.ch ch).stage = .awaitT1 → exec (.phaseOverrun ch .p2) s =
        .next (((u .p2).modCh ch fun c => { c with myT2 := none }).halt ch).sendMesh)
      ∧ ((s.ch ch).stage = .evaluating → exec (.phaseOverrun ch .p3) s =
        .next ((((u .p3).raise (chSrc ch 8)).modCh ch fun c => { c with myVote := none }).halt ch).sendMesh))
    ∧ (s.mstate = .run → (s.ch ch).role.hot = true →
      ((s.ch ch).stage = .awaitVote → exec (.phaseOverrun ch .p4) s =
        .next ((((u .p4).raise (chSrc ch 8)).modCh ch fun c => { c with emitting := false }).halt ch).sendMesh)
      ∧ ((s.ch ch).stage = .emitting → exec (.phaseOverrun ch .p5) s =
        .next (((u .p5).raise (chSrc ch 8)).halt ch).sendMesh)
      ∧ ((s.ch ch).stage = .checkpointing → exec (.phaseOverrun ch .p6) s =
        .next ((((u .p6).raise (chSrc ch 9)).abandonXfer ch).scrubP6 ch).sendMesh))
    ∧ (s.mstate = .run → (s.ch ch).role = .voting → (s.ch ch).stage = .awaitT1 → (u .p2).lateMajority .p2 = true →
      exec (.phaseOverrun ch .p2) s =
        .next ((((u .p2).raise 0x49).modCh ch fun c => { c with myT2 := none }).halt ch).sendMesh)
    ∧ (∀ p, (s.ch ch).stage.phase ≠ some p → exec (.phaseOverrun ch p) s = .next s.begin.sendMesh))
  ∧ (∀ (s : State) (ch : Ch), Supplied s → s.mstate = .run → (s.ch ch).role.hot = true →
    ((s.ch ch).stage = .awaitT1 → (s.ch ch).lateIn .p2 = false → exec (.tenonDeadline ch .tenon1) s =
      .next (State.advance ch 5 false (s.begin.sendT2 ch 1 (s.begin.usedMask ch))).sendMesh)
    ∧ ((s.ch ch).stage = .awaitT2 1 → exec (.tenonDeadline ch .attempt1) s =
      .next (State.advance ch 5 false (s.begin.judgeT2 ch 1)).sendMesh)
    ∧ ((s.ch ch).stage = .awaitT2 2 → exec (.tenonDeadline ch .attempt2) s =
      .next (State.advance ch 5 false (s.begin.judgeT2 ch 2)).sendMesh)
    ∧ ((s.ch ch).stage = .awaitVote → (s.ch ch).lateIn .p4 = false →
      exec (.voteDeadline ch) s = .next (s.begin.outputVerdict ch).sendMesh)
    ∧ ((s.ch ch).stage ≠ .awaitVote → exec (.voteDeadline ch) s = .next s.begin.sendMesh)
    ∧ ((s.ch ch).stage = .done → ∀ st, exec (.tenonDeadline ch st) s = .next s.begin.sendMesh))

/-- IDLE_FRAME, MARK_FRAME, TENON1, TENON2 and VOTE (R14 to R16, R53, R60, R63): a frame the channel takes up is stored under
its sender and cycle in place of an older copy, and the channel goes on as far as what it holds allows. -/
def Obligations.MeshFramesAreStoredForTheirCycle : Prop :=
  ∀ (s : State) (rx tx : Ch) (h : MeshHead) (arrivalNs : Int) (waitNs part parts : Nat) (data : List Byte) (p : Tenon2)
    (v : VotePayload), Supplied s →
    let l := linked s rx tx h
    (Held s rx tx h .idle → exec (.idleFrame rx tx h) s = .next l.sendMesh)
    ∧ (Held s rx tx h (.mark waitNs) → exec (.markFrame rx tx h arrivalNs waitNs) s = .next (l.modCh rx fun c => { c with
        marks := (s.ch rx).marks.set tx
          (some (arrivalNs - Int.ofNat ((s.ch rx).linkDelay.get tx) - Int.ofNat waitNs)) }).sendMesh)
    ∧ (Held s rx tx h (.tenon1 part parts data) → part < parts → parts ≤ 12 → exec (.tenon1 rx tx h part parts data) s =
        .next (State.advance rx 6 false (l.modCh rx fun c => { c with
          t1 := ⟨tx, h.cycle, part, parts, data⟩ :: (s.ch rx).t1.filter (fun x => !(x.tx = tx && x.cycle == h.cycle && (x.part == part || x.parts != parts))) })).sendMesh)
    ∧ (Held s rx tx h (.tenon2 p) → exec (.tenon2 rx tx h p) s = .next (State.advance rx 6 false (l.modCh rx fun c => { c with
        t2 := (tx, h.cycle, p) :: (s.ch rx).t2.filter (fun x => !(x.1 = tx && x.2.1 == h.cycle && x.2.2.attempt == p.attempt)) })).sendMesh)
    ∧ (Held s rx tx h (.vote v) → exec (.vote rx tx h v) s = .next (State.advance rx 6 false (l.modCh rx fun c => { c with
        votes := (tx, h.cycle, v) :: (s.ch rx).votes.filter (fun x => !(x.1 = tx && x.2.1 == h.cycle)) })).sendMesh)

/-- A mesh frame that fails R14's checks is discarded, counted and never acts (R14, R15): only the link end's own counts and the
module's count of discarded frames change while the end stays as it is.
LINK_END_SILENCE and MESH_IDLE_SEND (R14, R15): a silent end goes `DOWN`; when nothing else waits an idle frame goes out under the
link's next SEQ; a frame that waits keeps the idle frame back. -/
def Obligations.BadMeshFramesAndSilentEndsOnlyCount : Prop :=
  (∀ (s : State) (rx tx : Ch) (h : MeshHead) (p : Tenon2) (v : VotePayload) (round page : Nat) (crc : W32) (data : List Byte),
    Supplied s → rx ≠ tx → s.judged rx tx = true → ((s.ch rx).ends.get tx).bad + 1 < 3 →
    let t := s.vitalTo { s.vital with
      discarded := s.vital.discarded + 1
      chans := s.vital.chans.set rx { s.ch rx with ends := (s.ch rx).ends.set tx { (s.ch rx).ends.get tx with
        bad := ((s.ch rx).ends.get tx).bad + 1, good := 0 } } } []
    ((frameOf h .idle).sound tx = false → exec (.idleFrame rx tx h) s = .next t.sendMesh)
    ∧ ((frameOf h (.tenon2 p)).sound tx = false → exec (.tenon2 rx tx h p) s = .next t.sendMesh)
    ∧ ((frameOf h (.vote v)).sound tx = false → exec (.vote rx tx h v) s = .next t.sendMesh)
    ∧ ((frameOf h (.page round page crc data)).sound tx = false →
      exec (.deltaPage rx tx h round page crc data) s = .next t.sendMesh))
  ∧ (∀ (s : State) (rx tx : Ch), Supplied s → rx ≠ tx →
    (((s.ch rx).ends.get tx).up = true → exec (.linkEndSilence rx tx) s = .next ((s.chTo rx { s.ch rx with
      ends := (s.ch rx).ends.set tx { (s.ch rx).ends.get tx with up := false, good := 0 } } []).linkDown rx tx))
    ∧ (((s.ch rx).ends.get tx).up = false → exec (.linkEndSilence rx tx) s = .next s.begin)
    ∧ ((∀ x y, (s.ch x).txq.get y = []) → exec (.meshIdleSend tx rx) s = .next (s.chTo tx { s.ch tx with
        txSeq := (s.ch tx).txSeq.set rx ((s.ch tx).txSeq.get rx + 1) }
        [.mesh tx rx (MeshOut.idle.frame tx ((s.ch tx).txSeq.get rx) s.vital.cycle)]))
    ∧ ((s.ch tx).txq.get rx ≠ [] → exec (.meshIdleSend tx rx) s = .next s.begin.sendMesh))

/-- DELTA_REQ_START (R37, R40): a voting supplier answers a channel in `RESYNC` with round 1, beside the transfers it runs for other
channels: the pages changed since the requester's checkpoint when it knows it, else all 1,024, and an END. -/
def Obligations.DeltaStartIsAnsweredWithRoundOne : Prop :=
  ∀ (s : State) (rx tx : Ch) (h : MeshHead) (k : Nat) (hash : W64) (map : List Nat), Supplied s →
    Held s rx tx h (.start k hash map) → (s.ch rx).role = .voting → (s.ch tx).role = .resync →
    let known := (s.ch rx).ring.any fun d => d.sound && d.cycle == k
    let pages := if known then pageSet (map ++ (((s.ch rx).ring.filter fun d => k < d.cycle).flatMap (·.map))
      ++ (s.ch rx).dirty) else List.range 1024
    ∃ t : State, exec (.deltaReqStart rx tx h k hash map) s = .next t.sendMesh
      ∧ (t.ch rx).sups = ((s.ch rx).sups.filter fun (x : XferSup) => x.requester != tx)
          ++ [⟨tx, s.vital.cycle, 1, [], [], pages.length, !known⟩]
      ∧ ((t.ch rx).txq.get tx).length = ((s.ch rx).txq.get tx).length + pages.length + 1
      ∧ (∀ i ∈ pages, (s.vital.cycle, .page 1 i (crc32c ((s.ch rx).page i)) ((s.ch rx).page i)) ∈ (t.ch rx).txq.get tx)
      ∧ (s.vital.cycle, .deltaEnd 1 pages.length 0 pages) ∈ (t.ch rx).txq.get tx
      ∧ (∀ c, c ≠ rx → t.ch c = s.ch c)

/-- DELTA_REQ_REPAIR, DELTA_PAGE and DELTA_END (R38, R40, R41): a repair list joins the supplier's next round; a page of the running
round is held when its CRC matches and not when it fails; an END with every page received ends rounds 1 and 2, one with
pages missing asks for their repair.
DELTA_END of round 3 and DELTA_ROUND_DEADLINE (R33, R39, R41): with every page received and the state hash equal the
transfer is confirmed, the pages are written and a checkpoint whose map names them stands; otherwise, and at a round's
deadline, the transfer fails and its source asserts. -/
def Obligations.DeltaRoundsEndInAConfirmedHash : Prop :=
  (∀ (s : State) (rx tx : Ch) (h : MeshHead) (n i : Nat) (crc : W32) (d : List Byte) (hash : W64) (map : List Nat), Supplied s →
    let l := linked s rx tx h
    (Held s rx tx h (.repair n map) → exec (.deltaReqRepair rx tx h n map) s = .next (l.modCh rx fun c => { c with
      sups := (s.ch rx).sups.map fun (x : XferSup) =>
        if x.requester = tx && x.round == n && n ≤ 2 then { x with repair := x.repair ++ map } else x }).sendMesh)
    ∧ (∀ x, (s.ch rx).req = some x → x.round + 1 = n → Held s rx tx h (.page n i crc d) →
      (x.supplier = tx → i < 1024 → crc32c d = crc → d.length = 2048 →
        exec (.deltaPage rx tx h n i crc d) s = .next (l.modCh rx fun c => { c with req := some { x with
          got := ⟨i, d⟩ :: x.got.filter (fun p => p.index != i), fresh := i :: x.fresh } }).sendMesh)
      ∧ (crc32c d ≠ crc → exec (.deltaPage rx tx h n i crc d) s = .next (l.modCh rx fun c => { c with req := some { x with
          fresh := x.fresh.filter (· != i) } }).sendMesh))
    ∧ (∀ x, (s.ch rx).req = some x → x.round + 1 = n → n < 3 → x.supplier = tx →
      Held s rx tx h (.deltaEnd n map.length hash map) →
      let y : XferReq := { x with
        round := n, full := x.full || (n = 1 && map.length = 1024), total := x.total + map.length, fresh := [] }
      ((∀ j ∈ map, j ∈ x.fresh) → exec (.deltaEnd rx tx h n map.length hash map) s =
        .next (l.modCh rx fun c => { c with req := some y }).sendMesh)
      ∧ ((∃ j ∈ map, j ∉ x.fresh) → exec (.deltaEnd rx tx h n map.length hash map) s =
        .next ((l.modCh rx fun c => { c with req := some y }).mesh rx tx
          (.repair n (map.filter fun j => !x.fresh.contains j))).sendMesh)))
  ∧ (∀ (s : State) (rx tx : Ch) (h : MeshHead) (hash : W64) (map : List Nat) (x : XferReq), Supplied s →
    (s.ch rx).req = some x →
    (Held s rx tx h (.deltaEnd 3 map.length hash map) → x.round = 2 → x.supplier = tx →
      let l := linked s rx tx h
      let c := x.got.foldl (fun (c : Channel) p => (c.setPage p.index p.data).valuePage p.index) (l.ch rx)
      let d := c.descriptor s.vital.cycle x.full (pageSet (c.dirty ++ x.got.map (·.index)))
      ((∀ j ∈ map, j ∈ x.fresh) → d.hash = hash → exec (.deltaEnd rx tx h 3 map.length hash map) s =
        .next (((l.modCh rx fun _ => { c with
          ring := (d :: c.ring).take 4, dirty := [], req := none, confirmed := true }).modV fun v => { v with
            lastPages := x.total + map.length })).sendMesh)
      ∧ ((∃ j ∈ map, j ∉ x.fresh) ∨ d.hash ≠ hash → exec (.deltaEnd rx tx h 3 map.length hash map) s =
        .next ((l.modCh rx fun c => { c with req := none }).raise (chSrc rx 0xA)).sendMesh))
    ∧ (x.round < 3 → exec (.deltaRoundDeadline rx) s =
        .next ((s.chTo rx { s.ch rx with req := none } []).raise (chSrc rx 0xA))))

/-- DOVETAIL_MISMATCH and SRAM_READ_ERROR (R24 to R26, R29): bundles that differ empty the store compare buffer and assert the
channel's source, equal ones release its oldest store; a corrected word is written back and counted, an uncorrectable one is not, and
each asserts its source.
PAIR_RESET_RELEASE, CHANNEL_READY, RESET_WINDOW_EXPIRY and ENABLE_GENERATOR_TIMEOUT (R33, R35, R36, R45, R67, R89): a channel
leaves reset, boots with the newest sound descriptor of its ring and its own copy of the station data; resets older than
3,600 s are forgotten; a generator not retriggered stops. -/
def Obligations.ChannelErrorsAssertAndResetsEnd : Prop :=
  (∀ (s : State) (ch : Ch) (stores : List StoreReq) (e : Bundle × Bundle) (a : Nat) (x : EccWord), Supplied s →
    ((s.ch ch).role ≠ .off → (s.ch ch).inReset = false →
      let c := (stores.take 2).foldl Channel.store (s.ch ch)
      ((Bundle.mismatch e.1 e.2).isSome = true → exec (.dovetailMismatch ch stores e) s =
        .next ((s.chTo ch { c with storeBuf := [] } []).raise (chSrc ch 0)))
      ∧ (Bundle.mismatch e.1 e.2 = none → exec (.dovetailMismatch ch stores e) s = .next (s.chTo ch c.release [])))
    ∧ ((s.ch ch).role = .off ∨ (s.ch ch).inReset = true → exec (.dovetailMismatch ch stores e) s = .next s.begin)
    ∧ (x.read a = .uncorrectable → exec (.sramReadError ch a x) s = .next (s.begin.raise (chSrc ch 1)))
    ∧ (∀ w, x.read a = .corrected w → exec (.sramReadError ch a x) s = .next ((s.vitalTo { s.vital with
        chans := s.vital.chans.set ch ((s.ch ch).putWord (a / 4 * 4) (le 4 w.toNat))
        eccCorrected := s.vital.eccCorrected + 1 } []).raise (chSrc ch 2)))
    ∧ (x.read a = .clean → exec (.sramReadError ch a x) s = .next s.begin))
  ∧ (∀ (s : State) (ch : Ch) (bk : Bank), Supplied s →
    ((s.ch ch).role ≠ .off → exec (.pairResetRelease ch) s = .next (s.chTo ch { s.ch ch with inReset := false } []))
    ∧ ((s.ch ch).role = .off → exec (.pairResetRelease ch) s = .next s.begin)
    ∧ ((s.ch ch).role = .resync → (s.ch ch).inReset = false → exec (.channelReady ch) s = .next (s.chTo ch { s.ch ch with
        booting := false, ckpt := (s.ch ch).ring.find? Descriptor.sound
        sdi := s.sdi.raw, sdiSums := blockSums s.sdi.raw, sdiAt := 0 } []))
    ∧ exec (.resetWindowExpiry ch) s = .next (s.chTo ch { s.ch ch with
        resets := (s.ch ch).resets.filter fun t => s.svc.ms < t + 3600000 } [])
    ∧ exec (.enableGeneratorTimeout ch bk) s = .next (s.chTo ch { s.ch ch with gens := (s.ch ch).gens.set bk.ch false } []))

/-- OVERLAP_TIMER_EXPIRY, APPROACH_TIMER_EXPIRY and EMERGENCY_TIMER_EXPIRY (R106, R107, R110): a due overlap timer releases
the overlap when its sections are clear and holds it else; a due approach or emergency timer takes the route to `IDLE`. -/
def Obligations.RouteTimersReleaseWhatTheyHold : Prop :=
  ∀ (s : State) (n due : Nat) (q : RouteSt), Supplied s → s.mstate = .run → s.kernel.rst n = some q → q.id = n →
    s.kernel.drives = true → due ≤ s.kernel.cycle →
    (q.timer = some (.approach, due) →
      exec (.approachTimerExpiry n) s = .next (s.acted ((s.kernel.toIdle n).step4 s.dat)))
    ∧ (q.timer = some (.emergency, due) →
      exec (.emergencyTimerExpiry n) s = .next (s.acted ((s.kernel.toIdle n).step4 s.dat)))
    ∧ (q.timer = some (.overlap, due) → ∀ a, q.ovlAlt = some a → (∀ x ∈ s.dat.ovlSections a, s.kernel.clear x = true) →
      exec (.overlapTimerExpiry n) s = .next (s.acted ((s.kernel.releaseOvl s.dat n).step4 s.dat)))
    ∧ (q.timer = some (.overlap, due) → ∀ a, q.ovlAlt = some a → (∃ x ∈ s.dat.ovlSections a, s.kernel.clear x = false) →
      exec (.overlapTimerExpiry n) s = .next (s.acted ((s.kernel.modRoute n fun r =>
        { r with timer := none, ovlHeld := true }).step4 s.dat)))
    ∧ (∀ r, (s.kernel.releaseOvl s.dat n).rst n = some r → r.ovlLocked = false ∧ r.ovlHeld = false)

/-- THROW_TIMEOUT and DETECTION_GRACE_EXPIRY (R123, R124, R125): a moving point whose supervision ends, and a point without
its own detection for its grace, go `LOST`, which is recorded; watched operations and routes follow.
LAMP_PROOF_JUDGEMENT (R129): 300 ms after its code changed, a signal with lamp proving whose shown aspect is not proved
has LAMP_FAULT; one that shows stop without stop proof has STOP_UNPROVEN as well. -/
def Obligations.PointsAndLampsAreJudgedInTime : Prop :=
  (∀ (s : State) (el : Nat) (p : PtSt), Supplied s → s.mstate = .run → s.kernel.drives = true → s.kernel.pt el = some p →
    (p.state = .moving → p.deadline ≤ s.kernel.cycle →
      let k := s.kernel.lose s.dat el true fun _ q => { q with timeout := true }
      exec (.throwTimeout el) s = .next (s.acted ((k.settlePoints).step4 s.dat))
        ∧ (∃ q, k.pt el = some q ∧ q.state = .lost ∧ q.timeout = true)
        ∧ ∀ x, x ∉ s.dat.unit el → x ≠ el → k.elem x = s.kernel.elem x)
    ∧ (∀ pos, s.vital.evaluated ≠ some s.vital.cycle → p.state.pos = some pos → s.kernel.attr el (1 + pos) = 0 →
      s.dat.grace el ≤ p.missing + 1 →
      let k := s.kernel.lose s.dat el true fun x q => if x = el then { q with missing := q.missing + 1 } else q
      exec (.detectionGraceExpiry el) s = .next (s.acted ((k.settlePoints).step4 s.dat))
        ∧ ∃ q, k.pt el = some q ∧ q.state = .lost ∧ p.missing < q.missing)
    ∧ (p.state ≠ .moving → exec (.throwTimeout el) s = .next (s.acted s.kernel)))
  ∧ (∀ (s : State) (e : Elem) (g : SgSt), Supplied s → s.mstate = .run → s.kernel.drives = true → s.dat.elem e.id = some e →
    s.kernel.sg e.id = some g →
    let n := s.kernel.stepSignal e g
    exec (.lampProofJudgement e.id) s = .next (s.acted ((s.kernel.setSignal e.id g n).step4 s.dat))
    ∧ (e.lampProving = true → 300 < s.kernel.gone g.changedAt →
        (g.shown ≠ 0 → s.kernel.attr e.id 2 ≠ 1 → n.lampFault = true)
        ∧ (g.shown = 0 → s.kernel.attr e.id 1 ≠ 1 → n.lampFault = true ∧ n.stopUnproven = true))
    ∧ (e.lampProving = false → s.kernel.outFailed e aspectAttr = false → n = g))

/-- BLOCK and UNBLOCK (R120, R121, R134): a client at OPERATE blocks an element of any type but a key lock, and unblocks a
blocked one; a boundary element leaves its demand with the block; the result is 0, else the code of the refusal.
FAULT_RESET (R120, R129, R131, R132): the latches of a signal that shows 0 with its proofs right clear, a key lock in
`FAULT` with its key in returns to `KEY_IN`, a failed crossing without demand or fault opens; else 0x0B04. -/
def Obligations.BlockingAndFaultResetActOnElements : Prop :=
  (∀ (s : State) (cl : Client) (el : Nat) (e : ElemSt), Supplied s → s.mstate = .run → 1 ≤ (s.client cl).level → el < 4096 →
    s.kernel.elem el = some e →
    let put := fun (on : Bool) => s.kernel.modElem el fun x =>
      { x with blocked := on, kind := kindBlocked s el on x.kind }
    (blockable (some e.kind) = true → exec (.block cl el) s = .next (((s.asked cl).acted { put true with
        elemResult := 0, elemCommand := 16777216 + el }).accept cl))
    ∧ (blockable (some e.kind) = true → e.blocked = true → exec (.unblock cl el) s = .next (((s.asked cl).acted { put false with
        elemResult := 0, elemCommand := 2 * 16777216 + el }).accept cl))
    ∧ (blockable (some e.kind) = true → e.blocked = false → exec (.unblock cl el) s =
      .next (((s.asked cl).acted { s.kernel with elemResult := 0x0B03, elemCommand := 2 * 16777216 + el }).accept cl))
    ∧ (blockable (some e.kind) = false → exec (.block cl el) s =
      .next (((s.asked cl).acted { s.kernel with elemResult := 0x0B02, elemCommand := 16777216 + el }).accept cl)))
  ∧ (∀ (s : State) (cl : Client) (e : Elem), Supplied s → s.mstate = .run → 1 ≤ (s.client cl).level → e.id < 4096 →
    s.dat.elem e.id = some e →
    let c := 3 * 16777216 + e.id
    (∀ g, s.kernel.kind e.id = some (.sg g) → (g.lampFault = true ∨ g.stopUnproven = true) →
      (s.kernel.lampClear e g = true → exec (.faultReset cl e.id) s = .next (((s.asked cl).acted
        { s.kernel.setKind e.id (.sg { g with lampFault := false, stopUnproven := false, wrongProof := false }) with
          elemResult := 0, elemCommand := c }).accept cl))
      ∧ (s.kernel.lampClear e g = false → exec (.faultReset cl e.id) s = .next (((s.asked cl).acted
        { s.kernel with elemResult := 0x0B04, elemCommand := c }).accept cl)))
    ∧ (∀ l, s.kernel.kind e.id = some (.kl l) → l.state = .fault → s.kernel.attr e.id 1 = 1 →
      exec (.faultReset cl e.id) s = .next (((s.asked cl).acted { s.kernel.setKind e.id (.kl ⟨.keyIn, s.kernel.vital, none⟩) with
          elemResult := 0, elemCommand := c }).accept cl))
    ∧ (∀ x, s.kernel.kind e.id = some (.lx x) → x.state = .failed → s.kernel.lxDemand s.dat e.id = false →
      s.kernel.attr e.id 3 = 0 →
      exec (.faultReset cl e.id) s = .next (((s.asked cl).acted
        { s.kernel.setKind e.id (.lx ⟨.open_, 0, none, false, false⟩) with elemResult := 0, elemCommand := c }).accept cl)))

/-- KEY_GRANT, KEY_WITHDRAW, KEY_REMOVAL_TIMEOUT and KEY_RETURN (R131): a key is released while the locked point is held in
position by nothing else, withdrawn while it is in, and returns to `KEY_IN` after 60 s unused or 1 s back.
LX_CLOSE_TIMEOUT and LX_RECOVERY (R132): a crossing still closing at its limit without protection goes `FAILED` with
CLOSE_TIMEOUT, which is recorded; a failed one proved for 2 s under demand without LX_FAULT is `PROTECTED`. -/
def Obligations.LocksAndCrossingsFollowTheirTimes : Prop :=
  (∀ (s : State) (cl : Client) (e : Elem) (l : KlSt) (x pos : Nat), Supplied s → s.mstate = .run → e.id < 4096 →
    s.dat.elem e.id = some e → e.spec = .kl x pos → s.kernel.kind e.id = some (.kl l) →
    let now := s.kernel.vital
    (1 ≤ (s.client cl).level → l.state = .keyIn → s.kernel.keyFree s.dat x pos = true →
      exec (.keyGrant cl e.id) s = .next (((s.asked cl).acted { s.kernel.setKind e.id (.kl ⟨.released, now, none⟩) with
        elemResult := 0, elemCommand := 4 * 16777216 + e.id }).accept cl))
    ∧ (1 ≤ (s.client cl).level → s.kernel.keyFree s.dat x pos = false →
      exec (.keyGrant cl e.id) s = .next (((s.asked cl).acted { s.kernel with
        elemResult := 0x0B03, elemCommand := 4 * 16777216 + e.id }).accept cl))
    ∧ (1 ≤ (s.client cl).level → l.state = .released →
      exec (.keyWithdraw cl e.id) s = .next (((s.asked cl).acted { s.kernel.setKind e.id (.kl ⟨.keyIn, now, none⟩) with
        elemResult := 0, elemCommand := 5 * 16777216 + e.id }).accept cl))
    ∧ (s.kernel.drives = true → l.state = .released → s.kernel.attr e.id 1 = 1 → 60000 ≤ s.kernel.gone l.since →
      exec (.keyRemovalTimeout e.id) s =
        .next (s.acted ((s.kernel.setKind e.id (.kl ⟨.keyIn, now, none⟩)).step4 s.dat)))
    ∧ (∀ t, s.kernel.drives = true → l.state = .keyOut → s.kernel.attr e.id 1 = 1 → l.keySince = some t → 1000 ≤ s.kernel.gone t →
      exec (.keyReturn e.id) s = .next (s.acted ((s.kernel.setKind e.id (.kl ⟨.keyIn, now, none⟩)).step4 s.dat))))
  ∧ (∀ (s : State) (el : Nat) (x : LxSt), Supplied s → s.mstate = .run → s.kernel.drives = true → s.kernel.kind el = some (.lx x) →
    s.kernel.lxDemand s.dat el = true → s.kernel.attr el 3 ≠ 1 →
    (x.state = .closing → s.kernel.lxProved s.dat el = false → x.deadline ≤ s.kernel.cycle →
      exec (.lxCloseTimeout el) s = .next (s.acted
        (((s.kernel.setKind el (.lx ⟨.failed, 0, none, true, false⟩)).note elemSource).step4 s.dat)))
    ∧ (∀ t, x.state = .failed → s.kernel.lxProved s.dat el = true → x.provedSince = some t →
      2000 ≤ s.kernel.gone t →
      exec (.lxRecovery el) s = .next (s.acted
        (((s.kernel.setKind el (.lx ⟨.protected_, 0, none, false, false⟩)).note elemSource).step4 s.dat))))

/-- SENSOR_PROCESSOR_FAILED, REMOTE_SILENT, STALE_HOLD and CLEAR_DELAY_EXPIRY (R162, R168, R169, R172): with the horizon or the
mapping stuck for three evaluations the processor that alone stands still fails, else both, and every local head is in `FAULT`; a
remote head without a report for 2,000 ms is in `FAULT`; its sections hold three cycles; route logic sees a section clear. -/
def Obligations.AxleCountingTimersAct : Prop :=
  ∀ (s : State), Supplied s → s.mstate = .run →
    (∀ sp, s.vital.evaluated ≠ some s.vital.cycle → 3 ≤ s.kernel.ev.noAdvance ∨ 3 ≤ s.kernel.ev.invalidRun →
      let x := !(s.kernel.ev.yStuck ≥ 3 && s.kernel.ev.xStuck < 3)
      let y := !(s.kernel.ev.xStuck ≥ 3 && s.kernel.ev.yStuck < 3)
      let k := s.kernel.spFailed s.dat x y
      ((sp = .x ∧ x = true ∨ sp = .y ∧ y = true) →
        exec (.sensorProcessorFailed sp) s = .next (s.acted (k.reattr s.dat))
          ∧ (x = true → k.ev.xOk = false) ∧ (y = true → k.ev.yOk = false)
          ∧ ∀ r ∈ s.dat.heads, r.kind = 0 → ∀ h : HeadSt, k.head r.index = some h → h.state = .fault)
      ∧ ((sp = .x ∧ x = false ∨ sp = .y ∧ y = false) → exec (.sensorProcessorFailed sp) s = .next (s.acted s.kernel)))
    ∧ (∀ head r h, s.dat.head head = some r → s.kernel.head head = some h → r.kind ≠ 0 → h.cause ≠ .remoteSilent →
      (2000 ≤ s.kernel.reportAge h →
        exec (.remoteSilent head) s = .next (s.acted ((s.kernel.headTo s.dat head .fault .remoteSilent).reattr s.dat)))
      ∧ (s.kernel.reportAge h < 2000 → exec (.remoteSilent head) s = .next (s.acted s.kernel)))
    ∧ (∀ head, exec (.staleHold head) s = .next (s.acted (Kernel.reattr s.dat { s.kernel with
      sections := s.kernel.sections.map fun (x : SectionSt) => if ((s.dat.bounds head).map (·.1)).contains x.index then
        { x with stale := s.kernel.staleSec s.dat x.index } else x })))
    ∧ (∀ e t src ac a b delay, s.vital.evaluated ≠ some s.vital.cycle → s.dat.elem e.id = some e →
      e.spec = .ts src a ac b delay → s.kernel.ts e.id = some t → src ≠ 0 →
      t.state = .clear → s.dat.cycles delay ≤ t.clearRun →
      exec (.clearDelayExpiry e.id) s = .next (s.acted
        ((s.kernel.setKind e.id (.ts { t with routeClear := true })).step4 s.dat)))

/-- DISCREPANCY_TIMEOUT (R220): a pair discrepant for its limit is in `FAULT` with no value, which is recorded; one in
`FAULT` whose members have been restrictive for 100 ms agrees again on 0.
UNDEF_LATCH, UNDEF_LATCH_CLEAR and SUPPLY_HOLD_EXPIRY (R218, R221): an input with UNDEF agreed for 100 ms is `INVALID` with
the latch set; the latch goes after 1 s without UNDEF; an input of a bank 10 ms after UF_LOW is `INVALID` with cause 6. -/
def Obligations.InputPairsAndLatchesFollowTheirTimes : Prop :=
  (∀ (s : State) (p : PairSt), Supplied s → s.mstate = .run → s.kernel.pairs.find? (·.first == p.first) = some p →
    let a := (s.kernel.input p.first).state
    let b := (s.kernel.input p.second).state
    let rs := if p.restrictive a b then some (p.restrictSince.getD s.kernel.vital) else none
    a ≠ .held → b ≠ .held →
    (p.state = .discrepant → p.limit ≤ s.kernel.vital - p.since →
      exec (.discrepancyTimeout p.first) s = .next (s.acted (Kernel.reattr s.dat (Kernel.note { s.kernel with
        pairs := s.kernel.pairs.map fun (x : PairSt) => if x.first == p.first then
          { p with restrictSince := rs, state := .fault, value := none } else x } (inputSrc (p.first / 24) 4)))))
    ∧ (∀ t, p.state = .fault → rs = some t → 100 + t ≤ s.kernel.vital + s.dat.cycleMs →
      exec (.discrepancyTimeout p.first) s = .next (s.acted (Kernel.reattr s.dat { s.kernel with
        pairs := s.kernel.pairs.map fun (x : PairSt) => if x.first == p.first then
          { p with restrictSince := rs, state := .agreed, value := some false } else x }))))
  ∧ (∀ (s : State) (n : Nat), Supplied s → s.mstate = .run → n < 96 → s.kernel.inputs.length = 96 →
    let d := s.dat
    let b := s.kernel.bank (n / 24)
    let raw := s.kernel.rawInput n
    let o := s.kernel.input n
    let k := (s.kernel.stepInput d n).modInput n fun x => { x with pathRun := o.pathRun }
    exec (.undefLatch n) s = .next (s.acted ((k.stepPairs d).reattr d))
    ∧ exec (.undefLatchClear n) s = .next (s.acted ((k.stepPairs d).reattr d))
    ∧ (b.state = .running → b.lowSince = none → raw.1 = raw.2.1 → o.crossFeed = false → raw.2.2.1 = false →
        raw.2.2.2 = true → (∀ t, o.undefSince = some t → 100 + t ≤ s.kernel.vital + d.cycleMs →
          (k.input n).state = .invalid ∧ (k.input n).cause = 5 ∧ (k.input n).undefLatched = true))
    ∧ (b.state = .running → b.lowSince = none → raw.1 = raw.2.1 → o.crossFeed = false → raw.2.2.1 = false →
        raw.2.2.2 = false → (∀ t, o.undefClear = some t → 1000 + t ≤ s.kernel.vital + d.cycleMs →
          (k.input n).undefLatched = false ∧ (k.input n).state = if raw.1 then .on else .off))
    ∧ (∀ bk, exec (.supplyHoldExpiry bk) s = .next (s.acted ((((List.range 24).foldl (fun k i =>
        k.stepInput d (bk.idx * 24 + i)) s.kernel).stepPairs d).reattr d)))
    ∧ (b.state = .running → ∀ t, b.lowSince = some t → t + 10 ≤ s.kernel.vital →
        (k.input n).state = .invalid ∧ (k.input n).cause = 6))

/-- OUTPUT_TEST_DUE and BANK_ABSENT_FAILED (R211, R224, R225): a due test of an idle bank is requested and the next one
planned; a bank absent in a third evaluation in a row goes `FAILED` with cause 2 and asserts its source.
FIELD_RESET_TARGET, FIELD_RESET_CONFIRM and FIELD_RESET_TIMEOUT (R230): one reset pends, bound to its client under a
code; another client's writes are aborted; the wrong code ends it with 0x0E03, 30 s with 0x0E04. -/
def Obligations.OutputTestsAndFieldResetsAct : Prop :=
  (∀ (s : State), Supplied s → s.mstate = .run →
    (∀ out, out < 32 → out < s.kernel.vouts.length → s.kernel.testDue s.dat out = true →
      s.kernel.tests.get (Ch.ofIdx (out / 8)) = none →
      let k := s.kernel.requestTest s.dat out
      exec (.outputTestDue out) s = .next (s.acted k) ∧ k.tests.get (Ch.ofIdx (out / 8)) = some out
        ∧ (k.vout out).lastTest = some s.kernel.vital
        ∧ ∀ x y z per, s.dat.voutBind out = some (x, y, z, per) → (k.vout out).nextTest = some (s.kernel.vital + per))
    ∧ (∀ bk : Bank, s.vital.evaluated ≠ some s.vital.cycle → (s.kernel.bank bk.idx).present = false → 2 ≤ (s.kernel.bank bk.idx).absentRun →
      (s.kernel.bank bk.idx).state ≠ .failed →
      exec (.bankAbsentFailed bk) s = .next (s.acted ((((((s.kernel.modBank bk.idx fun b =>
        { b with state := .failed, cause := 2 }).note (bankSrc bk.idx 0)).stepInputs s.dat).stepPairs s.dat).reattr s.dat)))))
  ∧ (∀ (s : State) (cl : Client) (t code : W16), Supplied s → s.mstate = .run → 1 ≤ (s.client cl).level →
    (targetOk t.toNat = true → s.kernel.reset.client = none → exec (.fieldResetTarget cl t) s =
      .next (((s.asked cl).acted { s.kernel with
        reset := ⟨some cl, t, BitVec.ofNat 16 s.kernel.cycle ^^^ t, s.kernel.vital, 0xFFFF⟩ }).accept cl))
    ∧ (targetOk t.toNat = true → ∀ c, s.kernel.reset.client = some c → c ≠ cl →
      exec (.fieldResetTarget cl t) s = .next ((s.asked cl).abort cl 0x08000020))
    ∧ (s.kernel.reset.client ≠ some cl → exec (.fieldResetConfirm cl code) s = .next ((s.asked cl).abort cl 0x08000020))
    ∧ (s.kernel.reset.client = some cl → code ≠ s.kernel.reset.code → exec (.fieldResetConfirm cl code) s =
      .next (((s.asked cl).acted (Kernel.reattr s.dat { s.kernel with
        reset := { s.kernel.reset with client := none, code := 0, result := 0x0E03 } })).accept cl))
    ∧ (s.kernel.reset.client = some cl → code = s.kernel.reset.code → exec (.fieldResetConfirm cl code) s =
      .next (((s.asked cl).acted (Kernel.reattr s.dat ((s.kernel.doReset s.kernel.reset.target.toNat).1.endReset
        (s.kernel.doReset s.kernel.reset.target.toNat).2))).accept cl))
    ∧ (s.kernel.reset.client ≠ none → 30000 < s.kernel.gone s.kernel.reset.since →
      exec .fieldResetTimeout s = .next (s.acted { s.kernel with
        reset := { s.kernel.reset with client := none, code := 0, result := 0x0E04 } })))

/-- CONN_REQ, CONN_RESP, DATA, HEAD_REPORT and DISC (R167, R271, R275 to R277): an accepted CONN_REQ of a partner without a session
binds the lowest free index as responder; an accepted telegram renews the deadline of its session, and a CONN_RESP that confirms
the opener's CONN_REQ opens it, DATA brings its payload, a HEAD_REPORT its reports, a DISC ends it.
CONN_REQ, CONN_RESP, DATA, HEAD_REPORT and DISC that their session does not accept (R275, R277): a telegram with a wrong code is
lost and asserts 0x1A0, one to a session that is unbound or in `HOLD_OFF` is discarded, a second row's type does nothing.
SESSION_TIMEOUT, CONN_REQ_REPEAT, RESPONDER_TIMEOUT, HOLD_OFF_EXPIRY and PATH_MISMATCH_NOTICE (R277, R283): an open session past
its deadline and a responder past TIMEOUT_MS close with reason 1; the opener repeats its CONN_REQ after 200 ms; 1 s of `HOLD_OFF`
unbinds the session; a notice is counted and closes an open session with reason 3. -/
def Obligations.TelegramsAndTimersMoveTheSession : Prop :=
  (∀ (s : State) (n : Nat) (p : Partner) (t : Telegram), Supplied s → s.mstate = .run → n < 128 →
    let x := s.kernel.session n
    let k := (s.kernel.takeSeq n t).takeConf n p.timeoutMs t
    (t.typ = 1 → s.dat.partner p.index = some p → s.kernel.sessOf p.index = none → codesOk s.env.pst p t = true → t.srcId = p.id →
      t.payload.length ≤ p.maxPayload → s.kernel.freeIndex = some n → p.opens = false →
      (byteAt t.payload 4).getLsbD 0 = p.tagged → ∃ k' : Kernel, exec (.connReq p.index t) s = .next (s.acted k')
        ∧ k'.session n = { SessSt.unbound with
            state := .opening, partner := p.index, sid := t.session, rxSeq := t.seq, rxAny := true, connAt := s.kernel.vital
            ctl := .connResp true, lastClose := x.lastClose }
        ∧ (∀ m, m ≠ n → k'.session m = s.kernel.session m) ∧ k'.elems = s.kernel.elems ∧ k'.slots = s.kernel.slots)
    ∧ (Accepts s n p t → s.kernel.vital ≤ s.kernel.widen t.echoMs + p.timeoutMs →
      (t.typ = 2 → x.state = .opening → (∃ c, x.connSeq = some c ∧ seqLater 32 c t.confSeq = false) →
        exec (.connResp n t) s = .next (s.acted (k.toOpen n t)))
      ∧ (t.typ = 3 → x.state = .open_ → exec (.dataTelegram n t) s = .next (s.acted (k.modSess n fun y =>
          { y with dataIn := t.payload, restrictive := t.flags.getLsbD 0 })))
      ∧ (t.typ = 5 → x.state = .open_ → exec (.headReport n t) s = .next (s.acted (Kernel.reattr s.dat
          ((s.kernel.reports ++ [(2, x.partner, t.payload)]).foldl (Kernel.remotePayload s.dat) { k with reports := [] }))))
      ∧ (t.typ = 6 → exec (.disc n t) s = .next (s.acted (k.closeSess n 7 .unbind)))
      ∧ (n < s.kernel.sess.length → (k.session n).rxSeq = t.seq ∧ (k.session n).confSeq = t.confSeq
          ∧ (k.session n).deadline = s.kernel.widen t.echoMs + p.timeoutMs ∧ (k.session n).sid = x.sid)))
  ∧ (∀ (s : State) (n : Nat) (t : Telegram), Supplied s → s.mstate = .run → n < 128 →
    let k := s.kernel.telegram s.dat s.env.pst n t
    (t.typ = 2 → exec (.connResp n t) s = .next (s.acted k)) ∧ (t.typ = 3 → exec (.dataTelegram n t) s = .next (s.acted k))
    ∧ (t.typ = 6 → exec (.disc n t) s = .next (s.acted k))
    ∧ (t.typ ≠ 3 → exec (.dataTelegram n t) s = .next (s.acted s.kernel))
    ∧ (∀ p, s.dat.partner (s.kernel.session n).partner = some p → ((s.kernel.session n).state = .open_ ∨
        (s.kernel.session n).state = .opening) → codesOk s.env.pst p t = false →
        k = ((s.kernel.modSess n fun x => { x with lost := x.lost + 1 }).note 0x1A0))
    ∧ (∀ p, s.dat.partner (s.kernel.session n).partner = some p → ((s.kernel.session n).state = .unbound ∨
        (s.kernel.session n).state = .holdOff) → k = { s.kernel with telDiscards := s.kernel.telDiscards + 1 }))
  ∧ (∀ (s : State) (n : Nat), Supplied s → s.mstate = .run → n < 128 →
    let x := s.kernel.session n
    let shut := fun (k : Kernel) (r : Nat) => k.modSess n fun y =>
      { y with state := .holdOff, holdAt := k.vital, lastClose := r, ctl := .disc r, dataIn := [] }
    (x.state = .open_ → x.deadline < s.kernel.vital → exec (.sessionTimeout n) s = .next (s.acted (shut s.kernel 1)))
    ∧ (x.state = .open_ → s.kernel.vital ≤ x.deadline → exec (.sessionTimeout n) s = .next (s.acted s.kernel))
    ∧ (x.state = .opening → x.opener = true → 200 ≤ s.kernel.gone x.connAt →
      exec (.connReqRepeat n) s = .next (s.acted (s.kernel.modSess n fun y =>
        { y with ctl := .connReq false, connAt := s.kernel.vital })))
    ∧ (∀ p, x.state = .opening → x.opener = false → s.dat.partner x.partner = some p → p.timeoutMs ≤ s.kernel.gone x.connAt →
      exec (.responderTimeout n) s = .next (s.acted (shut s.kernel 1)))
    ∧ (x.state = .holdOff → 1000 ≤ s.kernel.gone x.holdAt →
      exec (.holdOffExpiry n) s = .next (s.acted (s.kernel.modSess n fun y =>
        { SessSt.unbound with lastClose := y.lastClose })))
    ∧ (∀ p, s.kernel.sessOf p = some (n, x) → x.state = .open_ → exec (.pathMismatchNotice p) s =
        .next (s.acted (shut { s.kernel with pathMismatch := s.kernel.pathMismatch + 1 } 3)))
    ∧ (∀ p, s.kernel.sessOf p = none → exec (.pathMismatchNotice p) s =
        .next (s.acted { s.kernel with pathMismatch := s.kernel.pathMismatch + 1 })))

/-- SCC_REQUEST (R138, R139, R144): a request that nothing refuses takes the highest FREE slot, `RUNNING` at stage 1, and is
answered with the slot and its challenge; a refused one is answered with the code. -/
def Obligations.SccRequestTakesTheHighestFreeSlot : Prop :=
  ∀ (s : State) (i n : Nat) (r : SccRec) (p : Partner), Supplied s → s.mstate = .run → r.kind = 1 → r.r1 = 0 → r.r11 = 0 →
    r.r14 = 0 → s.kernel.drives = true → s.dat.partner (s.kernel.session i).partner = some p → p.cls = 4 →
    (s.kernel.session i).state = .open_ →
    (s.kernel.requestBar s.dat r = none → s.kernel.highFree = some n → s.kernel.slots.length = 96 →
      ∃ (k : Kernel) (x : SlotSt), exec (.sccRequest i r) s = .next (s.acted k) ∧ k.slot n = x ∧ x.state = .running ∧ x.op = r.op ∧ x.stage = 1
        ∧ x.target = r.target ∧ x.okind = 4 ∧ (∃ c, x.scc = some c ∧ c.session = i ∧ c.requestId = r.requestId
          ∧ c.challenge = sccChallenge n (s.kernel.slot n).seq s.kernel.vital r.requestId r.target r.op
          ∧ (∀ m, m ≠ n → k.slot m = s.kernel.slot m) ∧ k.routes = s.kernel.routes ∧ k.elems = s.kernel.elems
          ∧ k.sccOut = s.kernel.sccOut ++ [(i, (s.kernel.session i).sid, ⟨2, 0, r.op, r.target, r.requestId, c.challenge, n, 0,
            0, 0⟩)]))
    ∧ (∀ c, s.kernel.requestBar s.dat r = some c → exec (.sccRequest i r) s =
      .next (s.acted ((s.kernel.noteRoute r.op r.target c (match s.kernel.sccBar s.dat r.op r.target with
        | some x => leAt x.2 4 2
        | none => 0)).sccReply i (s.kernel.session i).sid 4 r 0 0xFF c)))

/-- SCC_CONFIRM and SCC_CONFIRM_TIMEOUT (R138, R140): a wrong challenge ends the slot FAILED with 0x0C02, a late confirmation
and the window's end with 0x0C03, a confirmation of another session is answered 0x0C01, a right one executes.
ROUTE_EMERGENCY_RELEASE, POINT_EMERGENCY_THROW, AC_PREP_RESET and AC_DIRECT_RESET (R110, R126, R138, R174): the confirmed
operation of a slot runs when no precondition stands against it and ends FAILED with the code of the first that does. -/
def Obligations.SccConfirmExecutesOnlyItsOwnRequest : Prop :=
  (∀ (s : State) (i : Nat) (r : SccRec) (p : Partner) (x : SccData), Supplied s → s.mstate = .run → r.kind = 3 → r.r1 = 0 →
    r.r11 = 0 → r.r14 = 0 → s.kernel.drives = true → s.dat.partner (s.kernel.session i).partner = some p → p.cls = 4 →
    (s.kernel.session i).state = .open_ → r.slot < 96 → (s.kernel.slot r.slot).scc = some x →
    (s.kernel.slot r.slot).awaits r = true →
    let k := s.kernel
    let own := x.session = i ∧ x.sessionId = (k.session i).sid
    (¬ own → exec (.sccConfirm i r) s = .next (s.acted (k.sccReply i (k.session i).sid 4 r r.challenge r.slot 0x0C01)))
    ∧ (own → x.challenge ≠ r.challenge →
      exec (.sccConfirm i r) s = .next (s.acted (k.finish r.slot .failed 0x0C02 (k.opData s.dat r.slot))))
    ∧ (own → x.challenge = r.challenge → x.window < k.cycle →
      exec (.sccConfirm i r) s = .next (s.acted (k.finish r.slot .failed 0x0C03 (k.opData s.dat r.slot))))
    ∧ (own → x.challenge = r.challenge → k.cycle ≤ x.window → (k.slot r.slot).state = .running →
      exec (.sccConfirm i r) s = .next (s.acted (k.sccExec s.dat r.slot)))
    ∧ (x.window < k.cycle → x.held = none →
      exec (.sccConfirmTimeout r.slot) s = .next (s.acted (k.finish r.slot .failed 0x0C03 (k.opData s.dat r.slot)))))
  ∧ (∀ (s : State) (n : Nat) (x : SccData), Supplied s → s.mstate = .run → n < 96 → s.kernel.slots.length = 96 →
    (s.kernel.slot n).scc = some x → (s.kernel.slot n).state = .running → (s.kernel.slot n).stage = 1 →
    x.sessionId = (s.kernel.session x.session).sid → s.kernel.cycle ≤ x.window →
    let op := (s.kernel.slot n).op
    let tgt := (s.kernel.slot n).target
    let k := s.kernel.modSlot n fun y => { y with state := .running }
    (op = 0x0103 → s.kernel.emergReleaseBar s.dat tgt = none →
      exec (.routeEmergencyRelease n) s = .next (s.acted (k.emergRelease s.dat n)))
    ∧ (op = 0x0202 → s.kernel.emergThrowBar s.dat tgt = none →
      exec (.pointEmergencyThrow n) s = .next (s.acted (k.pointOp s.dat n true)))
    ∧ (op = 0x0301 → s.kernel.acBar s.dat false tgt = none →
      exec (.acPrepReset n) s = .next (s.acted (k.acExec s.dat false n)))
    ∧ (op = 0x0302 → s.kernel.acBar s.dat true tgt = none →
      exec (.acDirectReset n) s = .next (s.acted (k.acExec s.dat true n)))
    ∧ (op = 0x0103 → ∀ c d, s.kernel.emergReleaseBar s.dat tgt = some (c, d) → exec (.routeEmergencyRelease n) s =
        .next (s.acted (s.kernel.finish n .failed c (s.kernel.routeData tgt d))))
    ∧ (op ≠ 0x0202 → exec (.pointEmergencyThrow n) s = .next (s.acted s.kernel)))

/-- The ten launches (R144 to R149, R155): a launch that no check refuses enters its slot with its operation, target and
parameters, counts the launch, starts when nothing holds it, and is answered.
BIST_RUN (R155, R384) runs outside `RUN` alone: in `SAFE` it enters its slot and SVC starts it; in `RUN` every check
before it passed, it is refused with 0x0D07.
A launch is refused with the first failing check (R145, R146): slot number 0x0D02, level 0x0D05, role 0x0D06, slot not FREE or
with another launch pending in SVC 0x0D03, SEQ 0x0D04; the client finds the code in 0x3100.02 and the access aborted. -/
def Obligations.LaunchesEnterTheirSlotOrAreRefused : Prop :=
  (∀ (s : State) (l : Launch) (op : Nat) (c : Instr), Supplied s → s.mstate = .run →
    (op, c) ∈ [(0x0101, Instr.routeSet l), (0x0102, .routeCancel l), (0x0201, .pointThrow l), (0x0501, .imageTransfer l),
      (0x0502, .activateSchedule l), (0x0601, .recExport l), (0x0701, .twinSwitchover l), (0x0801, .headExcitationChange l),
      (0x0901, .shutdown l)] →
    (s.asked l.client).launchBar op l = none →
    let e : SlotEntry := ⟨op, l.target, l.param, l.client.kind, (s.client l.client).level, l.client.identity,
      s.time.now.nanos⟩
    let k := s.kernel.enter l.slot e (l.flags.getLsbD 0)
    exec c s = .next (((s.asked l.client).acted (k.tryStart s.dat s.env l.slot)).respond l.client ⟨l.slot, true, 0, s.svc.ms, none⟩ 0)
    ∧ (l.slot < s.kernel.slots.length → (k.slot l.slot).op = op ∧ (k.slot l.slot).target = l.target
        ∧ (k.slot l.slot).param = l.param ∧ (k.slot l.slot).seq = (s.kernel.slot l.slot).seq
        ∧ (k.slot l.slot).state = if l.flags.getLsbD 0 then .suspended else .queued))
  ∧ (∀ (s : State) (l : Launch), Supplied s →
    (s.mstate = .safe → (s.asked l.client).launchBar 0x0401 l = none →
      let e : SlotEntry := ⟨0x0401, l.target, l.param, l.client.kind, (s.client l.client).level, l.client.identity,
        s.time.now.nanos⟩
      exec (.bistRun l) s = .next ((State.svcTry { s.asked l.client with
        kernel := s.kernel.enter l.slot e (l.flags.getLsbD 0) } l.slot).respond l.client ⟨l.slot, true, 0, s.svc.ms, none⟩ 0))
    ∧ (s.mstate = .run → l.slot < 96 → 2 ≤ (s.client l.client).level → s.life.state = 3 →
      exec (.bistRun l) s = .next ((s.asked l.client).refuse l.client 0x0D07)))
  ∧ (∀ (s : State) (l : Launch), Supplied s → s.mstate = .run →
    (96 ≤ l.slot → exec (.routeSet l) s = .next ((s.asked l.client).refuse l.client 0x0D02))
    ∧ (l.slot < 96 → (s.client l.client).level = 0 →
        exec (.routeSet l) s = .next ((s.asked l.client).refuse l.client 0x0D05))
    ∧ (l.slot < 96 → 1 ≤ (s.client l.client).level →
      (2 ≤ s.kernel.twin.role → exec (.routeSet l) s = .next ((s.asked l.client).refuse l.client 0x0D06))
      ∧ (s.kernel.twin.role ≤ 1 → s.kernel.twin.tookAt ≠ some s.kernel.cycle →
        ((s.kernel.slot l.slot).state ≠ .free ∨ (s.asked l.client).pendingLaunch l.slot = true →
          exec (.routeSet l) s = .next ((s.asked l.client).refuse l.client 0x0D03))
        ∧ ((s.kernel.slot l.slot).state = .free → (s.asked l.client).pendingLaunch l.slot = false →
          (s.kernel.slot l.slot).seq ≠ l.seqNow →
          exec (.routeSet l) s = .next ((s.asked l.client).refuse l.client 0x0D04))))
    ∧ (∀ t : State, t.refuse l.client 0x0D04 =
          (t.modClient l.client fun y => { y with refusal := 0x0D04 }).abort l.client 0x08000020
        ∧ ((t.refuse l.client 0x0D04).client l.client).refusal = 0x0D04))

/-- SLOT_SUSPEND, SLOT_RESUME, SLOT_CANCEL and SLOT_RELEASE (R147 to R149, R152): each acts on a slot in a state and stage
that permits it and is refused with its code else; a released slot is FREE and keeps OP_CODE, TARGET and SEQ. -/
def Obligations.SlotControlsFollowTheStateTable : Prop :=
  ∀ (s : State) (cl : Client) (n : Nat), Supplied s → s.mstate = .run → n < 96 → 1 ≤ (s.client cl).level →
    let x := s.kernel.slot n
    let ok := fun (k : Kernel) => ((s.asked cl).acted k).respond cl ⟨n, false, 0, s.svc.ms, none⟩ 0
    ((x.state = .queued ∨ x.state = .running) → suspendAt x.op x.stage = true →
      exec (.slotSuspend cl n) s = .next (ok (s.kernel.modSlot n fun y =>
        { y with state := .suspended, wasRunning := y.state == .running })))
    ∧ ((x.state = .queued ∨ x.state = .running) → suspendAt x.op x.stage = false →
      exec (.slotSuspend cl n) s = .next ((s.asked cl).refuse cl 0x0D09))
    ∧ (x.state = .suspended → x.wasRunning = true → exec (.slotResume cl n) s = .next (ok
        ((s.kernel.modSlot n fun y => { y with state := .running }).resumeRun s.dat n)))
    ∧ (x.state ≠ .suspended → exec (.slotResume cl n) s = .next ((s.asked cl).refuse cl 0x0D0A))
    ∧ (x.state.busy = true → cancelAt x.op x.stage = true → s.env.lateSlot ≠ some n →
      exec (.slotCancel cl n) s = .next (ok (s.kernel.cancelSlot s.dat s.env n)))
    ∧ (x.state.busy = true → s.env.lateSlot = some n → exec (.slotCancel cl n) s = .next ((s.asked cl).refuse cl 0x0D09))
    ∧ (x.state.busy = false → exec (.slotCancel cl n) s = .next ((s.asked cl).refuse cl 0x0D0A))
    ∧ (x.state.final = true → x.ownedBy cl (s.client cl).level = true → exec (.slotRelease cl n) s = .next (ok
        (s.kernel.modSlot n fun y => { SlotSt.free with op := y.op, target := y.target, seq := y.seq })))

/-- QUEUE_TIMEOUT, SLOT_AUTO_RELEASE and LAUNCH_GIVE_UP (R146, R149, R155): 300 s in `QUEUED` end in FAILED with 0x0D0E, 60 s in a
final state in FREE, in and outside `RUN`; five vital cycles without a verdict end in 0x0D0D for the client.
A slot that enters a final state (R149 to R151): SEQ rises by one, RESULT and RESULT_DATA stand, the record is noted; a slot
that is not in progress does not change. -/
def Obligations.SlotLimitsEndWaitingAndRaiseSeq : Prop :=
  (∀ (s : State) (n : Nat) (cl : Client), Supplied s →
    let x := s.kernel.slot n
    let done := fun (k : Kernel) => if s.mstate = .run then s.acted k else ({ s.begin with kernel := k } : State).kernelDone
    (x.state = .queued → 300000 ≤ s.kernel.gone x.queuedAt + x.outMs → exec (.queueTimeout n) s =
      .next (done (s.kernel.finish n .failed 0x0D0E (s.kernel.opData s.dat n))))
    ∧ (x.state.final = true → 60000 ≤ s.kernel.gone x.finalAt + x.outMs → exec (.slotAutoRelease n) s =
      .next (done (s.kernel.modSlot n fun y => { SlotSt.free with op := y.op, target := y.target, seq := y.seq })))
    ∧ (∀ w : Waiting, (s.client cl).launched = [w] → w.verdict = none → w.ms + 5 * s.dat.cycleMs ≤ s.svc.ms →
      exec (.launchGiveUp cl) s = .next ((s.begin.modClient cl fun y => { y with launched := [] }).refuse cl 0x0D0D))
    ∧ ((∀ w ∈ (s.client cl).launched, w.verdict ≠ none ∨ s.svc.ms < w.ms + 5 * s.dat.cycleMs) →
      exec (.launchGiveUp cl) s = .next s.begin))
  ∧ (∀ (k : Kernel) (n r : Nat) (st : SlotState) (x : List Byte), n < k.slots.length →
    ((k.slot n).state.busy = true →
      ((k.finish n st r x).slot n).state = st ∧ ((k.finish n st r x).slot n).seq = (k.slot n).seq + 1
      ∧ ((k.finish n st r x).slot n).result = r ∧ ((k.finish n st r x).slot n).data = x
      ∧ (k.finish n st r x).notes = k.notes ++ [.slotFinal n (k.slot n).op])
    ∧ ((k.slot n).state.busy = false → k.finish n st r x = k)
    ∧ (∀ m, m ≠ n → (k.finish n st r x).slot m = k.slot m))

/-- TWIN_HEARTBEAT_SEND, TWIN_HEARTBEAT_RECEIVE, TWIN_STATUS_ENTRY and VENEER_FRAME_RECEIVE (R324 to R326, R328, R330): a
heartbeat goes out on both lanes with the check value of CVU6; the first copy of a heartbeat or Veneer frame that passes CVU7 is taken
and its receipt kept; a bad one only takes its lane down, a second one changes nothing; SVC's entry tells the channels what it holds.
SWITCHOVER_NOT_TAKEN and SWITCHOVER_NO_STANDBY (R337): an offer not taken within five cycles ends the handover with
0x0703; no standby in synchronism within 10 s ends it with 0x0701, or 0x0702 where only the degraded twin stood in the way. -/
def Obligations.TwinLinkTakesEachUnitOnce : Prop :=
  (∀ (s : State) (lane : Bool) (h : Heartbeat) (v : Veneer) (feeds : List FeedRec), Supplied s →
    (s.life.position = 0 → exec (.twinHeartbeatSend feeds) s = .next s.begin
      ∧ exec (.twinHeartbeatReceive lane h) s = .next s.begin ∧ exec (.veneerFrameReceive lane v) s = .next s.begin
      ∧ exec .twinStatusEntry s = .next s.begin)
    ∧ (s.life.position ≠ 0 →
      let t : State := { s.begin with twin := { s.twin with hbSeq := (s.twin.hbSeq + 1) % 65536 } }
      let b := t.heartbeat feeds
      let u := t.cvuAppend 6 (Heartbeat.wire b)
      Heartbeat.crcOk b = true
      ∧ (u.2 = none → exec (.twinHeartbeatSend feeds) s = .next u.1)
      ∧ ∀ l, u.2 = some l → exec (.twinHeartbeatSend feeds) s = .next { u.1 with
          out := [.heartbeat false { b with link := BitVec.ofNat 32 (ofBe l) }, .heartbeat true { b with link := BitVec.ofNat 32 (ofBe l) }] })
    ∧ (s.life.position ≠ 0 →
      let u := s.begin.cvuStrip 7 (Heartbeat.wire h ++ be 4 h.link.toNat)
      (u.2 = false → exec (.twinHeartbeatReceive lane h) s = .next (u.1.laneUp lane false))
      ∧ (u.2 = true → Heartbeat.crcOk h = false → exec (.twinHeartbeatReceive lane h) s = .next (u.1.laneUp lane true))
      ∧ (∀ o, u.2 = true → s.twin.valid = true → s.twin.last = some o → o.hbSeq = h.hbSeq →
        exec (.twinHeartbeatReceive lane h) s = .next (u.1.laneUp lane true))
      ∧ (u.2 = true → Heartbeat.crcOk h = true → (∀ o, s.twin.valid = true → s.twin.last = some o → o.hbSeq ≠ h.hbSeq) →
        let w := u.1.laneUp lane true
        let x : State := { w with twin := { w.twin with
          last := some h, valid := true, compatible := s.incompatible h == 0, cause := s.incompatible h } }
        exec (.twinHeartbeatReceive lane h) s = .next (x.release h.ack) ∧ x.twinEntry.hbSeq = h.hbSeq))
    ∧ (s.life.position ≠ 0 → s.mstate = .run → exec .twinStatusEntry s = .next (s.begin.svcEntry (.twin s.twinEntry)))
    ∧ (s.life.position ≠ 0 →
      let u := s.begin.stripUnits (Veneer.wire v) v.unitCrcs
      (u.2 = false → exec (.veneerFrameReceive lane v) s = .next (u.1.laneUp lane false))
      ∧ (u.2 = true → v.version = 1 → s.twin.gotVeneer ≠ some v.cycle →
        let w := u.1.laneUp lane true
        exec (.veneerFrameReceive lane v) s = .next (State.newEntry { w with twin := { w.twin with
          gotVeneer := some v.cycle, ack := v.cycle } } .svc ⟨0x300, v.cycle % 2 ^ 32, .veneer v⟩))
      ∧ (u.2 = true → s.twin.gotVeneer = some v.cycle → exec (.veneerFrameReceive lane v) s = .next (u.1.laneUp lane true))))
  ∧ (∀ s : State, Supplied s → s.mstate = .run →
    let t := { s.kernel.twin with offer := false, request := false }
    (∀ n, s.kernel.twin.offer = true → s.kernel.twin.offerCycle + 5 ≤ s.kernel.cycle →
      s.kernel.running 0x0701 = some n → exec .switchoverNotTaken s =
        .next (s.acted (Kernel.finish { s.kernel with twin := t } n .failed 0x0703 (switchData s.life.position 0 0))))
    ∧ (s.kernel.twin.offer = false → exec .switchoverNotTaken s = .next (s.acted s.kernel))
    ∧ (∀ n, s.kernel.twin.role = 1 → s.kernel.twin.offer = false → s.kernel.running 0x0701 = some n →
      10000 ≤ s.kernel.gone s.kernel.twin.since → exec .switchoverNoStandby s =
        .next (s.acted (Kernel.finish { s.kernel with twin := t } n .failed (if s.kernel.twin.degraded then 0x0702 else 0x0701)
          (switchData s.life.position 0 0)))))

/-- ENVELOPE_SAMPLE, UP_RANGE, DOWN_RANGE and COIL_MEASUREMENT (R188 to R193): the sample word carries the range, the flags and the
envelope of the filtered raw samples; a system that is `OFF` linearises nothing; the range moves one step, down only after 1,024 low
samples and not during a pulse; the coil temperature follows the loop resistance.
PULSE_START, PULSE_END, TIMEBASE_STROBE and PEER_STROBE_RECEIVE (R160, R161, R194, R195, R197): a pulse that has held for three samples
opens, and one whose end has held for three closes, at the stamps its samples give, each with its record; a strobe is
numbered and recorded with the peer's newest. -/
def Obligations.SamplesPulsesAndStrobesAreRecorded : Prop :=
  (∀ (s : State) (sp : Sp) (head loop : Nat) (e : EnvSample) (t : W32), Supplied s → s.spUp sp = true →
    let x := s.sys sp head
    let put := fun y => s.begin.modSys sp head fun _ => y
    let c := s.cal head
    let r := x.takeRaws e
    let th := if sp = .x then coilTheta loop c.cable1 c.coil1 else coilTheta loop c.cable2 c.coil2
    let m := put { x with loop := loop, theta := th, rhoNew := x.rhoNew || usSince t x.rampEnd < 2 ^ 31 }
    (∃ y, exec (.envelopeSample sp head e) s = .next (put y)
      ∧ y.word = sampleWord r.rawRange (r.demod c sp) r.clampTag (x.unsettled (s.feed head) (tickUs e.ticks)) r.rangeStep
      ∧ (x.state = .off → y = { r with word := y.word, unsetTil := y.unsetTil })
      ∧ (x.state ≠ .off → y.y = linear c sp (normal (r.demod c sp) (c.ratio sp r.rawRange))
          ((x.theta - 25000000) * fx / 100000000))
      ∧ (y.range = x.range ∧ y.state = x.state ∧ y.active = x.active))
    ∧ (x.range ≠ 0 → exec (.upRange sp head) s =
        .next (put { x with range := x.range - 1, switch := .decided, lowRun := 0 }))
    ∧ (x.range = 0 → exec (.upRange sp head) s = .next (put x))
    ∧ (x.active = false → x.cand = none → x.range < 3 → 1024 ≤ x.lowRun →
        exec (.downRange sp head) s = .next (put { x with range := x.range + 1, switch := .left 1, lowRun := 0 }))
    ∧ (x.active = true ∨ 3 ≤ x.range ∨ x.lowRun < 1024 → exec (.downRange sp head) s = .next (put x))
    ∧ (-55000000 ≤ th → th ≤ 155000000 → exec (.coilMeasurement sp head loop t) s = .next m)
    ∧ (th < -55000000 ∨ 155000000 < th → exec (.coilMeasurement sp head loop t) s = .next (m.faultFrom sp head 2 t)))
  ∧ (∀ (s : State) (sp : Sp) (head : Nat) (t : W32) (rs : Bool), Supplied s → s.spUp sp = true →
    let x := s.sys sp head
    let p := s.proc sp
    (x.active = false → (∃ n, x.cand = some n ∧ 3 ≤ n) → x.edge.stamp s.svc.ms = t → x.edge.rs = rs →
      let z := s.begin.modSys sp head fun w => { w with active := true, cand := none, start := t, rsStart := rs }
      (head < p.sys.length → z.sys sp head = { x with active := true, cand := none, start := t, rsStart := rs })
        ∧ exec (.pulseStart sp head t rs) s = .next (z.sendRec sp 1 (byteOf head) ((z.sys sp head).flags false) 0 t 0))
    ∧ (x.active = true ∨ x.cand = none ∨ x.edge.stamp s.svc.ms ≠ t → exec (.pulseStart sp head t rs) s = .next s.begin)
    ∧ (∀ c, x.active = true → 3 ≤ x.endRun → x.endEdge = some c → c.stamp s.svc.ms = t → c.rs = rs →
      exec (.pulseEnd sp head t rs) s = .next ((s.begin.modSys sp head fun w =>
        { w with active := false, cand := none, endRun := 0, endEdge := none, lowRun := 0 }).sendRec sp 2 (byteOf head)
          (x.flags rs) 0 x.start t))
    ∧ (x.active = false ∨ x.endEdge = none ∨ x.endRun < 3 → exec (.pulseEnd sp head t rs) s = .next s.begin)
    ∧ exec (.timebaseStrobe sp t) s = .next (((s.begin.modProc sp fun w =>
        { w with nOwn := w.nOwn + 1, lastUs := t, sendUs := some t }).emit (.strobe sp)).sendRec sp 3 (byteOf (p.nOwn + 1)) 0
          (byteOf p.nPeer) t p.peerStamp)
    ∧ exec (.peerStrobeReceive sp t) s = .next (({ s.begin with sens := { s.sens with
        skew := match s.skewOf sp t with
          | some k => some k
          | none => s.sens.skew } } : State).modProc sp fun w =>
        { w with nPeer := w.nPeer + 1, peerStamp := t, lastUs := t })
    ∧ (∀ (k b f c : Byte) (u v : W32), ((s.sendRec sp k b f c u v).proc sp).seq = (p.seq + 1) % 2 ^ 32
        ∧ ((s.sendRec sp k b f c u v).proc sp).sys = p.sys))

/-- DRIVE_FAULT, ADC_REFERENCE_FAULT, SETTLE_TIMEOUT, CLAMP_INTERFERENCE, INTERFERENCE_RECOVERY, FAULT_RECOVERY and
SYSTEM_SETTLED (R198): each moves a system by the table of R198 with its HEAD_STATE record; a fault is counted and raised, and stops the
excitation when its cause is DRIVE. -/
def Obligations.SystemStatesFollowTheirTable : Prop :=
  ∀ (s : State) (sp : Sp) (head : Nat) (t : W32) (mean : Int), Supplied s → head < 16 →
    let x := s.sys sp head
    let fault := fun n => ((s.begin.modSys sp head fun y =>
      { y with faults := s.svc.ms :: y.recent s.svc.ms, causeUs := t, exc := y.exc && n != 3 }).sysTo sp head
      .fault n t).raise (sysSrc sp head)
    ((x.state = .settling ∨ x.state = .active ∨ x.state = .interfered) →
      exec (.driveFault sp head t) s = .next (fault 3) ∧ exec (.adcReferenceFault sp head t) s = .next (fault 4))
    ∧ (x.state = .off → exec (.driveFault sp head t) s = .next s.begin)
    ∧ (x.state = .settling → 2000000 ≤ usSince t x.rampEnd → usSince t x.rampEnd < 2 ^ 31 →
        exec (.settleTimeout sp head t) s = .next (fault 1))
    ∧ (x.state = .settling ∨ x.state = .active →
      (x.clampedLong = true → exec (.clampInterference sp head t) s =
        .next ((s.begin.modSys sp head fun y => { y with clampUs := t }).sysTo sp head .interfered 5 t))
      ∧ (x.clampedLong = false → exec (.clampInterference sp head t) s = .next s.begin))
    ∧ (x.state = .interfered → 5000000 ≤ usSince t x.clampUs →
        exec (.interferenceRecovery sp head t) s = .next (s.begin.settleSys sp head 0 t))
    ∧ (x.state = .fault → x.cause ≠ 6 → s.col.isolated.contains (sysSrc sp head) = false → s.portFailed head = false →
        5000000 ≤ usSince t x.causeUs →
      ((x.recent s.svc.ms).length < 4 →
        exec (.faultRecovery sp head t) s = .next (s.begin.settleSys sp head (if x.exc then 0 else 1000) t))
      ∧ (4 ≤ (x.recent s.svc.ms).length →
        exec (.faultRecovery sp head t) s = .next ((s.begin.modSys sp head fun y => { y with cause := 6 }).headRec sp head t)))
    ∧ (x.state = .settling → x.rhoNew = true → 200000 ≤ usSince t x.rampEnd → usSince t x.rampEnd < 2 ^ 31 →
        x.settledMean = some mean →
        let u := (s.begin.modSys sp head fun y => { y with yref := mean, hist := [] }).sysTo sp head .active 0 t
        ((u.sys .x head).state ≠ .active ∨ (u.sys .y head).state ≠ .active) →
        exec (.systemSettled sp head mean t) s = .next u)
    ∧ (x.state ≠ .settling ∨ x.settledMean ≠ some mean → exec (.systemSettled sp head mean t) s = .next s.begin)

/-- KEEPALIVE_COMMAND and KEEPALIVE_LOSS (R187): a command acts when another channel has sent an identical copy within 2 ms;
alone it is only held; three cycle lengths after the last that acted every excitation of the processor stops. -/
def Obligations.ExcitationNeedsTwoChannels : Prop :=
  ∀ (s : State) (sp : Sp) (ch : Ch) (cmd : ExcCmd) (t a : W32), Supplied s → s.spUp sp = true →
    let live := (s.proc sp).ka.filter fun k => usSince t k.timeUs ≤ 2000
    ((∀ k ∈ live, k.ch = ch ∨ k.cmd ≠ cmd) → exec (.keepaliveCommand sp ch cmd t) s =
      .next (s.begin.modProc sp fun p => { p with lastUs := t, ka := ⟨ch, cmd, t⟩ :: live }))
    ∧ ((∃ k ∈ live, k.ch ≠ ch ∧ k.cmd = cmd) → exec (.keepaliveCommand sp ch cmd t) s =
      .next (cmd.heads.foldl (fun u c => u.excite sp cmd.change t c) (s.begin.modProc sp fun p =>
        { p with lastUs := t, ka := live.filter (fun k => !decide (k.cmd = cmd)), agreedUs := some t })))
    ∧ ((s.proc sp).agreedUs = some a → 3000 * s.dat.cycleMs ≤ usSince t a →
      ∃ u, exec (.keepaliveLoss sp t) s = .next u ∧ (u.proc sp).agreedUs = none
      ∧ (u.proc sp).ka = [] ∧ u.pending = s.pending
      ∧ ∀ h, h < 16 → h < (s.proc sp).sys.length → (u.sys sp h).state = .off)
    ∧ ((s.proc sp).agreedUs = some a → usSince t a < 3000 * s.dat.cycleMs → exec (.keepaliveLoss sp t) s = .next s.begin)

/-- PARTNER_DRIVE_ABSENT, PARTNER_DRIVE_PRESENT, LOCK_LOST, LOCK_ACQUIRED, JOIN_REQUEST and JOIN_RAMP_END (R202 to R205): a module that
drives half alone doubles with its STEP records; one that is not the reference drives only while locked and joins over a ramp. -/
def Obligations.DualFeedSharesTheDrive : Prop :=
  ∀ (s : State) (head : Nat) (t : W32), Supplied s → s.dualFed head = true → head < s.sens.feeds.length →
    let f := s.feed head
    let put := fun g => s.begin.modFeed head fun _ => g
    let stop := fun (u : State) (at_ : W32) => ((u.stopSys .x head at_).stopSys .y head (s.timeOf .y at_)).modFeed head fun g =>
      { g with drive := .none, ramp := none }
    let idle := fun (x : SensorSys) => x.active = false ∧ x.cand = none
    (f.drive = .half → f.suppress = false → exec (.partnerDriveAbsent head t) s =
      .next (((put { f with partner := false, drive := .full, ramp := none }).stepRecs head 1 t).unsettle head t 2000))
    ∧ (f.drive ≠ .half → exec (.partnerDriveAbsent head t) s = .next (put { f with partner := false }))
    ∧ (f.drive = .none ∨ f.locked = true ∨ f.drive ≠ .joining ∧ s.kernel.twin.role ≤ 1 →
        exec (.partnerDrivePresent head) s = .next (put { f with partner := true }))
    ∧ (f.drive ≠ .none → f.locked = false → f.drive = .joining ∨ 1 < s.kernel.twin.role →
        exec (.partnerDrivePresent head) s = .next (stop (put { f with partner := true }) s.sens.x.lastUs))
    ∧ (s.isRef head = true ∨ f.drive = .none → exec (.lockLost head t) s = .next (put { f with locked := false }))
    ∧ (s.isRef head = false → f.drive ≠ .none → exec (.lockLost head t) s = .next (stop (put { f with locked := false }) t))
    ∧ (f.drive = .none → s.kernel.twin.role = 1 ∨ s.kernel.twin.role = 3 →
        exec (.lockAcquired head) s = .next ((put { f with locked := true, drive := .joining }).emit (.joinRequest head)))
    ∧ (s.isRef head = true → f.drive = .full → idle (s.sys .x head) → idle (s.sys .y head) → exec (.joinRequest head true t) s =
        .next (((put { f with drive := .half, ramp := some s.svc.ms }).stepRecs head 2 t).unsettle head t 22000))
    ∧ exec (.joinRequest head false t) s = .next s.begin
    ∧ (f.drive = .joining → exec (.joinRampEnd head t) s =
        .next (((put { f with drive := .half, ramp := none }).joinSys .x head t).joinSys .y head t))
    ∧ (f.drive ≠ .joining → exec (.joinRampEnd head t) s = .next (put { f with ramp := none }))

/-- UF_WARN, UF_LOW, BANK_SELF_FAULT and BANK_LINE_FAULT_CLEAR (R211, R221) each set or clear one flag of one bank that has
started; a bank without a complete image (R398) does nothing.
UF_CUT, UF_CUT_RECOVERY, CHARGE_PUMP_READY and CHARGE_PUMP_DECAY (R68, R221): the vital switches open with the cut and
with the pump, and follow the voters again. -/
def Obligations.BankFlagsAndSwitchesFollowSupply : Prop :=
  (∀ (s : State) (bk : Bank) (ch : Ch) (below : Bool) (chk : BankCheck), Supplied s →
    (s.bankUp bk = true →
    exec (.ufWarn bk below) s = .next (s.bankTo bk { s.hw bk with ufWarn := below } [])
    ∧ exec (.ufLow bk below) s = .next (s.bankTo bk { s.hw bk with ufLow := below } [])
    ∧ exec (.bankSelfFault bk chk) s = .next (s.bankTo bk { s.hw bk with selfFault := true } [])
    ∧ exec (.bankLineFaultClear bk ch) s = .next (s.bankTo bk { s.hw bk with
        lines := (s.hw bk).lines.set ch { (s.hw bk).lines.get ch with fault := false } } []))
    ∧ (s.bankUp bk = false → exec (.ufWarn bk below) s = .next s.begin ∧ exec (.ufLow bk below) s = .next s.begin
      ∧ exec (.bankSelfFault bk chk) s = .next s.begin ∧ exec (.bankLineFaultClear bk ch) s = .next s.begin))
  ∧ (∀ (s : State) (bk : Bank), Supplied s → s.bankUp bk = true →
    (∃ b, exec (.ufCut bk) s = .next (s.bankTo bk b []) ∧ b.ufCut = true ∧ b.pSw = 0 ∧ b.mSw = 0
      ∧ (∀ c, b.lines.get c = ((s.hw bk).lines.get c).echoed) ∧ Voted { s.hw bk with ufCut := true } b)
    ∧ (∃ b, exec (.ufCutRecovery bk) s = .next (s.bankTo bk b []) ∧ b.ufCut = false ∧ (∀ c, b.lines.get c = ((s.hw bk).lines.get c).echoed)
      ∧ Voted { s.hw bk with ufCut := false } b
      ∧ (b.config = false → b.pumpReady = true →
          b.pSw = b.voteP &&& ~~~((s.hw bk).pOpen &&& b.voteP) ∧ b.mSw = b.voteM &&& ~~~((s.hw bk).mOpen &&& b.voteM)))
    ∧ (2 ≤ (s.hw bk).enables → ∃ b, exec (.chargePumpReady bk) s = .next (s.bankTo bk b []) ∧ b.pumpReady = true
      ∧ (∀ c, b.lines.get c = ((s.hw bk).lines.get c).echoed) ∧ Voted (s.hw bk) b
      ∧ (b.config = false → b.ufCut = false →
          b.pSw = b.voteP &&& ~~~((s.hw bk).pOpen &&& b.voteP) ∧ b.mSw = b.voteM &&& ~~~((s.hw bk).mOpen &&& b.voteM)))
    ∧ ((s.hw bk).enables < 2 → exec (.chargePumpDecay bk) s = .next (s.bankTo bk { s.hw bk with
        pumpReady := false, pSw := 0, mSw := 0 } [])))

/-- DYNAMIC_ENABLE_EDGE, BANK_ENABLE_INVALID and BANK_LINE_STALE (R66, R68): a line's enable is valid after four half-periods
of 40 to 60 µs; with fewer than two valid enables the vital switches are open.
COMMAND_FRAME_RECEIVE (R66, R211, R212): a good frame of its own line and bank is taken up; one with a bad CRC sets the
line's fault and makes it count no more; one of another type, line or bank changes nothing. -/
def Obligations.BankLinesTakeFreshEnabledFrames : Prop :=
  (∀ (s : State) (bk : Bank) (ch : Ch) (halfUs : Nat), Supplied s → s.bankUp bk = true →
    (40 ≤ halfUs → halfUs ≤ 60 → ∃ b, exec (.dynamicEnableEdge bk ch halfUs) s = .next (s.bankTo bk b [])
      ∧ (b.lines.get ch).halves = min 4 (((s.hw bk).lines.get ch).halves + 1)
      ∧ ((b.lines.get ch).enable = true ↔ 3 ≤ ((s.hw bk).lines.get ch).halves)
      ∧ (∀ c, c ≠ ch → b.lines.get c = ((s.hw bk).lines.get c).echoed) ∧ (b.enables < 2 → b.pSw = 0 ∧ b.mSw = 0)
      ∧ Voted (s.hw bk) b)
    ∧ (halfUs < 40 ∨ 60 < halfUs → ∃ b, exec (.dynamicEnableEdge bk ch halfUs) s = .next (s.bankTo bk b [])
      ∧ (b.lines.get ch).halves = 0 ∧ (b.lines.get ch).enable = false
      ∧ (∀ c, c ≠ ch → b.lines.get c = ((s.hw bk).lines.get c).echoed) ∧ (b.enables < 2 → b.pSw = 0 ∧ b.mSw = 0)
      ∧ Voted (s.hw bk) b)
    ∧ (∃ b, exec (.bankEnableInvalid bk ch) s = .next (s.bankTo bk b []) ∧ (b.lines.get ch).halves = 0
      ∧ (b.lines.get ch).enable = false ∧ (∀ c, c ≠ ch → b.lines.get c = ((s.hw bk).lines.get c).echoed)
      ∧ (b.enables < 2 → b.pumpReady = false ∧ b.pSw = 0 ∧ b.mSw = 0) ∧ Voted (s.hw bk) b)
    ∧ (∃ b, exec (.bankLineStale bk ch) s = .next (s.bankTo bk b []) ∧ (b.lines.get ch).fresh = false
      ∧ (b.lines.get ch).counted = false ∧ (∀ c, c ≠ ch → b.lines.get c = ((s.hw bk).lines.get c).echoed) ∧ Voted (s.hw bk) b))
  ∧ (∀ (s : State) (bk : Bank) (ch : Ch) (f : CmdFrame), Supplied s → s.bankUp bk = true →
    (CmdFrame.crcOk f = true → f.typ = 1 → f.test.toNat < 2 → f.src.toNat = ch.idx → f.bank.toNat = bk.idx →
      ∃ b, exec (.commandFrameReceive bk ch f) s = .next (s.bankTo bk b [])
        ∧ (b.lines.get ch).cmd = some f ∧ (b.lines.get ch).fresh = true
        ∧ (b.lines.get ch).echo = (if ((s.hw bk).lines.get ch).enable then f.seq else ((s.hw bk).lines.get ch).echo)
        ∧ (∀ i, (s.hw bk).test = none → b.request = some i → b.pSw.getLsbD i = true → b.mSw.getLsbD i = true →
          b.test = some ⟨i, (s.hw bk).lastP, (s.hw bk).lastM, false, 0⟩)
        ∧ (∀ c, c ≠ ch → b.lines.get c = ((s.hw bk).lines.get c).echoed) ∧ Voted (s.hw bk) b)
    ∧ (CmdFrame.crcOk f = false → ∃ b, exec (.commandFrameReceive bk ch f) s = .next (s.bankTo bk b [])
        ∧ (b.lines.get ch).fault = true ∧ (b.lines.get ch).fresh = false
        ∧ (∀ c, c ≠ ch → b.lines.get c = ((s.hw bk).lines.get c).echoed) ∧ Voted (s.hw bk) b)
    ∧ (CmdFrame.crcOk f = true → (f.typ ≠ 1 ∨ 2 ≤ f.test.toNat ∨ f.src.toNat ≠ ch.idx ∨ f.bank.toNat ≠ bk.idx) →
        exec (.commandFrameReceive bk ch f) s = .next (s.bankTo bk (s.hw bk) [])))

/-- CONFIGURATION_FRAME (R213): in CONFIG an item is accepted when a second line offers the same; a second COMMIT with all
28 items held ends CONFIG; a COMMIT of another VALUE, and any frame outside CONFIG, changes nothing. -/
def Obligations.BankConfigurationNeedsTwoLines : Prop :=
  ∀ (s : State) (bk : Bank) (ch : Ch) (f : CfgFrame), Supplied s → s.bankUp bk = true → CfgFrame.crcOk f = true →
    f.typ = 2 → f.test.toNat < 2 → f.src.toNat = ch.idx → f.bank.toNat = bk.idx →
    ((s.hw bk).config = true → f.item ≠ 0xFF → cfgItemOk f.item.toNat = true →
      (∃ x ∈ (s.hw bk).offers, x.1 ≠ ch ∧ x.2 = ⟨f.item, f.v0, f.v1, f.v2⟩) →
      ∃ b, exec (.configurationFrame bk ch f) s = .next (s.bankTo bk b [])
        ∧ (⟨f.item, f.v0, f.v1, f.v2⟩ : CfgItem) ∈ b.items ∧ b.config = true)
    ∧ ((s.hw bk).config = true → f.item = 0xFF → f.v0 = 28 → f.v1 = 0 → f.v2 = 0 → (s.hw bk).items.length = 28 →
      (∃ x ∈ (s.hw bk).commits, x ≠ ch) →
      ∃ b, exec (.configurationFrame bk ch f) s = .next (s.bankTo bk b []) ∧ b.config = false
        ∧ b.items = (s.hw bk).items)
    ∧ (f.item = 0xFF → (f.v0 ≠ 28 ∨ f.v1 ≠ 0 ∨ f.v2 ≠ 0) → exec (.configurationFrame bk ch f) s = .next (s.bankTo bk (s.hw bk) []))
    ∧ ((s.hw bk).config = false → exec (.configurationFrame bk ch f) s = .next (s.bankTo bk (s.hw bk) []))

/-- INPUT_DEBOUNCE, WIRE_BREAK_FLAG, WIRE_BREAK_CLEAR and TEST_PULSE (R214 to R217) change one bit of one image word, of the
input they name: a path takes what its current gives once that has held for DEBOUNCE_US, and nothing while a test pulse of its source
freezes it.
SWITCH_CURRENT_LIMIT and NV_SILENCE (R222, R229): the limited switch is open; a non-vital output with no counted line
takes its SAFE_STATE. -/
def Obligations.BankInputsAndOutputsAct : Prop :=
  (∀ (s : State) (bk : Bank) (inp : Nat) (h : InputHold), Supplied s → s.bankUp bk = true → 1 ≤ inp → inp ≤ 24 →
    ((s.hw bk).frozen (inp - 1) = false → (s.hw bk).debounceUs (inp - 1) ≤ h.heldUs →
      exec (.inputDebounce bk inp .i h) s =
        .next (s.bankTo bk { s.hw bk with iPath := setBit (s.hw bk).iPath (inp - 1) (4000 ≤ h.uA) } [])
      ∧ exec (.inputDebounce bk inp .j h) s =
        .next (s.bankTo bk { s.hw bk with jPath := setBit (s.hw bk).jPath (inp - 1) (4000 ≤ h.uA) } [])
      ∧ exec (.inputDebounce bk inp .undef h) s = .next (s.bankTo bk { s.hw bk with
        undef := setBit (s.hw bk).undef (inp - 1) (2000 ≤ h.uA && h.uA < 4000) } []))
    ∧ ((s.hw bk).frozen (inp - 1) = true ∨ h.heldUs < (s.hw bk).debounceUs (inp - 1) →
      ∀ p, exec (.inputDebounce bk inp p h) s = .next (s.bankTo bk (s.hw bk) []))
    ∧ ((s.hw bk).frozen (inp - 1) = false →
      ((s.hw bk).wireOn inp = true → exec (.wireBreakFlag bk inp) s =
        .next (s.bankTo bk { s.hw bk with wireBreak := setBit (s.hw bk).wireBreak (inp - 1) true } []))
      ∧ exec (.wireBreakClear bk inp) s =
        .next (s.bankTo bk { s.hw bk with wireBreak := setBit (s.hw bk).wireBreak (inp - 1) false } []))
    ∧ (∀ (w : BitVec 24) (i : Nat) (v : Bool), i < 24 →
      (setBit w (inp - 1) v).getLsbD i = (if i = inp - 1 then v else w.getLsbD i))
    ∧ (∀ (src : Nat) (carrying : List Nat), (s.hw bk).pulsed (src - 1) = [inp - 1] →
        exec (.testPulse bk src carrying) s = .next (s.bankTo bk { s.hw bk with
          freeze := some (src - 1)
          pulseFlag := setBit (s.hw bk).pulseFlag (inp - 1) (carrying.contains inp) } [])))
  ∧ (∀ (s : State) (bk : Bank), Supplied s → s.bankUp bk = true →
    (∀ out, out < 32 → Bank.ofIdx (out / 8) = bk →
      (∃ b, exec (.switchCurrentLimit out .p) s = .next (s.bankTo bk b []) ∧ b.pSw.getLsbD (out % 8) = false
        ∧ (∀ c, b.lines.get c = ((s.hw bk).lines.get c).echoed))
      ∧ (∃ b, exec (.switchCurrentLimit out .m) s = .next (s.bankTo bk b []) ∧ b.mSw.getLsbD (out % 8) = false
        ∧ (∀ c, b.lines.get c = ((s.hw bk).lines.get c).echoed)))
    ∧ (∀ out, 1 ≤ out → out ≤ 4 → (s.hw bk).config = false → (s.hw bk).votes = [] →
      (∀ x, (s.hw bk).item (0x1F + out) = some x → x.v2 ≠ 2 →
        exec (.nvSilence bk out) s = .next (s.bankTo bk { s.hw bk with nOut := setBit (s.hw bk).nOut (out - 1) (x.v2 = 1) } []))
      ∧ (∀ x, (s.hw bk).item (0x1F + out) = some x → x.v2 = 2 →
        exec (.nvSilence bk out) s = .next (s.bankTo bk (s.hw bk) []))))

/-- BANK_INPUT_FRAME_SEND, INPUT_FRAME_RECEIVE and COMMAND_FRAME_REPEAT (R209, R212, R215, R224): a bank samples its terminals and
sends one frame on each of its four lines under the next FRAME_SEQ, which ends the freeze of its inputs; a channel latches a good
frame meant for it; a voting channel that emits repeats its command frame under the line's next SEQ. -/
def Obligations.BarrierFramesGoOutAndAreLatched : Prop :=
  ∀ (s : State) (i : BankInstant) (bk : Bank) (ch : Ch) (f : InputFrame), Supplied s →
    (s.bankUp i.bank = true →
      let b : BankHw := { s.hw i.bank with frameSeq := (s.hw i.bank).frameSeq + 1, freeze := none }
      let x := if b.test.isSome then i.pulse else i.ext
      exec (.bankInputFrameSend i) s = .next (s.bankTo i.bank (b.testSent x)
        [.inputFrame i.bank .a (b.frameTo i i.bank.idx .a), .inputFrame i.bank .b (b.frameTo i i.bank.idx .b),
          .inputFrame i.bank .c (b.frameTo i i.bank.idx .c), .inputFrame i.bank .d (b.frameTo i i.bank.idx .d)])
      ∧ ((b.testSent x).lastP, (b.testSent x).lastM) = b.readPM x)
    ∧ (InputFrame.crcOk f = true → f.typ = 3 → f.dest.toNat = ch.idx → f.bank.toNat = bk.idx →
      exec (.inputFrameReceive ch bk f) s = .next (s.chTo ch { s.ch ch with
        rx := (s.ch ch).rx.set bk.ch (some ⟨f.frameSeq % 65536, f.echo, f.img⟩) } []))
    ∧ ((InputFrame.crcOk f = false ∨ f.typ ≠ 3 ∨ f.dest.toNat ≠ ch.idx ∨ f.bank.toNat ≠ bk.idx) →
      exec (.inputFrameReceive ch bk f) s = .next s.begin)
    ∧ (s.mstate = .run → (s.ch ch).emitting = true → (s.ch ch).role = .voting →
      let c : Channel := { s.ch ch with cmdSeq := (s.ch ch).cmdSeq.set bk.ch ((s.ch ch).cmdSeq.get bk.ch + 1) }
      exec (.commandFrameRepeat ch bk) s = .next (s.chTo ch c [.cmdFrame bk (c.frameTo ch bk.idx)]))

/-- ETHERNET_LINK_CHANGE, MAC_AGEING, ETHERNET_FRAME_FORWARD, ARP_REQUEST, ICMP_ECHO and GRATUITOUS_ARP_REPEAT (R260, R261,
R263 to R265): a good frame's source is learned and the frame goes out of the other port unless its address lies on its
own side; an over-long one is discarded; addresses are answered for as they are held. -/
def Obligations.SwitchForwardsAndAddressesAnswer : Prop :=
  ∀ (s : State) (net : Net) (port speed mac : Nat) (f : EthFrame) (ip : W32), Supplied s →
    let n := s.nets.side net
    (port = 1 → bitAt (pstNat s.pstLive 0x2880 13 0) (2 * netNo net) = false → exec (.ethernetLinkChange net port speed) s =
      .next (s.begin.modNet net fun x => { x with port1 := min speed 2 }))
    ∧ (port = 2 → bitAt (pstNat s.pstLive 0x2880 13 0) (2 * netNo net + 1) = true →
      exec (.ethernetLinkChange net port speed) s = .next (s.begin.modNet net fun x => { x with port2 := min speed 1 }))
    ∧ (∀ p since, n.macs = [⟨mac, p, since⟩] →
      (since + 300000 ≤ s.svc.ms → exec (.macAgeing net mac) s = .next (s.begin.modNet net fun x => { x with macs := [] }))
      ∧ (s.svc.ms < since + 300000 → exec (.macAgeing net mac) s = .next s.begin))
    ∧ (∀ x, x.mac = mac → s.svc.ms < x.since + 300000 → x ∈ n.macs →
      ∃ u, exec (.macAgeing net mac) s = .next u ∧ x ∈ (u.nets.side net).macs)
    ∧ ((port = 1 ∨ port = 2) → n.port port ≠ 0 → f.pause = false → 1522 < f.len →
      exec (.ethernetFrameForward net port f) s = .next (s.begin.modNet net fun x => { x with discards := x.discards + 1 }))
    ∧ ((port = 1 ∨ port = 2) → n.port port ≠ 0 → n.port (3 - port) ≠ 0 → f.pause = false → f.len ≤ 1522 → f.fcsOk = true →
      bitAt f.dst 40 = false → f.dst ≠ Config.mac (netNo net) → f.pcp < 6 →
      (n.learn f.src port s.svc.ms).macs.find? (·.mac == f.dst) = none →
      exec (.ethernetFrameForward net port f) s = .next ((s.begin.modNet net fun x => x.learn f.src port s.svc.ms).emit
        (.eth net (3 - port) f)))
    ∧ (∀ x, (port = 1 ∨ port = 2) → n.port port ≠ 0 → f.pause = false → f.len ≤ 1522 → f.fcsOk = true →
      bitAt f.dst 40 = false → f.dst ≠ Config.mac (netNo net) →
      (n.learn f.src port s.svc.ms).macs.find? (·.mac == f.dst) = some x → x.port = port →
      exec (.ethernetFrameForward net port f) s = .next (s.begin.modNet net fun x => x.learn f.src port s.svc.ms))
    ∧ (∀ now, bitAt mac 40 = false → n.macs.length < 1024 → (⟨mac, port, now⟩ : MacEntry) ∈ (n.learn mac port now).macs
      ∧ ∀ x ∈ (n.learn mac port now).macs, x.mac = mac → x = ⟨mac, port, now⟩)
    ∧ (n.port port = 0 ∨ f.pause = true → exec (.ethernetFrameForward net port f) s = .next s.begin)
    ∧ (ip.toNat ≠ 0 → ip.toNat = s.maintIp net → exec (.arpRequest net ip) s = .next (s.begin.emit (.arp net ip)))
    ∧ (ip.toNat ≠ s.maintIp net → n.service = false → exec (.arpRequest net ip) s = .next s.begin)
    ∧ (ip.toNat ≠ 0 → ip.toNat = s.maintIp net → n.icmpSec ≠ s.svc.ms / 1000 → exec (.icmpEcho net ip) s =
      .next ((s.begin.modNet net fun x => { x with icmpSec := s.svc.ms / 1000, icmp := 1 }).emit (.icmp net ip)))
    ∧ (n.icmpSec = s.svc.ms / 1000 → 10 ≤ n.icmp → exec (.icmpEcho net ip) s = .next s.begin)
    ∧ (n.service = true → 0 < n.garpLeft → s.serviceIp net ≠ 0 →
      (n.garpAt + 10 ≤ s.svc.ms → exec (.gratuitousArpRepeat net) s =
        .next ((s.begin.modNet net fun x => { x with garpLeft := x.garpLeft - 1, garpAt := s.svc.ms }).emit
          (.garp net (BitVec.ofNat 32 (s.serviceIp net)))))
      ∧ (s.svc.ms < n.garpAt + 10 → exec (.gratuitousArpRepeat net) s = .next s.begin))

/-- PTP_SLAVE_MESSAGE, ANNOUNCE_RECEIPT_TIMEOUT, PTP_TC_FORWARD and RESIDENCE_HOLD_EXPIRY (R266 to R268): a new master is
followed `UNCALIBRATED`, its delay answer makes the clock `SLAVE`, its Sync is asked after; messages of another domain or transport
are not read; a one-step Sync goes on with its residence in correctionField, a two-step one without, and its Follow_Up with the
residence held for it from the same port; a residence is dropped after 1 s. -/
def Obligations.PtpClocksFollowAndCorrect : Prop :=
  ∀ (s : State) (net : Net) (x : PtpIn) (m p q ns : Nat) (o : Int) (better uv : Bool) (st : W32) (r : Residence), Supplied s →
    let n := s.nets.side net
    let ptp := fun (y : PtpMsg) => exec (.ptpSlaveMessage net { x with msg := y } st) s
    let fwd := fun (y : PtpMsg) => exec (.ptpTcForward net { x with msg := y } ns) s
    (s.ptpOwn x = false → exec (.ptpSlaveMessage net x st) s = .next s.begin)
    ∧ (s.ptpOwn x = true →
      (n.master = none → ptp (.announce m better uv o) = .next (s.begin.modNet net fun y => { y with
        master := some m, utcValid := uv, utcOffset := o, ptpState := .uncalibrated, goodSyncs := 0, syncSeq := none }))
      ∧ (n.master = some m → ptp (.announce m better uv o) =
        .next (s.begin.modNet net fun y => { y with utcValid := uv, utcOffset := o }))
      ∧ (n.master = some m → n.syncSeq = some q → ptp (.followUp m q o) = .next (s.begin.modNet net fun y => { y with
        ptpOffset := o, syncSeq := none, goodSyncs := if o.natAbs ≤ 1000 then y.goodSyncs + 1 else 0 }))
      ∧ (n.master = some m → (s.begin.stamp (netTsu s net) st).2 = true →
        ptp (.sync m q true o) = .next (((s.begin.stamp (netTsu s net) st).1.modNet net fun y =>
          { y with syncSeq := some q }).emit (.delayReq net)))
      ∧ (n.master = some m → n.ptpState = .uncalibrated → (s.begin.stamp (netTsu s net) st).2 = true →
        ptp (.delayResp m q o) = .next ((s.begin.stamp (netTsu s net) st).1.modNet net fun y => { y with ptpState := .slave })))
    ∧ exec (.announceReceiptTimeout net) s = .next (s.begin.modNet net fun y =>
        { y with ptpState := .listening, master := none, goodSyncs := 0, syncSeq := none })
    ∧ fwd (.sync p q false o) = .next (s.begin.emit (.ptp net (.sync p q false o) (ns * 2 ^ 16)))
    ∧ fwd (.delayReq p q) = .next (s.begin.emit (.ptp net (.delayReq p q) (ns * 2 ^ 16)))
    ∧ (∃ u, fwd (.sync p q true o) = .next u ∧ u.out = [.ptp net (.sync p q true o) 0]
      ∧ (⟨x.inPort, s.svc.ms, p, q, ns⟩ : Residence) ∈ (u.nets.side net).residences)
    ∧ (n.residences.find? (fun (y : Residence) => y.from_ == x.inPort && y.port == p && y.seq == q) = some r →
      fwd (.followUp p q o) = .next ((s.begin.modNet net fun y =>
        { y with residences := y.residences.filter (· != r) }).emit (.ptp net (.followUp p q o) (r.ns * 2 ^ 16))))
    ∧ (n.residences.find? (fun (y : Residence) => y.from_ == x.inPort && y.port == p && y.seq == q) = none →
      fwd (.followUp p q o) = .next ((s.begin.modNet net fun y =>
        { y with fuUnmatched := y.fuUnmatched + 1 }).emit (.ptp net (.followUp p q o) 0)))
    ∧ (n.residences = [r] → r.since + 1000 ≤ s.svc.ms →
      exec (.residenceHoldExpiry net r.port r.seq) s = .next (s.begin.modNet net fun y => { y with residences := [] }))
    ∧ (n.residences = [r] → s.svc.ms < r.since + 1000 → exec (.residenceHoldExpiry net r.port r.seq) s = .next s.begin)

/-- NET_DATAGRAM_RECEIVE, SKEW_TIMER_EXPIRY, EGRESS_ENTRY, EGRESS_CONFIRM_TIMEOUT and ENTRY_REPEAT_WRITE (R58, R65, R273,
R274): a fragment is discarded, a copy that fails a check rejected, a first one routed and an identical second one only counted; a key
whose skew window passed with one copy is single-path; an egress entry goes out once, with the second identical copy, and is dropped,
asserting its source, without one; an entry is written again as it was first written. -/
def Obligations.CopiesMeetAndEgressNeedsTwo : Prop :=
  ∀ (s : State) (net : Net) (d : Datagram) (e : List Byte) (eng : Egress) (ch : Ch) (sp : Sp), Supplied s →
    let good := d.frag = false ∧ d.opts = false ∧ d.sumOk = true
    let put := fun (l : List EgEntry) => (s.begin.modCh ch (·.readEgress eng e)).modNets (·.setEgress eng l)
    (d.frag = true ∨ d.opts = true ∨ d.sumOk = false → exec (.netDatagramReceive net d) s =
      .next (s.begin.modNet net fun x => { x with discards := x.discards + 1 }))
    ∧ (good → d.port ≠ pstNat s.pstLive 0x2880 9 30712 →
      exec (.netDatagramReceive net d) s = .next (s.begin.modNet net fun x => { x with rejects := x.rejects + 1 }))
    ∧ (∀ k p, s.begin.prefilter net d = (k, some p) → good → s.mstate = .run →
      let u := k.modNet net fun x => { x with rxValid := x.rxValid + 1 }
      let mine := fun (x : PairKey) => x.partner == p.index && x.session == d.tel.session && x.seq == d.tel.seq
      (u.nets.keys.find? mine = none → exec (.netDatagramReceive net d) s =
        .next ((u.addKey ⟨u.svc.ms, p.index, d.tel.session, d.tel.seq, d.tel, false, false⟩).routeCopy net p d.tel))
      ∧ (∀ x, u.nets.keys.find? mine = some x → x.second = false → x.done = false → x.tel = d.tel →
        exec (.netDatagramReceive net d) s = .next (u.modNets fun y => { y with
          keys := y.keys.map fun (z : PairKey) => if mine z then { z with second := true } else z, dual := y.dual + 1 }))
      ∧ (∀ x, u.nets.keys.find? mine = some x → x.second = true → exec (.netDatagramReceive net d) s = .next u))
    ∧ (∀ (k : PairKey) (p : Partner), let mine := fun (x : PairKey) => x.partner == k.partner && x.session == k.session && x.seq == k.seq
      s.nets.keys.find? mine = some k → s.dat.partner k.partner = some p → k.done = false →
      let u := s.begin.modNets fun y => { y with
        keys := y.keys.map fun (x : PairKey) => if mine x then { x with done := true } else x }
      (k.since + p.skewMs ≤ s.svc.ms → k.second = true → exec (.skewTimerExpiry k.partner k.session k.seq) s = .next u)
      ∧ (k.since + p.skewMs ≤ s.svc.ms → k.second = false →
        exec (.skewTimerExpiry k.partner k.session k.seq) s = .next (u.singlePath k))
      ∧ (s.svc.ms < k.since + p.skewMs → exec (.skewTimerExpiry k.partner k.session k.seq) s = .next s.begin))
    ∧ (s.mstate = .run → (s.ch ch).role = .voting → s.nets.egress eng = [] →
      exec (.egressEntry eng ch e) s = .next (put [⟨e, [ch], false, s.vital.cycle⟩]))
    ∧ (∀ c, s.mstate = .run → (s.ch ch).role = .voting → c ≠ ch → s.nets.egress eng = [⟨e, [c], false, s.vital.cycle⟩] →
      exec (.egressEntry eng ch e) s = .next ((put [⟨e, [ch, c], true, s.vital.cycle⟩]).transmit eng e))
    ∧ (s.nets.egress eng = [] → exec (.egressConfirmTimeout eng) s = .next s.begin)
    ∧ ((eng = .str ∨ eng = .twin) → (∃ x ∈ s.nets.egress eng, x.sent = false) → exec (.egressConfirmTimeout eng) s =
      .next ((s.begin.modNets (·.setEgress eng ((s.nets.egress eng).filter (·.sent)))).raise (egressSrc eng)))
    ∧ ((eng = .netA ∨ eng = .netB) → (∃ x ∈ s.nets.egress eng, x.sent = false) → exec (.egressConfirmTimeout eng) s =
      .next ((s.begin.modNets fun y => { y.setEgress eng ((y.egress eng).filter (·.sent)) with
        drops := y.drops + ((y.egress eng).filter (!·.sent)).length }).raise (egressSrc eng)))
    ∧ (∀ r l, (s.proc sp).sent = (r, 1) :: l → (∀ y ∈ l, 0 < y.2) → exec (.entryRepeatWrite (spProd sp) 0) s =
      .next ((s.begin.modSent sp fun _ => l).putRec sp r))

/-- LISTEN_TIMEOUT, CLOCK_CORRECTION, COLDSTART_LIMIT, INTEGRATION_COMPLETE, INTEGRATION_LOST, SILENT_REINTEGRATE,
GUARDIAN_TRUNCATION and STRATUS_PORT_LINK_CHANGE (R237, R246, R248, R249): each moves the node by the table of R249.
CLOCK_CORRECTION in `SYNCED` (R248): too few values a second time in a row silence the node; enough of them apply the
averages, and a correction beyond the limits silences it and is not applied. -/
def Obligations.RingNodeFollowsItsStateTable : Prop :=
  (∀ (s : State) (up : Bool) (node : Nat), Supplied s →
    let r := s.ring
    (∀ c n, r.state = .listen → r.sched = some c → c.node r.own = some n → n.cold = true → exec .listenTimeout s = .next (s.ringTo
      { r with state := .coldstart, cycle := 0, keyDone := false, attempts := r.attempts + 1, coldCycles := 0, noReturn := 0
               devEven := [], devOdd := [] } []))
    ∧ (r.state ≠ .listen → exec .listenTimeout s = .next (s.ringTo r []))
    ∧ (r.cycle % 2 = 0 → exec .clockCorrection s = .next (s.ringTo r []))
    ∧ (r.cycle % 2 = 1 → exec .clockCorrection s = .next (s.ringTo r.correct []) ∧ r.correct.cycle = r.cycle)
    ∧ (r.state = .coldstart → 3 ≤ r.noReturn → exec (.coldstartLimit true) s = .next (s.ringTo { r with state := .listen } []))
    ∧ (r.state = .coldstart → 32 ≤ r.coldCycles → exec (.coldstartLimit false) s = .next (s.ringTo { r with state := .listen } []))
    ∧ (r.noReturn < 3 → exec (.coldstartLimit true) s = .next (s.ringTo r []))
    ∧ (r.coldCycles < 32 → exec (.coldstartLimit false) s = .next (s.ringTo r []))
    ∧ (r.state = .integrating → 3 ≤ r.doubles → r.measured = true →
      exec .integrationComplete s = .next (s.ringTo { r with state := .synced, short := 0 } []))
    ∧ (r.doubles < 3 → exec .integrationComplete s = .next (s.ringTo r []))
    ∧ (r.state = .integrating → 2 ≤ r.syncMiss → exec .integrationLost s = .next (s.ringTo { r with state := .listen } []))
    ∧ (r.syncMiss < 2 → exec .integrationLost s = .next (s.ringTo r []))
    ∧ (r.state = .silent → r.cycle % 2 = 1 → r.cycle ≠ r.silentAt → exec .silentReintegrate s = .next (State.askEcho (s.ringTo { r with
        state := .integrating, doubles := 1, measured := false, syncMiss := 0, echoes := [], devEven := [], devOdd := [] } [])))
    ∧ (r.cycle = r.silentAt → exec .silentReintegrate s = .next (s.ringTo r []))
    ∧ ((r.state = .synced ∨ r.state = .integrating) → node ≠ r.own → exec (.guardianTruncation node) s =
      .next (s.ringTo { r with truncations := r.truncations + 1 } []))
    ∧ exec (.guardianTruncation r.own) s = .next (s.ringTo r [])
    ∧ exec (.stratusPortLinkChange .e up) s = .next (s.ringTo { r with portE := up } [])
    ∧ exec (.stratusPortLinkChange .w up) s = .next (s.ringTo { r with portW := up } []))
  ∧ (∀ (r : Ring) (c : Schedule), r.sched = some c → r.state = .synced →
    ((r.voff.length < 2 * c.k + 1 ∨ r.vrate.length < 2 * c.k + 1) → 1 ≤ r.short →
      r.correct = { r with state := .silent, reints := r.reints + 1, short := 0, silentAt := r.cycle, devEven := [], devOdd := [] })
    ∧ ((r.voff.length < 2 * c.k + 1 ∨ r.vrate.length < 2 * c.k + 1) → r.short = 0 →
      r.correct = { r with short := 1, devEven := [], devOdd := [] })
    ∧ (2 * c.k + 1 ≤ r.voff.length → 2 * c.k + 1 ≤ r.vrate.length →
      ((fta c.k r.voff).natAbs ≤ c.offLimit → (r.rate + fta c.k r.vrate).natAbs ≤ c.rateLimit * c.cycleMs →
        r.correct.state = .synced ∧ r.correct.offset = fta c.k r.voff ∧ r.correct.rate = r.rate + fta c.k r.vrate)
      ∧ ((c.offLimit < (fta c.k r.voff).natAbs ∨ c.rateLimit * c.cycleMs < (r.rate + fta c.k r.vrate).natAbs) →
        r.correct.state = .silent ∧ r.correct.offset = r.offset ∧ r.correct.rate = r.rate + fta c.k r.vrate
        ∧ r.correct.reints = r.reints + 1)))

/-- LINK_BREAK, LOOP_OPEN, LINK_DELAY_REMEASURE, STATUS_FRAME_SELF and STRATUS_SLOT_START (R247, R249 to R251, R253, R254): a
node whose port heard nothing for two cycles loops from its next cycle and opens again at the agreed one; in its own slot a synchronised
node sends the entry due with its SAFETY, its SYNC in the key slot of a sync node; a coldstarting node sends COLDSTART. -/
def Obligations.RingLoopsAndSlotsAreServed : Prop :=
  ∀ (s : State) (c : Schedule) (x : SchedSlot) (p : List Byte), Supplied s → s.ring.sched = some c →
    let r := s.ring
    let key := { s.begin with ring := r.keyStart }
    (r.loopRole = 0 → r.breakAt = none →
      (2 ≤ r.missE → exec (.linkBreak .e) s = .next (s.ringTo { r with breakAt := some .e } []))
      ∧ (2 ≤ r.missW → exec (.linkBreak .w) s = .next (s.ringTo { r with breakAt := some .w } []))
      ∧ (r.missE < 2 → exec (.linkBreak .e) s = .next (s.ringTo r [])))
    ∧ (r.loopRole ≠ 0 → exec (.linkBreak .e) s = .next (s.ringTo r []))
    ∧ (r.breakAt = some .e → r.keyStart.loopRole = 1 ∧ r.keyStart.loopE = some r.own ∧ r.keyStart.heals = r.heals + 1)
    ∧ (r.breakAt = some .w → r.keyStart.loopRole = 2 ∧ r.keyStart.loopW = some r.own ∧ r.keyStart.heals = r.heals + 1)
    ∧ (r.keyDone = true → r.keyStart.cycle = (r.cycle + 1) % 2 ^ 32)
    ∧ (∀ n, r.openAt = some n → r.loopRole ≠ 0 → n ≤ r.cycle + 1 → ∃ q, exec .loopOpen s = .next (s.ringTo q [])
      ∧ q.loopRole = 0 ∧ q.openAt = none ∧ q.loopE ≠ some r.own ∧ q.loopW ≠ some r.own ∧ q.state = r.state)
    ∧ (r.openAt = none → exec .loopOpen s = .next (s.ringTo r []))
    ∧ (r.state ≠ .notConfigured → r.state ≠ .listen →
      exec .linkDelayRemeasure s = .next (State.askEcho (s.ringTo { r with echoes := [] } [])))
    ∧ (s.mstate = .run → exec .statusFrameSelf s = .next s.begin)
    ∧ (s.mstate ≠ .run → c.slots.find? (fun y => y.owner == r.own && y.status) = some x → exec .statusFrameSelf s =
      .next (s.ringTo { r with lastVseq := (r.lastVseq + 1) % 2 ^ 32, ready := r.ready.filter (·.1 != x.slot) ++
        [(x.slot, be 4 ((r.lastVseq + 1) % 2 ^ 32) ++ [byteOf s.mstate.code, byteOf s.kernel.twin.role, 2,
          byteOf s.vital.ladder.code] ++ be 4 s.dat.stationId.toNat ++ [0, 0, 0, 0])] } []))
    ∧ (c.slot x.slot = some x →
      (x.owner ≠ r.own → exec (.stratusSlotStart x.slot) s = .next s.begin)
      ∧ (x.owner = r.own → x.key = false → r.state = .synced → r.ready.find? (·.1 == x.slot) = some (x.slot, p) →
        exec (.stratusSlotStart x.slot) s = .next (State.ringOut (s.ringTo { r with
          ready := r.ready.filter (·.1 != x.slot), sentAt := assocSet r.sentAt x.slot r.cycle
          lastVseq := if x.status then beAt p 0 4 else r.lastVseq } []) r.outPort 0 false x.slot
            (p ++ be 4 (ringSafety r.own x.slot r.cycle c.id p).toNat)))
      ∧ (x.owner = r.own → x.key = true → r.state = .synced → r.ownSync = true → exec (.stratusSlotStart x.slot) s =
        .next (key.keyExtras.ringOut r.keyStart.outPort 2 false x.slot r.keyStart.syncPayload))
      ∧ (x.owner = r.own → x.key = true → r.state = .coldstart → exec (.stratusSlotStart x.slot) s =
        .next (key.keyExtras.ringOut r.keyStart.outPort 3 false x.slot (byteOf r.attempts :: List.replicate 15 0))))

/-- STRATUS_DATA, STRATUS_NULL, SYNC and COLDSTART (R241, R249, R252, R253): a frame passes CVU4 and is forwarded; one that the node
accepts is counted for its sender and acts by the node's state; a heartbeat is only read; a frame whose FCS fails only counts.
ECHO_REQ, ECHO and PROBE (R240, R247, R251): a LOOP frame is forwarded and read; a request at port E is answered, the fourth answer
at W gives LINK_NS and the others are followed by a further request; a PROBE over the broken link is counted and tells when to open. -/
def Obligations.RingFramesAreJudgedBeforeTheyAct : Prop :=
  (∀ (s : State) (f : RingFrame) (c : Schedule), Supplied s →
    (s.loopTest = true → exec (.stratusData f) s = .next s.begin)
    ∧ (s.loopTest = false →
    let v := (s.begin.cvuStrip 4 (RingFrame.bytes f ++ be 4 f.fcs.toNat)).1
    let read := (s.ring.readLoop f).heard f
    let acc := { v.ringForward f with ring := ((v.ringForward f).ring.readLoop f).heard f |>.accept f }
    ((s.begin.cvuStrip 4 (RingFrame.bytes f ++ be 4 f.fcs.toNat)).2 = true →
      (f.typ = 1 → f.dir = true → RingFrame.fcsOk f = true → exec (.stratusNull f) s = .next { v with ring := read })
      ∧ (read.Takes c f true →
        (f.typ = 1 → exec (.stratusNull f) s = .next acc)
        ∧ (f.typ = 0 → exec (.stratusData f) s = .next (acc.newEntry .str
          ⟨0x100 + f.slot, f.ringCycle % 2 ^ 32, .ring f.node f.scheduleId.toNat f.payload f.safety⟩))
        ∧ (f.typ = 2 → s.ring.state = .synced → exec (.sync f) s = .next { acc with ring := acc.ring.keepDev f })
        ∧ (f.typ = 3 → s.ring.state = .synced → exec (.coldstart f) s = .next { acc with ring := acc.ring.keepDev f }))
      ∧ (read.Takes c f false →
        (f.typ = 2 → s.ring.state = .listen → exec (.sync f) s = .next (State.askEcho { acc with ring := acc.ring.adopt f }))
        ∧ (f.typ = 3 → s.ring.state = .listen → exec (.coldstart f) s = .next (State.askEcho { acc with ring := acc.ring.adopt f }))
        ∧ (f.typ = 3 → s.ring.state = .coldstart → f.node < s.ring.own → exec (.coldstart f) s =
          .next (State.askEcho { acc with ring := { acc.ring.adopt f with coldAborts := acc.ring.coldAborts + 1 } }))
        ∧ (f.typ = 3 → s.ring.state = .coldstart → s.ring.own < f.node → exec (.coldstart f) s = .next acc)))
    ∧ ((s.begin.cvuStrip 4 (RingFrame.bytes f ++ be 4 f.fcs.toNat)).2 = false →
      let w := v.ringForward (RingFrame.marked f)
      let bad : Host.Outcome State Fault Refusal := .next { w with ring := { w.ring with fcsErrors := w.ring.fcsErrors + 1 } }
      (f.typ = 0 → exec (.stratusData f) s = bad) ∧ (f.typ = 1 → exec (.stratusNull f) s = bad)
        ∧ (f.typ = 2 → exec (.sync f) s = bad) ∧ (f.typ = 3 → exec (.coldstart f) s = bad))))
  ∧ (∀ (s : State) (f : RingFrame) (rt : Nat), Supplied s → s.loopTest = false →
    (s.begin.cvuStrip 4 (RingFrame.bytes f ++ be 4 f.fcs.toNat)).2 = true →
    let v := (s.begin.cvuStrip 4 (RingFrame.bytes f ++ be 4 f.fcs.toNat)).1
    let w := { v.ringForward f with ring := ((v.ringForward f).ring.readLoop f).heard f }
    (s.loopOk f 1 = true → f.port = .e →
      exec (.echoReq f) s = .next (w.ringOut .e 4 false s.ring.keySlot (loopPayload 2 0 0)))
    ∧ (s.loopOk f 1 = true → f.port = .w → exec (.echoReq f) s = .next w)
    ∧ (s.loopOk f 2 = true → f.port = .w → s.ring.asked = true → s.ring.echoes.length = 3 → exec (.echo f rt) s =
      .next { w with ring := { w.ring with
        echoes := [], asked := false, linkNs := (s.ring.echoes ++ [rt - 2000]).sum / 8, measured := true } })
    ∧ (s.loopOk f 2 = true → f.port = .w → s.ring.asked = true → s.ring.echoes.length < 3 → exec (.echo f rt) s =
      .next (State.askEcho { w with ring := { w.ring with echoes := s.ring.echoes ++ [rt - 2000] } }))
    ∧ (s.loopOk f 2 = true → s.ring.asked = false → exec (.echo f rt) s = .next w)
    ∧ (s.loopOk f 3 = true → s.ring.loopRole = 0 → exec (.probe f) s = .next w)
    ∧ (s.loopOk f 3 = true → s.ring.loopRole = 1 → f.port = .e → s.ring.probeSeen = false → beAt f.payload 4 4 ≠ 0 →
      exec (.probe f) s = .next { w with ring := { w.ring with
        probeRun := s.ring.probeRun + 1, probeSeen := true, peerRun := (byteAt f.payload 1).toNat
        openAt := some (beAt f.payload 4 4) } })
    ∧ (s.loopOk f 3 = true → s.ring.loopRole = 2 → f.port = .w → s.ring.probeSeen = false → 7 ≤ s.ring.probeRun →
      8 ≤ (byteAt f.payload 1).toNat → s.ring.openAt = none → exec (.probe f) s = .next { w with ring := { w.ring with
        probeRun := s.ring.probeRun + 1, probeSeen := true, peerRun := (byteAt f.payload 1).toNat
        openAt := some (s.ring.cycle + 4) } }))

/-- CAN_FRAME_RECEIVE, CAN_TRANSMIT_COMPLETE, ALONE_SEND, BUS_OFF_RECOVERY, CAN_HEARTBEAT and EMCY_SEND (R287 to R292, R296,
R304): a good frame goes where the first matching filter element says and ends `ALONE`; an acknowledged frame leaves the queue, a failed
one is sent again up to its limit, and a count beyond 255 is `BUS_OFF`, from which the recovery starts anew.
NMT_START, NMT_STOP, NMT_RESET_NODE, NMT_RESET_COMMUNICATION, REFERENCE_MESSAGE_RECEIVE, REFERENCE_SEND, TIME_ROLE_W_EXPIRY and
USDO_SEGMENT_TIMEOUT (R292 to R296): a stopped node serves no USDO and sends no references; both resets restart the CAN engine and
nothing else; a pair of references gives the time at the first, a backup restarts timer W with each and takes the role when W ends, a
master gives way to a higher priority. -/
def Obligations.CanEngineFollowsItsLinkState : Prop :=
  (∀ (s : State) (f : CanFrame) (st : Nat) (q : CanOut) (b : Bool) (e : Emcy) (l : List Emcy), Supplied s →
    let c := s.can
    let beat := CanOut.heartbeat c.stopped
    let got := fun (x : Can) => .next { s.canTo x [] with svc := { s.svc with fresh := s.svc.fresh + 1 } }
    let heard : Can := { c with rec_ := c.rec_ - 1, passive := false }
    let act := c.action s.nodeId s.refBase f.ext f.ident
    (c.link = .online → c.tec < 128 → c.rec_ < 128 → f.error = none → f.ident < 0x800 →
      (f.remote = true → exec (.canFrameReceive f st) s = got heard)
      ∧ (f.remote = false → act = 0 → exec (.canFrameReceive f st) s = got { heard with rejects := c.rejects + 1 })
      ∧ (f.remote = false → act = 1 → f.ext = false → s.served f = true → frameBytes c.service + f.data.length ≤ 2048 →
        exec (.canFrameReceive f st) s = got { heard with service := c.service ++ [f] })
      ∧ (f.remote = false → act = 1 → s.served f = false →
        exec (.canFrameReceive f st) s = got { heard with rejects := c.rejects + 1 })
      ∧ (f.remote = false → act = 2 → frameBytes c.timeq + f.data.length ≤ 2048 →
        exec (.canFrameReceive f st) s = got { heard with timeq := c.timeq ++ [f] }))
    ∧ (c.link = .online → c.tec < 128 → c.rec_ + 9 < 128 → f.ident < 0x800 → f.error = some true →
      exec (.canFrameReceive f st) s = got { c with rec_ := c.rec_ + 9, passive := false })
    ∧ (c.link = .alone → c.queue = [] → c.tec < 128 → c.rec_ < 128 → f.error = none → f.ident < 0x800 → f.remote = true →
      ∃ t, exec (.canFrameReceive f st) s = .next t ∧ t.can.link = .online ∧ t.can.queue = [beat] ∧ t.out = [s.canLine beat])
    ∧ (c.link = .busOff → exec (.canFrameReceive f st) s = .next s.begin
      ∧ ∀ r, exec (.canTransmitComplete r) s = .next s.begin)
    ∧ (c.link = .online → c.queue = [.heartbeat b] → c.tec + 8 < 128 → c.rec_ < 128 →
      exec (.canTransmitComplete (.acked st)) s = .next (s.canTo
        { c with tec := c.tec - 1, passive := false, queue := [], attempts := 0, noAckRun := 0 } [])
      ∧ (c.attempts < s.retryLimit → exec (.canTransmitComplete (.ackError b)) s = .next (s.canTo
        { c with tec := c.tec + 8, passive := false, attempts := c.attempts + 1 } [s.canLine (.heartbeat b)]))
      ∧ (s.retryLimit ≤ c.attempts → c.noAckRun < 7 → exec (.canTransmitComplete (.ackError b)) s = .next (s.canTo { c with
          tec := c.tec + 8, passive := false, queue := [], attempts := 0, noAck := c.noAck + 1, noAckRun := c.noAckRun + 1 } []))
      ∧ (s.retryLimit ≤ c.attempts → 7 ≤ c.noAckRun → exec (.canTransmitComplete (.ackError b)) s = .next (s.canTo { c with
          tec := c.tec + 8, passive := false, queue := [], attempts := 0, noAck := c.noAck + 1, noAckRun := c.noAckRun + 1
          link := .alone, alones := c.alones + 1, aloneAt := s.svc.ms } []))
      ∧ exec (.canTransmitComplete .lostArbitration) s = .next (s.canTo c [s.canLine (.heartbeat b)]))
    ∧ (c.link = .online → c.queue = [q] → c.rec_ < 128 → c.passive = true → 247 < c.tec →
      exec (.canTransmitComplete (.otherError false)) s = .next (s.canTo { c with
        tec := c.tec + 8, link := .busOff, errLimit := c.errLimit + 1, queue := [], attempts := 0, prevStamp := none } []))
    ∧ (c.link = .alone → c.aloneAt + 1000 ≤ s.svc.ms → c.role ≠ .master → c.queue = [] → exec .aloneSend s =
      .next (s.canTo { c with aloneAt := s.svc.ms, queue := [beat] } [s.canLine beat]))
    ∧ (c.link ≠ .alone → exec .aloneSend s = .next s.begin)
    ∧ (c.link = .busOff → c.queue = [] → exec .busOffRecovery s = .next ((s.canTo { c with
        link := .online, busOffs := c.busOffs + 1, tec := 0, rec_ := 0, passive := false, noAckRun := 0
        beatAt := some s.svc.ms, queue := [beat] } [s.canLine beat]).queueEmcy 0x8140 0xFFFF))
    ∧ (c.link = .online → c.queue = [] → s.beatDue = true → exec .canHeartbeat s =
      .next (s.canTo { c with beatAt := some s.svc.ms, queue := [beat] } [s.canLine beat]))
    ∧ (s.beatDue = false → exec .canHeartbeat s = .next s.begin)
    ∧ (c.emcys = e :: l → s.emcyDue = true →
      let tuns := s.tunnels.map fun ip => Out.tunnelEmcy (BitVec.ofNat 32 ip) (tunnelBytes 3 0 e.bytes)
      (c.link = .alone → exec .emcySend s =
        .next (s.canTo { c with emcys := l, emcyAt := some s.svc.ms, noAck := c.noAck + 1 } tuns))
      ∧ (c.link = .online → c.queue = [] → exec .emcySend s =
        .next (s.canTo { c with emcys := l, emcyAt := some s.svc.ms, queue := [.emcy e] } (s.canLine (.emcy e) :: tuns))))
    ∧ (s.emcyDue = false ∨ c.emcys = [] → exec .emcySend s = .next s.begin))
  ∧ (∀ (s : State) (m k : RefMsg) (t0 : DTime) (cl : Client) (ip cs : Nat) (f : CanFrame), Supplied s →
    let c := s.can
    let x := s.refStamp m.stamp false
    let p := c.prevStamp.getD DTime.zero
    let ref := CanOut.reference s.masterPrio c.refNext c.prevStamp.isSome (isPtp s.time.source) p.ns p.s
    let sent : Can := { c with refNext := (c.refNext + 1) % 256, refDue := s.svc.ms + s.refPeriod, queue := [ref], refSeq := c.refNext }
    let now : Can := { c with
      timeq := c.timeq.tail, masterSeen := m.priority, lastRef := some (m, s.time.can.deviceAt x s.svc.ms) }
    (c.service = [f] → f.ident = 0 → (byteAt f.data 0).toNat = cs →
      (cs = 1 → exec .nmtStart s = .next (s.canTo { c with service := [], stopped := false } []))
      ∧ (cs = 2 → exec .nmtStop s = .next (s.canTo { c with service := [], stopped := true } [])))
    ∧ (c.service = [] → exec .nmtStart s = .next (s.canTo { c with stopped := false } [])
      ∧ exec .nmtStop s = .next (s.canTo { c with stopped := true } []))
    ∧ (c.stopped = true → f.ident ≠ 0 → s.served f = false)
    ∧ ((pstFilters s.pstLive).any filterBad = false →
      let fresh : Can := { Can.reset with
        role := if s.masterCapable then .backup else .slave
        wStart := s.svc.ms, emcys := c.emcys, filters := pstFilters s.pstLive, beatAt := some s.svc.ms
        queue := [.heartbeat false] }
      exec .nmtResetNode s = .next (s.canTo fresh [s.canLine (.heartbeat false)])
      ∧ exec .nmtResetCommunication s = .next (s.canTo fresh [s.canLine (.heartbeat false)]))
    ∧ (s.frameMode ≠ 0 → m.priority < 8 → m.seq < 256 → s.time.can.valid = true → (s.time.can.extend x s.svc.ms).isSome = true →
      (c.role = .backup → c.lastRef = none → exec (.referenceMessageReceive m) s =
        .next (s.canTo { now with wStart := s.svc.ms } []))
      ∧ (c.role = .slave → c.lastRef = some (k, t0) → pairs k m = true → exec (.referenceMessageReceive m) s =
        .next (s.canTo { now with pair := some (t0, ⟨m.prevS, m.prevNs⟩), pairMs := some s.svc.ms } []))
      ∧ (c.role = .master → c.lastRef = none → m.priority < s.masterPrio → exec (.referenceMessageReceive m) s =
        .next (s.canTo now []).toBackup))
    ∧ (s.frameMode = 0 → exec (.referenceMessageReceive m) s = .next (s.canTo { c with timeq := c.timeq.tail } []))
    ∧ (c.role = .master → s.ownTime = false → exec .referenceSend s = .next s.begin.toBackup)
    ∧ (c.role = .master → s.ownTime = true → c.link = .online → c.stopped = false → c.refDue ≤ s.svc.ms → c.queue = [] →
        exec .referenceSend s = .next (s.canTo sent [s.canLine ref]))
    ∧ (c.role ≠ .master ∨ (s.ownTime = true ∧ c.stopped = true) → exec .referenceSend s = .next s.begin)
    ∧ (s.begin.toBackup.can.role = .backup ∧ s.begin.toBackup.can.wStart = s.svc.ms)
    ∧ (c.role = .backup → c.wStart + s.wTime ≤ s.svc.ms →
      (s.ownTime = true → c.link = .online → c.stopped = false → exec .timeRoleWExpiry s =
        .next (State.sendRef (s.canTo { c with role := .master, prevStamp := none } [])))
      ∧ (s.ownTime = true → c.stopped = true → exec .timeRoleWExpiry s =
        .next (s.canTo { c with role := .master, prevStamp := none } []))
      ∧ (s.ownTime = false → exec .timeRoleWExpiry s = .next (s.canTo { c with wStart := s.svc.ms } [])))
    ∧ (s.svc.ms < c.wStart + s.wTime → exec .timeRoleWExpiry s = .next s.begin)
    ∧ exec (.usdoSegmentTimeout cl) s = .next (s.begin.abort cl 0x05040000)
    ∧ exec (.usdoSegmentTimeout (.udp ip)) s = .next (s.begin.emit (.abort (.udp ip) 0x05040000)))

/-- OBJECT_WRITE, RESET_MAXIMA and RESET_COUNTS (R22, R69, R300, R301, R307): a write to an object that cannot be written is
aborted, one below its level with 0x06010000, one outside its life-cycle state or switch with 0x08000021, a wrong length and a
value out of range with their codes; a right one is stored. A launch, a control and an element command become entries of SVC's stream
in `RUN`. -/
def Obligations.WritesAreCheckedInOrder : Prop :=
  ∀ (s : State) (cl : Client) (idx sub n : Nat) (d : List Byte) (v : Byte) (acc : Acc), Supplied s →
    let a := s.asked cl
    (∀ e, s.begin.access idx sub = .error e → exec (.objectWrite cl idx sub d) s = .next ((s.asked cl).abort cl e))
    ∧ (s.begin.access 0x2981 sub = .ok .rwc →
      ((s.client cl).level < 3 → exec (.objectWrite cl 0x2981 sub d) s = .next ((s.asked cl).abort cl 0x06010000))
      ∧ (3 ≤ (s.client cl).level → 2 ≤ s.life.state →
        exec (.objectWrite cl 0x2981 sub d) s = .next ((s.asked cl).abort cl 0x08000021))
      ∧ (3 ≤ (s.client cl).level → s.life.state < 2 → s.sw 4 = true → d.length ≠ 8 →
        exec (.objectWrite cl 0x2981 sub d) s = .next ((s.asked cl).abort cl 0x06070010))
      ∧ (3 ≤ (s.client cl).level → s.life.state < 2 → s.sw 4 = true → d.length = 8 →
        exec (.objectWrite cl 0x2981 sub d) s = .next (({ s.asked cl with pst := pstSet s.pst 0x2981 sub d }).accept cl)))
    ∧ (s.mstate = .run → acc ≠ .const → acc ≠ .ro →
      (s.begin.access 0x2330 1 = .ok acc → 1 ≤ (s.client cl).level → d.length = 4 → 1 ≤ leAt d 3 1 → leAt d 3 1 ≤ 5 →
        leAt d 0 3 < 4096 → exec (.objectWrite cl 0x2330 1 d) s =
          .next ((a.svcEntry (.elem (leAt d 3 1) (leAt d 0 3))).accept cl))
      ∧ (s.begin.access (0x3000 + n) 3 = .ok acc → n < 96 → 1 ≤ (s.client cl).level → d.length = 1 → 1 ≤ ofLe d → ofLe d ≤ 4 →
        exec (.objectWrite cl (0x3000 + n) 3 d) s =
          .next (a.postEntry cl n false fun k => .control k cl (a.client cl).level n (ofLe d)))
      ∧ (s.begin.access 0x3100 1 = .ok acc → 12 ≤ d.length → d.length ≤ 64 →
        (a.launchBar (leAt d 0 2) (launchOf cl d) = none → exec (.objectWrite cl 0x3100 1 d) s =
          .next (a.postEntry cl (launchOf cl d).slot true fun k => .launch k (leAt d 0 2) (a.client cl).level (launchOf cl d)))
        ∧ (∀ e, a.launchBar (leAt d 0 2) (launchOf cl d) = some e →
          exec (.objectWrite cl 0x3100 1 d) s = .next (a.refuse cl e))))
    ∧ (1 ≤ (s.client cl).level → exec (.resetMaxima cl 1) s = .next (({ s.asked cl with
        vital := { s.vital with p2Max := 0, p3Max := 0, spreadMax := 0 } }).accept cl))
    ∧ (1 ≤ (s.client cl).level → exec (.resetCounts cl 1) s = .next (({ s.asked cl with
        kernel := { s.kernel with stats := ⟨0, 0, 0, 0, 0, 0, 0, 0, 0, s.kernel.stats.lastUsed⟩ } }).accept cl))
    ∧ ((s.client cl).level = 0 → exec (.resetMaxima cl v) s = .next ((s.asked cl).abort cl 0x06010000)
        ∧ exec (.resetCounts cl v) s = .next ((s.asked cl).abort cl 0x06010000))
    ∧ (1 ≤ (s.client cl).level → v ≠ 1 → exec (.resetMaxima cl v) s = .next ((s.asked cl).abort cl 0x06090030))

/-- LOGIN_REQUEST, LOGIN_RESPONSE, CHALLENGE_EXPIRY, LOGIN_BLOCK_EXPIRY and IDLE_LOGOUT (R300, R302, R303): a request places a
fresh challenge; the right response within 30 s grants the level, a wrong one is counted and the third within 60 s blocks
the identity for 60 s; idle clients are logged out. The value of the right response rests on log entry 39. -/
def Obligations.LoginGrantsAndBlocks : Prop :=
  ∀ (s : State) (cl : Client) (n : Byte) (resp : W64), Supplied s →
    let a := s.asked cl
    let now := s.svc.ms
    (n = 0 → exec (.loginRequest cl n) s = .next ((a.modClient cl fun c => { c with level := 0, challenge := none }).accept cl))
    ∧ (3 < n.toNat → exec (.loginRequest cl n) s = .next (a.abort cl 0x06090030))
    ∧ (1 ≤ n.toNat → n.toNat ≤ 3 → (s.client cl).blocked = none → exec (.loginRequest cl n) s = .next (
      (State.modClient { a with svc := { s.svc with fresh := s.svc.fresh + 1 } } cl fun c =>
        { c with challenge := some (n.toNat, Config.challenge s.svc.fresh, now) }).accept cl))
    ∧ (∀ t, (s.client cl).blocked = some t → now < t → exec (.loginResponse cl resp) s = .next (a.loginResult cl 0x0F04))
    ∧ ((s.client cl).blocked = none → (s.client cl).challenge = none →
      exec (.loginResponse cl resp) s = .next (a.loginResult cl 0x0F05))
    ∧ (∀ l k t, (s.client cl).blocked = none → (s.client cl).challenge = some (l, k, t) →
      let b := a.modClient cl fun c => { c with challenge := none }
      (t + 30000 < now → exec (.loginResponse cl resp) s = .next (b.loginResult cl 0x0F02))
      ∧ (k ≠ [] → now ≤ t + 30000 → resp ≠ s.loginWord cl l k →
        exec (.loginResponse cl resp) s = .next (b.wrongResponse cl))
      ∧ (k ≠ [] → now ≤ t + 30000 → l ≠ 3 → noKey (s.levelKey l) = false → resp = s.loginWord cl l k →
        b.levelSwitch cl l = true → exec (.loginResponse cl resp) s =
          .next ((b.modClient cl fun c => { c with level := l }).loginResult cl 0))
      ∧ (t + 30000 ≤ now → exec (.challengeExpiry cl) s =
          .next (s.begin.modClient cl fun c => { c with challenge := some (l, [], t) })))
    ∧ (∀ t, (s.client cl).blocked = some t → t ≤ now →
      exec (.loginBlockExpiry cl) s = .next (s.begin.modClient cl fun c => { c with blocked := none, wrong := [] }))
    ∧ ((s.client cl).blocked = none → exec (.loginBlockExpiry cl) s = .next s.begin)
    ∧ ((s.client cl).lastReq + 600000 ≤ now → exec (.idleLogout cl) s =
      .next (s.begin.modClient cl fun c => { c with level := 0 }))
    ∧ (now < (s.client cl).lastReq + 600000 → exec (.idleLogout cl) s = .next s.begin)
    ∧ (∀ t : State, (2 ≤ ((t.client cl).wrong.filter fun x => t.svc.ms < x + 60000).length →
      ((t.wrongResponse cl).client cl).blocked = some (t.svc.ms + 60000)))

/-- TSU_SNAPSHOT, SNAPSHOT_TIMEOUT, TIME_MEASUREMENT and SET_TIME (R309, R313, R321): stamps are valid from the second
snapshot on and no longer after 1 s without one; a measurement beyond 1 ms steps device time, a smaller one slews it, by at most 100 ns in
each millisecond; time is set at EXPERT while no better source is selected.
SOURCE_HOLD_EXPIRY, SOURCE_QUALIFIED, CALENDAR_COMPARE and AUTO_CALIBRATION (R312, R315): the source changes 2 s after it
was lost, or for a better one usable for 10 s; the calendar is reset beyond 61 µs; with AUTO_CAL and 4,096 s of PTP the
trim is written within its range. -/
def Obligations.DeviceTimeIsMeasuredAndChanged : Prop :=
  (∀ (s : State) (u : Tsu) (n a : W32) (off : Int) (cl : Client) (ns sec : Nat), Supplied s →
    let x := s.time.tsu u
    let now := s.svc.ms
    let ppb := s.time.rate + 1000 * s.time.slewMs
    exec (.tsuSnapshot u n a) s = .next (s.timeTo (s.time.setTsu u { x with
      valid := decide (1 ≤ x.run), run := x.run + 1, wraps := if n = 0 then x.wraps + 1 else x.wraps
      counter := n, arrival := a, lastMs := now, devAt := s.time.now, gone := if 1 ≤ x.run then (n - x.counter).toNat else 0
      devGone := if 1 ≤ x.run then (((a - x.arrival).toNat : Int) * (1000000000 + ppb) / 1000000000).toNat else 0 }) [])
    ∧ (1 ≤ x.run → x.lastMs + 1000 ≤ now → exec (.snapshotTimeout u) s =
      .next ((s.timeTo (s.time.setTsu u { x with valid := false, run := 0 }) []).raise 0x1C1))
    ∧ (now < x.lastMs + 1000 → exec (.snapshotTimeout u) s = .next s.begin)
    ∧ (s.time.source = .none → exec (.timeMeasurement off) s = .next s.begin)
    ∧ (s.time.source ≠ .none → -1000000 ≤ off → off ≤ 1000000 → ∃ t, exec (.timeMeasurement off) s = .next t
      ∧ t.time.offset = off ∧ t.time.slew = -off ∧ t.time.now = s.time.now
      ∧ t.time.slewMs = max (-100) (min 100 (-off)) ∧ t.time.rate = Config.rateCorr s.svc.fresh ∧ t.kernel = s.kernel ∧ t.vital = s.vital)
    ∧ (s.time.source ≠ .none → 1000000 < off ∨ off < -1000000 → ∃ t, exec (.timeMeasurement off) s = .next t
      ∧ t.time.now = s.time.now.add (-off) ∧ t.time.slew = 0 ∧ t.time.steps = s.time.steps + 1 ∧ t.kernel = s.kernel)
    ∧ ((s.time.source = .calendar ∨ s.time.source = .none) → 2 ≤ (s.client cl).level → ns < 1000000000 → sec < 2 ^ 48 →
      ∃ t : State, exec (.setTime cl ns sec) s = .next (t.accept cl) ∧ t.time.now = ⟨sec, ns⟩ ∧ t.time.calValid = true
        ∧ t.time.calendar = sec * 1000000000 + ns ∧ t.kernel = s.kernel)
    ∧ (s.time.source = .ptpA → 2 ≤ (s.client cl).level → ns < 1000000000 → sec < 2 ^ 48 →
      exec (.setTime cl ns sec) s = .next ((s.asked cl).abort cl 0x08000020)))
  ∧ (∀ (s : State) (src : TimeSource) (cal m : Nat) (err : Int), Supplied s →
    let t := s.begin.track
    (t.time.lostMs = some m → m + 2000 ≤ s.svc.ms → exec .sourceHoldExpiry s = .next (t.selectSource t.nextSource))
    ∧ (t.time.lostMs = none → exec .sourceHoldExpiry s = .next t)
    ∧ (t.usableFor src = some m → 10000 ≤ m → prio src < prio s.time.source →
      exec (.sourceQualified src) s = .next (t.selectSource src))
    ∧ (t.usableFor src = some m → prio s.time.source ≤ prio src → exec (.sourceQualified src) s = .next t)
    ∧ (src ≠ t.time.source → (t.selectSource src).time.source = src
        ∧ (t.selectSource src).time.switches = s.time.switches + 1 ∧ (t.selectSource src).time.now = s.time.now)
    ∧ ((isPtp s.time.source = true ∨ s.time.source = .can) → cal + 61000 < s.time.now.nanos → exec (.calendarCompare cal) s =
      .next (s.timeTo { s.time with calendar := s.time.now.nanos, calValid := true } []))
    ∧ (cal ≤ s.time.now.nanos + 61000 → s.time.now.nanos ≤ cal + 61000 →
      exec (.calendarCompare cal) s = .next (s.timeTo { s.time with calendar := cal } []))
    ∧ (s.time.ptpMs = some m → m + 4096000 ≤ s.svc.ms → pstNat s.pst 0x2A80 3 1 = 1 → exec (.autoCalibration err) s =
      .next { s.timeTo { s.time with trimmed := true, ptpMs := some s.svc.ms } [] with
        pst := pstSet s.pst 0x2A80 2 (le2s (max (-300) (min 300 err))) })
    ∧ (s.time.ptpMs = none → exec (.autoCalibration err) s = .next s.begin))

/-- TOKEN_REFILL, RECORDER_SCRUB, MARKER and REVERT (R367, R373 to R375): a bucket that is not full gains one token at its refill time; an
uncorrectable word fences its region, which holds no record from then on, under the next last-resort register; a marker
is recorded; a reverted list takes the image's bucket.
ADVANCE_NEXT, ADVANCE_OLDEST, ADVANCE_NEWEST, CURSOR and EXPORT_IDLE (R370, R371): a client's own cursor moves and nothing
else; an advance past the last record of its export ends that `DONE`, and 60 s without one end it FAILED with 0x0601. -/
def Obligations.RecorderIsRefilledFencedAndRead : Prop :=
  (∀ (s : State) (cl : Client), Supplied s →
    (∀ code, (s.rcd.buckets.find? (·.code == code) = none → exec (.tokenRefill code) s = .next s.begin)
      ∧ ∀ b, s.rcd.buckets.find? (·.code == code) = some b →
        (b.tokens < (s.rcd.bucketCfg code).1 → b.at_ + (s.rcd.bucketCfg code).2 ≤ s.svc.ms →
          let r := s.rcd.setTokens code (b.tokens + 1) (b.at_ + (s.rcd.bucketCfg code).2)
          exec (.tokenRefill code) s = .next { s.begin with rcd := r } ∧ r.tokens code = s.rcd.tokens code + 1
            ∧ ∀ c, c ≠ code → r.tokens c = s.rcd.tokens c)
        ∧ (((s.rcd.bucketCfg code).1 ≤ b.tokens ∨ s.svc.ms < b.at_ + (s.rcd.bucketCfg code).2) →
          exec (.tokenRefill code) s = .next s.begin))
    ∧ (∀ p n, s.rcd.fenced.contains (p / 64) = false → p / 64 * 64 < recPlaces s.rcd.size →
      ∃ t : State, exec (.recorderScrub [p] n) s = .next t ∧ (p / 64) ∈ t.rcd.fenced ∧ (∀ x ∈ t.rcd.recs, x.1 / 64 ≠ p / 64)
        ∧ t.rcd.lrLast = s.rcd.lrLast % 8 + 1 ∧ t.rcd.corrected = s.rcd.corrected + n)
    ∧ (∀ n, exec (.recorderScrub [] n) s = .next { s.begin with rcd := { s.rcd with corrected := s.rcd.corrected + n } })
    ∧ (∀ v, 1 ≤ (s.client cl).level → exec (.marker cl v) s = .next (((s.asked cl).record 0x8000 v.toNat 0).accept cl))
    ∧ (2 ≤ (s.client cl).level → ∃ t : State, exec (.revert cl 1) s = .next (t.accept cl)
      ∧ (vCode s.rcd.selCode = false → t.rcd.bucketCfg s.rcd.selCode = (16, 1000))
      ∧ (∀ c, c ≠ s.rcd.selCode → t.rcd.bucketCfg c = s.rcd.bucketCfg c)))
  ∧ (∀ (s : State) (cl : Client), Supplied s →
    let sets := fun (n : Nat) => State.accept { s.asked cl with rcd := s.rcd.setCursor cl n } cl
    let c := s.rcd.cursorOf cl
    let next := if s.rcd.newest < c then c else nextRseq c
    (∀ (r : Recorder) (n : Nat), (r.setCursor cl n).cursorOf cl = n)
    ∧ (1 ≤ (s.client cl).level →
      (∀ v, exec (.cursor cl v) s = .next (sets v.toNat))
      ∧ exec (.advanceOldest cl) s = .next (sets s.rcd.oldest)
      ∧ ((∀ p, s.rcd.pin = some p → p.client ≠ cl) →
        exec (.advanceNext cl) s = .next (sets next) ∧ exec (.advanceNewest cl) s = .next (sets s.rcd.newest))
      ∧ (∀ p, s.rcd.pin = some p → p.client = cl → p.lo ≤ next → p.hi < next → p.slot < s.kernel.slots.length →
          (s.kernel.slot p.slot).state = .running →
        ∃ t : State, exec (.advanceNext cl) s = .next (t.accept cl) ∧ (t.kernel.slot p.slot).state = .done ∧ t.rcd.pin = none
          ∧ (t.kernel.slot p.slot).result = 0 ∧ (t.kernel.slot p.slot).data.length = 12))
    ∧ (∀ p, s.rcd.pin = some p → p.lastMs + 60000 ≤ s.svc.ms → exec .exportIdle s = .next (State.slotRecords
        { s.begin with kernel := s.kernel.finish p.slot .failed 0x0601 (s.exported p), rcd := { s.rcd with pin := none } }))
    ∧ (∀ p, s.rcd.pin = some p → s.svc.ms < p.lastMs + 60000 → exec .exportIdle s = .next s.begin)
    ∧ (s.rcd.pin = none → exec .exportIdle s = .next s.begin))

/-- RECORDER_CLEAR (R372): at EXPERT in MAINTENANCE or COMMISSIONING, with no export running, the word 0xC1EA empties the ring,
sets LOST to 0, keeps the fences and RSEQ counting, and records CLEARED with cause 1 (it stands alone in the ring unless the
recorder is stopped or that record finds no place or token and is itself counted lost); in other life-cycle states,
while an export runs, below EXPERT and with another word it is aborted. -/
def Obligations.RecorderClearEmptiesTheRing : Prop :=
  ∀ (s : State) (cl : Client), Supplied s →
    (2 ≤ (s.client cl).level → (s.life.state = 1 ∨ s.life.state = 3) →
      ((∀ x ∈ s.kernel.slots, x.op = 0x0601 → x.state ≠ .running) →
        ∃ t : State, exec (.recorderClear cl 0xC1EA) s = .next (t.accept cl) ∧ t.rcd.fenced = s.rcd.fenced
          ∧ t = State.record ({ s.asked cl with rcd := { s.rcd with recs := [], lost := 0, next := 0 } }) 6 1 0
          ∧ (s.rcd.stopped = true → t.rcd.recs = [] ∧ t.rcd.lost = 0 ∧ t.rcd.rseq = s.rcd.rseq)
          ∧ (∀ p, s.rcd.stopped = false → (2 ≤ s.rcd.size ∨ 0 < s.rcd.tokens 6) → s.rcd.freePlace 513 0 = some p →
            t.rcd.lost = 0 ∧ t.rcd.rseq = nextRseq s.rcd.rseq
            ∧ ∃ c, t.rcd.recs = [(p, c)] ∧ c.trigger = 6 ∧ c.source = 1 ∧ c.rseq = s.rcd.rseq))
      ∧ ((∃ x ∈ s.kernel.slots, x.op = 0x0601 ∧ x.state = .running) →
        exec (.recorderClear cl 0xC1EA) s = .next ((s.asked cl).abort cl 0x08000022))
      ∧ (∀ v, v ≠ 0xC1EA → exec (.recorderClear cl v) s = .next ((s.asked cl).abort cl 0x06090030)))
    ∧ (2 ≤ (s.client cl).level → s.life.state ≠ 1 → s.life.state ≠ 3 →
      ∀ v, exec (.recorderClear cl v) s = .next ((s.asked cl).abort cl 0x08000021))
    ∧ ((s.client cl).level < 2 → ∀ v, exec (.recorderClear cl v) s = .next ((s.asked cl).abort cl 0x06010000))

/-- LC_REQUEST (R378): a transition of the table is taken at its level, with its switches and its condition, and pends; each
refusal has its code; the current state withdraws it; nothing leads out of `RETIRED`. -/
def Obligations.LifeCycleRequestsFollowTheirTable : Prop :=
  ∀ (s : State) (cl : Client) (v : Byte), Supplied s →
    let go := fun (code : Nat) => (State.abort { s.asked cl with life := { s.life with result := code } } cl 0x08000020)
    (∀ need three cond, s.lcRule v.toNat = some (need, three, cond) →
      ((s.client cl).level < need → exec (.lcRequest cl v) s = .next ((s.asked cl).abort cl 0x06010000))
      ∧ (need ≤ (s.client cl).level → (s.sw 6 = false ∨ (three = true ∧ s.sw 3 = false)) →
        exec (.lcRequest cl v) s = .next (go 0x1002))
      ∧ (need ≤ (s.client cl).level → s.sw 6 = true → (three = true → s.sw 3 = true) → cond = false →
        exec (.lcRequest cl v) s = .next (go 0x1003))
      ∧ (need ≤ (s.client cl).level → s.sw 6 = true → (three = true → s.sw 3 = true) → cond = true →
        exec (.lcRequest cl v) s =
          .next (State.accept { s.asked cl with life := { s.life with pending := some v.toNat, result := 0 } } cl)))
    ∧ (s.lcRule v.toNat = none → v.toNat ≤ 4 → v.toNat ≠ s.life.state → exec (.lcRequest cl v) s = .next (go 0x1001))
    ∧ (v.toNat = s.life.state → s.life.state < 4 → 2 ≤ (s.client cl).level → exec (.lcRequest cl v) s =
        .next (State.accept { s.asked cl with life := { s.life with pending := none, result := 0 } } cl))
    ∧ (s.life.state = 4 → v.toNat ≤ 4 → exec (.lcRequest cl v) s = .next (go 0x1001))

/-- SW1_CHANGE, SW1_WORD_ENTRY, SW1_MISMATCH, SELFTEST_SLICE_END and CVU_KAT (R379 to R385, R395): a contact set enters its
reader's word, closed when its contacts say so; SVC's word goes to the channels; a difference that lasts is agreed; a
slice's result enters the run, and the last slice ends it; a known-answer test puts its unit out of service or back. -/
def Obligations.SwitchSelfTestAndUnitsAreRead : Prop :=
  ∀ (s : State), Supplied s →
    (∀ rd pos c, 1 ≤ pos → pos ≤ 8 → ∃ t : State, exec (.sw1Change rd pos c) s = .next t
      ∧ (rd = .svc → t.life.sw1Svc = setBit s.life.sw1Svc (pos - 1) (c.no && !c.nc) ∧ t.life.sw1Ch = s.life.sw1Ch)
      ∧ (∀ x, rd = .ch x → t.life.sw1Ch.get x = setBit (s.life.sw1Ch.get x) (pos - 1) (c.no && !c.nc)
        ∧ t.life.sw1Svc = s.life.sw1Svc))
    ∧ exec .sw1WordEntry s = .next (s.begin.svcEntry (.sw1 s.life.sw1Svc))
    ∧ (∀ ch, s.mstate = .run → ch ∈ s.sw1Raisers → (if s.vital.ladder == .dual then 1 else 2) ≤ s.sw1Raisers.length →
      s.life.mismatch = false → ∃ t : State, exec (.sw1Mismatch ch) s = .next t ∧ t.life.mismatch = true
        ∧ 0x1E8 ∈ t.col.asserted)
    ∧ (∀ ch, s.sw1Raisers.contains ch = false → exec (.sw1Mismatch ch) s = .next s.begin)
    ∧ (∀ n r, s.life.test.slot = some n → (s.kernel.slot n).state = .suspended → exec (.selftestSliceEnd r) s = .next s.begin)
    ∧ (∀ bt i rest n r, s.life.test.todo = (bt, i) :: rest → s.life.test.slot = some n → (s.kernel.slot n).state = .running →
        s.life.test.abort = false → s.life.test.cancel = false →
      let x := s.life.test.slice bt rest r
      (rest ≠ [] → ∃ t : State, exec (.selftestSliceEnd r) s = .next t ∧ t.life.test = x)
      ∧ (rest = [] → r.ok = true → n < s.kernel.slots.length → (s.kernel.slot n).op ≠ 0x0901 →
        ∃ t : State, exec (.selftestSliceEnd r) s = .next t ∧ (t.kernel.slot n).data = x.data ∧ t.life.test.slot = none
          ∧ (t.kernel.slot n).state = (if x.run = x.passed then .done else .failed)
          ∧ (t.kernel.slot n).result = (if x.run = x.passed then 0 else 0x0401)))
    ∧ (∀ n w, n < 12 → s.cvus.length = 12 → ∃ t : State, exec (.cvuKat n w) s = .next t
      ∧ (t.cvu n).pass = decide (w = 0xE3069283) ∧ (t.cvu n).result = w ∧ (t.cvu n).units = (s.cvu n).units + 1
      ∧ (t.cvu n).out = decide (w ≠ 0xE3069283) ∧ (∀ m, m ≠ n → t.cvu m = s.cvu m))

/-- BLOCK_WRITE (R401): the next block is appended, bytes already received are accepted without effect, any other block, and one of a
client whose transfers take none, is refused with 0x050A; past its header a transfer grows by the block. -/
def Obligations.BlocksAreTakenInOrder : Prop :=
  ∀ (s : State) (cl : Client) (offset : Nat) (data : List Byte), Supplied s → 2 ≤ (s.client cl).level → offset < 2 ^ 32 →
    1 ≤ data.length → data.length ≤ 1024 →
    let no := (State.abort { s.asked cl with upd := { s.upd with result := 0x050A } } cl 0x08000020)
    ((∀ t ∈ s.upd.transfers, t.client ≠ cl ∨ t.writing = true ∨ (s.kernel.slot t.slot).state = .suspended) →
      exec (.blockWrite cl offset data) s = .next no)
    ∧ (∀ t, s.window cl = some t →
      (offset = t.got.length → t.got.length + data.length ≤ t.len →
        exec (.blockWrite cl offset data) s = .next (((s.asked cl).appendBlock t data).accept cl))
      ∧ (offset = t.got.length → t.len < t.got.length + data.length → exec (.blockWrite cl offset data) s = .next no)
      ∧ (offset < t.got.length → slice t.got offset data.length = data → exec (.blockWrite cl offset data) s =
        .next (State.accept { s.asked cl with upd := s.upd.putTransfer { t with lastMs := s.svc.ms } } cl))
      ∧ (t.got.length < offset → exec (.blockWrite cl offset data) s = .next no)
      ∧ t.client = cl ∧ t.writing = false ∧ t ∈ s.upd.transfers
      ∧ (128 ≤ t.got.length → (s.appendBlock t data).upd = s.upd.putTransfer { t with
          got := t.got ++ data, lastMs := s.svc.ms, writing := (t.got ++ data).length = t.len }))
    ∧ (∀ n, (s.asked cl).check cl .expert (1 ≤ data.length && data.length ≤ 1024 && n < 2 ^ 32) true
      = if n < 2 ^ 32 then none else some 0x06070010)

/-- IMAGE_WRITE_COMPLETE and TRANSFER_IDLE (R402, R403): a written image that reads back stands `UNCHECKED` in the inactive slot, its
type `PENDING` or `STAGED`, and the operation is DONE; a failed one is FAILED with 0x0507, an idle transfer with 0x0509.
IMAGE_CONFIRM, IMAGE_WITHDRAW and AUTO_CONFIRM (R403, R405): in `RUN` an `UNCONFIRMED` type is confirmed by its code or after its
hours, and a `STAGED` or `PENDING` one withdrawn; anything else is refused with 0x050B. -/
def Obligations.ImagesAreStagedAndConfirmed : Prop :=
  (∀ (s : State) (t : Transfer), Supplied s → (s.kernel.slot t.slot).state = .running → t.slot < s.kernel.slots.length →
    (s.upd.transfers.find? (·.writing) = some t →
      (∀ l, badPackages t.typ l = [] →
        ∃ u : State, exec (.imageWriteComplete l) s = .next u ∧ (∀ y ∈ u.upd.transfers, y.slot ≠ t.slot)
          ∧ ((u.upd.img t.typ).slot (s.upd.img t.typ).inactive).state = .unchecked
          ∧ ((u.upd.img t.typ).slot (s.upd.img t.typ).inactive).data = t.got
          ∧ (u.upd.img t.typ).act = (if pstNat s.pst 0x2F80 1 0 = 0 then .pending else .staged)
          ∧ (u.kernel.slot t.slot).state = .done ∧ (u.kernel.slot t.slot).result = 0)
      ∧ (∀ l, badPackages t.typ l ≠ [] →
        ∃ u : State, exec (.imageWriteComplete l) s = .next u ∧ (∀ y ∈ u.upd.transfers, y.slot ≠ t.slot)
          ∧ ((u.upd.img t.typ).slot (s.upd.img t.typ).inactive).data = []
          ∧ (u.kernel.slot t.slot).state = .failed ∧ (u.kernel.slot t.slot).result = 0x0507))
    ∧ ((∀ y ∈ s.upd.transfers, y.writing = false) → ∀ l, exec (.imageWriteComplete l) s = .next s.begin)
    ∧ (s.upd.transfers.find? (fun y => !y.writing && y.lastMs + 60000 ≤ s.svc.ms) = some t →
      ∃ u : State, exec .transferIdle s = .next u ∧ (∀ y ∈ u.upd.transfers, y.slot ≠ t.slot)
        ∧ (u.kernel.slot t.slot).state = .failed ∧ (u.kernel.slot t.slot).result = 0x0509)
    ∧ ((∀ y ∈ s.upd.transfers, y.writing = true ∨ s.svc.ms < y.lastMs + 60000) → exec .transferIdle s = .next s.begin))
  ∧ (∀ (s : State) (cl : Client) (c : Byte) (t : ImageType), Supplied s → ImageType.ofCode c.toNat = some t →
    let no := (State.abort { s.asked cl with upd := { s.upd with result := 0x050B } } cl 0x08000020)
    (2 ≤ (s.client cl).level →
      (s.mstate = .run → (s.upd.img t).act = .unconfirmed →
        exec (.imageConfirm cl c) s = .next (State.accept { s.asked cl with upd := s.upd.confirm t } cl))
      ∧ ((s.mstate ≠ .run ∨ (s.upd.img t).act ≠ .unconfirmed) → exec (.imageConfirm cl c) s = .next no)
      ∧ (((s.upd.img t).act = .staged ∨ (s.upd.img t).act = .pending) → exec (.imageWithdraw cl c) s =
        .next (State.accept { s.asked cl with upd := s.upd.mod t fun i => { i with act := .none, event := 6 } } cl))
      ∧ ((s.upd.img t).act ≠ .staged → (s.upd.img t).act ≠ .pending → exec (.imageWithdraw cl c) s = .next no))
    ∧ ((s.upd.confirm t).img t).act = .none
    ∧ (s.mstate = .run → pstNat s.pst 0x2F80 2 0 ≠ 0 → pstNat s.pst 0x2F80 2 0 * 3600000 ≤ s.upd.runMs →
      (s.upd.img t).act = .unconfirmed → exec (.autoConfirm t) s = .next { s.begin with upd := s.upd.confirm t })
    ∧ (pstNat s.pst 0x2F80 2 0 = 0 → exec (.autoConfirm t) s = .next s.begin))
end

