-- ==== Sys2Proof/Laws/State.lean ====
section
/-! SUPPORT. One lemma per field per update of the state, and the laws of four-fold values and numbered lists. -/

namespace Sys2Proof.Machine

/-! ## Four-fold values and numbered lists -/

@[simp] theorem quad_set_set {α : Type} (q : Quad α) (ch : Ch) (v w : α) : (q.set ch v).set ch w = q.set ch w := by cases ch <;> rfl
theorem quad_modify_eq {α : Type} (q : Quad α) (ch : Ch) (f : α → α) : q.modify ch f = q.set ch (f (q.get ch)) := rfl
@[simp] theorem quad_set_get {α : Type} (q : Quad α) (ch : Ch) : q.set ch (q.get ch) = q := by cases ch <;> rfl
@[simp] theorem modNth_length {α : Type} (l : List α) (i : Nat) (f : α → α) : (modNth l i f).length = l.length := by
  induction l generalizing i with
  | nil => cases i <;> rfl
  | cons a t ih => cases i <;> simp [modNth, ih]

/-! ## Commands with and without control supply (R419) -/

theorem live_on {s : State} (h : s.supply.on = true) (f : State → State) : s.live f = f s.begin := by simp [State.live, h]
theorem live_off {s : State} (h : s.supply.on = false) (f : State → State) : s.live f = s.begin := by simp [State.live, h]

/-! ## One channel, one bank -/

@[simp] theorem chTo_ch (s : State) (ch : Ch) (c : Channel) (o : List Out) : (s.chTo ch c o).ch ch = c := by simp [State.ch, State.chTo, State.vitalTo]
@[simp] theorem chTo_ch_ne (s : State) (ch e : Ch) (c : Channel) (o : List Out) (h : e ≠ ch) : (s.chTo ch c o).ch e = s.ch e := by
  simp [State.ch, State.chTo, State.vitalTo, h]
@[simp] theorem begin_ch (s : State) (ch : Ch) : s.begin.ch ch = s.ch ch := rfl
@[simp] theorem begin_hw (s : State) (bk : Bank) : s.begin.hw bk = s.hw bk := rfl
@[simp] theorem begin_dat (s : State) : s.begin.dat = s.dat := rfl
@[simp] theorem begin_env (s : State) : s.begin.env = s.env := rfl
@[simp] theorem begin_runs (s : State) : s.begin.runs = s.runs := rfl
theorem begin_modCh (s : State) (ch : Ch) (f : Channel → Channel) : s.begin.modCh ch f = s.chTo ch (f (s.ch ch)) [] := rfl
theorem begin_modV (s : State) (f : Vital → Vital) : s.begin.modV f = s.vitalTo (f s.vital) [] := rfl
theorem begin_modHw {s : State} {bk : Bank} (h : s.bankUp bk = true) (f : BankHw → BankHw) :
    s.begin.modHw bk f = s.bankTo bk (f (s.hw bk)) [] := by
  have h' : s.begin.bankUp bk = true := h
  simp only [State.modHw, h', if_true]
  rfl
theorem modHw_off {s : State} {bk : Bank} (h : s.bankUp bk = false) (f : BankHw → BankHw) : s.modHw bk f = s := by
  simp only [State.modHw, h, Bool.false_eq_true, if_false]
@[simp] theorem chTo_modCh (s : State) (ch : Ch) (c : Channel) (o : List Out) (f : Channel → Channel) :
    (s.chTo ch c o).modCh ch f = s.chTo ch (f c) o := by
  simp [State.modCh, State.modV, State.chTo, State.vitalTo, quad_modify_eq]
@[simp] theorem modCh_ch (s : State) (ch : Ch) (f : Channel → Channel) : (s.modCh ch f).ch ch = f (s.ch ch) := by
  simp [State.ch, State.modCh, State.modV]
@[simp] theorem modCh_ch_ne (s : State) (ch e : Ch) (f : Channel → Channel) (h : e ≠ ch) : (s.modCh ch f).ch e = s.ch e := by
  simp [State.ch, State.modCh, State.modV, h]
@[simp] theorem bankTo_hw (s : State) (bk : Bank) (b : BankHw) (o : List Out) : (s.bankTo bk b o).hw bk = b := by
  simp [State.hw, State.bankTo]

/-! ## One lemma per field per update -/

@[simp] theorem begin_pending (s : State) : (s.begin).pending = s.pending := rfl
@[simp] theorem begin_out (s : State) : (s.begin).out = [] := rfl
@[simp] theorem begin_mstate (s : State) : (s.begin).mstate = s.mstate := rfl
@[simp] theorem begin_svc (s : State) : (s.begin).svc = s.svc := rfl
@[simp] theorem begin_vital (s : State) : (s.begin).vital = s.vital := rfl
@[simp] theorem begin_kernel (s : State) : (s.begin).kernel = s.kernel := rfl
@[simp] theorem begin_sdi (s : State) : (s.begin).sdi = s.sdi := rfl
@[simp] theorem begin_col (s : State) : (s.begin).col = s.col := rfl
@[simp] theorem begin_lock (s : State) : (s.begin).lock = s.lock := rfl
@[simp] theorem begin_rcd (s : State) : (s.begin).rcd = s.rcd := rfl
@[simp] theorem begin_sens (s : State) : (s.begin).sens = s.sens := rfl
@[simp] theorem begin_banks (s : State) : (s.begin).banks = s.banks := rfl
@[simp] theorem begin_ring (s : State) : (s.begin).ring = s.ring := rfl
@[simp] theorem begin_nets (s : State) : (s.begin).nets = s.nets := rfl
@[simp] theorem begin_can (s : State) : (s.begin).can = s.can := rfl
@[simp] theorem begin_clients (s : State) : (s.begin).clients = s.clients := rfl
@[simp] theorem begin_time (s : State) : (s.begin).time = s.time := rfl
@[simp] theorem begin_twin (s : State) : (s.begin).twin = s.twin := rfl
@[simp] theorem begin_life (s : State) : (s.begin).life = s.life := rfl
@[simp] theorem begin_cvus (s : State) : (s.begin).cvus = s.cvus := rfl
@[simp] theorem begin_upd (s : State) : (s.begin).upd = s.upd := rfl
@[simp] theorem begin_supply (s : State) : (s.begin).supply = s.supply := rfl
@[simp] theorem begin_pst (s : State) : (s.begin).pst = s.pst := rfl
@[simp] theorem begin_pstLive (s : State) : (s.begin).pstLive = s.pstLive := rfl

@[simp] theorem emit_pending (s : State) (o : Out) : (s.emit o).pending = s.pending := rfl
@[simp] theorem emit_out (s : State) (o : Out) : (s.emit o).out = s.out ++ [o] := rfl
@[simp] theorem emit_mstate (s : State) (o : Out) : (s.emit o).mstate = s.mstate := rfl
@[simp] theorem emit_svc (s : State) (o : Out) : (s.emit o).svc = s.svc := rfl
@[simp] theorem emit_vital (s : State) (o : Out) : (s.emit o).vital = s.vital := rfl
@[simp] theorem emit_kernel (s : State) (o : Out) : (s.emit o).kernel = s.kernel := rfl
@[simp] theorem emit_sdi (s : State) (o : Out) : (s.emit o).sdi = s.sdi := rfl
@[simp] theorem emit_col (s : State) (o : Out) : (s.emit o).col = s.col := rfl
@[simp] theorem emit_lock (s : State) (o : Out) : (s.emit o).lock = s.lock := rfl
@[simp] theorem emit_rcd (s : State) (o : Out) : (s.emit o).rcd = s.rcd := rfl
@[simp] theorem emit_sens (s : State) (o : Out) : (s.emit o).sens = s.sens := rfl
@[simp] theorem emit_banks (s : State) (o : Out) : (s.emit o).banks = s.banks := rfl
@[simp] theorem emit_ring (s : State) (o : Out) : (s.emit o).ring = s.ring := rfl
@[simp] theorem emit_nets (s : State) (o : Out) : (s.emit o).nets = s.nets := rfl
@[simp] theorem emit_can (s : State) (o : Out) : (s.emit o).can = s.can := rfl
@[simp] theorem emit_clients (s : State) (o : Out) : (s.emit o).clients = s.clients := rfl
@[simp] theorem emit_time (s : State) (o : Out) : (s.emit o).time = s.time := rfl
@[simp] theorem emit_twin (s : State) (o : Out) : (s.emit o).twin = s.twin := rfl
@[simp] theorem emit_life (s : State) (o : Out) : (s.emit o).life = s.life := rfl
@[simp] theorem emit_cvus (s : State) (o : Out) : (s.emit o).cvus = s.cvus := rfl
@[simp] theorem emit_upd (s : State) (o : Out) : (s.emit o).upd = s.upd := rfl
@[simp] theorem emit_supply (s : State) (o : Out) : (s.emit o).supply = s.supply := rfl
@[simp] theorem emit_pst (s : State) (o : Out) : (s.emit o).pst = s.pst := rfl
@[simp] theorem emit_pstLive (s : State) (o : Out) : (s.emit o).pstLive = s.pstLive := rfl

@[simp] theorem emits_pending (s : State) (l : List Out) : (s.emits l).pending = s.pending := rfl
@[simp] theorem emits_out (s : State) (l : List Out) : (s.emits l).out = s.out ++ l := rfl
@[simp] theorem emits_mstate (s : State) (l : List Out) : (s.emits l).mstate = s.mstate := rfl
@[simp] theorem emits_svc (s : State) (l : List Out) : (s.emits l).svc = s.svc := rfl
@[simp] theorem emits_vital (s : State) (l : List Out) : (s.emits l).vital = s.vital := rfl
@[simp] theorem emits_kernel (s : State) (l : List Out) : (s.emits l).kernel = s.kernel := rfl
@[simp] theorem emits_sdi (s : State) (l : List Out) : (s.emits l).sdi = s.sdi := rfl
@[simp] theorem emits_col (s : State) (l : List Out) : (s.emits l).col = s.col := rfl
@[simp] theorem emits_lock (s : State) (l : List Out) : (s.emits l).lock = s.lock := rfl
@[simp] theorem emits_rcd (s : State) (l : List Out) : (s.emits l).rcd = s.rcd := rfl
@[simp] theorem emits_sens (s : State) (l : List Out) : (s.emits l).sens = s.sens := rfl
@[simp] theorem emits_banks (s : State) (l : List Out) : (s.emits l).banks = s.banks := rfl
@[simp] theorem emits_ring (s : State) (l : List Out) : (s.emits l).ring = s.ring := rfl
@[simp] theorem emits_nets (s : State) (l : List Out) : (s.emits l).nets = s.nets := rfl
@[simp] theorem emits_can (s : State) (l : List Out) : (s.emits l).can = s.can := rfl
@[simp] theorem emits_clients (s : State) (l : List Out) : (s.emits l).clients = s.clients := rfl
@[simp] theorem emits_time (s : State) (l : List Out) : (s.emits l).time = s.time := rfl
@[simp] theorem emits_twin (s : State) (l : List Out) : (s.emits l).twin = s.twin := rfl
@[simp] theorem emits_life (s : State) (l : List Out) : (s.emits l).life = s.life := rfl
@[simp] theorem emits_cvus (s : State) (l : List Out) : (s.emits l).cvus = s.cvus := rfl
@[simp] theorem emits_upd (s : State) (l : List Out) : (s.emits l).upd = s.upd := rfl
@[simp] theorem emits_supply (s : State) (l : List Out) : (s.emits l).supply = s.supply := rfl
@[simp] theorem emits_pst (s : State) (l : List Out) : (s.emits l).pst = s.pst := rfl
@[simp] theorem emits_pstLive (s : State) (l : List Out) : (s.emits l).pstLive = s.pstLive := rfl

@[simp] theorem setRec_pending (s : State) (n : Nat) (r : Option FaultRec) : (s.setRec n r).pending = s.pending := rfl
@[simp] theorem setRec_out (s : State) (n : Nat) (r : Option FaultRec) : (s.setRec n r).out = s.out := rfl
@[simp] theorem setRec_mstate (s : State) (n : Nat) (r : Option FaultRec) : (s.setRec n r).mstate = s.mstate := rfl
@[simp] theorem setRec_svc (s : State) (n : Nat) (r : Option FaultRec) : (s.setRec n r).svc = s.svc := rfl
@[simp] theorem setRec_vital (s : State) (n : Nat) (r : Option FaultRec) : (s.setRec n r).vital = s.vital := rfl
@[simp] theorem setRec_kernel (s : State) (n : Nat) (r : Option FaultRec) : (s.setRec n r).kernel = s.kernel := rfl
@[simp] theorem setRec_sdi (s : State) (n : Nat) (r : Option FaultRec) : (s.setRec n r).sdi = s.sdi := rfl
@[simp] theorem setRec_col (s : State) (n : Nat) (r : Option FaultRec) : (s.setRec n r).col = { s.col with recs := modNth s.col.recs n fun _ => r } := rfl
@[simp] theorem setRec_lock (s : State) (n : Nat) (r : Option FaultRec) : (s.setRec n r).lock = s.lock := rfl
@[simp] theorem setRec_rcd (s : State) (n : Nat) (r : Option FaultRec) : (s.setRec n r).rcd = s.rcd := rfl
@[simp] theorem setRec_sens (s : State) (n : Nat) (r : Option FaultRec) : (s.setRec n r).sens = s.sens := rfl
@[simp] theorem setRec_banks (s : State) (n : Nat) (r : Option FaultRec) : (s.setRec n r).banks = s.banks := rfl
@[simp] theorem setRec_ring (s : State) (n : Nat) (r : Option FaultRec) : (s.setRec n r).ring = s.ring := rfl
@[simp] theorem setRec_nets (s : State) (n : Nat) (r : Option FaultRec) : (s.setRec n r).nets = s.nets := rfl
@[simp] theorem setRec_can (s : State) (n : Nat) (r : Option FaultRec) : (s.setRec n r).can = s.can := rfl
@[simp] theorem setRec_clients (s : State) (n : Nat) (r : Option FaultRec) : (s.setRec n r).clients = s.clients := rfl
@[simp] theorem setRec_time (s : State) (n : Nat) (r : Option FaultRec) : (s.setRec n r).time = s.time := rfl
@[simp] theorem setRec_twin (s : State) (n : Nat) (r : Option FaultRec) : (s.setRec n r).twin = s.twin := rfl
@[simp] theorem setRec_life (s : State) (n : Nat) (r : Option FaultRec) : (s.setRec n r).life = s.life := rfl
@[simp] theorem setRec_cvus (s : State) (n : Nat) (r : Option FaultRec) : (s.setRec n r).cvus = s.cvus := rfl
@[simp] theorem setRec_upd (s : State) (n : Nat) (r : Option FaultRec) : (s.setRec n r).upd = s.upd := rfl
@[simp] theorem setRec_supply (s : State) (n : Nat) (r : Option FaultRec) : (s.setRec n r).supply = s.supply := rfl
@[simp] theorem setRec_pst (s : State) (n : Nat) (r : Option FaultRec) : (s.setRec n r).pst = s.pst := rfl
@[simp] theorem setRec_pstLive (s : State) (n : Nat) (r : Option FaultRec) : (s.setRec n r).pstLive = s.pstLive := rfl

@[simp] theorem modV_pending (s : State) (f : Vital → Vital) : (s.modV f).pending = s.pending := rfl
@[simp] theorem modV_out (s : State) (f : Vital → Vital) : (s.modV f).out = s.out := rfl
@[simp] theorem modV_mstate (s : State) (f : Vital → Vital) : (s.modV f).mstate = s.mstate := rfl
@[simp] theorem modV_svc (s : State) (f : Vital → Vital) : (s.modV f).svc = s.svc := rfl
@[simp] theorem modV_vital (s : State) (f : Vital → Vital) : (s.modV f).vital = f s.vital := rfl
@[simp] theorem modV_kernel (s : State) (f : Vital → Vital) : (s.modV f).kernel = s.kernel := rfl
@[simp] theorem modV_sdi (s : State) (f : Vital → Vital) : (s.modV f).sdi = s.sdi := rfl
@[simp] theorem modV_col (s : State) (f : Vital → Vital) : (s.modV f).col = s.col := rfl
@[simp] theorem modV_lock (s : State) (f : Vital → Vital) : (s.modV f).lock = s.lock := rfl
@[simp] theorem modV_rcd (s : State) (f : Vital → Vital) : (s.modV f).rcd = s.rcd := rfl
@[simp] theorem modV_sens (s : State) (f : Vital → Vital) : (s.modV f).sens = s.sens := rfl
@[simp] theorem modV_banks (s : State) (f : Vital → Vital) : (s.modV f).banks = s.banks := rfl
@[simp] theorem modV_ring (s : State) (f : Vital → Vital) : (s.modV f).ring = s.ring := rfl
@[simp] theorem modV_nets (s : State) (f : Vital → Vital) : (s.modV f).nets = s.nets := rfl
@[simp] theorem modV_can (s : State) (f : Vital → Vital) : (s.modV f).can = s.can := rfl
@[simp] theorem modV_clients (s : State) (f : Vital → Vital) : (s.modV f).clients = s.clients := rfl
@[simp] theorem modV_time (s : State) (f : Vital → Vital) : (s.modV f).time = s.time := rfl
@[simp] theorem modV_twin (s : State) (f : Vital → Vital) : (s.modV f).twin = s.twin := rfl
@[simp] theorem modV_life (s : State) (f : Vital → Vital) : (s.modV f).life = s.life := rfl
@[simp] theorem modV_cvus (s : State) (f : Vital → Vital) : (s.modV f).cvus = s.cvus := rfl
@[simp] theorem modV_upd (s : State) (f : Vital → Vital) : (s.modV f).upd = s.upd := rfl
@[simp] theorem modV_supply (s : State) (f : Vital → Vital) : (s.modV f).supply = s.supply := rfl
@[simp] theorem modV_pst (s : State) (f : Vital → Vital) : (s.modV f).pst = s.pst := rfl
@[simp] theorem modV_pstLive (s : State) (f : Vital → Vital) : (s.modV f).pstLive = s.pstLive := rfl

@[simp] theorem modCh_pending (s : State) (c : Ch) (f : Channel → Channel) : (s.modCh c f).pending = s.pending := rfl
@[simp] theorem modCh_out (s : State) (c : Ch) (f : Channel → Channel) : (s.modCh c f).out = s.out := rfl
@[simp] theorem modCh_mstate (s : State) (c : Ch) (f : Channel → Channel) : (s.modCh c f).mstate = s.mstate := rfl
@[simp] theorem modCh_svc (s : State) (c : Ch) (f : Channel → Channel) : (s.modCh c f).svc = s.svc := rfl
@[simp] theorem modCh_vital (s : State) (c : Ch) (f : Channel → Channel) : (s.modCh c f).vital = { s.vital with chans := s.vital.chans.modify c f } := rfl
@[simp] theorem modCh_kernel (s : State) (c : Ch) (f : Channel → Channel) : (s.modCh c f).kernel = s.kernel := rfl
@[simp] theorem modCh_sdi (s : State) (c : Ch) (f : Channel → Channel) : (s.modCh c f).sdi = s.sdi := rfl
@[simp] theorem modCh_col (s : State) (c : Ch) (f : Channel → Channel) : (s.modCh c f).col = s.col := rfl
@[simp] theorem modCh_lock (s : State) (c : Ch) (f : Channel → Channel) : (s.modCh c f).lock = s.lock := rfl
@[simp] theorem modCh_rcd (s : State) (c : Ch) (f : Channel → Channel) : (s.modCh c f).rcd = s.rcd := rfl
@[simp] theorem modCh_sens (s : State) (c : Ch) (f : Channel → Channel) : (s.modCh c f).sens = s.sens := rfl
@[simp] theorem modCh_banks (s : State) (c : Ch) (f : Channel → Channel) : (s.modCh c f).banks = s.banks := rfl
@[simp] theorem modCh_ring (s : State) (c : Ch) (f : Channel → Channel) : (s.modCh c f).ring = s.ring := rfl
@[simp] theorem modCh_nets (s : State) (c : Ch) (f : Channel → Channel) : (s.modCh c f).nets = s.nets := rfl
@[simp] theorem modCh_can (s : State) (c : Ch) (f : Channel → Channel) : (s.modCh c f).can = s.can := rfl
@[simp] theorem modCh_clients (s : State) (c : Ch) (f : Channel → Channel) : (s.modCh c f).clients = s.clients := rfl
@[simp] theorem modCh_time (s : State) (c : Ch) (f : Channel → Channel) : (s.modCh c f).time = s.time := rfl
@[simp] theorem modCh_twin (s : State) (c : Ch) (f : Channel → Channel) : (s.modCh c f).twin = s.twin := rfl
@[simp] theorem modCh_life (s : State) (c : Ch) (f : Channel → Channel) : (s.modCh c f).life = s.life := rfl
@[simp] theorem modCh_cvus (s : State) (c : Ch) (f : Channel → Channel) : (s.modCh c f).cvus = s.cvus := rfl
@[simp] theorem modCh_upd (s : State) (c : Ch) (f : Channel → Channel) : (s.modCh c f).upd = s.upd := rfl
@[simp] theorem modCh_supply (s : State) (c : Ch) (f : Channel → Channel) : (s.modCh c f).supply = s.supply := rfl
@[simp] theorem modCh_pst (s : State) (c : Ch) (f : Channel → Channel) : (s.modCh c f).pst = s.pst := rfl
@[simp] theorem modCh_pstLive (s : State) (c : Ch) (f : Channel → Channel) : (s.modCh c f).pstLive = s.pstLive := rfl

@[simp] theorem modHw_pending (s : State) (b : Bank) (f : BankHw → BankHw) : (s.modHw b f).pending = s.pending := by
  unfold State.modHw; split <;> rfl
@[simp] theorem modHw_out (s : State) (b : Bank) (f : BankHw → BankHw) : (s.modHw b f).out = s.out := by
  unfold State.modHw; split <;> rfl
@[simp] theorem modHw_mstate (s : State) (b : Bank) (f : BankHw → BankHw) : (s.modHw b f).mstate = s.mstate := by
  unfold State.modHw; split <;> rfl
@[simp] theorem modHw_svc (s : State) (b : Bank) (f : BankHw → BankHw) : (s.modHw b f).svc = s.svc := by
  unfold State.modHw; split <;> rfl
@[simp] theorem modHw_vital (s : State) (b : Bank) (f : BankHw → BankHw) : (s.modHw b f).vital = s.vital := by
  unfold State.modHw; split <;> rfl
@[simp] theorem modHw_kernel (s : State) (b : Bank) (f : BankHw → BankHw) : (s.modHw b f).kernel = s.kernel := by
  unfold State.modHw; split <;> rfl
@[simp] theorem modHw_sdi (s : State) (b : Bank) (f : BankHw → BankHw) : (s.modHw b f).sdi = s.sdi := by
  unfold State.modHw; split <;> rfl
@[simp] theorem modHw_col (s : State) (b : Bank) (f : BankHw → BankHw) : (s.modHw b f).col = s.col := by
  unfold State.modHw; split <;> rfl
@[simp] theorem modHw_lock (s : State) (b : Bank) (f : BankHw → BankHw) : (s.modHw b f).lock = s.lock := by
  unfold State.modHw; split <;> rfl
@[simp] theorem modHw_rcd (s : State) (b : Bank) (f : BankHw → BankHw) : (s.modHw b f).rcd = s.rcd := by
  unfold State.modHw; split <;> rfl
@[simp] theorem modHw_sens (s : State) (b : Bank) (f : BankHw → BankHw) : (s.modHw b f).sens = s.sens := by
  unfold State.modHw; split <;> rfl
theorem modHw_banks {s : State} {b : Bank} (h : s.bankUp b = true) (f : BankHw → BankHw) :
    (s.modHw b f).banks = s.banks.modify b.ch f := by
  simp only [State.modHw, h, if_true]
@[simp] theorem modHw_ring (s : State) (b : Bank) (f : BankHw → BankHw) : (s.modHw b f).ring = s.ring := by
  unfold State.modHw; split <;> rfl
@[simp] theorem modHw_nets (s : State) (b : Bank) (f : BankHw → BankHw) : (s.modHw b f).nets = s.nets := by
  unfold State.modHw; split <;> rfl
@[simp] theorem modHw_can (s : State) (b : Bank) (f : BankHw → BankHw) : (s.modHw b f).can = s.can := by
  unfold State.modHw; split <;> rfl
@[simp] theorem modHw_clients (s : State) (b : Bank) (f : BankHw → BankHw) : (s.modHw b f).clients = s.clients := by
  unfold State.modHw; split <;> rfl
@[simp] theorem modHw_time (s : State) (b : Bank) (f : BankHw → BankHw) : (s.modHw b f).time = s.time := by
  unfold State.modHw; split <;> rfl
@[simp] theorem modHw_twin (s : State) (b : Bank) (f : BankHw → BankHw) : (s.modHw b f).twin = s.twin := by
  unfold State.modHw; split <;> rfl
@[simp] theorem modHw_life (s : State) (b : Bank) (f : BankHw → BankHw) : (s.modHw b f).life = s.life := by
  unfold State.modHw; split <;> rfl
@[simp] theorem modHw_cvus (s : State) (b : Bank) (f : BankHw → BankHw) : (s.modHw b f).cvus = s.cvus := by
  unfold State.modHw; split <;> rfl
@[simp] theorem modHw_upd (s : State) (b : Bank) (f : BankHw → BankHw) : (s.modHw b f).upd = s.upd := by
  unfold State.modHw; split <;> rfl
@[simp] theorem modHw_supply (s : State) (b : Bank) (f : BankHw → BankHw) : (s.modHw b f).supply = s.supply := by
  unfold State.modHw; split <;> rfl
@[simp] theorem modHw_pst (s : State) (b : Bank) (f : BankHw → BankHw) : (s.modHw b f).pst = s.pst := by
  unfold State.modHw; split <;> rfl
@[simp] theorem modHw_pstLive (s : State) (b : Bank) (f : BankHw → BankHw) : (s.modHw b f).pstLive = s.pstLive := by
  unfold State.modHw; split <;> rfl

@[simp] theorem modSlot_pending (s : State) (n : Nat) (f : SlotSt → SlotSt) : (s.modSlot n f).pending = s.pending := rfl
@[simp] theorem modSlot_out (s : State) (n : Nat) (f : SlotSt → SlotSt) : (s.modSlot n f).out = s.out := rfl
@[simp] theorem modSlot_mstate (s : State) (n : Nat) (f : SlotSt → SlotSt) : (s.modSlot n f).mstate = s.mstate := rfl
@[simp] theorem modSlot_svc (s : State) (n : Nat) (f : SlotSt → SlotSt) : (s.modSlot n f).svc = s.svc := rfl
@[simp] theorem modSlot_vital (s : State) (n : Nat) (f : SlotSt → SlotSt) : (s.modSlot n f).vital = s.vital := rfl
@[simp] theorem modSlot_kernel (s : State) (n : Nat) (f : SlotSt → SlotSt) : (s.modSlot n f).kernel = s.kernel.modSlot n f := rfl
@[simp] theorem modSlot_sdi (s : State) (n : Nat) (f : SlotSt → SlotSt) : (s.modSlot n f).sdi = s.sdi := rfl
@[simp] theorem modSlot_col (s : State) (n : Nat) (f : SlotSt → SlotSt) : (s.modSlot n f).col = s.col := rfl
@[simp] theorem modSlot_lock (s : State) (n : Nat) (f : SlotSt → SlotSt) : (s.modSlot n f).lock = s.lock := rfl
@[simp] theorem modSlot_rcd (s : State) (n : Nat) (f : SlotSt → SlotSt) : (s.modSlot n f).rcd = s.rcd := rfl
@[simp] theorem modSlot_sens (s : State) (n : Nat) (f : SlotSt → SlotSt) : (s.modSlot n f).sens = s.sens := rfl
@[simp] theorem modSlot_banks (s : State) (n : Nat) (f : SlotSt → SlotSt) : (s.modSlot n f).banks = s.banks := rfl
@[simp] theorem modSlot_ring (s : State) (n : Nat) (f : SlotSt → SlotSt) : (s.modSlot n f).ring = s.ring := rfl
@[simp] theorem modSlot_nets (s : State) (n : Nat) (f : SlotSt → SlotSt) : (s.modSlot n f).nets = s.nets := rfl
@[simp] theorem modSlot_can (s : State) (n : Nat) (f : SlotSt → SlotSt) : (s.modSlot n f).can = s.can := rfl
@[simp] theorem modSlot_clients (s : State) (n : Nat) (f : SlotSt → SlotSt) : (s.modSlot n f).clients = s.clients := rfl
@[simp] theorem modSlot_time (s : State) (n : Nat) (f : SlotSt → SlotSt) : (s.modSlot n f).time = s.time := rfl
@[simp] theorem modSlot_twin (s : State) (n : Nat) (f : SlotSt → SlotSt) : (s.modSlot n f).twin = s.twin := rfl
@[simp] theorem modSlot_life (s : State) (n : Nat) (f : SlotSt → SlotSt) : (s.modSlot n f).life = s.life := rfl
@[simp] theorem modSlot_cvus (s : State) (n : Nat) (f : SlotSt → SlotSt) : (s.modSlot n f).cvus = s.cvus := rfl
@[simp] theorem modSlot_upd (s : State) (n : Nat) (f : SlotSt → SlotSt) : (s.modSlot n f).upd = s.upd := rfl
@[simp] theorem modSlot_supply (s : State) (n : Nat) (f : SlotSt → SlotSt) : (s.modSlot n f).supply = s.supply := rfl
@[simp] theorem modSlot_pst (s : State) (n : Nat) (f : SlotSt → SlotSt) : (s.modSlot n f).pst = s.pst := rfl
@[simp] theorem modSlot_pstLive (s : State) (n : Nat) (f : SlotSt → SlotSt) : (s.modSlot n f).pstLive = s.pstLive := rfl

@[simp] theorem modRing_pending (s : State) (f : Ring → Ring) : (s.modRing f).pending = s.pending := rfl
@[simp] theorem modRing_out (s : State) (f : Ring → Ring) : (s.modRing f).out = s.out := rfl
@[simp] theorem modRing_mstate (s : State) (f : Ring → Ring) : (s.modRing f).mstate = s.mstate := rfl
@[simp] theorem modRing_svc (s : State) (f : Ring → Ring) : (s.modRing f).svc = s.svc := rfl
@[simp] theorem modRing_vital (s : State) (f : Ring → Ring) : (s.modRing f).vital = s.vital := rfl
@[simp] theorem modRing_kernel (s : State) (f : Ring → Ring) : (s.modRing f).kernel = s.kernel := rfl
@[simp] theorem modRing_sdi (s : State) (f : Ring → Ring) : (s.modRing f).sdi = s.sdi := rfl
@[simp] theorem modRing_col (s : State) (f : Ring → Ring) : (s.modRing f).col = s.col := rfl
@[simp] theorem modRing_lock (s : State) (f : Ring → Ring) : (s.modRing f).lock = s.lock := rfl
@[simp] theorem modRing_rcd (s : State) (f : Ring → Ring) : (s.modRing f).rcd = s.rcd := rfl
@[simp] theorem modRing_sens (s : State) (f : Ring → Ring) : (s.modRing f).sens = s.sens := rfl
@[simp] theorem modRing_banks (s : State) (f : Ring → Ring) : (s.modRing f).banks = s.banks := rfl
@[simp] theorem modRing_ring (s : State) (f : Ring → Ring) : (s.modRing f).ring = f s.ring := rfl
@[simp] theorem modRing_nets (s : State) (f : Ring → Ring) : (s.modRing f).nets = s.nets := rfl
@[simp] theorem modRing_can (s : State) (f : Ring → Ring) : (s.modRing f).can = s.can := rfl
@[simp] theorem modRing_clients (s : State) (f : Ring → Ring) : (s.modRing f).clients = s.clients := rfl
@[simp] theorem modRing_time (s : State) (f : Ring → Ring) : (s.modRing f).time = s.time := rfl
@[simp] theorem modRing_twin (s : State) (f : Ring → Ring) : (s.modRing f).twin = s.twin := rfl
@[simp] theorem modRing_life (s : State) (f : Ring → Ring) : (s.modRing f).life = s.life := rfl
@[simp] theorem modRing_cvus (s : State) (f : Ring → Ring) : (s.modRing f).cvus = s.cvus := rfl
@[simp] theorem modRing_upd (s : State) (f : Ring → Ring) : (s.modRing f).upd = s.upd := rfl
@[simp] theorem modRing_supply (s : State) (f : Ring → Ring) : (s.modRing f).supply = s.supply := rfl
@[simp] theorem modRing_pst (s : State) (f : Ring → Ring) : (s.modRing f).pst = s.pst := rfl
@[simp] theorem modRing_pstLive (s : State) (f : Ring → Ring) : (s.modRing f).pstLive = s.pstLive := rfl

@[simp] theorem modCan_pending (s : State) (f : Can → Can) : (s.modCan f).pending = s.pending := rfl
@[simp] theorem modCan_out (s : State) (f : Can → Can) : (s.modCan f).out = s.out := rfl
@[simp] theorem modCan_mstate (s : State) (f : Can → Can) : (s.modCan f).mstate = s.mstate := rfl
@[simp] theorem modCan_svc (s : State) (f : Can → Can) : (s.modCan f).svc = s.svc := rfl
@[simp] theorem modCan_vital (s : State) (f : Can → Can) : (s.modCan f).vital = s.vital := rfl
@[simp] theorem modCan_kernel (s : State) (f : Can → Can) : (s.modCan f).kernel = s.kernel := rfl
@[simp] theorem modCan_sdi (s : State) (f : Can → Can) : (s.modCan f).sdi = s.sdi := rfl
@[simp] theorem modCan_col (s : State) (f : Can → Can) : (s.modCan f).col = s.col := rfl
@[simp] theorem modCan_lock (s : State) (f : Can → Can) : (s.modCan f).lock = s.lock := rfl
@[simp] theorem modCan_rcd (s : State) (f : Can → Can) : (s.modCan f).rcd = s.rcd := rfl
@[simp] theorem modCan_sens (s : State) (f : Can → Can) : (s.modCan f).sens = s.sens := rfl
@[simp] theorem modCan_banks (s : State) (f : Can → Can) : (s.modCan f).banks = s.banks := rfl
@[simp] theorem modCan_ring (s : State) (f : Can → Can) : (s.modCan f).ring = s.ring := rfl
@[simp] theorem modCan_nets (s : State) (f : Can → Can) : (s.modCan f).nets = s.nets := rfl
@[simp] theorem modCan_can (s : State) (f : Can → Can) : (s.modCan f).can = f s.can := rfl
@[simp] theorem modCan_clients (s : State) (f : Can → Can) : (s.modCan f).clients = s.clients := rfl
@[simp] theorem modCan_time (s : State) (f : Can → Can) : (s.modCan f).time = s.time := rfl
@[simp] theorem modCan_twin (s : State) (f : Can → Can) : (s.modCan f).twin = s.twin := rfl
@[simp] theorem modCan_life (s : State) (f : Can → Can) : (s.modCan f).life = s.life := rfl
@[simp] theorem modCan_cvus (s : State) (f : Can → Can) : (s.modCan f).cvus = s.cvus := rfl
@[simp] theorem modCan_upd (s : State) (f : Can → Can) : (s.modCan f).upd = s.upd := rfl
@[simp] theorem modCan_supply (s : State) (f : Can → Can) : (s.modCan f).supply = s.supply := rfl
@[simp] theorem modCan_pst (s : State) (f : Can → Can) : (s.modCan f).pst = s.pst := rfl
@[simp] theorem modCan_pstLive (s : State) (f : Can → Can) : (s.modCan f).pstLive = s.pstLive := rfl

@[simp] theorem modCvu_pending (s : State) (n : Nat) (f : Cvu → Cvu) : (s.modCvu n f).pending = s.pending := rfl
@[simp] theorem modCvu_out (s : State) (n : Nat) (f : Cvu → Cvu) : (s.modCvu n f).out = s.out := rfl
@[simp] theorem modCvu_mstate (s : State) (n : Nat) (f : Cvu → Cvu) : (s.modCvu n f).mstate = s.mstate := rfl
@[simp] theorem modCvu_svc (s : State) (n : Nat) (f : Cvu → Cvu) : (s.modCvu n f).svc = s.svc := rfl
@[simp] theorem modCvu_vital (s : State) (n : Nat) (f : Cvu → Cvu) : (s.modCvu n f).vital = s.vital := rfl
@[simp] theorem modCvu_kernel (s : State) (n : Nat) (f : Cvu → Cvu) : (s.modCvu n f).kernel = s.kernel := rfl
@[simp] theorem modCvu_sdi (s : State) (n : Nat) (f : Cvu → Cvu) : (s.modCvu n f).sdi = s.sdi := rfl
@[simp] theorem modCvu_col (s : State) (n : Nat) (f : Cvu → Cvu) : (s.modCvu n f).col = s.col := rfl
@[simp] theorem modCvu_lock (s : State) (n : Nat) (f : Cvu → Cvu) : (s.modCvu n f).lock = s.lock := rfl
@[simp] theorem modCvu_rcd (s : State) (n : Nat) (f : Cvu → Cvu) : (s.modCvu n f).rcd = s.rcd := rfl
@[simp] theorem modCvu_sens (s : State) (n : Nat) (f : Cvu → Cvu) : (s.modCvu n f).sens = s.sens := rfl
@[simp] theorem modCvu_banks (s : State) (n : Nat) (f : Cvu → Cvu) : (s.modCvu n f).banks = s.banks := rfl
@[simp] theorem modCvu_ring (s : State) (n : Nat) (f : Cvu → Cvu) : (s.modCvu n f).ring = s.ring := rfl
@[simp] theorem modCvu_nets (s : State) (n : Nat) (f : Cvu → Cvu) : (s.modCvu n f).nets = s.nets := rfl
@[simp] theorem modCvu_can (s : State) (n : Nat) (f : Cvu → Cvu) : (s.modCvu n f).can = s.can := rfl
@[simp] theorem modCvu_clients (s : State) (n : Nat) (f : Cvu → Cvu) : (s.modCvu n f).clients = s.clients := rfl
@[simp] theorem modCvu_time (s : State) (n : Nat) (f : Cvu → Cvu) : (s.modCvu n f).time = s.time := rfl
@[simp] theorem modCvu_twin (s : State) (n : Nat) (f : Cvu → Cvu) : (s.modCvu n f).twin = s.twin := rfl
@[simp] theorem modCvu_life (s : State) (n : Nat) (f : Cvu → Cvu) : (s.modCvu n f).life = s.life := rfl
@[simp] theorem modCvu_cvus (s : State) (n : Nat) (f : Cvu → Cvu) : (s.modCvu n f).cvus = modNth s.cvus n f := rfl
@[simp] theorem modCvu_upd (s : State) (n : Nat) (f : Cvu → Cvu) : (s.modCvu n f).upd = s.upd := rfl
@[simp] theorem modCvu_supply (s : State) (n : Nat) (f : Cvu → Cvu) : (s.modCvu n f).supply = s.supply := rfl
@[simp] theorem modCvu_pst (s : State) (n : Nat) (f : Cvu → Cvu) : (s.modCvu n f).pst = s.pst := rfl
@[simp] theorem modCvu_pstLive (s : State) (n : Nat) (f : Cvu → Cvu) : (s.modCvu n f).pstLive = s.pstLive := rfl

@[simp] theorem vitalTo_pending (s : State) (v : Vital) (o : List Out) : (s.vitalTo v o).pending = s.pending := rfl
@[simp] theorem vitalTo_out (s : State) (v : Vital) (o : List Out) : (s.vitalTo v o).out = o := rfl
@[simp] theorem vitalTo_mstate (s : State) (v : Vital) (o : List Out) : (s.vitalTo v o).mstate = s.mstate := rfl
@[simp] theorem vitalTo_svc (s : State) (v : Vital) (o : List Out) : (s.vitalTo v o).svc = s.svc := rfl
@[simp] theorem vitalTo_vital (s : State) (v : Vital) (o : List Out) : (s.vitalTo v o).vital = v := rfl
@[simp] theorem vitalTo_kernel (s : State) (v : Vital) (o : List Out) : (s.vitalTo v o).kernel = s.kernel := rfl
@[simp] theorem vitalTo_sdi (s : State) (v : Vital) (o : List Out) : (s.vitalTo v o).sdi = s.sdi := rfl
@[simp] theorem vitalTo_col (s : State) (v : Vital) (o : List Out) : (s.vitalTo v o).col = s.col := rfl
@[simp] theorem vitalTo_lock (s : State) (v : Vital) (o : List Out) : (s.vitalTo v o).lock = s.lock := rfl
@[simp] theorem vitalTo_rcd (s : State) (v : Vital) (o : List Out) : (s.vitalTo v o).rcd = s.rcd := rfl
@[simp] theorem vitalTo_sens (s : State) (v : Vital) (o : List Out) : (s.vitalTo v o).sens = s.sens := rfl
@[simp] theorem vitalTo_banks (s : State) (v : Vital) (o : List Out) : (s.vitalTo v o).banks = s.banks := rfl
@[simp] theorem vitalTo_ring (s : State) (v : Vital) (o : List Out) : (s.vitalTo v o).ring = s.ring := rfl
@[simp] theorem vitalTo_nets (s : State) (v : Vital) (o : List Out) : (s.vitalTo v o).nets = s.nets := rfl
@[simp] theorem vitalTo_can (s : State) (v : Vital) (o : List Out) : (s.vitalTo v o).can = s.can := rfl
@[simp] theorem vitalTo_clients (s : State) (v : Vital) (o : List Out) : (s.vitalTo v o).clients = s.clients := rfl
@[simp] theorem vitalTo_time (s : State) (v : Vital) (o : List Out) : (s.vitalTo v o).time = s.time := rfl
@[simp] theorem vitalTo_twin (s : State) (v : Vital) (o : List Out) : (s.vitalTo v o).twin = s.twin := rfl
@[simp] theorem vitalTo_life (s : State) (v : Vital) (o : List Out) : (s.vitalTo v o).life = s.life := rfl
@[simp] theorem vitalTo_cvus (s : State) (v : Vital) (o : List Out) : (s.vitalTo v o).cvus = s.cvus := rfl
@[simp] theorem vitalTo_upd (s : State) (v : Vital) (o : List Out) : (s.vitalTo v o).upd = s.upd := rfl
@[simp] theorem vitalTo_supply (s : State) (v : Vital) (o : List Out) : (s.vitalTo v o).supply = s.supply := rfl
@[simp] theorem vitalTo_pst (s : State) (v : Vital) (o : List Out) : (s.vitalTo v o).pst = s.pst := rfl
@[simp] theorem vitalTo_pstLive (s : State) (v : Vital) (o : List Out) : (s.vitalTo v o).pstLive = s.pstLive := rfl

@[simp] theorem chTo_pending (s : State) (ch : Ch) (c : Channel) (o : List Out) : (s.chTo ch c o).pending = s.pending := rfl
@[simp] theorem chTo_out (s : State) (ch : Ch) (c : Channel) (o : List Out) : (s.chTo ch c o).out = o := rfl
@[simp] theorem chTo_mstate (s : State) (ch : Ch) (c : Channel) (o : List Out) : (s.chTo ch c o).mstate = s.mstate := rfl
@[simp] theorem chTo_svc (s : State) (ch : Ch) (c : Channel) (o : List Out) : (s.chTo ch c o).svc = s.svc := rfl
@[simp] theorem chTo_vital (s : State) (ch : Ch) (c : Channel) (o : List Out) : (s.chTo ch c o).vital = { s.vital with chans := s.vital.chans.set ch c } := rfl
@[simp] theorem chTo_kernel (s : State) (ch : Ch) (c : Channel) (o : List Out) : (s.chTo ch c o).kernel = s.kernel := rfl
@[simp] theorem chTo_sdi (s : State) (ch : Ch) (c : Channel) (o : List Out) : (s.chTo ch c o).sdi = s.sdi := rfl
@[simp] theorem chTo_col (s : State) (ch : Ch) (c : Channel) (o : List Out) : (s.chTo ch c o).col = s.col := rfl
@[simp] theorem chTo_lock (s : State) (ch : Ch) (c : Channel) (o : List Out) : (s.chTo ch c o).lock = s.lock := rfl
@[simp] theorem chTo_rcd (s : State) (ch : Ch) (c : Channel) (o : List Out) : (s.chTo ch c o).rcd = s.rcd := rfl
@[simp] theorem chTo_sens (s : State) (ch : Ch) (c : Channel) (o : List Out) : (s.chTo ch c o).sens = s.sens := rfl
@[simp] theorem chTo_banks (s : State) (ch : Ch) (c : Channel) (o : List Out) : (s.chTo ch c o).banks = s.banks := rfl
@[simp] theorem chTo_ring (s : State) (ch : Ch) (c : Channel) (o : List Out) : (s.chTo ch c o).ring = s.ring := rfl
@[simp] theorem chTo_nets (s : State) (ch : Ch) (c : Channel) (o : List Out) : (s.chTo ch c o).nets = s.nets := rfl
@[simp] theorem chTo_can (s : State) (ch : Ch) (c : Channel) (o : List Out) : (s.chTo ch c o).can = s.can := rfl
@[simp] theorem chTo_clients (s : State) (ch : Ch) (c : Channel) (o : List Out) : (s.chTo ch c o).clients = s.clients := rfl
@[simp] theorem chTo_time (s : State) (ch : Ch) (c : Channel) (o : List Out) : (s.chTo ch c o).time = s.time := rfl
@[simp] theorem chTo_twin (s : State) (ch : Ch) (c : Channel) (o : List Out) : (s.chTo ch c o).twin = s.twin := rfl
@[simp] theorem chTo_life (s : State) (ch : Ch) (c : Channel) (o : List Out) : (s.chTo ch c o).life = s.life := rfl
@[simp] theorem chTo_cvus (s : State) (ch : Ch) (c : Channel) (o : List Out) : (s.chTo ch c o).cvus = s.cvus := rfl
@[simp] theorem chTo_upd (s : State) (ch : Ch) (c : Channel) (o : List Out) : (s.chTo ch c o).upd = s.upd := rfl
@[simp] theorem chTo_supply (s : State) (ch : Ch) (c : Channel) (o : List Out) : (s.chTo ch c o).supply = s.supply := rfl
@[simp] theorem chTo_pst (s : State) (ch : Ch) (c : Channel) (o : List Out) : (s.chTo ch c o).pst = s.pst := rfl
@[simp] theorem chTo_pstLive (s : State) (ch : Ch) (c : Channel) (o : List Out) : (s.chTo ch c o).pstLive = s.pstLive := rfl

@[simp] theorem bankTo_pending (s : State) (bk : Bank) (b : BankHw) (o : List Out) : (s.bankTo bk b o).pending = s.pending := rfl
@[simp] theorem bankTo_out (s : State) (bk : Bank) (b : BankHw) (o : List Out) : (s.bankTo bk b o).out = o := rfl
@[simp] theorem bankTo_mstate (s : State) (bk : Bank) (b : BankHw) (o : List Out) : (s.bankTo bk b o).mstate = s.mstate := rfl
@[simp] theorem bankTo_svc (s : State) (bk : Bank) (b : BankHw) (o : List Out) : (s.bankTo bk b o).svc = s.svc := rfl
@[simp] theorem bankTo_vital (s : State) (bk : Bank) (b : BankHw) (o : List Out) : (s.bankTo bk b o).vital = s.vital := rfl
@[simp] theorem bankTo_kernel (s : State) (bk : Bank) (b : BankHw) (o : List Out) : (s.bankTo bk b o).kernel = s.kernel := rfl
@[simp] theorem bankTo_sdi (s : State) (bk : Bank) (b : BankHw) (o : List Out) : (s.bankTo bk b o).sdi = s.sdi := rfl
@[simp] theorem bankTo_col (s : State) (bk : Bank) (b : BankHw) (o : List Out) : (s.bankTo bk b o).col = s.col := rfl
@[simp] theorem bankTo_lock (s : State) (bk : Bank) (b : BankHw) (o : List Out) : (s.bankTo bk b o).lock = s.lock := rfl
@[simp] theorem bankTo_rcd (s : State) (bk : Bank) (b : BankHw) (o : List Out) : (s.bankTo bk b o).rcd = s.rcd := rfl
@[simp] theorem bankTo_sens (s : State) (bk : Bank) (b : BankHw) (o : List Out) : (s.bankTo bk b o).sens = s.sens := rfl
@[simp] theorem bankTo_banks (s : State) (bk : Bank) (b : BankHw) (o : List Out) : (s.bankTo bk b o).banks = s.banks.set bk.ch b := rfl
@[simp] theorem bankTo_ring (s : State) (bk : Bank) (b : BankHw) (o : List Out) : (s.bankTo bk b o).ring = s.ring := rfl
@[simp] theorem bankTo_nets (s : State) (bk : Bank) (b : BankHw) (o : List Out) : (s.bankTo bk b o).nets = s.nets := rfl
@[simp] theorem bankTo_can (s : State) (bk : Bank) (b : BankHw) (o : List Out) : (s.bankTo bk b o).can = s.can := rfl
@[simp] theorem bankTo_clients (s : State) (bk : Bank) (b : BankHw) (o : List Out) : (s.bankTo bk b o).clients = s.clients := rfl
@[simp] theorem bankTo_time (s : State) (bk : Bank) (b : BankHw) (o : List Out) : (s.bankTo bk b o).time = s.time := rfl
@[simp] theorem bankTo_twin (s : State) (bk : Bank) (b : BankHw) (o : List Out) : (s.bankTo bk b o).twin = s.twin := rfl
@[simp] theorem bankTo_life (s : State) (bk : Bank) (b : BankHw) (o : List Out) : (s.bankTo bk b o).life = s.life := rfl
@[simp] theorem bankTo_cvus (s : State) (bk : Bank) (b : BankHw) (o : List Out) : (s.bankTo bk b o).cvus = s.cvus := rfl
@[simp] theorem bankTo_upd (s : State) (bk : Bank) (b : BankHw) (o : List Out) : (s.bankTo bk b o).upd = s.upd := rfl
@[simp] theorem bankTo_supply (s : State) (bk : Bank) (b : BankHw) (o : List Out) : (s.bankTo bk b o).supply = s.supply := rfl
@[simp] theorem bankTo_pst (s : State) (bk : Bank) (b : BankHw) (o : List Out) : (s.bankTo bk b o).pst = s.pst := rfl
@[simp] theorem bankTo_pstLive (s : State) (bk : Bank) (b : BankHw) (o : List Out) : (s.bankTo bk b o).pstLive = s.pstLive := rfl

@[simp] theorem sensTo_pending (s : State) (x : Sensors) (o : List Out) : (s.sensTo x o).pending = s.pending := rfl
@[simp] theorem sensTo_out (s : State) (x : Sensors) (o : List Out) : (s.sensTo x o).out = o := rfl
@[simp] theorem sensTo_mstate (s : State) (x : Sensors) (o : List Out) : (s.sensTo x o).mstate = s.mstate := rfl
@[simp] theorem sensTo_svc (s : State) (x : Sensors) (o : List Out) : (s.sensTo x o).svc = s.svc := rfl
@[simp] theorem sensTo_vital (s : State) (x : Sensors) (o : List Out) : (s.sensTo x o).vital = s.vital := rfl
@[simp] theorem sensTo_kernel (s : State) (x : Sensors) (o : List Out) : (s.sensTo x o).kernel = s.kernel := rfl
@[simp] theorem sensTo_sdi (s : State) (x : Sensors) (o : List Out) : (s.sensTo x o).sdi = s.sdi := rfl
@[simp] theorem sensTo_col (s : State) (x : Sensors) (o : List Out) : (s.sensTo x o).col = s.col := rfl
@[simp] theorem sensTo_lock (s : State) (x : Sensors) (o : List Out) : (s.sensTo x o).lock = s.lock := rfl
@[simp] theorem sensTo_rcd (s : State) (x : Sensors) (o : List Out) : (s.sensTo x o).rcd = s.rcd := rfl
@[simp] theorem sensTo_sens (s : State) (x : Sensors) (o : List Out) : (s.sensTo x o).sens = x := rfl
@[simp] theorem sensTo_banks (s : State) (x : Sensors) (o : List Out) : (s.sensTo x o).banks = s.banks := rfl
@[simp] theorem sensTo_ring (s : State) (x : Sensors) (o : List Out) : (s.sensTo x o).ring = s.ring := rfl
@[simp] theorem sensTo_nets (s : State) (x : Sensors) (o : List Out) : (s.sensTo x o).nets = s.nets := rfl
@[simp] theorem sensTo_can (s : State) (x : Sensors) (o : List Out) : (s.sensTo x o).can = s.can := rfl
@[simp] theorem sensTo_clients (s : State) (x : Sensors) (o : List Out) : (s.sensTo x o).clients = s.clients := rfl
@[simp] theorem sensTo_time (s : State) (x : Sensors) (o : List Out) : (s.sensTo x o).time = s.time := rfl
@[simp] theorem sensTo_twin (s : State) (x : Sensors) (o : List Out) : (s.sensTo x o).twin = s.twin := rfl
@[simp] theorem sensTo_life (s : State) (x : Sensors) (o : List Out) : (s.sensTo x o).life = s.life := rfl
@[simp] theorem sensTo_cvus (s : State) (x : Sensors) (o : List Out) : (s.sensTo x o).cvus = s.cvus := rfl
@[simp] theorem sensTo_upd (s : State) (x : Sensors) (o : List Out) : (s.sensTo x o).upd = s.upd := rfl
@[simp] theorem sensTo_supply (s : State) (x : Sensors) (o : List Out) : (s.sensTo x o).supply = s.supply := rfl
@[simp] theorem sensTo_pst (s : State) (x : Sensors) (o : List Out) : (s.sensTo x o).pst = s.pst := rfl
@[simp] theorem sensTo_pstLive (s : State) (x : Sensors) (o : List Out) : (s.sensTo x o).pstLive = s.pstLive := rfl

@[simp] theorem ringTo_pending (s : State) (r : Ring) (o : List Out) : (s.ringTo r o).pending = s.pending := rfl
@[simp] theorem ringTo_out (s : State) (r : Ring) (o : List Out) : (s.ringTo r o).out = o := rfl
@[simp] theorem ringTo_mstate (s : State) (r : Ring) (o : List Out) : (s.ringTo r o).mstate = s.mstate := rfl
@[simp] theorem ringTo_svc (s : State) (r : Ring) (o : List Out) : (s.ringTo r o).svc = s.svc := rfl
@[simp] theorem ringTo_vital (s : State) (r : Ring) (o : List Out) : (s.ringTo r o).vital = s.vital := rfl
@[simp] theorem ringTo_kernel (s : State) (r : Ring) (o : List Out) : (s.ringTo r o).kernel = s.kernel := rfl
@[simp] theorem ringTo_sdi (s : State) (r : Ring) (o : List Out) : (s.ringTo r o).sdi = s.sdi := rfl
@[simp] theorem ringTo_col (s : State) (r : Ring) (o : List Out) : (s.ringTo r o).col = s.col := rfl
@[simp] theorem ringTo_lock (s : State) (r : Ring) (o : List Out) : (s.ringTo r o).lock = s.lock := rfl
@[simp] theorem ringTo_rcd (s : State) (r : Ring) (o : List Out) : (s.ringTo r o).rcd = s.rcd := rfl
@[simp] theorem ringTo_sens (s : State) (r : Ring) (o : List Out) : (s.ringTo r o).sens = s.sens := rfl
@[simp] theorem ringTo_banks (s : State) (r : Ring) (o : List Out) : (s.ringTo r o).banks = s.banks := rfl
@[simp] theorem ringTo_ring (s : State) (r : Ring) (o : List Out) : (s.ringTo r o).ring = r := rfl
@[simp] theorem ringTo_nets (s : State) (r : Ring) (o : List Out) : (s.ringTo r o).nets = s.nets := rfl
@[simp] theorem ringTo_can (s : State) (r : Ring) (o : List Out) : (s.ringTo r o).can = s.can := rfl
@[simp] theorem ringTo_clients (s : State) (r : Ring) (o : List Out) : (s.ringTo r o).clients = s.clients := rfl
@[simp] theorem ringTo_time (s : State) (r : Ring) (o : List Out) : (s.ringTo r o).time = s.time := rfl
@[simp] theorem ringTo_twin (s : State) (r : Ring) (o : List Out) : (s.ringTo r o).twin = s.twin := rfl
@[simp] theorem ringTo_life (s : State) (r : Ring) (o : List Out) : (s.ringTo r o).life = s.life := rfl
@[simp] theorem ringTo_cvus (s : State) (r : Ring) (o : List Out) : (s.ringTo r o).cvus = s.cvus := rfl
@[simp] theorem ringTo_upd (s : State) (r : Ring) (o : List Out) : (s.ringTo r o).upd = s.upd := rfl
@[simp] theorem ringTo_supply (s : State) (r : Ring) (o : List Out) : (s.ringTo r o).supply = s.supply := rfl
@[simp] theorem ringTo_pst (s : State) (r : Ring) (o : List Out) : (s.ringTo r o).pst = s.pst := rfl
@[simp] theorem ringTo_pstLive (s : State) (r : Ring) (o : List Out) : (s.ringTo r o).pstLive = s.pstLive := rfl

@[simp] theorem netsTo_pending (s : State) (n : Nets) (o : List Out) : (s.netsTo n o).pending = s.pending := rfl
@[simp] theorem netsTo_out (s : State) (n : Nets) (o : List Out) : (s.netsTo n o).out = o := rfl
@[simp] theorem netsTo_mstate (s : State) (n : Nets) (o : List Out) : (s.netsTo n o).mstate = s.mstate := rfl
@[simp] theorem netsTo_svc (s : State) (n : Nets) (o : List Out) : (s.netsTo n o).svc = s.svc := rfl
@[simp] theorem netsTo_vital (s : State) (n : Nets) (o : List Out) : (s.netsTo n o).vital = s.vital := rfl
@[simp] theorem netsTo_kernel (s : State) (n : Nets) (o : List Out) : (s.netsTo n o).kernel = s.kernel := rfl
@[simp] theorem netsTo_sdi (s : State) (n : Nets) (o : List Out) : (s.netsTo n o).sdi = s.sdi := rfl
@[simp] theorem netsTo_col (s : State) (n : Nets) (o : List Out) : (s.netsTo n o).col = s.col := rfl
@[simp] theorem netsTo_lock (s : State) (n : Nets) (o : List Out) : (s.netsTo n o).lock = s.lock := rfl
@[simp] theorem netsTo_rcd (s : State) (n : Nets) (o : List Out) : (s.netsTo n o).rcd = s.rcd := rfl
@[simp] theorem netsTo_sens (s : State) (n : Nets) (o : List Out) : (s.netsTo n o).sens = s.sens := rfl
@[simp] theorem netsTo_banks (s : State) (n : Nets) (o : List Out) : (s.netsTo n o).banks = s.banks := rfl
@[simp] theorem netsTo_ring (s : State) (n : Nets) (o : List Out) : (s.netsTo n o).ring = s.ring := rfl
@[simp] theorem netsTo_nets (s : State) (n : Nets) (o : List Out) : (s.netsTo n o).nets = n := rfl
@[simp] theorem netsTo_can (s : State) (n : Nets) (o : List Out) : (s.netsTo n o).can = s.can := rfl
@[simp] theorem netsTo_clients (s : State) (n : Nets) (o : List Out) : (s.netsTo n o).clients = s.clients := rfl
@[simp] theorem netsTo_time (s : State) (n : Nets) (o : List Out) : (s.netsTo n o).time = s.time := rfl
@[simp] theorem netsTo_twin (s : State) (n : Nets) (o : List Out) : (s.netsTo n o).twin = s.twin := rfl
@[simp] theorem netsTo_life (s : State) (n : Nets) (o : List Out) : (s.netsTo n o).life = s.life := rfl
@[simp] theorem netsTo_cvus (s : State) (n : Nets) (o : List Out) : (s.netsTo n o).cvus = s.cvus := rfl
@[simp] theorem netsTo_upd (s : State) (n : Nets) (o : List Out) : (s.netsTo n o).upd = s.upd := rfl
@[simp] theorem netsTo_supply (s : State) (n : Nets) (o : List Out) : (s.netsTo n o).supply = s.supply := rfl
@[simp] theorem netsTo_pst (s : State) (n : Nets) (o : List Out) : (s.netsTo n o).pst = s.pst := rfl
@[simp] theorem netsTo_pstLive (s : State) (n : Nets) (o : List Out) : (s.netsTo n o).pstLive = s.pstLive := rfl

@[simp] theorem canTo_pending (s : State) (c : Can) (o : List Out) : (s.canTo c o).pending = s.pending := rfl
@[simp] theorem canTo_out (s : State) (c : Can) (o : List Out) : (s.canTo c o).out = o := rfl
@[simp] theorem canTo_mstate (s : State) (c : Can) (o : List Out) : (s.canTo c o).mstate = s.mstate := rfl
@[simp] theorem canTo_svc (s : State) (c : Can) (o : List Out) : (s.canTo c o).svc = s.svc := rfl
@[simp] theorem canTo_vital (s : State) (c : Can) (o : List Out) : (s.canTo c o).vital = s.vital := rfl
@[simp] theorem canTo_kernel (s : State) (c : Can) (o : List Out) : (s.canTo c o).kernel = s.kernel := rfl
@[simp] theorem canTo_sdi (s : State) (c : Can) (o : List Out) : (s.canTo c o).sdi = s.sdi := rfl
@[simp] theorem canTo_col (s : State) (c : Can) (o : List Out) : (s.canTo c o).col = s.col := rfl
@[simp] theorem canTo_lock (s : State) (c : Can) (o : List Out) : (s.canTo c o).lock = s.lock := rfl
@[simp] theorem canTo_rcd (s : State) (c : Can) (o : List Out) : (s.canTo c o).rcd = s.rcd := rfl
@[simp] theorem canTo_sens (s : State) (c : Can) (o : List Out) : (s.canTo c o).sens = s.sens := rfl
@[simp] theorem canTo_banks (s : State) (c : Can) (o : List Out) : (s.canTo c o).banks = s.banks := rfl
@[simp] theorem canTo_ring (s : State) (c : Can) (o : List Out) : (s.canTo c o).ring = s.ring := rfl
@[simp] theorem canTo_nets (s : State) (c : Can) (o : List Out) : (s.canTo c o).nets = s.nets := rfl
@[simp] theorem canTo_can (s : State) (c : Can) (o : List Out) : (s.canTo c o).can = c := rfl
@[simp] theorem canTo_clients (s : State) (c : Can) (o : List Out) : (s.canTo c o).clients = s.clients := rfl
@[simp] theorem canTo_time (s : State) (c : Can) (o : List Out) : (s.canTo c o).time = s.time := rfl
@[simp] theorem canTo_twin (s : State) (c : Can) (o : List Out) : (s.canTo c o).twin = s.twin := rfl
@[simp] theorem canTo_life (s : State) (c : Can) (o : List Out) : (s.canTo c o).life = s.life := rfl
@[simp] theorem canTo_cvus (s : State) (c : Can) (o : List Out) : (s.canTo c o).cvus = s.cvus := rfl
@[simp] theorem canTo_upd (s : State) (c : Can) (o : List Out) : (s.canTo c o).upd = s.upd := rfl
@[simp] theorem canTo_supply (s : State) (c : Can) (o : List Out) : (s.canTo c o).supply = s.supply := rfl
@[simp] theorem canTo_pst (s : State) (c : Can) (o : List Out) : (s.canTo c o).pst = s.pst := rfl
@[simp] theorem canTo_pstLive (s : State) (c : Can) (o : List Out) : (s.canTo c o).pstLive = s.pstLive := rfl

@[simp] theorem timeTo_pending (s : State) (t : Time) (o : List Out) : (s.timeTo t o).pending = s.pending := rfl
@[simp] theorem timeTo_out (s : State) (t : Time) (o : List Out) : (s.timeTo t o).out = o := rfl
@[simp] theorem timeTo_mstate (s : State) (t : Time) (o : List Out) : (s.timeTo t o).mstate = s.mstate := rfl
@[simp] theorem timeTo_svc (s : State) (t : Time) (o : List Out) : (s.timeTo t o).svc = s.svc := rfl
@[simp] theorem timeTo_vital (s : State) (t : Time) (o : List Out) : (s.timeTo t o).vital = s.vital := rfl
@[simp] theorem timeTo_kernel (s : State) (t : Time) (o : List Out) : (s.timeTo t o).kernel = s.kernel := rfl
@[simp] theorem timeTo_sdi (s : State) (t : Time) (o : List Out) : (s.timeTo t o).sdi = s.sdi := rfl
@[simp] theorem timeTo_col (s : State) (t : Time) (o : List Out) : (s.timeTo t o).col = s.col := rfl
@[simp] theorem timeTo_lock (s : State) (t : Time) (o : List Out) : (s.timeTo t o).lock = s.lock := rfl
@[simp] theorem timeTo_rcd (s : State) (t : Time) (o : List Out) : (s.timeTo t o).rcd = s.rcd := rfl
@[simp] theorem timeTo_sens (s : State) (t : Time) (o : List Out) : (s.timeTo t o).sens = s.sens := rfl
@[simp] theorem timeTo_banks (s : State) (t : Time) (o : List Out) : (s.timeTo t o).banks = s.banks := rfl
@[simp] theorem timeTo_ring (s : State) (t : Time) (o : List Out) : (s.timeTo t o).ring = s.ring := rfl
@[simp] theorem timeTo_nets (s : State) (t : Time) (o : List Out) : (s.timeTo t o).nets = s.nets := rfl
@[simp] theorem timeTo_can (s : State) (t : Time) (o : List Out) : (s.timeTo t o).can = s.can := rfl
@[simp] theorem timeTo_clients (s : State) (t : Time) (o : List Out) : (s.timeTo t o).clients = s.clients := rfl
@[simp] theorem timeTo_time (s : State) (t : Time) (o : List Out) : (s.timeTo t o).time = t := rfl
@[simp] theorem timeTo_twin (s : State) (t : Time) (o : List Out) : (s.timeTo t o).twin = s.twin := rfl
@[simp] theorem timeTo_life (s : State) (t : Time) (o : List Out) : (s.timeTo t o).life = s.life := rfl
@[simp] theorem timeTo_cvus (s : State) (t : Time) (o : List Out) : (s.timeTo t o).cvus = s.cvus := rfl
@[simp] theorem timeTo_upd (s : State) (t : Time) (o : List Out) : (s.timeTo t o).upd = s.upd := rfl
@[simp] theorem timeTo_supply (s : State) (t : Time) (o : List Out) : (s.timeTo t o).supply = s.supply := rfl
@[simp] theorem timeTo_pst (s : State) (t : Time) (o : List Out) : (s.timeTo t o).pst = s.pst := rfl
@[simp] theorem timeTo_pstLive (s : State) (t : Time) (o : List Out) : (s.timeTo t o).pstLive = s.pstLive := rfl

end Sys2Proof.Machine
end

