-- ==== Sys2Proof/Laws/Banks.lean ====
section
/-! SUPPORT. What the operations of a field bank come to: voting, the pump, a test, one bit of an image word. -/

namespace Sys2Proof.Machine

/-- A row of a bank that has started. -/
theorem bank_row {s : State} {bk : Bank} (h : s.supply.on = true) (hb : s.bankUp bk = true) (f : BankHw → BankHw) :
    (s.live fun s => s.modHw bk f) = s.bankTo bk (f (s.hw bk)) [] := by
  rw [live_on h, begin_modHw hb]
/-- A row of a bank that has not started. -/
theorem bank_row_off {s : State} {bk : Bank} (h : s.supply.on = true) (hb : s.bankUp bk = false) (f : BankHw → BankHw) :
    (s.live fun s => s.modHw bk f) = s.begin := by
  rw [live_on h, modHw_off (by exact hb)]
/-- The voters change nothing of a line but its echo. -/
theorem revote_line (b : BankHw) (c : Ch) : b.revote.lines.get c = (b.lines.get c).echoed := by
  cases c <;> rfl
@[simp] theorem echoed_enable (l : BankLine) : l.echoed.enable = l.enable := by unfold BankLine.echoed; (repeat' split) <;> rfl
@[simp] theorem echoed_halves (l : BankLine) : l.echoed.halves = l.halves := by unfold BankLine.echoed; (repeat' split) <;> rfl
@[simp] theorem echoed_fresh (l : BankLine) : l.echoed.fresh = l.fresh := by unfold BankLine.echoed; (repeat' split) <;> rfl
@[simp] theorem echoed_cmd (l : BankLine) : l.echoed.cmd = l.cmd := by unfold BankLine.echoed; (repeat' split) <;> simp_all
@[simp] theorem echoed_fault (l : BankLine) : l.echoed.fault = l.fault := by unfold BankLine.echoed; (repeat' split) <;> rfl
@[simp] theorem echoed_counted (l : BankLine) : l.echoed.counted = l.counted := by unfold BankLine.echoed; (repeat' split) <;> rfl
theorem quad_toList {α} (q : Quad α) : q.toList = [q.get .a, q.get .b, q.get .c, q.get .d] := rfl
theorem revote_enables (b : BankHw) : b.revote.enables = b.enables := by
  simp only [BankHw.enables, quad_toList, revote_line, List.filter, echoed_enable]
  cases (b.lines.get Ch.a).enable <;> cases (b.lines.get Ch.b).enable <;> cases (b.lines.get Ch.c).enable <;> cases (b.lines.get Ch.d).enable <;> rfl
/-- Voting again counts the same frames. -/
theorem revote_votes (b : BankHw) : b.revote.votes = b.votes := by
  simp only [BankHw.votes, quad_toList, revote_line, List.filter, echoed_counted]
  cases (b.lines.get Ch.a).counted <;> cases (b.lines.get Ch.b).counted <;> cases (b.lines.get Ch.c).counted <;> cases (b.lines.get Ch.d).counted <;> simp only [List.filterMap, echoed_cmd]
theorem pump_lines (b : BankHw) : b.pump.lines = b.lines := by unfold BankHw.pump; split <;> rfl
theorem revote_voteP (b : BankHw) : b.revote.voteP = b.voteP := by simp only [BankHw.voteP, revote_votes]
theorem revote_voteM (b : BankHw) : b.revote.voteM = b.voteM := by simp only [BankHw.voteM, revote_votes]
/-- Without the pump every vital switch is open. -/
theorem revote_off (b : BankHw) (h : b.pumpReady = false) : b.revote.pSw = 0 ∧ b.revote.mSw = 0 := by
  simp [BankHw.revote, BankHw.powered, h]
/-- With fewer than two enables the pump is off and every vital switch open. -/
theorem pump_off (b : BankHw) (h : b.pump.revote.enables < 2) : b.pump.revote.pumpReady = false ∧ b.pump.revote.pSw = 0 ∧ b.pump.revote.mSw = 0 := by
  have he : b.enables < 2 := by rw [revote_enables] at h; simpa [BankHw.enables, pump_lines] using h
  have hp : b.pump.pumpReady = false := by simp [BankHw.pump, he]
  exact ⟨hp, revote_off _ hp⟩
theorem pump_voted (b : BankHw) (l : Quad BankLine) : Voted b ({ b with lines := l } : BankHw).pump.revote := by
  unfold BankHw.pump; split <;> rfl
theorem testStep_lines (b : BankHw) : b.testStep.lines = b.lines := by
  unfold BankHw.testStep BankHw.startTest; (repeat' split) <;> rfl
theorem testStep_request (b : BankHw) : b.testStep.request = b.request := by
  simp only [BankHw.request, BankHw.votes, testStep_lines]; rfl
theorem testStep_voted (b : BankHw) : Voted b b.testStep := by
  unfold BankHw.testStep BankHw.startTest; (repeat' split) <;> rfl
theorem revote_testStep_voted (b : BankHw) (l : Quad BankLine) : Voted b ({ b with lines := l } : BankHw).revote.testStep := by
  have := testStep_voted ({ b with lines := l } : BankHw).revote
  rw [Voted] at this ⊢
  rw [this]; rfl
theorem testStep_switches (b : BankHw) : b.testStep.pSw = b.pSw ∧ b.testStep.mSw = b.mSw := by
  unfold BankHw.testStep BankHw.startTest; (repeat' split) <;> exact ⟨rfl, rfl⟩
/-- Setting a bit changes that bit alone. -/
theorem setBit_getLsbD {w} (x : BitVec w) (n : Nat) (v : Bool) (i : Nat) (hi : i < w) (hn : n < w) : (setBit x n v).getLsbD i = (if i = n then v else x.getLsbD i) := by
  unfold setBit
  have hp : (BitVec.ofNat w (2 ^ n)).getLsbD i = decide (i = n) := by
    rw [BitVec.getLsbD_ofNat, Nat.testBit_two_pow]
    simp only [hi, decide_true, Bool.true_and]
    exact decide_eq_decide.2 eq_comm
  cases v
  · simp only [Bool.false_eq_true, if_false, BitVec.getLsbD_and, BitVec.getLsbD_not, hp, hi]
    split <;> simp_all
  · simp only [if_true, BitVec.getLsbD_or, hp]
    split <;> simp_all
/-- What a bank has sent is the readback the next test starts from. -/
theorem testSent_last (b : BankHw) (x : Terminals) : ((b.testSent x).lastP, (b.testSent x).lastM) = b.readPM x := by
  unfold BankHw.testSent
  dsimp only
  (repeat' split) <;> rfl

end Sys2Proof.Machine
end

