-- ==== Sys2Proof/Laws/Kept.lean ====
section
/-! SUPPORT. What every operation of the module leaves as it is: the queue, the supply, the count of CLK_SVC and the
lengths of the fixed tables. One lemma per operation, in the order in which they build on each other. -/

namespace Sys2Proof.Machine

/-- What every operation of the module leaves as it is: the queue, the twelve check-value units, the sixteen lock-out
entries, the sixteen fault-record slots, the five copies of the life-cycle word, the supply and the count of
CLK_SVC. -/
abbrev Kept (s t : State) : Prop :=
  t.pending = s.pending ∧ t.cvus.length = s.cvus.length ∧ t.lock.entries.length = s.lock.entries.length
    ∧ t.col.recs.length = s.col.recs.length ∧ t.life.copies.length = s.life.copies.length
    ∧ t.supply = s.supply ∧ t.svc.ms = s.svc.ms

theorem kept_refl (s : State) : Kept s s := ⟨rfl, rfl, rfl, rfl, rfl, rfl, rfl⟩

theorem kept_trans {s t u : State} (h : Kept s t) (k : Kept t u) : Kept s u := by
  obtain ⟨h1, h2, h3, h4, h5, h6, h7⟩ := h
  obtain ⟨k1, k2, k3, k4, k5, k6, k7⟩ := k
  exact ⟨k1.trans h1, k2.trans h2, k3.trans h3, k4.trans h4, k5.trans h5, k6.trans h6, k7.trans h7⟩

theorem foldl_kept {α : Type} (l : List α) (g : State → α → State) (h : ∀ s a, Kept s (g s a)) (s : State) :
    Kept s (l.foldl g s) := by
  induction l generalizing s with
  | nil => simp [Kept]
  | cons a t ih => have := ih (g s a); have := h s a; simp_all [Kept]

@[simp] theorem foldl_pending {α : Type} (l : List α) (g : State → α → State) (s : State)
    (h : ∀ s a, (g s a).pending = s.pending) : (l.foldl g s).pending = s.pending := by
  induction l generalizing s with
  | nil => rfl
  | cons a t ih => simp [List.foldl, ih, h]
@[simp] theorem foldl_cvus {α : Type} (l : List α) (g : State → α → State) (s : State)
    (h : ∀ s a, (g s a).cvus.length = s.cvus.length) : (l.foldl g s).cvus.length = s.cvus.length := by
  induction l generalizing s with
  | nil => rfl
  | cons a t ih => simp [List.foldl, ih, h]
@[simp] theorem foldl_entries {α : Type} (l : List α) (g : State → α → State) (s : State)
    (h : ∀ s a, (g s a).lock.entries.length = s.lock.entries.length) :
    (l.foldl g s).lock.entries.length = s.lock.entries.length := by
  induction l generalizing s with
  | nil => rfl
  | cons a t ih => simp [List.foldl, ih, h]
@[simp] theorem foldl_recs {α : Type} (l : List α) (g : State → α → State) (s : State)
    (h : ∀ s a, (g s a).col.recs.length = s.col.recs.length) : (l.foldl g s).col.recs.length = s.col.recs.length := by
  induction l generalizing s with
  | nil => rfl
  | cons a t ih => simp [List.foldl, ih, h]
@[simp] theorem foldl_copies {α : Type} (l : List α) (g : State → α → State) (s : State)
    (h : ∀ s a, (g s a).life.copies.length = s.life.copies.length) :
    (l.foldl g s).life.copies.length = s.life.copies.length := by
  induction l generalizing s with
  | nil => rfl
  | cons a t ih => simp [List.foldl, ih, h]

@[simp] theorem foldl_supply {α : Type} (l : List α) (g : State → α → State) (s : State)
    (h : ∀ s a, (g s a).supply = s.supply) : (l.foldl g s).supply = s.supply := by
  induction l generalizing s with
  | nil => rfl
  | cons a t ih => simp [List.foldl, ih, h]
@[simp] theorem foldl_ms {α : Type} (l : List α) (g : State → α → State) (s : State)
    (h : ∀ s a, (g s a).svc.ms = s.svc.ms) : (l.foldl g s).svc.ms = s.svc.ms := by
  induction l generalizing s with
  | nil => rfl
  | cons a t ih => simp [List.foldl, ih, h]

@[simp] theorem modCvu_kept (s : State) (n : Nat) (f : Cvu → Cvu) : Kept s (State.modCvu s n f) := by
  simp [Kept, State.modCvu]

@[simp] theorem cvuCompute_kept (s : State) (n : Nat) (l : List Byte) : Kept s (s.cvuCompute n l).1 := by
  simp [Kept, State.cvuCompute]
@[simp] theorem cvuAppend_kept (s : State) (n : Nat) (l : List Byte) : Kept s (s.cvuAppend n l).1 := by
  simp [Kept, State.cvuAppend]
@[simp] theorem cvuStrip_kept (s : State) (n : Nat) (l : List Byte) : Kept s (s.cvuStrip n l).1 := by
  simp [Kept, State.cvuStrip]

@[simp] theorem cvuJob_kept (s : State) (n : Nat) (l : List Byte) : Kept s (State.cvuJob s n l) := by
  simp [Kept, State.cvuJob]

@[simp] theorem recordVals_kept (s : State) (code src flags : Nat) (vals : List (Option W32)) :
    Kept s (State.recordVals s code src flags vals) := by
  simp only [State.recordVals]
  (repeat' split) <;> simp [Kept]

@[simp] theorem record_kept (s : State) (code src flags : Nat) : Kept s (State.record s code src flags) := by
  simp [Kept, State.record]

@[simp] theorem emit_kept (s : State) (o : Out) : Kept s (State.emit s o) := by
  simp [Kept, State.emit]

@[simp] theorem emits_kept (s : State) (l : List Out) : Kept s (State.emits s l) := by
  simp [Kept, State.emits]

@[simp] theorem begin_kept (s : State) : Kept s (State.begin s) := by
  simp [Kept, State.begin]

@[simp] theorem live_kept (s : State) (f : State → State) (hf : ∀ x, Kept x (f x)) : Kept s (State.live s f) := by
  simp only [Kept, forall_and] at hf
  simp only [State.live]
  (repeat' split) <;> simp [Kept, *]

@[simp] theorem queueEmcy_kept (s : State) (code src : Nat) : Kept s (State.queueEmcy s code src) := by
  simp only [State.queueEmcy]
  (repeat' split) <;> simp [Kept]

@[simp] theorem setRec_kept (s : State) (n : Nat) (r : Option FaultRec) : Kept s (State.setRec s n r) := by
  simp [Kept, State.setRec]

@[simp] theorem countAssert_kept (s : State) (src : Nat) : Kept s (State.countAssert s src) := by
  simp [Kept, State.countAssert]

@[simp] theorem deassert_kept (s : State) (src : Nat) : Kept s (State.deassert s src) := by
  simp only [State.deassert]
  (repeat' split) <;> simp [Kept]

@[simp] theorem settleSource_kept (s : State) (src : Nat) : Kept s (State.settleSource s src) := by
  simp only [State.settleSource]
  (repeat' split) <;> simp [Kept]

@[simp] theorem mergeInto_kept (s : State) (n src : Nat) (forced : Bool) : Kept s (State.mergeInto s n src forced) := by
  simp only [State.mergeInto]
  (repeat' split) <;> simp [Kept]

@[simp] theorem checkClear_kept (s : State) : Kept s (State.checkClear s) := by
  simp only [State.checkClear]
  (repeat' split) <;> simp [Kept]

@[simp] theorem closeRec_kept (s : State) (n : Nat) : Kept s (State.closeRec s n) := by
  simp only [State.closeRec]
  (repeat' split) <;> simp [Kept]

@[simp] theorem settle_kept (s : State) (n : Option Nat) (src level : Nat) (acked : Bool) :
    Kept s (State.settle s n src level acked) := by
  simp only [State.settle]
  (repeat' split) <;> simp [Kept]

@[simp] theorem safeNets_kept (s : State) : Kept s (State.safeNets s) := by
  simp [Kept, State.safeNets]

@[simp] theorem slotRecords_kept (s : State) : Kept s (State.slotRecords s) := by
  exact foldl_kept s.kernel.notes _ (fun x a => by cases a <;> simp [Kept]) s

@[simp] theorem leaveRun_kept (s : State) (m : MState) : Kept s (State.leaveRun s m) := by
  simp [Kept, State.leaveRun]

@[simp] theorem goSafe_kept (s : State) (src : Nat) : Kept s (State.goSafe s src) := by
  simp only [State.goSafe]
  (repeat' split) <;> simp [Kept]

@[simp] theorem lockWritten_kept (s : State) : Kept s (State.lockWritten s) := by
  simp [Kept, State.lockWritten]

/-- The lock-out record keeps its entries. -/
@[simp] theorem lockout_add_length (l : Lockout) (src : Nat) (detail : W32) (forced : Bool) (now : DTime) (cycle : Nat) :
    (l.add src detail forced now cycle).entries.length = l.entries.length := by
  simp only [Lockout.add]
  (repeat' split) <;> simp

@[simp] theorem goLockout_kept (s : State) (src : Nat) (detail : W32) (forced : Bool) :
    Kept s (State.goLockout s src detail forced) := by
  simp only [State.goLockout]
  (repeat' split) <;> simp [Kept]

@[simp] theorem pairReset_kept (s : State) (again : State → State) (ch : Ch) (hagain : ∀ x, Kept x (again x)) :
    Kept s (State.pairReset s again ch) := by
  simp only [Kept, forall_and] at hagain
  simp only [State.pairReset]
  (repeat' split) <;> simp [Kept, *]

@[simp] theorem openShadow_kept (s : State) (n : Option Nat) (ch : Ch) : Kept s (State.openShadow s n ch) := by
  simp only [State.openShadow]
  (repeat' split) <;> simp [Kept]

@[simp] theorem isolate_kept (s : State) (l : List Nat) : Kept s (State.isolate s l) := by
  simp [Kept, State.isolate]

@[simp] theorem applyLevel_kept (s : State) (again : State → State) (n : Option Nat) (src level : Nat) (ch : Ch) (detail : W32) (forced acked : Bool) (hagain : ∀ x, Kept x (again x)) :
    Kept s (State.applyLevel s again n src level ch detail forced acked) := by
  simp only [Kept, forall_and] at hagain
  simp only [State.applyLevel]
  (repeat' split) <;> simp [Kept, *]

@[simp] theorem openRec_kept (s : State) (src : Nat) (forced : Bool) : Kept s (s.openRec src forced).1 := by
  simp only [State.openRec]
  (repeat' split) <;> simp [Kept]

@[simp] theorem settleRec_kept (s : State) (src : Nat) (forced : Bool) : Kept s (s.settleRec src forced).1 := by
  unfold State.settleRec
  split
  · exact ⟨rfl, rfl, rfl, rfl, rfl, rfl, rfl⟩
  · exact openRec_kept s src forced

@[simp] theorem raiseWith_kept (s : State) (again : State → State) (src : Nat) (detail : W32) (forced : Bool) (hagain : ∀ x, Kept x (again x)) :
    Kept s (State.raiseWith s again src detail forced) := by
  simp only [Kept, forall_and] at hagain
  simp only [State.raiseWith]
  (repeat' split) <;> simp [Kept, *]

@[simp] theorem raiseSafe_kept (s : State) : Kept s (State.raiseSafe s) := by
  simp [Kept, State.raiseSafe]

@[simp] theorem raise_kept (s : State) (src : Nat) : Kept s (State.raise s src) := by
  simp [Kept, State.raise]

@[simp] theorem raiseAbout_kept (s : State) (src a b : Nat) : Kept s (State.raiseAbout s src a b) := by
  simp [Kept, State.raiseAbout]

@[simp] theorem raises_kept (s : State) (l : List Nat) : Kept s (State.raises s l) := by
  simp [Kept, State.raises]

@[simp] theorem raiseAgreed_kept (s : State) (src : Nat) (ch : Ch) : Kept s (State.raiseAgreed s src ch) := by
  simp only [State.raiseAgreed]
  (repeat' split) <;> simp [Kept]

@[simp] theorem modCan_kept (s : State) (f : Can → Can) : Kept s (State.modCan s f) := by
  simp [Kept, State.modCan]

@[simp] theorem canHead_kept (s : State) : Kept s (State.canHead s) := by
  simp only [State.canHead]
  (repeat' split) <;> simp [Kept]

@[simp] theorem canQueue_kept (s : State) (f : CanOut) : Kept s (State.canQueue s f) := by
  simp only [State.canQueue]
  (repeat' split) <;> simp [Kept]

@[simp] theorem canSend_kept (s : State) (f : CanOut) : Kept s (State.canSend s f) := by
  simp only [State.canSend]
  (repeat' split) <;> simp [Kept]

@[simp] theorem answerCan_kept (s : State) (cl : Client) (code : Option W32) : Kept s (State.answerCan s cl code) := by
  simp only [State.answerCan]
  (repeat' split) <;> simp [Kept]

@[simp] theorem toBackup_kept (s : State) : Kept s (State.toBackup s) := by
  simp [Kept, State.toBackup]

@[simp] theorem roleCheck_kept (s : State) : Kept s (State.roleCheck s) := by
  simp only [State.roleCheck]
  (repeat' split) <;> simp [Kept]

@[simp] theorem setClient_kept (s : State) (c : ClientSt) : Kept s (State.setClient s c) := by
  simp [Kept, State.setClient]

@[simp] theorem modClient_kept (s : State) (cl : Client) (f : ClientSt → ClientSt) : Kept s (State.modClient s cl f) := by
  simp [Kept, State.modClient]

@[simp] theorem touch_kept (s : State) (cl : Client) : Kept s (State.touch s cl) := by
  simp [Kept, State.touch]

@[simp] theorem abort_kept (s : State) (cl : Client) (code : W32) : Kept s (State.abort s cl code) := by
  simp [Kept, State.abort]

@[simp] theorem accept_kept (s : State) (cl : Client) : Kept s (State.accept s cl) := by
  simp [Kept, State.accept]

@[simp] theorem write_kept (s : State) (cl : Client) (n : Need) (lenOk rangeOk : Bool) (f : State → State) (hf : ∀ x, Kept x (f x)) :
    Kept s (State.write s cl n lenOk rangeOk f) := by
  simp only [Kept, forall_and] at hf
  simp only [State.write]
  (repeat' split) <;> simp [Kept, *]

@[simp] theorem pstWrite_kept (s : State) (idx sub : Nat) (d : List Byte) : Kept s (State.pstWrite s idx sub d) := by
  simp [Kept, State.pstWrite]

@[simp] theorem faultSourceAssert_kept (src : Nat) (by_ : Option Ch) (s : State) : Kept s (faultSourceAssert src by_ s) := by
  simp only [faultSourceAssert]
  (repeat' split) <;> simp [Kept]

@[simp] theorem dropEscal_kept (s : State) (src : Nat) : Kept s (State.dropEscal s src) := by
  simp [Kept, State.dropEscal]

@[simp] theorem escalationExpiry_kept (src : Nat) (s : State) : Kept s (escalationExpiry src s) := by
  simp only [escalationExpiry]
  (repeat' split) <;> simp [Kept]

@[simp] theorem ackSettle_kept (s : State) (e : Escalation) (src level : Nat) : Kept s (State.ackSettle s e src level) := by
  simp [Kept, State.ackSettle]

@[simp] theorem ackHandled_kept (w : AckWord) (who : AckBy) (s : State) : Kept s (ackHandled w who s) := by
  simp only [ackHandled]
  (repeat' split) <;> simp [Kept]

@[simp] theorem ackLowered_kept (w : AckWord) (who : AckBy) (s : State) : Kept s (ackLowered w who s) := by
  simp only [ackLowered]
  (repeat' split) <;> simp [Kept]

@[simp] theorem ackDismissed_kept (w : AckWord) (who : AckBy) (s : State) : Kept s (ackDismissed w who s) := by
  simp only [ackDismissed]
  (repeat' split) <;> simp [Kept]

@[simp] theorem ackRedirect_kept (w : AckWord) (who : AckBy) (s : State) : Kept s (ackRedirect w who s) := by
  simp only [ackRedirect]
  (repeat' split) <;> simp [Kept]

@[simp] theorem configPair_kept (s : State) (p : CfgPair) : Kept s (configPair s p) := by
  simp only [configPair]
  (repeat' split) <;> simp [Kept]

@[simp] theorem forceBit_kept (src : Nat) (v : Byte) (s : State) : Kept s (forceBit src v s) := by
  simp only [forceBit]
  (repeat' split) <;> simp [Kept]

@[simp] theorem forceWrite_kept (cl : Client) (v : Byte) (s : State) : Kept s (forceWrite cl v s) := by
  simp only [forceWrite]
  (repeat' split) <;> simp [Kept]

@[simp] theorem overrideWrite_kept (cl : Client) (w : W32) (s : State) : Kept s (overrideWrite cl w s) := by
  simp only [overrideWrite]
  (repeat' split) <;> simp [Kept]

@[simp] theorem resetHold_kept (svc : Bool) (chans : List Ch) (s : State) : Kept s (resetHold svc chans s) := by
  simp only [resetHold]
  (repeat' split) <;> simp [Kept]

@[simp] theorem cvuKat_kept (n : Nat) (result : W64) (s : State) : Kept s (cvuKat n result s) := by
  simp only [cvuKat]
  (repeat' split) <;> simp [Kept]

@[simp] theorem modSlot_kept (s : State) (n : Nat) (f : SlotSt → SlotSt) : Kept s (State.modSlot s n f) := by
  simp [Kept, State.modSlot]

@[simp] theorem finish_kept (s : State) (n : Nat) (st : SlotState) (result : Nat) (data : List Byte) :
    Kept s (State.finish s n st result data) := by
  simp [Kept, State.finish]

@[simp] theorem startTest_kept (s : State) (slot mask : Nat) : Kept s (State.startTest s slot mask) := by
  simp [Kept, State.startTest]

@[simp] theorem writeSeal_kept (s : State) (origin : Nat) : Kept s (State.writeSeal s origin) := by
  simp [Kept, State.writeSeal]

@[simp] theorem endTest_kept (s : State) (st : Nat) : Kept s (State.endTest s st) := by
  simp [Kept, State.endTest]

@[simp] theorem cutTest_kept (s : State) (n : Nat) : Kept s (State.cutTest s n) := by
  simp [Kept, State.cutTest]

@[simp] theorem stopping_kept (s : State) (n : Nat) (t : SelfTest) : Kept s (State.stopping s n t) := by
  simp only [State.stopping]
  (repeat' split) <;> simp [Kept]

@[simp] theorem runShutdown_kept (s : State) (n : Nat) : Kept s (State.runShutdown s n) := by
  simp only [State.runShutdown]
  (repeat' split) <;> simp [Kept]

@[simp] theorem enterShutdown_kept (s : State) (n : Nat) : Kept s (State.enterShutdown s n) := by
  simp [Kept, State.enterShutdown]

@[simp] theorem startShutdown_kept (s : State) (n : Nat) : Kept s (State.startShutdown s n) := by
  simp only [State.startShutdown]
  (repeat' split) <;> simp [Kept]

@[simp] theorem startBist_kept (s : State) (n : Nat) : Kept s (State.startBist s n) := by
  simp [Kept, State.startBist]

@[simp] theorem startTransfer_kept (s : State) (n : Nat) : Kept s (State.startTransfer s n) := by
  simp only [State.startTransfer]
  (repeat' split) <;> simp [Kept]

@[simp] theorem dropTransfer_kept (s : State) (n : Nat) (st : SlotState) (code : Nat) :
    Kept s (State.dropTransfer s n st code) := by
  simp only [State.dropTransfer]
  (repeat' split) <;> simp [Kept]

@[simp] theorem transferSwitch_kept (s : State) : Kept s (State.transferSwitch s) := by
  simp [Kept, State.transferSwitch]

@[simp] theorem startSchedule_kept (s : State) (n : Nat) : Kept s (State.startSchedule s n) := by
  simp only [State.startSchedule]
  (repeat' split) <;> simp [Kept]

@[simp] theorem dropSchedule_kept (s : State) : Kept s (State.dropSchedule s) := by
  simp [Kept, State.dropSchedule]

@[simp] theorem startExport_kept (s : State) (n : Nat) : Kept s (State.startExport s n) := by
  simp only [State.startExport]
  (repeat' split) <;> simp [Kept]

@[simp] theorem startService_kept (s : State) (n : Nat) : Kept s (State.startService s n) := by
  simp only [State.startService]
  (repeat' split) <;> simp [Kept]

@[simp] theorem cancelService_kept (s : State) (n : Nat) : Kept s (State.cancelService s n) := by
  simp only [State.cancelService]
  (repeat' split) <;> simp [Kept]

@[simp] theorem sendExcite_kept (s : State) (head : Nat) : Kept s (State.sendExcite s head) := by
  simp only [State.sendExcite]
  (repeat' split) <;> simp [Kept]

@[simp] theorem refuse_kept (s : State) (cl : Client) (code : Nat) : Kept s (State.refuse s cl code) := by
  simp [Kept, State.refuse]

@[simp] theorem answer_kept (s : State) (cl : Client) (code : Nat) : Kept s (State.answer s cl code) := by
  simp only [State.answer]
  (repeat' split) <;> simp [Kept]

@[simp] theorem respond_kept (s : State) (cl : Client) (w : Waiting) (code : Nat) : Kept s (State.respond s cl w code) := by
  simp only [State.respond]
  (repeat' split) <;> simp [Kept]

@[simp] theorem entryVerdict_kept (s : State) (no code : Nat) : Kept s (State.entryVerdict s no code) := by
  refine foldl_kept _ _ (fun x a => ?_) s
  (repeat' split) <;> simp [Kept]

@[simp] theorem settleWaits_kept (s : State) (p : Nat → Bool) : Kept s (State.settleWaits s p) := by
  refine foldl_kept _ _ (fun x a => ?_) s
  refine kept_trans (modClient_kept x a.client _) (foldl_kept _ _ (fun y w => ?_) _)
  split <;> simp [Kept]

@[simp] theorem settleAll_kept (s : State) : Kept s (State.settleAll s) := by
  simp only [State.settleAll]
  (repeat' split) <;> simp [Kept]

@[simp] theorem takeNote_kept (s : State) (n : Note) : Kept s (State.takeNote s n) := by
  simp only [State.takeNote]
  (repeat' split) <;> simp [Kept]

@[simp] theorem syncService_kept (s : State) : Kept s (State.syncService s) := by
  simp only [State.syncService]
  (repeat' split) <;> simp [Kept]

@[simp] theorem joinHead_kept (s : State) (head : Nat) : Kept s (State.joinHead s head) := by
  simp only [State.joinHead]
  (repeat' split) <;> simp [Kept]

@[simp] theorem syncJoins_kept (s : State) : Kept s (State.syncJoins s) := by
  simp only [State.syncJoins]
  (repeat' split) <;> simp [Kept]

@[simp] theorem kernelDone_kept (s : State) : Kept s (State.kernelDone s) := by
  simp [Kept, State.kernelDone]

@[simp] theorem kRow_kept (s : State) (f : Sdi → Env → Kernel → Kernel) : Kept s (State.kRow s f) := by
  simp only [State.kRow]
  (repeat' split) <;> simp [Kept]

@[simp] theorem kNext_kept (s : State) (f : Sdi → Env → Kernel → Kernel) : Kept s (State.kNext s f) := by
  simp only [State.kNext]
  (repeat' split) <;> simp [Kept]

@[simp] theorem svcTry_kept (s : State) (n : Nat) : Kept s (State.svcTry s n) := by
  simp only [State.svcTry]
  (repeat' split) <;> simp [Kept]

@[simp] theorem svcQueued_kept (s : State) : Kept s (State.svcQueued s) := by
  simp only [State.svcQueued]
  (repeat' split) <;> simp [Kept]

@[simp] theorem modV_kept (s : State) (f : Vital → Vital) : Kept s (State.modV s f) := by
  simp [Kept, State.modV]

@[simp] theorem modCh_kept (s : State) (c : Ch) (f : Channel → Channel) : Kept s (State.modCh s c f) := by
  simp [Kept, State.modCh]

@[simp] theorem mesh_kept (s : State) (tx rx : Ch) (m : MeshOut) : Kept s (State.mesh s tx rx m) := by
  simp [Kept, State.mesh]

@[simp] theorem sendFrame_kept (s : State) (tx rx : Ch) : Kept s (State.sendFrame s tx rx) := by
  simp only [State.sendFrame]
  (repeat' split) <;> simp [Kept]

@[simp] theorem sendLink_kept (s : State) (tx rx : Ch) : Kept s (State.sendLink s tx rx) := by
  simp [Kept, State.sendLink]

@[simp] theorem sendMesh_kept (s : State) : Kept s (State.sendMesh s) := by
  simp [Kept, State.sendMesh]

@[simp] theorem meshLive_kept (s : State) (f : State → State) (hf : ∀ x, Kept x (f x)) : Kept s (State.meshLive s f) := by
  simp only [Kept, forall_and] at hf
  simp only [State.meshLive]
  (repeat' split) <;> simp [Kept, *]

@[simp] theorem meshHot_kept (s : State) (tx : Ch) (m : MeshOut) : Kept s (State.meshHot s tx m) := by
  simp [Kept, State.meshHot]

@[simp] theorem linkDown_kept (s : State) (rx tx : Ch) : Kept s (State.linkDown s rx tx) := by
  simp only [State.linkDown]
  (repeat' split) <;> simp [Kept]

@[simp] theorem linkUp_kept (s : State) (rx tx : Ch) : Kept s (State.linkUp s rx tx) := by
  simp only [State.linkUp]
  (repeat' split) <;> simp [Kept]

@[simp] theorem linkRx_kept (s : State) (rx tx : Ch) (f : MeshFrame) : Kept s (State.linkRx s rx tx f) := by
  simp only [State.linkRx]
  (repeat' split) <;> simp [Kept]

@[simp] theorem silent_kept (s : State) (rx tx : Ch) : Kept s (State.silent s rx tx) := by
  simp only [State.silent]
  (repeat' split) <;> simp [Kept]

@[simp] theorem settleLink_kept (s : State) (x y : Ch) : Kept s (State.settleLink s x y) := by
  simp only [State.settleLink]
  (repeat' split) <;> simp [Kept]

@[simp] theorem testPort_kept (s : State) (ch : Ch) (fail : List Ch) (x : Ch) : Kept s (State.testPort s ch fail x) := by
  simp only [State.testPort]
  (repeat' split) <;> simp [Kept]

@[simp] theorem sendStart_kept (s : State) (rq : Ch) : Kept s (State.sendStart s rq) := by
  simp only [State.sendStart]
  (repeat' split) <;> simp [Kept]

@[simp] theorem sendRound_kept (s : State) (su rq : Ch) (round : Nat) (pages : List Nat) (hash : W64) :
    Kept s (State.sendRound s su rq round pages hash) := by
  simp [Kept, State.sendRound]

@[simp] theorem takeStart_kept (s : State) (su rq : Ch) (k : Nat) (map : List Nat) :
    Kept s (State.takeStart s su rq k map) := by
  simp only [State.takeStart]
  (repeat' split) <;> simp [Kept]

@[simp] theorem round2_kept (s : State) (su : Ch) : Kept s (State.round2 s su) := by
  refine foldl_kept _ _ (fun x a => ?_) s
  (repeat' split) <;> simp [Kept]

@[simp] theorem abandonXfer_kept (s : State) (su : Ch) : Kept s (State.abandonXfer s su) := by
  exact kept_trans (modCh_kept ..) (foldl_kept _ _ (fun x a => by simp [Kept]) _)

@[simp] theorem round3_kept (s : State) (su : Ch) : Kept s (State.round3 s su) := by
  simp only [State.round3]
  (repeat' split) <;> simp [Kept]

@[simp] theorem takeRepair_kept (s : State) (su rq : Ch) (round : Nat) (map : List Nat) :
    Kept s (State.takeRepair s su rq round map) := by
  simp [Kept, State.takeRepair]

@[simp] theorem takePage_kept (s : State) (rq su : Ch) (i : Nat) (crc : W32) (d : List Byte) :
    Kept s (State.takePage s rq su i crc d) := by
  simp [Kept, State.takePage]

@[simp] theorem failXfer_kept (s : State) (rq : Ch) : Kept s (State.failXfer s rq) := by
  simp [Kept, State.failXfer]

@[simp] theorem finishXfer_kept (s : State) (rq : Ch) (x : XferReq) (hash : W64) :
    Kept s (State.finishXfer s rq x hash) := by
  simp only [State.finishXfer]
  (repeat' split) <;> simp [Kept]

@[simp] theorem takeEnd_kept (s : State) (rq su : Ch) (round : Nat) (hash : W64) (map : List Nat) :
    Kept s (State.takeEnd s rq su round hash map) := by
  simp only [State.takeEnd]
  (repeat' split) <;> simp [Kept]

@[simp] theorem raisePath_kept (s : State) (n : Nat) : Kept s (State.raisePath s n) := by
  simp [Kept, State.raisePath]

@[simp] theorem switchLevels_kept (s : State) : Kept s (State.switchLevels s) := by
  simp [Kept, State.switchLevels]

@[simp] theorem sw1Diffs_kept (s : State) : Kept s (State.sw1Diffs s) := by
  simp [Kept, State.sw1Diffs]

@[simp] theorem sw1Judge_kept (s : State) : Kept s (State.sw1Judge s) := by
  simp only [State.sw1Judge]
  (repeat' split) <;> simp [Kept]

@[simp] theorem sw1Step_kept (s : State) (es : List SvcEntry) : Kept s (State.sw1Step s es) := by
  simp only [State.sw1Step]
  (repeat' split) <;> simp [Kept]

@[simp] theorem namePromoted_kept (s : State) (ch : Ch) : Kept s (State.namePromoted s ch) := by
  simp only [State.namePromoted]
  (repeat' split) <;> simp [Kept]

@[simp] theorem shadowMark_kept (s : State) (n : Nat) : Kept s (State.shadowMark s n) := by
  simp only [State.shadowMark]
  (repeat' split) <;> simp [Kept]

@[simp] theorem roleChanges_kept (s : State) : Kept s (State.roleChanges s) := by
  exact foldl_kept _ _ (fun x a => by
    dsimp only [Kept]
    (repeat' split) <;> simp) s

@[simp] theorem enterDual_kept (s : State) : Kept s (State.enterDual s) := by
  simp only [State.enterDual]
  (repeat' split) <;> simp [Kept]

@[simp] theorem stepLadder_kept (s : State) : Kept s (State.stepLadder s) := by
  simp only [State.stepLadder]
  (repeat' split) <;> simp [Kept]

@[simp] theorem promote_kept (left : Bool) (cyc n : Nat) (s : State) : Kept s (State.promote left cyc n s) := by
  induction n generalizing s with
  | zero => simp [Kept, State.promote]
  | succ n ih =>
    simp only [Kept] at ih
    simp only [Kept, State.promote]
    split <;> simp [ih]

@[simp] theorem newCycle_kept (s : State) : Kept s (State.newCycle s) := by
  unfold State.newCycle
  split
  · simp [Kept]
  · have h := foldl_kept (List.range 16) State.shadowMark (fun x a => shadowMark_kept x a) s
    simp only [Kept] at h
    simp [Kept, h]

@[simp] theorem latchErrors_kept (s : State) (ch : Ch) (l : List (Nat × Nat)) : Kept s (State.latchErrors s ch l) := by
  simp only [State.latchErrors]
  (repeat' split) <;> simp [Kept]

@[simp] theorem sendRaw_kept (s : State) (ch : Ch) : Kept s (State.sendRaw s ch) := by
  simp only [State.sendRaw]
  (repeat' split) <;> simp [Kept]

@[simp] theorem sendT2_kept (s : State) (ch : Ch) (attempt : Nat) (used : BitVec 4) :
    Kept s (State.sendT2 s ch attempt used) := by
  simp [Kept, State.sendT2]

@[simp] theorem raisesAgreed_kept (s : State) (ch : Ch) (l : List Nat) : Kept s (State.raisesAgreed s ch l) := by
  simp [Kept, State.raisesAgreed]

@[simp] theorem countDissents_kept (before : Nat) (tenon : Bool) (s : State) :
    Kept s (State.countDissents before tenon s) := by
  simp [Kept, State.countDissents]

@[simp] theorem steerCh_kept (s : State) (ch : Ch) : Kept s (State.steerCh s ch) := by
  simp only [State.steerCh]
  (repeat' split) <;> simp [Kept]

@[simp] theorem sramRead_kept (s : State) (ch : Ch) (addr : Nat) (x : EccWord) : Kept s (State.sramRead s ch addr x) := by
  simp only [State.sramRead]
  (repeat' split) <;> simp [Kept]

@[simp] theorem scrub_kept (s : State) (ch : Ch) (o : MarkObs) : Kept s (State.scrub s ch o) := by
  simp only [State.scrub]
  (repeat' split) <;> simp [Kept]

@[simp] theorem alignP6_kept (s : State) (ch : Ch) : Kept s (State.alignP6 s ch) := by
  simp [Kept, State.alignP6]

@[simp] theorem scrubP6_kept (s : State) (ch : Ch) : Kept s (State.scrubP6 s ch) := by
  simp only [State.scrubP6]
  (repeat' split) <;> simp [Kept]

@[simp] theorem phase6_kept (s : State) (ch : Ch) : Kept s (State.phase6 s ch) := by
  simp only [State.phase6]
  (repeat' split) <;> simp [Kept]

@[simp] theorem resyncP6_kept (s : State) (ch : Ch) : Kept s (State.resyncP6 s ch) := by
  simp only [State.resyncP6]
  (repeat' split) <;> simp [Kept]

@[simp] theorem halt_kept (s : State) (ch : Ch) : Kept s (State.halt s ch) := by
  simp [Kept, State.halt]

@[simp] theorem evaluate_kept (s : State) (ch : Ch) (i : Image) (hash : W64) (second : Bool) :
    Kept s (State.evaluate s ch i hash second) := by
  simp only [State.evaluate]
  (repeat' split) <;> simp [Kept]

@[simp] theorem judgeLines_kept (s : State) (ch : Ch) (i : Image) : Kept s (State.judgeLines s ch i) := by
  simp [Kept, State.judgeLines]

@[simp] theorem timed_kept (s : State) (ch : Ch) : Kept s (State.timed s ch) := by
  simp only [State.timed]
  (repeat' split) <;> simp [Kept]

@[simp] theorem sendVote_kept (s : State) (ch : Ch) : Kept s (State.sendVote s ch) := by
  simp only [State.sendVote]
  (repeat' split) <;> simp [Kept]

@[simp] theorem doEval_kept (s : State) (ch : Ch) (i : Image) (hash : W64) (second : Bool) :
    Kept s (State.doEval s ch i hash second) := by
  simp only [State.doEval]
  (repeat' split) <;> simp [Kept]

@[simp] theorem tenonVerdict_kept (s : State) (ch : Ch) (attempt : Nat) (set : BitVec 4) :
    Kept s (State.tenonVerdict s ch attempt set) := by
  simp only [State.tenonVerdict]
  (repeat' split) <;> simp [Kept]

@[simp] theorem judgeT2_kept (s : State) (ch : Ch) (attempt : Nat) : Kept s (State.judgeT2 s ch attempt) := by
  simp only [State.judgeT2]
  (repeat' split) <;> simp [Kept]

@[simp] theorem sendConfig_kept (s : State) (ch : Ch) (n : Nat) : Kept s (State.sendConfig s ch n) := by
  exact foldl_kept _ _ (fun x a => by simp [Kept]) s

@[simp] theorem writeEgress_kept (s : State) (ch : Ch) (x : Egress × List Byte) : Kept s (State.writeEgress s ch x) := by
  simp only [State.writeEgress]
  (repeat' split) <;> simp [Kept]

@[simp] theorem emitP5_kept (s : State) (ch : Ch) : Kept s (State.emitP5 s ch) := by
  simp [Kept, State.emitP5]

@[simp] theorem outputVerdict_kept (s : State) (ch : Ch) : Kept s (State.outputVerdict s ch) := by
  simp only [State.outputVerdict]
  (repeat' split) <;> simp [Kept]

@[simp] theorem countEcho_kept (s : State) (ch : Ch) (before : Nat) : Kept s (State.countEcho s ch before) := by
  refine foldl_kept _ _ (fun x a => ?_) s
  (repeat' split) <;> simp [Kept]

@[simp] theorem sendMarks_kept (s : State) (ch : Ch) (o : MarkObs) : Kept s (State.sendMarks s ch o) := by
  simp [Kept, State.sendMarks]

@[simp] theorem markResync_kept (s : State) (ch : Ch) : Kept s (State.markResync s ch) := by
  simp only [State.markResync]
  (repeat' split) <;> simp [Kept]

@[simp] theorem advance_kept (ch : Ch) (n : Nat) (force : Bool) (s : State) : Kept s (State.advance ch n force s) := by
  induction n generalizing s force with
  | zero => simp [Kept, State.advance]
  | succ n ih =>
    simp only [Kept, forall_and] at ih
    simp only [State.advance]
    (repeat' split) <;> simp [Kept, ih]

@[simp] theorem markHot_kept (s : State) (ch : Ch) (o : MarkObs) : Kept s (State.markHot s ch o) := by
  simp only [State.markHot]
  (repeat' split) <;> simp [Kept]

@[simp] theorem mark_kept (s : State) (ch : Ch) (o : MarkObs) : Kept s (State.mark s ch o) := by
  simp only [State.mark]
  (repeat' split) <;> simp [Kept]

@[simp] theorem offer_kept (s : State) (c : Ch) (p : Producer) (n : Nat) (f : Channel → Channel) :
    Kept s (State.offer s c p n f) := by
  simp only [State.offer]
  (repeat' split) <;> simp [Kept]

@[simp] theorem putEntry_kept (s : State) (p : Producer) (e : StreamEntry) : Kept s (State.putEntry s p e) := by
  simp [Kept, State.putEntry]

@[simp] theorem newEntry_kept (s : State) (p : Producer) (e : StreamEntry) : Kept s (State.newEntry s p e) := by
  simp [Kept, State.newEntry]

@[simp] theorem svcEntry_kept (s : State) (e : SvcEntry) : Kept s (State.svcEntry s e) := by
  simp [Kept, State.svcEntry]

@[simp] theorem putRec_kept (s : State) (sp : Sp) (r : SensorRec) : Kept s (State.putRec s sp r) := by
  simp [Kept, State.putRec]

@[simp] theorem modSent_kept (s : State) (sp : Sp) (f : List (SensorRec × Nat) → List (SensorRec × Nat)) :
    Kept s (State.modSent s sp f) := by
  simp only [State.modSent]
  (repeat' split) <;> simp [Kept]

@[simp] theorem repeatRec_kept (s : State) (sp : Sp) (n : Nat) : Kept s (State.repeatRec s sp n) := by
  simp only [State.repeatRec]
  (repeat' split) <;> simp [Kept]

@[simp] theorem repeatEntry_kept (s : State) (p : Producer) (n : Nat) : Kept s (State.repeatEntry s p n) := by
  simp only [State.repeatEntry]
  (repeat' split) <;> simp [Kept]

@[simp] theorem phaseOverrun_kept (ch : Ch) (ph : Phase) (s : State) : Kept s (phaseOverrun ch ph s) := by
  simp only [phaseOverrun]
  (repeat' split) <;> simp [Kept]

@[simp] theorem meshRow_kept (s : State) (rx tx : Ch) (h : MeshHead) (m : MeshOut) (f : State → State) (hf : ∀ x, Kept x (f x)) :
    Kept s (State.meshRow s rx tx h m f) := by
  simp only [Kept, forall_and] at hf
  simp only [State.meshRow]
  (repeat' split) <;> simp [Kept, *]

@[simp] theorem dovetailEdge_kept (ch : Ch) (stores : List StoreReq) (edge : Bundle × Bundle) (s : State) :
    Kept s (dovetailEdge ch stores edge s) := by
  simp only [dovetailEdge]
  (repeat' split) <;> simp [Kept]

@[simp] theorem modHw_kept (s : State) (bk : Bank) (f : BankHw → BankHw) : Kept s (State.modHw s bk f) := by
  simp only [State.modHw]
  (repeat' split) <;> simp [Kept]

@[simp] theorem modProc_kept (s : State) (sp : Sp) (f : SensorProc → SensorProc) : Kept s (State.modProc s sp f) := by
  simp only [State.modProc]
  (repeat' split) <;> simp [Kept]

@[simp] theorem modSys_kept (s : State) (sp : Sp) (head : Nat) (f : SensorSys → SensorSys) :
    Kept s (State.modSys s sp head f) := by
  simp [Kept, State.modSys]

@[simp] theorem modFeed_kept (s : State) (head : Nat) (f : HeadFeed → HeadFeed) : Kept s (State.modFeed s head f) := by
  simp [Kept, State.modFeed]

@[simp] theorem sendRec_kept (s : State) (sp : Sp) (kind b5 flags b7 : Byte) (w8 w12 : W32) :
    Kept s (State.sendRec s sp kind b5 flags b7 w8 w12) := by
  simp only [State.sendRec]
  (repeat' split) <;> simp [Kept]

@[simp] theorem headRec_kept (s : State) (sp : Sp) (head : Nat) (timeUs : W32) :
    Kept s (State.headRec s sp head timeUs) := by
  simp [Kept, State.headRec]

@[simp] theorem sysTo_kept (s : State) (sp : Sp) (head : Nat) (st : HState) (cause : Nat) (timeUs : W32) :
    Kept s (State.sysTo s sp head st cause timeUs) := by
  simp [Kept, State.sysTo]

@[simp] theorem sysFault_kept (s : State) (sp : Sp) (head cause : Nat) (timeUs : W32) :
    Kept s (State.sysFault s sp head cause timeUs) := by
  simp [Kept, State.sysFault]

@[simp] theorem faultFrom_kept (s : State) (sp : Sp) (head cause : Nat) (timeUs : W32) :
    Kept s (State.faultFrom s sp head cause timeUs) := by
  simp only [State.faultFrom]
  (repeat' split) <;> simp [Kept]

@[simp] theorem latchCal_kept (s : State) (sp : Sp) (head : Nat) : Kept s (State.latchCal s sp head) := by
  simp [Kept, State.latchCal]

@[simp] theorem settleSys_kept (s : State) (sp : Sp) (head : Nat) (ramp : Nat) (timeUs : W32) :
    Kept s (State.settleSys s sp head ramp timeUs) := by
  simp [Kept, State.settleSys]

@[simp] theorem stopSys_kept (s : State) (sp : Sp) (head : Nat) (timeUs : W32) :
    Kept s (State.stopSys s sp head timeUs) := by
  simp only [State.stopSys]
  (repeat' split) <;> simp [Kept]

@[simp] theorem holdSys_kept (s : State) (sp : Sp) (head : Nat) (timeUs : W32) :
    Kept s (State.holdSys s sp head timeUs) := by
  simp only [State.holdSys]
  (repeat' split) <;> simp [Kept]

@[simp] theorem failSys_kept (s : State) (sp : Sp) (head : Nat) (timeUs : W32) :
    Kept s (State.failSys s sp head timeUs) := by
  simp only [State.failSys]
  (repeat' split) <;> simp [Kept]

@[simp] theorem excite_kept (s : State) (sp : Sp) (change : Bool) (timeUs : W32) (c : Nat × Bool × Nat × Nat) :
    Kept s (State.excite s sp change timeUs c) := by
  simp only [State.excite]
  (repeat' split) <;> simp [Kept]

@[simp] theorem keepAlive_kept (s : State) (sp : Sp) (ch : Ch) (cmd : ExcCmd) (timeUs : W32) :
    Kept s (State.keepAlive s sp ch cmd timeUs) := by
  simp only [State.keepAlive]
  (repeat' split) <;> simp [Kept]

@[simp] theorem kaLoss_kept (s : State) (sp : Sp) (timeUs : W32) : Kept s (State.kaLoss s sp timeUs) := by
  simp only [State.kaLoss]
  (repeat' split) <;> simp [Kept]

@[simp] theorem stepRecs_kept (s : State) (head : Nat) (kind : Byte) (timeUs : W32) :
    Kept s (State.stepRecs s head kind timeUs) := by
  simp [Kept, State.stepRecs]

@[simp] theorem unsettle_kept (s : State) (head : Nat) (timeUs : W32) (us : Nat) :
    Kept s (State.unsettle s head timeUs us) := by
  simp [Kept, State.unsettle]

@[simp] theorem double_kept (s : State) (head : Nat) (timeUs : W32) : Kept s (State.double s head timeUs) := by
  simp only [State.double]
  (repeat' split) <;> simp [Kept]

@[simp] theorem stopUnlocked_kept (s : State) (head : Nat) (timeUs : W32) : Kept s (State.stopUnlocked s head timeUs) := by
  simp only [State.stopUnlocked]
  (repeat' split) <;> simp [Kept]

@[simp] theorem joinSys_kept (s : State) (sp : Sp) (head : Nat) (timeUs : W32) :
    Kept s (State.joinSys s sp head timeUs) := by
  simp [Kept, State.joinSys]

@[simp] theorem ringForward_kept (s : State) (f : RingFrame) : Kept s (State.ringForward s f) := by
  simp only [State.ringForward]
  (repeat' split) <;> simp [Kept]

@[simp] theorem ringRow_kept (s : State) (f : RingFrame) (window : Bool) (g : State → State) (hg : ∀ x, Kept x (g x)) :
    Kept s (State.ringRow s f window g) := by
  simp only [Kept, forall_and] at hg
  simp only [State.ringRow]
  (repeat' split) <;> simp [Kept, *]

@[simp] theorem ringOut_kept (s : State) (port : RingPort) (typ : BitVec 3) (dir : Bool) (slot : Nat) (payload : List Byte) :
    Kept s (State.ringOut s port typ dir slot payload) := by
  simp only [State.ringOut]
  (repeat' split) <;> simp [Kept]

theorem fromRing_kept (s : State) (f : RingFrame) (g : RingFrame → State → State) (h : ∀ f s, Kept s (g f s)) :
    Kept s (s.fromRing f g) := by
  simp only [Kept, forall_and] at h
  simp only [State.fromRing]
  split <;> simp [Kept, h]

@[simp] theorem askEcho_kept (s : State) : Kept s (State.askEcho s) := by
  simp [Kept, State.askEcho]

@[simp] theorem modRing_kept (s : State) (f : Ring → Ring) : Kept s (State.modRing s f) := by
  simp [Kept, State.modRing]

@[simp] theorem takeSync_kept (s : State) (f : RingFrame) : Kept s (State.takeSync s f) := by
  simp only [State.takeSync]
  (repeat' split) <;> simp [Kept]

@[simp] theorem loopRow_kept (s : State) (f : RingFrame) (kind : Nat) (g : State → State) (hg : ∀ x, Kept x (g x)) :
    Kept s (State.loopRow s f kind g) := by
  simp only [Kept, forall_and] at hg
  simp only [State.loopRow]
  (repeat' split) <;> simp [Kept, *]

@[simp] theorem nullSlot_kept (s : State) (c : Schedule) (x : SchedSlot) : Kept s (State.nullSlot s c x) := by
  simp [Kept, State.nullSlot]

@[simp] theorem dataSlot_kept (s : State) (c : Schedule) (x : SchedSlot) : Kept s (State.dataSlot s c x) := by
  simp only [State.dataSlot]
  (repeat' split) <;> simp [Kept]

@[simp] theorem keyExtras_kept (s : State) : Kept s (State.keyExtras s) := by
  simp only [State.keyExtras]
  (repeat' split) <;> simp [Kept]

@[simp] theorem track_kept (s : State) : Kept s (State.track s) := by
  simp [Kept, State.track]

@[simp] theorem selectSource_kept (s : State) (src : TimeSource) : Kept s (State.selectSource s src) := by
  simp only [State.selectSource]
  (repeat' split) <;> simp [Kept]

@[simp] theorem stepTime_kept (s : State) (t : DTime) : Kept s (State.stepTime s t) := by
  simp [Kept, State.stepTime]

@[simp] theorem timeMeasurement_kept (offsetNs : Int) (s : State) : Kept s (timeMeasurement offsetNs s) := by
  simp only [timeMeasurement]
  (repeat' split) <;> simp [Kept]

@[simp] theorem modNet_kept (s : State) (net : Net) (f : NetSide → NetSide) : Kept s (State.modNet s net f) := by
  simp only [State.modNet]
  (repeat' split) <;> simp [Kept]

@[simp] theorem forwardEth_kept (s : State) (net : Net) (port : Nat) (f : EthFrame) :
    Kept s (State.forwardEth s net port f) := by
  simp only [State.forwardEth]
  (repeat' split) <;> simp [Kept]

@[simp] theorem toInternal_kept (s : State) (net : Net) (f : EthFrame) : Kept s (State.toInternal s net f) := by
  simp only [State.toInternal]
  (repeat' split) <;> simp [Kept]

@[simp] theorem groupEth_kept (s : State) (net : Net) (port : Nat) (f : EthFrame) :
    Kept s (State.groupEth s net port f) := by
  simp only [State.groupEth]
  (repeat' split) <;> simp [Kept]

@[simp] theorem ptpForward_kept (net : Net) (m : PtpIn) (ns : Nat) (s : State) : Kept s (ptpForward net m ns s) := by
  simp only [ptpForward]
  (repeat' split) <;> simp [Kept]

@[simp] theorem singlePath_kept (s : State) (k : PairKey) : Kept s (State.singlePath s k) := by
  simp only [State.singlePath]
  (repeat' split) <;> simp [Kept]

@[simp] theorem addKey_kept (s : State) (k : PairKey) : Kept s (State.addKey s k) := by
  simp only [State.addKey]
  (repeat' split) <;> simp [Kept]

@[simp] theorem refuseConn_kept (s : State) (net : Net) (p : Partner) (t : Telegram) :
    Kept s (State.refuseConn s net p t) := by
  simp [Kept, State.refuseConn]

@[simp] theorem routeCopy_kept (s : State) (net : Net) (p : Partner) (t : Telegram) :
    Kept s (State.routeCopy s net p t) := by
  simp only [State.routeCopy]
  (repeat' split) <;> simp [Kept]

@[simp] theorem pairCopy_kept (s : State) (net : Net) (p : Partner) (t : Telegram) : Kept s (State.pairCopy s net p t) := by
  simp only [State.pairCopy]
  (repeat' split) <;> simp [Kept]

@[simp] theorem prefilter_kept (s : State) (net : Net) (dg : Datagram) : Kept s (s.prefilter net dg).1 := by
  simp only [State.prefilter]
  (repeat' split) <;> simp [Kept]

@[simp] theorem netDatagram_kept (net : Net) (dg : Datagram) (s : State) : Kept s (netDatagram net dg s) := by
  simp only [netDatagram]
  split
  · simp [Kept]
  · have h := prefilter_kept s net dg
    rcases hp : s.prefilter net dg with ⟨x, _ | p⟩ <;> rw [hp] at h <;> simp only [Kept] at h
    · simp [Kept, h]
    · dsimp only
      split <;> simp [Kept, h]

@[simp] theorem sendEntry_kept (s : State) (net : Net) (e : List Byte) : Kept s (State.sendEntry s net e) := by
  simp only [State.sendEntry]
  (repeat' split) <;> simp [Kept]

theorem cvuUnits_kept {α : Type} (g : State → Nat → State × α) (f : α → α → α) (h : ∀ s i, Kept s (g s i).1) (l : List Nat)
    (p : State × α) : Kept p.1 (l.foldl (fun (p : State × α) i => ((g p.1 i).1, f p.2 (g p.1 i).2)) p).1 := by
  induction l generalizing p with
  | nil => exact kept_refl _
  | cons a t ih => exact kept_trans (h p.1 a) (ih ((g p.1 a).1, f p.2 (g p.1 a).2))

@[simp] theorem sendVeneer_kept (s : State) (e : List Byte) : Kept s (State.sendVeneer s e) := by
  have h := cvuUnits_kept (fun s i => ((s.cvuAppend 6 (slice e (4096 * i) 4096)).1, (s.cvuAppend 6 (slice e (4096 * i) 4096)).2.toList))
    (· ++ ·) (fun x i => cvuAppend_kept x _ _) (List.range ((e.length + 4095) / 4096)) (s, [])
  simp only [Kept] at h
  simp only [State.sendVeneer]
  split <;> simp [Kept, h]

@[simp] theorem transmit_kept (s : State) (eng : Egress) (e : List Byte) : Kept s (State.transmit s eng e) := by
  simp only [State.transmit]
  (repeat' split) <;> simp [Kept]

@[simp] theorem egressEntry_kept (eng : Egress) (ch : Ch) (e : List Byte) (s : State) : Kept s (egressEntry eng ch e s) := by
  simp only [egressEntry]
  (repeat' split) <;> simp [Kept]

@[simp] theorem egressTimeout_kept (eng : Egress) (s : State) : Kept s (egressTimeout eng s) := by
  simp only [egressTimeout]
  (repeat' split) <;> simp [Kept]

@[simp] theorem laneUp_kept (s : State) (lane up : Bool) : Kept s (State.laneUp s lane up) := by
  simp [Kept, State.laneUp]

@[simp] theorem release_kept (s : State) (ack : Nat) : Kept s (State.release s ack) := by
  exact settleWaits_kept s _

@[simp] theorem heartbeatReceive_kept (lane : Bool) (h : Heartbeat) (s : State) : Kept s (heartbeatReceive lane h s) := by
  simp only [heartbeatReceive]
  (repeat' split) <;> simp [Kept]

@[simp] theorem takeVeneer_kept (s : State) (lane ok : Bool) (v : Veneer) : Kept s (State.takeVeneer s lane ok v) := by
  simp only [State.takeVeneer]
  (repeat' split) <;> simp [Kept]

@[simp] theorem stripUnits_kept (s : State) (w : List Byte) (crcs : List W32) : Kept s (s.stripUnits w crcs).1 :=
  cvuUnits_kept (fun s i => s.cvuStrip 7 (slice w (4096 * i) 4096 ++ be 4 (crcs.getD i 0).toNat)) (· && ·)
    (fun x i => cvuStrip_kept x _ _) _ (s, true)

@[simp] theorem veneerReceive_kept (lane : Bool) (v : Veneer) (s : State) : Kept s (veneerReceive lane v s) := by
  simp only [veneerReceive]
  split <;> simp [Kept]

@[simp] theorem goAlone_kept (s : State) : Kept s (State.goAlone s) := by
  simp [Kept, State.goAlone]

@[simp] theorem canDrop_kept (s : State) (ack : Bool) : Kept s (State.canDrop s ack) := by
  simp only [State.canDrop]
  (repeat' split) <;> simp [Kept]

@[simp] theorem canCount_kept (s : State) (tec rec_ : Nat) : Kept s (State.canCount s tec rec_) := by
  simp only [State.canCount]
  (repeat' split) <;> simp [Kept]

@[simp] theorem canFailed_kept (s : State) (ack : Bool) (tec : Nat) : Kept s (State.canFailed s ack tec) := by
  simp only [State.canFailed]
  (repeat' split) <;> simp [Kept]

@[simp] theorem stamp_kept (s : State) (t : TsuSt) (w : W32) : Kept s (s.stamp t w).1 := by
  simp only [State.stamp]
  (repeat' split) <;> simp [Kept]

@[simp] theorem reference_kept (s : State) : Kept s s.reference.1 := by simp [Kept, State.reference]

@[simp] theorem canAcked_kept (s : State) (stamp : Nat) : Kept s (State.canAcked s stamp) := by
  unfold State.canAcked
  dsimp only
  (repeat' split) <;> simp [Kept]

@[simp] theorem canTransmit_kept (r : TxResult) (s : State) : Kept s (canTransmit r s) := by
  simp only [canTransmit]
  (repeat' split) <;> simp [Kept]

@[simp] theorem canBeatSend_kept (s : State) : Kept s (State.canBeatSend s) := by
  simp [Kept, State.canBeatSend]

@[simp] theorem canStart_kept (s : State) : Kept s (State.canStart s) := by
  simp only [State.canStart]
  (repeat' split) <;> simp [Kept]

@[simp] theorem endAlone_kept (s : State) : Kept s (State.endAlone s) := by
  simp only [State.endAlone]
  (repeat' split) <;> simp [Kept]

@[simp] theorem canReject_kept (s : State) : Kept s (State.canReject s) := by
  simp [Kept, State.canReject]

@[simp] theorem canReceive_kept (f : CanFrame) (s : State) : Kept s (canReceive f s) := by
  simp only [canReceive]
  (repeat' split) <;> simp [Kept]

@[simp] theorem nmtServed_kept (s : State) (cs : Nat) : Kept s (State.nmtServed s cs) := by
  simp [Kept, State.nmtServed]

@[simp] theorem referenceReceive_kept (m : RefMsg) (s : State) : Kept s (referenceReceive m s) := by
  simp only [referenceReceive]
  (repeat' split) <;> simp [Kept]

@[simp] theorem sendRef_kept (s : State) : Kept s (State.sendRef s) := by
  simp [Kept, State.sendRef]

@[simp] theorem enterSlot_kept (s : State) (op : Nat) (l : Launch) : Kept s (State.enterSlot s op l) := by
  simp only [State.enterSlot]
  (repeat' split) <;> simp [Kept]

@[simp] theorem launch_kept (op : Nat) (l : Launch) (s : State) : Kept s (State.launch op l s) := by
  simp only [State.launch]
  (repeat' split) <;> simp [Kept]

@[simp] theorem control_kept (s : State) (cl : Client) (n code : Nat) : Kept s (State.control s cl n code) := by
  simp only [State.control]
  (repeat' split) <;> simp [Kept]

@[simp] theorem slotLimit_kept (s : State) (f : Sdi → Kernel → Kernel) : Kept s (State.slotLimit s f) := by
  simp only [State.slotLimit]
  (repeat' split) <;> simp [Kept]

@[simp] theorem sccRow_kept (s : State) (kind session : Nat) (r : SccRec) : Kept s (State.sccRow s kind session r) := by
  simp [Kept, State.sccRow]

@[simp] theorem elemRow_kept (s : State) (cl : Client) (code el : Nat) : Kept s (State.elemRow s cl code el) := by
  simp [Kept, State.elemRow]

@[simp] theorem fieldTarget_kept (cl : Client) (target : W16) (s : State) : Kept s (fieldTarget cl target s) := by
  unfold fieldTarget
  refine write_kept _ _ _ _ _ _ (fun x => ?_)
  (repeat' split) <;> simp [Kept]

@[simp] theorem fieldConfirm_kept (cl : Client) (code : W16) (s : State) : Kept s (fieldConfirm cl code s) := by
  unfold fieldConfirm
  refine write_kept _ _ _ _ _ _ (fun x => ?_)
  (repeat' split) <;> simp [Kept]

@[simp] theorem telRow_kept (s : State) (types : List Nat) (idx : Nat) (t : Telegram) :
    Kept s (State.telRow s types idx t) := by
  simp [Kept, State.telRow]

@[simp] theorem connRow_kept (partner : Nat) (t : Telegram) (s : State) : Kept s (connRow partner t s) := by
  simp [Kept, connRow]

@[simp] theorem headRow_kept (idx : Nat) (t : Telegram) (s : State) : Kept s (headRow idx t s) := by
  simp [Kept, headRow]

@[simp] theorem sessTimer_kept (s : State) (p : SessSt → Bool) (idx : Nat) : Kept s (State.sessTimer s p idx) := by
  simp [Kept, State.sessTimer]

@[simp] theorem loginResult_kept (s : State) (cl : Client) (code : Nat) : Kept s (State.loginResult s cl code) := by
  simp [Kept, State.loginResult]

@[simp] theorem loginRequest_kept (cl : Client) (level : Nat) (s : State) : Kept s (loginRequest cl level s) := by
  simp only [loginRequest]
  (repeat' split) <;> simp [Kept]

@[simp] theorem wrongResponse_kept (s : State) (cl : Client) : Kept s (State.wrongResponse s cl) := by
  simp [Kept, State.wrongResponse]

@[simp] theorem loginResponse_kept (cl : Client) (resp : W64) (s : State) : Kept s (loginResponse cl resp s) := by
  simp only [loginResponse]
  (repeat' split) <;> simp [Kept]

@[simp] theorem lcRefuse_kept (s : State) (cl : Client) (code : Nat) : Kept s (State.lcRefuse s cl code) := by
  simp [Kept, State.lcRefuse]

@[simp] theorem lcRequest_kept (cl : Client) (v : Nat) (s : State) : Kept s (lcRequest cl v s) := by
  simp only [lcRequest]
  (repeat' split) <;> simp [Kept]

@[simp] theorem sw1Change_kept (rd : SwReader) (pos : Nat) (c : Contact) (s : State) : Kept s (sw1Change rd pos c s) := by
  simp only [sw1Change]
  (repeat' split) <;> simp [Kept]

@[simp] theorem testDone_kept (s : State) (n : Nat) : Kept s (State.testDone s n) := by
  simp only [State.testDone]
  (repeat' split) <;> simp [Kept]

@[simp] theorem sliceEnd_kept (r : SliceResult) (s : State) : Kept s (sliceEnd r s) := by
  simp only [sliceEnd]
  (repeat' split) <;> simp [Kept]

@[simp] theorem setSnap_kept (s : State) (cl : Client) (c : SnapCfg) : Kept s (State.setSnap s cl c) := by
  simp only [State.setSnap]
  (repeat' split) <;> simp [Kept]

@[simp] theorem postEntry_kept (s : State) (cl : Client) (slot : Nat) (launch : Bool) (e : Nat → SvcEntry) :
    Kept s (State.postEntry s cl slot launch e) := by
  simp [Kept, State.postEntry]

@[simp] theorem postLaunch_kept (cl : Client) (d : List Byte) (s : State) : Kept s (postLaunch cl d s) := by
  simp only [postLaunch]
  (repeat' split) <;> simp [Kept]

@[simp] theorem postControl_kept (cl : Client) (slot code : Nat) (s : State) : Kept s (postControl cl slot code s) := by
  simp only [postControl]
  (repeat' split) <;> simp [Kept]

@[simp] theorem postElem_kept (cl : Client) (code el : Nat) (s : State) : Kept s (postElem cl code el s) := by
  simp only [postElem]
  (repeat' split) <;> simp [Kept]

theorem storing_kept (n : Need) (len : Nat) (r : Nat → Bool) (idx sub : Nat) (d : List Byte) (s : State) :
    Kept s ((storing n len r idx sub d).effect s) := by
  simp [storing, Kept, State.pstWrite]

/-- What a write of an object does keeps the queue and the lengths. -/
theorem writeOf_kept {cl : Client} {idx sub : Nat} {d : List Byte} {w : Write} (h : writeOf cl idx sub d = some w) (s : State) :
    Kept s (w.effect s) := by
  have h1 : ∀ w, writeConfig idx sub d = some w → ∀ s, Kept s (w.effect s) := by
    intro w hw s
    simp only [writeConfig] at hw
    split at hw <;> (repeat' split at hw) <;> first | (cases hw; exact storing_kept ..) | cases hw
  have h2 : ∀ w, writeCal idx sub d = some w → ∀ s, Kept s (w.effect s) := by
    intro w hw s
    simp only [writeCal] at hw
    (repeat' split at hw) <;> first | (cases hw; exact storing_kept ..) | cases hw
  have h3 : ∀ w, writeParam idx sub d = some w → ∀ s, Kept s (w.effect s) := by
    intro w hw s
    simp only [writeParam] at hw
    split at hw <;> first | (cases hw; exact storing_kept ..) | (cases hw; simp [Kept, State.pstWrite]) | cases hw
  have h4 : ∀ w, writeWindow cl idx sub d = some w → ∀ s, Kept s (w.effect s) := by
    intro w hw s
    simp only [writeWindow] at hw
    split at hw <;> first | (cases hw; dsimp only [Kept]; (repeat' split) <;> simp; done) | cases hw
  have h5 : ∀ w, writeOther cl idx sub d = some w → ∀ s, Kept s (w.effect s) := by
    intro w hw s
    simp only [writeOther] at hw
    (repeat' split at hw) <;> first | (cases hw; simp [Kept]; done) | cases hw
  unfold writeOf at h
  split at h
  · next w' hw =>
    cases h
    have : Kept s (w'.effect s) := by
      cases hc : writeConfig idx sub d with
      | some a => simp [hc] at hw; subst hw; exact h1 _ hc s
      | none =>
        cases ha : writeCal idx sub d with
        | some a => simp [hc, ha] at hw; subst hw; exact h2 _ ha s
        | none => simp [hc, ha] at hw; exact h3 _ hw s
    simp only [Kept] at this
    simp [Write.accepted, Kept, this]
  · cases hc : writeWindow cl idx sub d with
    | some a => simp [hc] at h; subst h; exact h4 _ hc s
    | none => simp [hc] at h; exact h5 _ h s

@[simp] theorem objectWrite_kept (cl : Client) (idx sub : Nat) (d : List Byte) (s : State) :
    Kept s (objectWrite cl idx sub d s) := by
  simp only [objectWrite]
  split <;> try (simp [Kept]; done)
  split <;> try (simp [Kept]; done)
  split
  · next w hw => exact write_kept _ _ _ _ _ _ (fun x => writeOf_kept hw x)
  · simp [Kept]

@[simp] theorem memoryFault_kept (s : State) (src : Nat) : Kept s (State.memoryFault s src) := by
  simp [Kept, State.memoryFault]

@[simp] theorem fenceRegion_kept (s : State) (region : Nat) : Kept s (fenceRegion s region) := by
  simp only [fenceRegion]
  (repeat' split) <;> simp [Kept]

@[simp] theorem recorderClear_kept (cl : Client) (v : W16) (s : State) : Kept s (recorderClear cl v s) := by
  simp only [recorderClear]
  (repeat' split) <;> simp [Kept]

@[simp] theorem exportAdvance_kept (s : State) (cl : Client) (cur : Nat) : Kept s (exportAdvance s cl cur) := by
  simp only [exportAdvance]
  (repeat' split) <;> simp [Kept]

@[simp] theorem advanceTo_kept (cl : Client) (n : Nat) (s : State) : Kept s (advanceTo cl n s) := by
  simp [Kept, advanceTo]

@[simp] theorem supplySource_kept (s : State) (src : Nat) (old new : Bool) : Kept s (State.supplySource s src old new) := by
  simp only [State.supplySource]
  (repeat' split) <;> simp [Kept]

@[simp] theorem tempSource_kept (s : State) (src : Nat) (old new : Bool) : Kept s (State.tempSource s src old new) := by
  simp only [State.tempSource]
  (repeat' split) <;> simp [Kept]

@[simp] theorem updRefuse_kept (s : State) (cl : Client) (code : Nat) : Kept s (State.updRefuse s cl code) := by
  simp [Kept, State.updRefuse]

@[simp] theorem appendBlock_kept (s : State) (t : Transfer) (data : List Byte) : Kept s (State.appendBlock s t data) := by
  simp only [State.appendBlock]
  (repeat' split) <;> simp [Kept]

@[simp] theorem blockWrite_kept (cl : Client) (offset : Nat) (data : List Byte) (s : State) :
    Kept s (blockWrite cl offset data s) := by
  unfold blockWrite
  refine write_kept _ _ _ _ _ _ (fun x => ?_)
  dsimp only [Kept]
  (repeat' split) <;> simp

@[simp] theorem writeComplete_kept (failed : List SwReader) (s : State) : Kept s (writeComplete failed s) := by
  simp only [writeComplete]
  (repeat' split) <;> simp [Kept]

@[simp] theorem timeStart_kept (s : State) (o : StartObs) : Kept s (State.timeStart s o) := by
  simp only [State.timeStart]
  (repeat' split) <;> simp [Kept]

@[simp] theorem recStart_kept (s : State) (o : StartObs) (loss : Bool) : Kept s (State.recStart s o loss) := by
  simp only [State.recStart]
  (repeat' split) <;> simp [Kept]

@[simp] theorem pstSlot_kept (s : State) (i : Img) : Kept s (State.pstSlot s i) := by
  simp only [State.pstSlot]
  (repeat' split) <;> simp [Kept]

@[simp] theorem fellBack_kept (s : State) : Kept s (State.fellBack s) := by
  simp [Kept, State.fellBack]

@[simp] theorem bootJob_kept (s : State) (t : ImageType) : Kept s (State.bootJob s t) := by
  simp only [State.bootJob]
  (repeat' split) <;> simp [Kept]

@[simp] theorem bootType_kept (s : State) (t : ImageType) : Kept s (State.bootType s t) := by
  simp only [State.bootType]
  (repeat' split) <;> simp [Kept]

@[simp] theorem undoSet_kept (s : State) : Kept s (State.undoSet s) := by
  exact foldl_kept _ _ (fun x a => by
    dsimp only [Kept]
    (repeat' split) <;> simp) s

@[simp] theorem pstMigrated_kept (s : State) : Kept s (State.pstMigrated s) := by
  simp [Kept, State.pstMigrated]

@[simp] theorem migratePst_kept (s : State) (before : Option Nat) : Kept s (State.migratePst s before) := by
  simp only [State.migratePst]
  (repeat' split) <;> simp [Kept]

@[simp] theorem bootImages_kept (s : State) : Kept s (State.bootImages s) := by
  simp only [State.bootImages]
  (repeat' split) <;> simp [Kept]

@[simp] theorem readSw1_kept (s : State) (o : StartObs) : Kept s (State.readSw1 s o) := by
  simp [Kept, State.readSw1]

@[simp] theorem twinPosition_kept (s : State) (o : StartObs) : Kept s (State.twinPosition s o) := by
  simp only [State.twinPosition]
  (repeat' split) <;> simp [Kept]

@[simp] theorem relayImages_kept (s : State) (o : StartObs) : Kept s (State.relayImages s o) := by
  simp [Kept, State.relayImages]

@[simp] theorem dovetailTest_kept (s : State) (o : StartObs) : Kept s (State.dovetailTest s o) := by
  refine foldl_kept _ _ (fun x a => ?_) s
  (repeat' split) <;> simp [Kept]

@[simp] theorem linkDelays_kept (s : State) (o : StartObs) : Kept s (State.linkDelays s o) := by
  exact foldl_kept _ _ (fun x a => by obtain ⟨⟨p, q⟩, l⟩ := a; simp [Kept]) s

@[simp] theorem acceptSdi_kept (s : State) (u : SdiUse) (mig : Bool) : Kept s (State.acceptSdi s u mig) := by
  simp only [State.acceptSdi]
  (repeat' split) <;> simp [Kept]

@[simp] theorem sdiChecked_kept (s : State) (n : Nat) (d : List Byte) (ok : Bool) : Kept s (State.sdiChecked s n d ok) := by
  simp [Kept, State.sdiChecked]

@[simp] theorem noSdi_kept (s : State) (u : SdiUse) : Kept s (State.noSdi s u) := by
  simp [Kept, State.noSdi]

@[simp] theorem sdiStart_kept (s : State) (o : StartObs) : Kept s (State.sdiStart s o) := by
  simp only [State.sdiStart]
  (repeat' split) <;> simp [Kept]

@[simp] theorem inStart_kept (s : State) (f : State → State) (hf : ∀ x, Kept x (f x)) : Kept s (State.inStart s f) := by
  simp only [Kept, forall_and] at hf
  simp only [State.inStart]
  (repeat' split) <;> simp [Kept, *]

@[simp] theorem startSelftest_kept (s : State) (o : StartObs) : Kept s (State.startSelftest s o) := by
  simp [Kept, State.startSelftest]

@[simp] theorem sealStart_kept (s : State) (o : StartObs) : Kept s (State.sealStart s o) := by
  simp only [State.sealStart]
  (repeat' split) <;> simp [Kept]

@[simp] theorem offEnds_kept (s : State) (ch : Ch) : Kept s (State.offEnds s ch) := by
  simp [Kept, State.offEnds]

@[simp] theorem assignRoles_kept (s : State) (o : StartObs) : Kept s (State.assignRoles s o) := by
  have h := foldl_kept (Ch.all.filter (s.passes o)).zipIdx (fun s x =>
    s.modCh x.1 fun c => { c with role := startRole x.2, roleSeen := startRole x.2 }) (fun x a => by simp [Kept]) s
  simp only [Kept] at h
  simp [Kept, State.assignRoles, h]

@[simp] theorem alignMarks_kept (s : State) (l : List Ch) : Kept s (State.alignMarks s l) := by
  exact foldl_kept _ _ (fun x a => foldl_kept _ _ (fun y b => by simp [Kept]) x) s

@[simp] theorem alignTo_kept (s : State) (o : StartObs) (l : List Ch) (c : Ch) : Kept s (State.alignTo s o l c) := by
  simp only [State.alignTo]
  (repeat' split) <;> simp [Kept]

@[simp] theorem alignCycles_kept (s : State) (o : StartObs) : Kept s (State.alignCycles s o) := by
  unfold State.alignCycles
  extract_lets l
  have h := foldl_kept l (fun s c => s.alignTo o l c) (fun x a => alignTo_kept x o l a) (s.alignMarks l)
  simp only [Kept] at h
  simp [Kept, h]

@[simp] theorem coldStart_kept (s : State) : Kept s (State.coldStart s) := by
  simp [Kept, State.coldStart]

@[simp] theorem failBanks_kept (s : State) : Kept s (State.failBanks s) := by
  simp [Kept, State.failBanks]

@[simp] theorem startEngines_kept (s : State) : Kept s (State.startEngines s) := by
  simp only [State.startEngines]
  (repeat' split) <;> simp [Kept]

@[simp] theorem enterRun_kept (s : State) : Kept s (State.enterRun s) := by
  simp [Kept, State.enterRun]

@[simp] theorem startDone_kept (s : State) (o : StartObs) : Kept s (State.startDone s o) := by
  simp only [State.startDone]
  (repeat' split) <;> simp [Kept]

@[simp] theorem startTimeout_kept (s : State) : Kept s (startTimeout s) := by
  simp only [startTimeout]
  (repeat' split) <;> simp [Kept]

@[simp] theorem rtc_kept (s : State) : Kept s (State.rtc s) := by
  simp [Kept, State.rtc]

@[simp] theorem svcLimits_kept (s : State) : Kept s (State.svcLimits s) := by
  simp only [State.svcLimits]
  (repeat' split) <;> simp [Kept]

@[simp] theorem ethFrame_kept (net : Net) (port : Nat) (f : EthFrame) (s : State) : Kept s (ethFrame net port f s) := by
  simp only [ethFrame]
  (repeat' split) <;> simp [Kept]

end Sys2Proof.Machine
end

