-- ==== Sys2Proof/Laws/Quiet.lean ====
section
/-! SUPPORT. No operation of the module makes a channel drive its enables outside `RUN` (R67, R352). One lemma per operation, in
the order in which they build on each other. -/

namespace Sys2Proof.Machine

@[simp] theorem quiet_run (q : Quad Channel) : Quiet .run q := fun h => absurd rfl h

theorem quiet_of_run {m : MState} (q : Quad Channel) (h : m = .run) : Quiet m q := fun g => absurd h g

/-- A channel is changed and stays dark. -/
@[simp] theorem quiet_set {m : MState} {q : Quad Channel} (ch : Ch) (c : Channel) (h : Quiet m q)
    (hc : (q.get ch).dark → c.dark) : Quiet m (q.set ch c) := by
  intro g x
  by_cases e : x = ch
  · subst e; simpa using hc (h g x)
  · simpa [e] using h g x

@[simp] theorem quiet_modify {m : MState} {q : Quad Channel} (ch : Ch) (f : Channel → Channel) (h : Quiet m q)
    (hf : (q.get ch).dark → (f (q.get ch)).dark) : Quiet m (q.modify ch f) := quiet_set ch _ h hf

@[simp] theorem quiet_map {m : MState} {q : Quad Channel} (f : Channel → Channel) (h : Quiet m q)
    (hf : ∀ c, c.dark → (f c).dark) : Quiet m (q.map f) := by
  intro g x
  have := hf _ (h g x)
  cases x <;> exact this

theorem quiet_dark {m : MState} {q : Quad Channel} (f : Channel → Channel) (hf : ∀ c, (f c).dark) : Quiet m (q.map f) := by
  intro g x
  cases x <;> exact hf _

@[simp] theorem foldl_quiet {α : Type} (l : List α) (g : State → α → State)
    (h : ∀ s a, Quiet s.mstate s.vital.chans → Quiet (g s a).mstate (g s a).vital.chans) (s : State)
    (hs : Quiet s.mstate s.vital.chans) : Quiet (l.foldl g s).mstate (l.foldl g s).vital.chans := by
  induction l generalizing s with
  | nil => exact hs
  | cons a t ih => exact ih _ (h s a hs)

@[simp] theorem modV_quiet (s : State) (f : Vital → Vital) (h : Quiet s.mstate (f s.vital).chans) :
    Quiet (s.modV f).mstate (s.modV f).vital.chans := h

/-! ## What leaves the drivers of a channel alone -/

theorem foldl_gens {α : Type} (l : List α) (g : Channel → α → Channel) (h : ∀ c a, (g c a).gens = c.gens) (c : Channel) :
    (l.foldl g c).gens = c.gens := by
  induction l generalizing c with
  | nil => rfl
  | cons a t ih => exact (ih _).trans (h c a)
theorem foldl_emitting {α : Type} (l : List α) (g : Channel → α → Channel) (h : ∀ c a, (g c a).emitting = c.emitting) (c : Channel) :
    (l.foldl g c).emitting = c.emitting := by
  induction l generalizing c with
  | nil => rfl
  | cons a t ih => exact (ih _).trans (h c a)
@[simp] theorem rejoin_gens (c : Channel) (n : Nat) : (c.rejoin n).gens = c.gens := by unfold Channel.rejoin; split <;> rfl
@[simp] theorem rejoin_emitting (c : Channel) (n : Nat) : (c.rejoin n).emitting = c.emitting := by unfold Channel.rejoin; split <;> rfl
@[simp] theorem prune_gens (c : Channel) (v : Vital) : (c.prune v).gens = c.gens := rfl
@[simp] theorem prune_emitting (c : Channel) (v : Vital) : (c.prune v).emitting = c.emitting := rfl
@[simp] theorem sample_gens (c : Channel) (v : Vital) (o : MarkObs) : (c.sample v o).gens = c.gens := rfl
@[simp] theorem sample_emitting (c : Channel) (v : Vital) (o : MarkObs) : (c.sample v o).emitting = c.emitting := rfl
@[simp] theorem sampleLate_gens (c : Channel) (v : Vital) : (c.sampleLate v).gens = c.gens := rfl
@[simp] theorem sampleLate_emitting (c : Channel) (v : Vital) : (c.sampleLate v).emitting = c.emitting := rfl
@[simp] theorem spoil_gens (c : Channel) (l : List (Nat × Nat)) : (c.spoil l).gens = c.gens := rfl
@[simp] theorem spoil_emitting (c : Channel) (l : List (Nat × Nat)) : (c.spoil l).emitting = c.emitting := rfl
@[simp] theorem abandon_gens (c : Channel) (x : Ch) : (c.abandon x).gens = c.gens := by unfold Channel.abandon; (repeat' split) <;> rfl
@[simp] theorem abandon_emitting (c : Channel) (x : Ch) : (c.abandon x).emitting = c.emitting := by unfold Channel.abandon; (repeat' split) <;> rfl
@[simp] theorem dropEnd_gens (c : Channel) (x : Ch) : (c.dropEnd x).gens = c.gens := rfl
@[simp] theorem dropEnd_emitting (c : Channel) (x : Ch) : (c.dropEnd x).emitting = c.emitting := rfl
@[simp] theorem dropEnds_gens (c : Channel) : (c.dropEnds).gens = c.gens := rfl
@[simp] theorem dropEnds_emitting (c : Channel) : (c.dropEnds).emitting = c.emitting := rfl
@[simp] theorem setPage_gens (c : Channel) (i : Nat) (d : List Byte) : (c.setPage i d).gens = c.gens := rfl
@[simp] theorem setPage_emitting (c : Channel) (i : Nat) (d : List Byte) : (c.setPage i d).emitting = c.emitting := rfl
@[simp] theorem putWord_gens (c : Channel) (a : Nat) (d : List Byte) : (c.putWord a d).gens = c.gens := by unfold Channel.putWord; (repeat' split) <;> rfl
@[simp] theorem putWord_emitting (c : Channel) (a : Nat) (d : List Byte) : (c.putWord a d).emitting = c.emitting := by unfold Channel.putWord; (repeat' split) <;> rfl
@[simp] theorem mark__gens (c : Channel) (l : List Nat) : (c.mark_ l).gens = c.gens := rfl
@[simp] theorem mark__emitting (c : Channel) (l : List Nat) : (c.mark_ l).emitting = c.emitting := rfl
@[simp] theorem commit_gens (c : Channel) (x : StoreReq) : (c.commit x).gens = c.gens := by unfold Channel.commit; dsimp only; split <;> simp
@[simp] theorem commit_emitting (c : Channel) (x : StoreReq) : (c.commit x).emitting = c.emitting := by unfold Channel.commit; dsimp only; split <;> simp
@[simp] theorem release_gens (c : Channel) : (c.release).gens = c.gens := by unfold Channel.release; split <;> simp
@[simp] theorem release_emitting (c : Channel) : (c.release).emitting = c.emitting := by unfold Channel.release; split <;> simp
@[simp] theorem store_gens (c : Channel) (x : StoreReq) : (c.store x).gens = c.gens := by unfold Channel.store; dsimp only; split <;> simp
@[simp] theorem store_emitting (c : Channel) (x : StoreReq) : (c.store x).emitting = c.emitting := by unfold Channel.store; dsimp only; split <;> simp
@[simp] theorem stores_gens (c : Channel) (l : List StoreReq) : (l.foldl Channel.store c).gens = c.gens := foldl_gens l _ (fun c x => store_gens c x) c
@[simp] theorem stores_emitting (c : Channel) (l : List StoreReq) : (l.foldl Channel.store c).emitting = c.emitting := foldl_emitting l _ (fun c x => store_emitting c x) c
@[simp] theorem loadSdi_gens (c : Channel) (d : List Byte) : (c.loadSdi d).gens = c.gens := rfl
@[simp] theorem loadSdi_emitting (c : Channel) (d : List Byte) : (c.loadSdi d).emitting = c.emitting := rfl
@[simp] theorem valuePages_gens (c : Channel) (l : List Nat) : (l.foldl Channel.valuePage c).gens = c.gens :=
  foldl_gens l Channel.valuePage (fun _ _ => rfl) c
@[simp] theorem valuePages_emitting (c : Channel) (l : List Nat) : (l.foldl Channel.valuePage c).emitting = c.emitting :=
  foldl_emitting l Channel.valuePage (fun _ _ => rfl) c
@[simp] theorem checkpoint_gens (c : Channel) (n : Nat) (full : Bool) : (c.checkpoint n full).gens = c.gens := valuePages_gens c _
@[simp] theorem checkpoint_emitting (c : Channel) (n : Nat) (full : Bool) : (c.checkpoint n full).emitting = c.emitting := valuePages_emitting c _
@[simp] theorem writes_gens (c : Channel) (n : Nat) (l : List Nat) : (c.writes n l).gens = c.gens := foldl_gens _ (fun c i => c.setPage i (Config.pageData i n)) (fun _ _ => rfl) c
@[simp] theorem writes_emitting (c : Channel) (n : Nat) (l : List Nat) : (c.writes n l).emitting = c.emitting := foldl_emitting _ (fun c i => c.setPage i (Config.pageData i n)) (fun _ _ => rfl) c
@[simp] theorem replaced_gens (c : Channel) (k : Kernel) : (c.replaced k).gens = c.gens := by
  unfold Channel.replaced; split
  · generalize List.range 256 = l
    exact foldl_gens l (fun c i => c.setPage i _) (fun _ _ => rfl) c
  · rfl
@[simp] theorem replaced_emitting (c : Channel) (k : Kernel) : (c.replaced k).emitting = c.emitting := by
  unfold Channel.replaced; split
  · generalize List.range 256 = l
    exact foldl_emitting l (fun c i => c.setPage i _) (fun _ _ => rfl) c
  · rfl
@[simp] theorem take_gens (c : Channel) (cut : Option Nat) (e : StreamEntry) : (c.take cut e).gens = c.gens := by unfold Channel.take; split <;> rfl
@[simp] theorem take_emitting (c : Channel) (cut : Option Nat) (e : StreamEntry) : (c.take cut e).emitting = c.emitting := by unfold Channel.take; split <;> rfl
@[simp] theorem takeRec_gens (c : Channel) (x y : Nat) (sp : Sp) (r : SensorRec) : (c.takeRec x y sp r).gens = c.gens := by unfold Channel.takeRec; (repeat' split) <;> rfl
@[simp] theorem takeRec_emitting (c : Channel) (x y : Nat) (sp : Sp) (r : SensorRec) : (c.takeRec x y sp r).emitting = c.emitting := by unfold Channel.takeRec; (repeat' split) <;> rfl
@[simp] theorem takeCuts_chans (v : Vital) : v.takeCuts.chans = v.chans := by unfold Vital.takeCuts; split <;> rfl

@[simp] theorem modCvu_quiet (s : State) (n : Nat) (f : Cvu → Cvu)
    (hq : Quiet s.mstate s.vital.chans) : Quiet (State.modCvu s n f).mstate (State.modCvu s n f).vital.chans := by
  exact hq

@[simp] theorem cvuCompute_quiet (s : State) (n : Nat) (l : List Byte) (hq : Quiet s.mstate s.vital.chans) :
    Quiet (s.cvuCompute n l).1.mstate (s.cvuCompute n l).1.vital.chans := by
  simp only [State.cvuCompute]
  (repeat' split) <;> simp -implicitDefEqProofs +contextual (maxDischargeDepth := 30) [hq]

@[simp] theorem cvuAppend_quiet (s : State) (n : Nat) (l : List Byte) (hq : Quiet s.mstate s.vital.chans) :
    Quiet (s.cvuAppend n l).1.mstate (s.cvuAppend n l).1.vital.chans := by
  simp only [State.cvuAppend]
  (repeat' split) <;> simp -implicitDefEqProofs +contextual (maxDischargeDepth := 30) [hq]

@[simp] theorem cvuStrip_quiet (s : State) (n : Nat) (l : List Byte) (hq : Quiet s.mstate s.vital.chans) :
    Quiet (s.cvuStrip n l).1.mstate (s.cvuStrip n l).1.vital.chans := by
  simp only [State.cvuStrip]
  (repeat' split) <;> simp -implicitDefEqProofs +contextual (maxDischargeDepth := 30) [hq]

@[simp] theorem cvuJob_quiet (s : State) (n : Nat) (l : List Byte)
    (hq : Quiet s.mstate s.vital.chans) : Quiet (State.cvuJob s n l).mstate (State.cvuJob s n l).vital.chans := by
  exact hq

@[simp] theorem recordVals_quiet (s : State) (code src flags : Nat) (vals : List (Option W32))
    (hq : Quiet s.mstate s.vital.chans) :
    Quiet (State.recordVals s code src flags vals).mstate (State.recordVals s code src flags vals).vital.chans := by
  simp only [State.recordVals]
  (repeat' split) <;> simp -implicitDefEqProofs +contextual (maxDischargeDepth := 30) [hq]

@[simp] theorem record_quiet (s : State) (code src flags : Nat)
    (hq : Quiet s.mstate s.vital.chans) :
    Quiet (State.record s code src flags).mstate (State.record s code src flags).vital.chans := by
  simp -implicitDefEqProofs +contextual (maxDischargeDepth := 30) [State.record, hq]

@[simp] theorem emit_quiet (s : State) (o : Out)
    (hq : Quiet s.mstate s.vital.chans) : Quiet (State.emit s o).mstate (State.emit s o).vital.chans := by
  exact hq

@[simp] theorem emits_quiet (s : State) (l : List Out)
    (hq : Quiet s.mstate s.vital.chans) : Quiet (State.emits s l).mstate (State.emits s l).vital.chans := by
  exact hq

@[simp] theorem begin_quiet (s : State)
    (hq : Quiet s.mstate s.vital.chans) : Quiet (State.begin s).mstate (State.begin s).vital.chans := by
  exact hq

@[simp] theorem queueEmcy_quiet (s : State) (code src : Nat)
    (hq : Quiet s.mstate s.vital.chans) :
    Quiet (State.queueEmcy s code src).mstate (State.queueEmcy s code src).vital.chans := by
  simp only [State.queueEmcy]
  (repeat' split) <;> simp -implicitDefEqProofs +contextual (maxDischargeDepth := 30) [hq]

@[simp] theorem setRec_quiet (s : State) (n : Nat) (r : Option FaultRec)
    (hq : Quiet s.mstate s.vital.chans) : Quiet (State.setRec s n r).mstate (State.setRec s n r).vital.chans := by
  exact hq

@[simp] theorem countAssert_quiet (s : State) (src : Nat)
    (hq : Quiet s.mstate s.vital.chans) : Quiet (State.countAssert s src).mstate (State.countAssert s src).vital.chans := by
  exact hq

@[simp] theorem deassert_quiet (s : State) (src : Nat)
    (hq : Quiet s.mstate s.vital.chans) : Quiet (State.deassert s src).mstate (State.deassert s src).vital.chans := by
  simp only [State.deassert]
  (repeat' split) <;> simp -implicitDefEqProofs +contextual (maxDischargeDepth := 30) [hq]

@[simp] theorem settleSource_quiet (s : State) (src : Nat)
    (hq : Quiet s.mstate s.vital.chans) :
    Quiet (State.settleSource s src).mstate (State.settleSource s src).vital.chans := by
  simp only [State.settleSource]
  (repeat' split) <;> simp -implicitDefEqProofs +contextual (maxDischargeDepth := 30) [hq]

@[simp] theorem mergeInto_quiet (s : State) (n src : Nat) (forced : Bool)
    (hq : Quiet s.mstate s.vital.chans) :
    Quiet (State.mergeInto s n src forced).mstate (State.mergeInto s n src forced).vital.chans := by
  simp only [State.mergeInto]
  (repeat' split) <;> simp -implicitDefEqProofs +contextual (maxDischargeDepth := 30) [hq]

@[simp] theorem checkClear_quiet (s : State)
    (hq : Quiet s.mstate s.vital.chans) : Quiet (State.checkClear s).mstate (State.checkClear s).vital.chans := by
  simp only [State.checkClear]
  (repeat' split) <;> simp -implicitDefEqProofs +contextual (maxDischargeDepth := 30) [hq]

@[simp] theorem closeRec_quiet (s : State) (n : Nat)
    (hq : Quiet s.mstate s.vital.chans) : Quiet (State.closeRec s n).mstate (State.closeRec s n).vital.chans := by
  simp only [State.closeRec]
  (repeat' split) <;> simp -implicitDefEqProofs +contextual (maxDischargeDepth := 30) [hq]

@[simp] theorem settle_quiet (s : State) (n : Option Nat) (src level : Nat) (acked : Bool)
    (hq : Quiet s.mstate s.vital.chans) :
    Quiet (State.settle s n src level acked).mstate (State.settle s n src level acked).vital.chans := by
  simp only [State.settle]
  (repeat' split) <;> simp -implicitDefEqProofs +contextual (maxDischargeDepth := 30) [hq]

@[simp] theorem safeNets_quiet (s : State)
    (hq : Quiet s.mstate s.vital.chans) : Quiet (State.safeNets s).mstate (State.safeNets s).vital.chans := by
  exact hq

@[simp] theorem slotRecords_quiet (s : State)
    (hq : Quiet s.mstate s.vital.chans) : Quiet (State.slotRecords s).mstate (State.slotRecords s).vital.chans := by
  exact foldl_quiet s.kernel.notes _ (fun x a h => by cases a <;> simp -implicitDefEqProofs +contextual (maxDischargeDepth := 30) [h]) s hq

@[simp] theorem leaveRun_quiet (s : State) (m : MState)
    (hq : Quiet s.mstate s.vital.chans) : Quiet (State.leaveRun s m).mstate (State.leaveRun s m).vital.chans := by
  have h : Quiet m (s.vital.chans.map Channel.stop) := quiet_dark Channel.stop (fun _ => ⟨rfl, rfl⟩)
  simp -implicitDefEqProofs +contextual (maxDischargeDepth := 30) [State.leaveRun, Vital.stop, h]

@[simp] theorem goSafe_quiet (s : State) (src : Nat)
    (hq : Quiet s.mstate s.vital.chans) : Quiet (State.goSafe s src).mstate (State.goSafe s src).vital.chans := by
  simp only [State.goSafe]
  (repeat' split) <;> simp -implicitDefEqProofs +contextual (maxDischargeDepth := 30) [hq]

@[simp] theorem lockWritten_quiet (s : State)
    (hq : Quiet s.mstate s.vital.chans) : Quiet (State.lockWritten s).mstate (State.lockWritten s).vital.chans := by
  exact hq

@[simp] theorem goLockout_quiet (s : State) (src : Nat) (detail : W32) (forced : Bool)
    (hq : Quiet s.mstate s.vital.chans) :
    Quiet (State.goLockout s src detail forced).mstate (State.goLockout s src detail forced).vital.chans := by
  simp only [State.goLockout]
  (repeat' split) <;> simp -implicitDefEqProofs +contextual (maxDischargeDepth := 30) [hq]

@[simp] theorem pairReset_quiet (s : State) (again : State → State) (ch : Ch) (hagain : ∀ x : State, Quiet x.mstate x.vital.chans → Quiet (again x).mstate (again x).vital.chans)
    (hq : Quiet s.mstate s.vital.chans) :
    Quiet (State.pairReset s again ch).mstate (State.pairReset s again ch).vital.chans := by
  have h : Quiet s.mstate ((s.vital.chans.map (·.abandon ch)).set ch ((s.vital.chans.get ch).reset_ s.svc.ms)) :=
    quiet_set _ _ (quiet_map (·.abandon ch) hq (fun c hc => by simpa using hc)) (fun _ => ⟨rfl, rfl⟩)
  have k := quiet_modify ch Channel.dropEnds (quiet_map (fun (x : Channel) => x.dropEnd ch) h (fun c hc => by simpa using hc))
    (fun hc => by simpa using hc)
  simp only [State.pairReset]
  split
  · exact hq
  · have k' : Quiet s.mstate (if ((s.vital.chans.get ch).reset_ s.svc.ms).role = .off then
        (((s.vital.chans.map (·.abandon ch)).set ch ((s.vital.chans.get ch).reset_ s.svc.ms)).map
          fun (x : Channel) => x.dropEnd ch).modify ch Channel.dropEnds
        else (s.vital.chans.map (·.abandon ch)).set ch ((s.vital.chans.get ch).reset_ s.svc.ms)) := by
      split
      · exact k
      · exact h
    split
    · exact hagain _ k'
    · exact k'

@[simp] theorem openShadow_quiet (s : State) (n : Option Nat) (ch : Ch)
    (hq : Quiet s.mstate s.vital.chans) : Quiet (State.openShadow s n ch).mstate (State.openShadow s n ch).vital.chans := by
  simp only [State.openShadow]
  (repeat' split) <;> simp -implicitDefEqProofs +contextual (maxDischargeDepth := 30) [hq]

@[simp] theorem isolate_quiet (s : State) (l : List Nat)
    (hq : Quiet s.mstate s.vital.chans) : Quiet (State.isolate s l).mstate (State.isolate s l).vital.chans := by
  exact hq

@[simp] theorem applyLevel_quiet (s : State) (again : State → State) (n : Option Nat) (src level : Nat) (ch : Ch) (detail : W32) (forced acked : Bool) (hagain : ∀ x : State, Quiet x.mstate x.vital.chans → Quiet (again x).mstate (again x).vital.chans)
    (hq : Quiet s.mstate s.vital.chans) :
    Quiet (State.applyLevel s again n src level ch detail forced acked).mstate (State.applyLevel s again n src level ch detail forced acked).vital.chans := by
  simp only [State.applyLevel]
  (repeat' split) <;> simp -implicitDefEqProofs +contextual (maxDischargeDepth := 30) [hq, hagain]

@[simp] theorem openRec_quiet (s : State) (src : Nat) (forced : Bool) (hq : Quiet s.mstate s.vital.chans) :
    Quiet (s.openRec src forced).1.mstate (s.openRec src forced).1.vital.chans := by
  simp only [State.openRec]
  (repeat' split) <;> simp -implicitDefEqProofs +contextual (maxDischargeDepth := 30) [hq]

@[simp] theorem settleRec_quiet (s : State) (src : Nat) (forced : Bool) (hq : Quiet s.mstate s.vital.chans) :
    Quiet (s.settleRec src forced).1.mstate (s.settleRec src forced).1.vital.chans := by
  unfold State.settleRec
  split
  · exact hq
  · exact openRec_quiet s src forced hq

@[simp] theorem raiseWith_quiet (s : State) (again : State → State) (src : Nat) (detail : W32) (forced : Bool) (hagain : ∀ x : State, Quiet x.mstate x.vital.chans → Quiet (again x).mstate (again x).vital.chans)
    (hq : Quiet s.mstate s.vital.chans) :
    Quiet (State.raiseWith s again src detail forced).mstate (State.raiseWith s again src detail forced).vital.chans := by
  simp only [State.raiseWith]
  (repeat' split) <;> simp_all -implicitDefEqProofs +contextual (maxDischargeDepth := 30)

@[simp] theorem raiseSafe_quiet (s : State)
    (hq : Quiet s.mstate s.vital.chans) : Quiet (State.raiseSafe s).mstate (State.raiseSafe s).vital.chans := by
  simp -implicitDefEqProofs +contextual (maxDischargeDepth := 30) [State.raiseSafe, hq]

@[simp] theorem raise_quiet (s : State) (src : Nat)
    (hq : Quiet s.mstate s.vital.chans) : Quiet (State.raise s src).mstate (State.raise s src).vital.chans := by
  simp -implicitDefEqProofs +contextual (maxDischargeDepth := 30) [State.raise, hq]

@[simp] theorem raiseAbout_quiet (s : State) (src a b : Nat)
    (hq : Quiet s.mstate s.vital.chans) :
    Quiet (State.raiseAbout s src a b).mstate (State.raiseAbout s src a b).vital.chans := by
  simp -implicitDefEqProofs +contextual (maxDischargeDepth := 30) [State.raiseAbout, hq]

@[simp] theorem raises_quiet (s : State) (l : List Nat)
    (hq : Quiet s.mstate s.vital.chans) : Quiet (State.raises s l).mstate (State.raises s l).vital.chans := by
  simp -implicitDefEqProofs +contextual (maxDischargeDepth := 30) [State.raises, hq]

@[simp] theorem raiseAgreed_quiet (s : State) (src : Nat) (ch : Ch)
    (hq : Quiet s.mstate s.vital.chans) :
    Quiet (State.raiseAgreed s src ch).mstate (State.raiseAgreed s src ch).vital.chans := by
  simp only [State.raiseAgreed]
  (repeat' split) <;> simp -implicitDefEqProofs +contextual (maxDischargeDepth := 30) [hq]

@[simp] theorem modCan_quiet (s : State) (f : Can → Can)
    (hq : Quiet s.mstate s.vital.chans) : Quiet (State.modCan s f).mstate (State.modCan s f).vital.chans := by
  exact hq

@[simp] theorem canHead_quiet (s : State)
    (hq : Quiet s.mstate s.vital.chans) : Quiet (State.canHead s).mstate (State.canHead s).vital.chans := by
  simp only [State.canHead]
  (repeat' split) <;> simp -implicitDefEqProofs +contextual (maxDischargeDepth := 30) [hq]

@[simp] theorem canQueue_quiet (s : State) (f : CanOut)
    (hq : Quiet s.mstate s.vital.chans) : Quiet (State.canQueue s f).mstate (State.canQueue s f).vital.chans := by
  simp only [State.canQueue]
  (repeat' split) <;> simp -implicitDefEqProofs +contextual (maxDischargeDepth := 30) [hq]

@[simp] theorem canSend_quiet (s : State) (f : CanOut)
    (hq : Quiet s.mstate s.vital.chans) : Quiet (State.canSend s f).mstate (State.canSend s f).vital.chans := by
  simp only [State.canSend]
  (repeat' split) <;> simp -implicitDefEqProofs +contextual (maxDischargeDepth := 30) [hq]

@[simp] theorem answerCan_quiet (s : State) (cl : Client) (code : Option W32)
    (hq : Quiet s.mstate s.vital.chans) :
    Quiet (State.answerCan s cl code).mstate (State.answerCan s cl code).vital.chans := by
  simp only [State.answerCan]
  (repeat' split) <;> simp -implicitDefEqProofs +contextual (maxDischargeDepth := 30) [hq]

@[simp] theorem toBackup_quiet (s : State)
    (hq : Quiet s.mstate s.vital.chans) : Quiet (State.toBackup s).mstate (State.toBackup s).vital.chans := by
  exact hq

@[simp] theorem roleCheck_quiet (s : State)
    (hq : Quiet s.mstate s.vital.chans) : Quiet (State.roleCheck s).mstate (State.roleCheck s).vital.chans := by
  simp only [State.roleCheck]
  (repeat' split) <;> simp -implicitDefEqProofs +contextual (maxDischargeDepth := 30) [hq]

@[simp] theorem setClient_quiet (s : State) (c : ClientSt)
    (hq : Quiet s.mstate s.vital.chans) : Quiet (State.setClient s c).mstate (State.setClient s c).vital.chans := by
  exact hq

@[simp] theorem modClient_quiet (s : State) (cl : Client) (f : ClientSt → ClientSt)
    (hq : Quiet s.mstate s.vital.chans) : Quiet (State.modClient s cl f).mstate (State.modClient s cl f).vital.chans := by
  exact hq

@[simp] theorem touch_quiet (s : State) (cl : Client)
    (hq : Quiet s.mstate s.vital.chans) : Quiet (State.touch s cl).mstate (State.touch s cl).vital.chans := by
  exact hq

@[simp] theorem abort_quiet (s : State) (cl : Client) (code : W32)
    (hq : Quiet s.mstate s.vital.chans) : Quiet (State.abort s cl code).mstate (State.abort s cl code).vital.chans := by
  simp -implicitDefEqProofs +contextual (maxDischargeDepth := 30) [State.abort, hq]

@[simp] theorem accept_quiet (s : State) (cl : Client)
    (hq : Quiet s.mstate s.vital.chans) : Quiet (State.accept s cl).mstate (State.accept s cl).vital.chans := by
  simp -implicitDefEqProofs +contextual (maxDischargeDepth := 30) [State.accept, hq]

@[simp] theorem write_quiet (s : State) (cl : Client) (n : Need) (lenOk rangeOk : Bool) (f : State → State) (hf : ∀ x : State, Quiet x.mstate x.vital.chans → Quiet (f x).mstate (f x).vital.chans)
    (hq : Quiet s.mstate s.vital.chans) :
    Quiet (State.write s cl n lenOk rangeOk f).mstate (State.write s cl n lenOk rangeOk f).vital.chans := by
  simp only [State.write]
  (repeat' split) <;> simp -implicitDefEqProofs +contextual (maxDischargeDepth := 30) [hq, hf]

@[simp] theorem pstWrite_quiet (s : State) (idx sub : Nat) (d : List Byte)
    (hq : Quiet s.mstate s.vital.chans) :
    Quiet (State.pstWrite s idx sub d).mstate (State.pstWrite s idx sub d).vital.chans := by
  exact hq

@[simp] theorem faultSourceAssert_quiet (src : Nat) (by_ : Option Ch) (s : State)
    (hq : Quiet s.mstate s.vital.chans) :
    Quiet (faultSourceAssert src by_ s).mstate (faultSourceAssert src by_ s).vital.chans := by
  simp only [faultSourceAssert]
  (repeat' split) <;> simp -implicitDefEqProofs +contextual (maxDischargeDepth := 30) [hq]

@[simp] theorem dropEscal_quiet (s : State) (src : Nat)
    (hq : Quiet s.mstate s.vital.chans) : Quiet (State.dropEscal s src).mstate (State.dropEscal s src).vital.chans := by
  exact hq

@[simp] theorem escalationExpiry_quiet (src : Nat) (s : State)
    (hq : Quiet s.mstate s.vital.chans) : Quiet (escalationExpiry src s).mstate (escalationExpiry src s).vital.chans := by
  simp only [escalationExpiry]
  (repeat' split) <;> simp -implicitDefEqProofs +contextual (maxDischargeDepth := 30) [hq]

@[simp] theorem ackSettle_quiet (s : State) (e : Escalation) (src level : Nat)
    (hq : Quiet s.mstate s.vital.chans) :
    Quiet (State.ackSettle s e src level).mstate (State.ackSettle s e src level).vital.chans := by
  simp -implicitDefEqProofs +contextual (maxDischargeDepth := 30) [State.ackSettle, hq]

@[simp] theorem ackHandled_quiet (w : AckWord) (who : AckBy) (s : State)
    (hq : Quiet s.mstate s.vital.chans) : Quiet (ackHandled w who s).mstate (ackHandled w who s).vital.chans := by
  simp only [ackHandled]
  (repeat' split) <;> simp -implicitDefEqProofs +contextual (maxDischargeDepth := 30) [hq]

@[simp] theorem ackLowered_quiet (w : AckWord) (who : AckBy) (s : State)
    (hq : Quiet s.mstate s.vital.chans) : Quiet (ackLowered w who s).mstate (ackLowered w who s).vital.chans := by
  simp only [ackLowered]
  (repeat' split) <;> simp -implicitDefEqProofs +contextual (maxDischargeDepth := 30) [hq]

@[simp] theorem ackDismissed_quiet (w : AckWord) (who : AckBy) (s : State)
    (hq : Quiet s.mstate s.vital.chans) : Quiet (ackDismissed w who s).mstate (ackDismissed w who s).vital.chans := by
  simp only [ackDismissed]
  (repeat' split) <;> simp -implicitDefEqProofs +contextual (maxDischargeDepth := 30) [hq]

@[simp] theorem ackRedirect_quiet (w : AckWord) (who : AckBy) (s : State)
    (hq : Quiet s.mstate s.vital.chans) : Quiet (ackRedirect w who s).mstate (ackRedirect w who s).vital.chans := by
  simp only [ackRedirect]
  (repeat' split) <;> simp -implicitDefEqProofs +contextual (maxDischargeDepth := 30) [hq]

@[simp] theorem configPair_quiet (s : State) (p : CfgPair)
    (hq : Quiet s.mstate s.vital.chans) : Quiet (configPair s p).mstate (configPair s p).vital.chans := by
  simp only [configPair]
  (repeat' split) <;> simp -implicitDefEqProofs +contextual (maxDischargeDepth := 30) [hq]

@[simp] theorem forceBit_quiet (src : Nat) (v : Byte) (s : State)
    (hq : Quiet s.mstate s.vital.chans) : Quiet (forceBit src v s).mstate (forceBit src v s).vital.chans := by
  simp only [forceBit]
  (repeat' split) <;> simp -implicitDefEqProofs +contextual (maxDischargeDepth := 30) [hq]

@[simp] theorem forceWrite_quiet (cl : Client) (v : Byte) (s : State)
    (hq : Quiet s.mstate s.vital.chans) : Quiet (forceWrite cl v s).mstate (forceWrite cl v s).vital.chans := by
  simp only [forceWrite]
  (repeat' split) <;> simp -implicitDefEqProofs +contextual (maxDischargeDepth := 30) [hq]

@[simp] theorem overrideWrite_quiet (cl : Client) (w : W32) (s : State)
    (hq : Quiet s.mstate s.vital.chans) : Quiet (overrideWrite cl w s).mstate (overrideWrite cl w s).vital.chans := by
  simp only [overrideWrite]
  (repeat' split) <;> simp -implicitDefEqProofs +contextual (maxDischargeDepth := 30) [hq]

@[simp] theorem resetHold_quiet (svc : Bool) (chans : List Ch) (s : State)
    (hq : Quiet s.mstate s.vital.chans) : Quiet (resetHold svc chans s).mstate (resetHold svc chans s).vital.chans := by
  simp only [resetHold]
  (repeat' split) <;> simp -implicitDefEqProofs +contextual (maxDischargeDepth := 30) [hq]

@[simp] theorem cvuKat_quiet (n : Nat) (result : W64) (s : State)
    (hq : Quiet s.mstate s.vital.chans) : Quiet (cvuKat n result s).mstate (cvuKat n result s).vital.chans := by
  simp only [cvuKat]
  (repeat' split) <;> simp -implicitDefEqProofs +contextual (maxDischargeDepth := 30) [hq]

@[simp] theorem modSlot_quiet (s : State) (n : Nat) (f : SlotSt → SlotSt)
    (hq : Quiet s.mstate s.vital.chans) : Quiet (State.modSlot s n f).mstate (State.modSlot s n f).vital.chans := by
  exact hq

@[simp] theorem finish_quiet (s : State) (n : Nat) (st : SlotState) (result : Nat) (data : List Byte)
    (hq : Quiet s.mstate s.vital.chans) :
    Quiet (State.finish s n st result data).mstate (State.finish s n st result data).vital.chans := by
  simp -implicitDefEqProofs +contextual (maxDischargeDepth := 30) [State.finish, hq]

@[simp] theorem startTest_quiet (s : State) (slot mask : Nat)
    (hq : Quiet s.mstate s.vital.chans) :
    Quiet (State.startTest s slot mask).mstate (State.startTest s slot mask).vital.chans := by
  exact hq

@[simp] theorem writeSeal_quiet (s : State) (origin : Nat)
    (hq : Quiet s.mstate s.vital.chans) :
    Quiet (State.writeSeal s origin).mstate (State.writeSeal s origin).vital.chans := by
  exact hq

@[simp] theorem endTest_quiet (s : State) (st : Nat)
    (hq : Quiet s.mstate s.vital.chans) : Quiet (State.endTest s st).mstate (State.endTest s st).vital.chans := by
  exact hq

@[simp] theorem cutTest_quiet (s : State) (n : Nat)
    (hq : Quiet s.mstate s.vital.chans) : Quiet (State.cutTest s n).mstate (State.cutTest s n).vital.chans := by
  simp -implicitDefEqProofs +contextual (maxDischargeDepth := 30) [State.cutTest, hq]

@[simp] theorem stopping_quiet (s : State) (n : Nat) (t : SelfTest)
    (hq : Quiet s.mstate s.vital.chans) : Quiet (State.stopping s n t).mstate (State.stopping s n t).vital.chans := by
  simp only [State.stopping]
  (repeat' split) <;> simp -implicitDefEqProofs +contextual (maxDischargeDepth := 30) [hq]

@[simp] theorem runShutdown_quiet (s : State) (n : Nat)
    (hq : Quiet s.mstate s.vital.chans) : Quiet (State.runShutdown s n).mstate (State.runShutdown s n).vital.chans := by
  simp only [State.runShutdown]
  (repeat' split) <;> simp -implicitDefEqProofs +contextual (maxDischargeDepth := 30) [hq]

@[simp] theorem enterShutdown_quiet (s : State) (n : Nat)
    (hq : Quiet s.mstate s.vital.chans) : Quiet (State.enterShutdown s n).mstate (State.enterShutdown s n).vital.chans := by
  simp -implicitDefEqProofs +contextual (maxDischargeDepth := 30) [State.enterShutdown, hq]

@[simp] theorem startShutdown_quiet (s : State) (n : Nat)
    (hq : Quiet s.mstate s.vital.chans) : Quiet (State.startShutdown s n).mstate (State.startShutdown s n).vital.chans := by
  simp only [State.startShutdown]
  (repeat' split) <;> simp -implicitDefEqProofs +contextual (maxDischargeDepth := 30) [hq]

@[simp] theorem startBist_quiet (s : State) (n : Nat)
    (hq : Quiet s.mstate s.vital.chans) : Quiet (State.startBist s n).mstate (State.startBist s n).vital.chans := by
  exact hq

@[simp] theorem startTransfer_quiet (s : State) (n : Nat)
    (hq : Quiet s.mstate s.vital.chans) : Quiet (State.startTransfer s n).mstate (State.startTransfer s n).vital.chans := by
  simp only [State.startTransfer]
  (repeat' split) <;> simp -implicitDefEqProofs +contextual (maxDischargeDepth := 30) [hq]

@[simp] theorem dropTransfer_quiet (s : State) (n : Nat) (st : SlotState) (code : Nat)
    (hq : Quiet s.mstate s.vital.chans) :
    Quiet (State.dropTransfer s n st code).mstate (State.dropTransfer s n st code).vital.chans := by
  simp only [State.dropTransfer]
  (repeat' split) <;> simp -implicitDefEqProofs +contextual (maxDischargeDepth := 30) [hq]

@[simp] theorem transferSwitch_quiet (s : State)
    (hq : Quiet s.mstate s.vital.chans) : Quiet (State.transferSwitch s).mstate (State.transferSwitch s).vital.chans := by
  simp -implicitDefEqProofs +contextual (maxDischargeDepth := 30) [State.transferSwitch, hq]

@[simp] theorem startSchedule_quiet (s : State) (n : Nat)
    (hq : Quiet s.mstate s.vital.chans) : Quiet (State.startSchedule s n).mstate (State.startSchedule s n).vital.chans := by
  simp only [State.startSchedule]
  (repeat' split) <;> simp -implicitDefEqProofs +contextual (maxDischargeDepth := 30) [hq]

@[simp] theorem dropSchedule_quiet (s : State)
    (hq : Quiet s.mstate s.vital.chans) : Quiet (State.dropSchedule s).mstate (State.dropSchedule s).vital.chans := by
  exact hq

@[simp] theorem startExport_quiet (s : State) (n : Nat)
    (hq : Quiet s.mstate s.vital.chans) : Quiet (State.startExport s n).mstate (State.startExport s n).vital.chans := by
  simp only [State.startExport]
  (repeat' split) <;> simp -implicitDefEqProofs +contextual (maxDischargeDepth := 30) [hq]

@[simp] theorem startService_quiet (s : State) (n : Nat)
    (hq : Quiet s.mstate s.vital.chans) : Quiet (State.startService s n).mstate (State.startService s n).vital.chans := by
  simp only [State.startService]
  (repeat' split) <;> simp -implicitDefEqProofs +contextual (maxDischargeDepth := 30) [hq]

@[simp] theorem cancelService_quiet (s : State) (n : Nat)
    (hq : Quiet s.mstate s.vital.chans) : Quiet (State.cancelService s n).mstate (State.cancelService s n).vital.chans := by
  simp only [State.cancelService]
  (repeat' split) <;> simp -implicitDefEqProofs +contextual (maxDischargeDepth := 30) [hq]

@[simp] theorem sendExcite_quiet (s : State) (head : Nat)
    (hq : Quiet s.mstate s.vital.chans) : Quiet (State.sendExcite s head).mstate (State.sendExcite s head).vital.chans := by
  simp only [State.sendExcite]
  (repeat' split) <;> simp -implicitDefEqProofs +contextual (maxDischargeDepth := 30) [hq]

@[simp] theorem refuse_quiet (s : State) (cl : Client) (code : Nat)
    (hq : Quiet s.mstate s.vital.chans) : Quiet (State.refuse s cl code).mstate (State.refuse s cl code).vital.chans := by
  simp -implicitDefEqProofs +contextual (maxDischargeDepth := 30) [State.refuse, hq]

@[simp] theorem answer_quiet (s : State) (cl : Client) (code : Nat)
    (hq : Quiet s.mstate s.vital.chans) : Quiet (State.answer s cl code).mstate (State.answer s cl code).vital.chans := by
  simp only [State.answer]
  (repeat' split) <;> simp -implicitDefEqProofs +contextual (maxDischargeDepth := 30) [hq]

@[simp] theorem respond_quiet (s : State) (cl : Client) (w : Waiting) (code : Nat)
    (hq : Quiet s.mstate s.vital.chans) :
    Quiet (State.respond s cl w code).mstate (State.respond s cl w code).vital.chans := by
  simp only [State.respond]
  (repeat' split) <;> simp -implicitDefEqProofs +contextual (maxDischargeDepth := 30) [hq]

@[simp] theorem entryVerdict_quiet (s : State) (no code : Nat)
    (hq : Quiet s.mstate s.vital.chans) :
    Quiet (State.entryVerdict s no code).mstate (State.entryVerdict s no code).vital.chans := by
  refine foldl_quiet _ _ (fun x a h => ?_) s hq
  (repeat' split) <;> first | exact h | simp -implicitDefEqProofs +contextual (maxDischargeDepth := 30) [h]

@[simp] theorem settleWaits_quiet (s : State) (p : Nat → Bool)
    (hq : Quiet s.mstate s.vital.chans) : Quiet (State.settleWaits s p).mstate (State.settleWaits s p).vital.chans := by
  refine foldl_quiet _ _ (fun x a h => ?_) s hq
  refine foldl_quiet _ _ (fun y w h => ?_) _ (modClient_quiet x a.client _ h)
  split
  · exact answer_quiet _ _ _ h
  · exact h

@[simp] theorem settleAll_quiet (s : State)
    (hq : Quiet s.mstate s.vital.chans) : Quiet (State.settleAll s).mstate (State.settleAll s).vital.chans := by
  simp only [State.settleAll]
  (repeat' split) <;> simp -implicitDefEqProofs +contextual (maxDischargeDepth := 30) [hq]

@[simp] theorem takeNote_quiet (s : State) (n : Note)
    (hq : Quiet s.mstate s.vital.chans) : Quiet (State.takeNote s n).mstate (State.takeNote s n).vital.chans := by
  simp only [State.takeNote]
  (repeat' split) <;> simp -implicitDefEqProofs +contextual (maxDischargeDepth := 30) [hq]

@[simp] theorem syncService_quiet (s : State)
    (hq : Quiet s.mstate s.vital.chans) : Quiet (State.syncService s).mstate (State.syncService s).vital.chans := by
  simp only [State.syncService]
  (repeat' split) <;> simp -implicitDefEqProofs +contextual (maxDischargeDepth := 30) [hq]

@[simp] theorem joinHead_quiet (s : State) (head : Nat)
    (hq : Quiet s.mstate s.vital.chans) : Quiet (State.joinHead s head).mstate (State.joinHead s head).vital.chans := by
  simp only [State.joinHead]
  (repeat' split) <;> simp -implicitDefEqProofs +contextual (maxDischargeDepth := 30) [hq]

@[simp] theorem syncJoins_quiet (s : State)
    (hq : Quiet s.mstate s.vital.chans) : Quiet (State.syncJoins s).mstate (State.syncJoins s).vital.chans := by
  simp only [State.syncJoins]
  (repeat' split) <;> simp -implicitDefEqProofs +contextual (maxDischargeDepth := 30) [hq]

@[simp] theorem kernelDone_quiet (s : State)
    (hq : Quiet s.mstate s.vital.chans) : Quiet (State.kernelDone s).mstate (State.kernelDone s).vital.chans := by
  simp -implicitDefEqProofs +contextual (maxDischargeDepth := 30) [State.kernelDone, hq]

@[simp] theorem kRow_quiet (s : State) (f : Sdi → Env → Kernel → Kernel)
    (hq : Quiet s.mstate s.vital.chans) : Quiet (State.kRow s f).mstate (State.kRow s f).vital.chans := by
  simp only [State.kRow]
  (repeat' split) <;> simp -implicitDefEqProofs +contextual (maxDischargeDepth := 30) [hq]

@[simp] theorem kNext_quiet (s : State) (f : Sdi → Env → Kernel → Kernel)
    (hq : Quiet s.mstate s.vital.chans) : Quiet (State.kNext s f).mstate (State.kNext s f).vital.chans := by
  simp only [State.kNext]
  (repeat' split) <;> simp -implicitDefEqProofs +contextual (maxDischargeDepth := 30) [hq]

@[simp] theorem svcTry_quiet (s : State) (n : Nat)
    (hq : Quiet s.mstate s.vital.chans) : Quiet (State.svcTry s n).mstate (State.svcTry s n).vital.chans := by
  simp only [State.svcTry]
  (repeat' split) <;> simp -implicitDefEqProofs +contextual (maxDischargeDepth := 30) [hq]

@[simp] theorem svcQueued_quiet (s : State)
    (hq : Quiet s.mstate s.vital.chans) : Quiet (State.svcQueued s).mstate (State.svcQueued s).vital.chans := by
  simp only [State.svcQueued]
  (repeat' split) <;> simp -implicitDefEqProofs +contextual (maxDischargeDepth := 30) [hq]

@[simp] theorem mesh_quiet (s : State) (tx rx : Ch) (m : MeshOut)
    (hq : Quiet s.mstate s.vital.chans) : Quiet (State.mesh s tx rx m).mstate (State.mesh s tx rx m).vital.chans := by
  simp -implicitDefEqProofs +contextual (maxDischargeDepth := 30) [State.mesh, hq]

@[simp] theorem sendFrame_quiet (s : State) (tx rx : Ch)
    (hq : Quiet s.mstate s.vital.chans) : Quiet (State.sendFrame s tx rx).mstate (State.sendFrame s tx rx).vital.chans := by
  simp only [State.sendFrame]
  (repeat' split) <;> simp -implicitDefEqProofs +contextual (maxDischargeDepth := 30) [hq]

@[simp] theorem sendLink_quiet (s : State) (tx rx : Ch)
    (hq : Quiet s.mstate s.vital.chans) : Quiet (State.sendLink s tx rx).mstate (State.sendLink s tx rx).vital.chans := by
  simp -implicitDefEqProofs +contextual (maxDischargeDepth := 30) [State.sendLink, hq]

@[simp] theorem sendMesh_quiet (s : State)
    (hq : Quiet s.mstate s.vital.chans) : Quiet (State.sendMesh s).mstate (State.sendMesh s).vital.chans := by
  unfold State.sendMesh
  generalize Ch.all = l
  exact foldl_quiet l _ (fun x a h => foldl_quiet _ _ (fun y b h => sendLink_quiet y a b h) x h) s hq

@[simp] theorem meshLive_quiet (s : State) (f : State → State) (hf : ∀ x : State, Quiet x.mstate x.vital.chans → Quiet (f x).mstate (f x).vital.chans)
    (hq : Quiet s.mstate s.vital.chans) : Quiet (State.meshLive s f).mstate (State.meshLive s f).vital.chans := by
  simp only [State.meshLive, State.live]
  split
  · exact sendMesh_quiet _ (hf _ hq)
  · exact hq

@[simp] theorem meshHot_quiet (s : State) (tx : Ch) (m : MeshOut)
    (hq : Quiet s.mstate s.vital.chans) : Quiet (State.meshHot s tx m).mstate (State.meshHot s tx m).vital.chans := by
  simp -implicitDefEqProofs +contextual (maxDischargeDepth := 30) [State.meshHot, hq]

@[simp] theorem linkDown_quiet (s : State) (rx tx : Ch)
    (hq : Quiet s.mstate s.vital.chans) : Quiet (State.linkDown s rx tx).mstate (State.linkDown s rx tx).vital.chans := by
  simp only [State.linkDown]
  (repeat' split) <;> simp -implicitDefEqProofs +contextual (maxDischargeDepth := 30) [hq]

@[simp] theorem linkUp_quiet (s : State) (rx tx : Ch)
    (hq : Quiet s.mstate s.vital.chans) : Quiet (State.linkUp s rx tx).mstate (State.linkUp s rx tx).vital.chans := by
  simp only [State.linkUp]
  (repeat' split) <;> simp -implicitDefEqProofs +contextual (maxDischargeDepth := 30) [hq]

@[simp] theorem linkRx_quiet (s : State) (rx tx : Ch) (f : MeshFrame)
    (hq : Quiet s.mstate s.vital.chans) : Quiet (State.linkRx s rx tx f).mstate (State.linkRx s rx tx f).vital.chans := by
  simp only [State.linkRx]
  (repeat' split) <;> simp -implicitDefEqProofs +contextual (maxDischargeDepth := 30) [hq]

@[simp] theorem silent_quiet (s : State) (rx tx : Ch)
    (hq : Quiet s.mstate s.vital.chans) : Quiet (State.silent s rx tx).mstate (State.silent s rx tx).vital.chans := by
  simp only [State.silent]
  (repeat' split) <;> simp -implicitDefEqProofs +contextual (maxDischargeDepth := 30) [hq]

@[simp] theorem settleLink_quiet (s : State) (x y : Ch)
    (hq : Quiet s.mstate s.vital.chans) : Quiet (State.settleLink s x y).mstate (State.settleLink s x y).vital.chans := by
  simp only [State.settleLink]
  (repeat' split) <;> simp -implicitDefEqProofs +contextual (maxDischargeDepth := 30) [hq]

@[simp] theorem testPort_quiet (s : State) (ch : Ch) (fail : List Ch) (x : Ch)
    (hq : Quiet s.mstate s.vital.chans) :
    Quiet (State.testPort s ch fail x).mstate (State.testPort s ch fail x).vital.chans := by
  simp only [State.testPort]
  (repeat' split) <;> simp -implicitDefEqProofs +contextual (maxDischargeDepth := 30) [hq]

@[simp] theorem sendStart_quiet (s : State) (rq : Ch)
    (hq : Quiet s.mstate s.vital.chans) : Quiet (State.sendStart s rq).mstate (State.sendStart s rq).vital.chans := by
  simp only [State.sendStart]
  (repeat' split) <;> simp -implicitDefEqProofs +contextual (maxDischargeDepth := 30) [hq]

@[simp] theorem sendRound_quiet (s : State) (su rq : Ch) (round : Nat) (pages : List Nat) (hash : W64)
    (hq : Quiet s.mstate s.vital.chans) :
    Quiet (State.sendRound s su rq round pages hash).mstate (State.sendRound s su rq round pages hash).vital.chans := by
  simp -implicitDefEqProofs +contextual (maxDischargeDepth := 30) [State.sendRound, hq]

@[simp] theorem takeStart_quiet (s : State) (su rq : Ch) (k : Nat) (map : List Nat)
    (hq : Quiet s.mstate s.vital.chans) :
    Quiet (State.takeStart s su rq k map).mstate (State.takeStart s su rq k map).vital.chans := by
  simp only [State.takeStart]
  (repeat' split) <;> simp -implicitDefEqProofs +contextual (maxDischargeDepth := 30) [hq]

@[simp] theorem round2_quiet (s : State) (su : Ch)
    (hq : Quiet s.mstate s.vital.chans) : Quiet (State.round2 s su).mstate (State.round2 s su).vital.chans := by
  refine foldl_quiet _ _ (fun x a h => ?_) s hq
  (repeat' split) <;> first | exact h | simp -implicitDefEqProofs +contextual (maxDischargeDepth := 30) [h]

@[simp] theorem abandonXfer_quiet (s : State) (su : Ch)
    (hq : Quiet s.mstate s.vital.chans) : Quiet (State.abandonXfer s su).mstate (State.abandonXfer s su).vital.chans := by
  simp -implicitDefEqProofs +contextual (maxDischargeDepth := 30) [State.abandonXfer, hq]

@[simp] theorem round3_quiet (s : State) (su : Ch)
    (hq : Quiet s.mstate s.vital.chans) : Quiet (State.round3 s su).mstate (State.round3 s su).vital.chans := by
  simp only [State.round3]
  (repeat' split) <;> simp -implicitDefEqProofs +contextual (maxDischargeDepth := 30) [hq]

@[simp] theorem takeRepair_quiet (s : State) (su rq : Ch) (round : Nat) (map : List Nat)
    (hq : Quiet s.mstate s.vital.chans) :
    Quiet (State.takeRepair s su rq round map).mstate (State.takeRepair s su rq round map).vital.chans := by
  simp -implicitDefEqProofs +contextual (maxDischargeDepth := 30) [State.takeRepair, hq]

@[simp] theorem takePage_quiet (s : State) (rq su : Ch) (i : Nat) (crc : W32) (d : List Byte)
    (hq : Quiet s.mstate s.vital.chans) :
    Quiet (State.takePage s rq su i crc d).mstate (State.takePage s rq su i crc d).vital.chans := by
  simp -implicitDefEqProofs +contextual (maxDischargeDepth := 30) [State.takePage, hq]

@[simp] theorem failXfer_quiet (s : State) (rq : Ch)
    (hq : Quiet s.mstate s.vital.chans) : Quiet (State.failXfer s rq).mstate (State.failXfer s rq).vital.chans := by
  simp -implicitDefEqProofs +contextual (maxDischargeDepth := 30) [State.failXfer, hq]

@[simp] theorem finishXfer_quiet (s : State) (rq : Ch) (x : XferReq) (hash : W64)
    (hq : Quiet s.mstate s.vital.chans) :
    Quiet (State.finishXfer s rq x hash).mstate (State.finishXfer s rq x hash).vital.chans := by
  simp only [State.finishXfer]
  split
  · refine modV_quiet _ _ (quiet_modify rq _ hq (fun h => ?_))
    exact ⟨(foldl_gens x.got (fun (c : Channel) p => (c.setPage p.index p.data).valuePage p.index) (fun _ _ => rfl) _).trans h.1,
      (foldl_emitting x.got (fun (c : Channel) p => (c.setPage p.index p.data).valuePage p.index) (fun _ _ => rfl) _).trans h.2⟩
  · exact failXfer_quiet s rq hq

@[simp] theorem takeEnd_quiet (s : State) (rq su : Ch) (round : Nat) (hash : W64) (map : List Nat)
    (hq : Quiet s.mstate s.vital.chans) :
    Quiet (State.takeEnd s rq su round hash map).mstate (State.takeEnd s rq su round hash map).vital.chans := by
  simp only [State.takeEnd]
  (repeat' split) <;> simp -implicitDefEqProofs +contextual (maxDischargeDepth := 30) [hq]

@[simp] theorem raisePath_quiet (s : State) (n : Nat)
    (hq : Quiet s.mstate s.vital.chans) : Quiet (State.raisePath s n).mstate (State.raisePath s n).vital.chans := by
  simp -implicitDefEqProofs +contextual (maxDischargeDepth := 30) [State.raisePath, hq]

@[simp] theorem switchLevels_quiet (s : State)
    (hq : Quiet s.mstate s.vital.chans) : Quiet (State.switchLevels s).mstate (State.switchLevels s).vital.chans := by
  exact hq

@[simp] theorem sw1Diffs_quiet (s : State)
    (hq : Quiet s.mstate s.vital.chans) : Quiet (State.sw1Diffs s).mstate (State.sw1Diffs s).vital.chans := by
  exact hq

@[simp] theorem sw1Judge_quiet (s : State)
    (hq : Quiet s.mstate s.vital.chans) : Quiet (State.sw1Judge s).mstate (State.sw1Judge s).vital.chans := by
  simp only [State.sw1Judge]
  (repeat' split) <;> simp -implicitDefEqProofs +contextual (maxDischargeDepth := 30) [hq]

@[simp] theorem sw1Step_quiet (s : State) (es : List SvcEntry)
    (hq : Quiet s.mstate s.vital.chans) : Quiet (State.sw1Step s es).mstate (State.sw1Step s es).vital.chans := by
  simp only [State.sw1Step]
  (repeat' split) <;> simp -implicitDefEqProofs +contextual (maxDischargeDepth := 30) [hq]

@[simp] theorem namePromoted_quiet (s : State) (ch : Ch)
    (hq : Quiet s.mstate s.vital.chans) : Quiet (State.namePromoted s ch).mstate (State.namePromoted s ch).vital.chans := by
  simp only [State.namePromoted]
  (repeat' split) <;> simp -implicitDefEqProofs +contextual (maxDischargeDepth := 30) [hq]

@[simp] theorem shadowMark_quiet (s : State) (n : Nat)
    (hq : Quiet s.mstate s.vital.chans) : Quiet (State.shadowMark s n).mstate (State.shadowMark s n).vital.chans := by
  simp only [State.shadowMark]
  (repeat' split) <;> simp -implicitDefEqProofs +contextual (maxDischargeDepth := 30) [hq]

@[simp] theorem roleChanges_quiet (s : State)
    (hq : Quiet s.mstate s.vital.chans) : Quiet (State.roleChanges s).mstate (State.roleChanges s).vital.chans := by
  refine foldl_quiet _ _ (fun x a h => ?_) s hq
  by_cases e : (x.ch a).role = (x.ch a).roleSeen <;> simp -implicitDefEqProofs +contextual (maxDischargeDepth := 30) [h, e]

@[simp] theorem enterDual_quiet (s : State)
    (hq : Quiet s.mstate s.vital.chans) : Quiet (State.enterDual s).mstate (State.enterDual s).vital.chans := by
  simp only [State.enterDual]
  (repeat' split) <;> simp -implicitDefEqProofs +contextual (maxDischargeDepth := 30) [hq]

@[simp] theorem stepLadder_quiet (s : State)
    (hq : Quiet s.mstate s.vital.chans) : Quiet (State.stepLadder s).mstate (State.stepLadder s).vital.chans := by
  simp only [State.stepLadder]
  (repeat' split) <;> simp -implicitDefEqProofs +contextual (maxDischargeDepth := 30) [hq]

@[simp] theorem promote_quiet (left : Bool) (cyc n : Nat) (s : State) (hq : Quiet s.mstate s.vital.chans) :
    Quiet (State.promote left cyc n s).mstate (State.promote left cyc n s).vital.chans := by
  induction n generalizing s with
  | zero => exact hq
  | succ n ih =>
    simp only [State.promote]
    split <;> simp -implicitDefEqProofs +contextual (maxDischargeDepth := 30) [hq, ih]

@[simp] theorem newCycle_quiet (s : State)
    (hq : Quiet s.mstate s.vital.chans) : Quiet (State.newCycle s).mstate (State.newCycle s).vital.chans := by
  unfold State.newCycle
  split
  · simp -implicitDefEqProofs +contextual (maxDischargeDepth := 30) [hq]
  · have h := foldl_quiet (List.range 16) State.shadowMark (fun x a h => shadowMark_quiet x a h) s hq
    simp -implicitDefEqProofs +contextual (maxDischargeDepth := 30) [h]

@[simp] theorem latchErrors_quiet (s : State) (ch : Ch) (l : List (Nat × Nat))
    (hq : Quiet s.mstate s.vital.chans) :
    Quiet (State.latchErrors s ch l).mstate (State.latchErrors s ch l).vital.chans := by
  simp only [State.latchErrors]
  (repeat' split) <;> simp -implicitDefEqProofs +contextual (maxDischargeDepth := 30) [hq]

@[simp] theorem sendRaw_quiet (s : State) (ch : Ch)
    (hq : Quiet s.mstate s.vital.chans) : Quiet (State.sendRaw s ch).mstate (State.sendRaw s ch).vital.chans := by
  simp only [State.sendRaw]
  (repeat' split) <;> simp -implicitDefEqProofs +contextual (maxDischargeDepth := 30) [hq]

@[simp] theorem sendT2_quiet (s : State) (ch : Ch) (attempt : Nat) (used : BitVec 4)
    (hq : Quiet s.mstate s.vital.chans) :
    Quiet (State.sendT2 s ch attempt used).mstate (State.sendT2 s ch attempt used).vital.chans := by
  simp -implicitDefEqProofs +contextual (maxDischargeDepth := 30) [State.sendT2, hq]

@[simp] theorem raisesAgreed_quiet (s : State) (ch : Ch) (l : List Nat)
    (hq : Quiet s.mstate s.vital.chans) :
    Quiet (State.raisesAgreed s ch l).mstate (State.raisesAgreed s ch l).vital.chans := by
  simp -implicitDefEqProofs +contextual (maxDischargeDepth := 30) [State.raisesAgreed, hq]

@[simp] theorem countDissents_quiet (before : Nat) (tenon : Bool) (s : State)
    (hq : Quiet s.mstate s.vital.chans) :
    Quiet (State.countDissents before tenon s).mstate (State.countDissents before tenon s).vital.chans := by
  exact hq

@[simp] theorem steerCh_quiet (s : State) (ch : Ch)
    (hq : Quiet s.mstate s.vital.chans) : Quiet (State.steerCh s ch).mstate (State.steerCh s ch).vital.chans := by
  simp only [State.steerCh]
  (repeat' split) <;> simp -implicitDefEqProofs +contextual (maxDischargeDepth := 30) [hq]

@[simp] theorem sramRead_quiet (s : State) (ch : Ch) (addr : Nat) (x : EccWord)
    (hq : Quiet s.mstate s.vital.chans) :
    Quiet (State.sramRead s ch addr x).mstate (State.sramRead s ch addr x).vital.chans := by
  simp only [State.sramRead]
  (repeat' split) <;> simp -implicitDefEqProofs +contextual (maxDischargeDepth := 30) [hq]

@[simp] theorem scrub_quiet (s : State) (ch : Ch) (o : MarkObs)
    (hq : Quiet s.mstate s.vital.chans) : Quiet (State.scrub s ch o).mstate (State.scrub s ch o).vital.chans := by
  simp only [State.scrub]
  (repeat' split) <;> simp -implicitDefEqProofs +contextual (maxDischargeDepth := 30) [hq]

@[simp] theorem alignP6_quiet (s : State) (ch : Ch)
    (hq : Quiet s.mstate s.vital.chans) : Quiet (State.alignP6 s ch).mstate (State.alignP6 s ch).vital.chans := by
  simp -implicitDefEqProofs +contextual (maxDischargeDepth := 30) [State.alignP6, hq]

@[simp] theorem scrubP6_quiet (s : State) (ch : Ch)
    (hq : Quiet s.mstate s.vital.chans) : Quiet (State.scrubP6 s ch).mstate (State.scrubP6 s ch).vital.chans := by
  simp only [State.scrubP6]
  (repeat' split) <;> simp -implicitDefEqProofs +contextual (maxDischargeDepth := 30) [hq]

@[simp] theorem phase6_quiet (s : State) (ch : Ch)
    (hq : Quiet s.mstate s.vital.chans) : Quiet (State.phase6 s ch).mstate (State.phase6 s ch).vital.chans := by
  simp only [State.phase6]
  (repeat' split) <;> simp -implicitDefEqProofs +contextual (maxDischargeDepth := 30) [hq]

@[simp] theorem resyncP6_quiet (s : State) (ch : Ch)
    (hq : Quiet s.mstate s.vital.chans) : Quiet (State.resyncP6 s ch).mstate (State.resyncP6 s ch).vital.chans := by
  simp only [State.resyncP6]
  (repeat' split) <;> simp -implicitDefEqProofs +contextual (maxDischargeDepth := 30) [hq]

@[simp] theorem halt_quiet (s : State) (ch : Ch)
    (hq : Quiet s.mstate s.vital.chans) : Quiet (State.halt s ch).mstate (State.halt s ch).vital.chans := by
  simp -implicitDefEqProofs +contextual (maxDischargeDepth := 30) [State.halt, hq]

@[simp] theorem evaluate_quiet (s : State) (ch : Ch) (i : Image) (hash : W64) (second : Bool)
    (hq : Quiet s.mstate s.vital.chans) :
    Quiet (State.evaluate s ch i hash second).mstate (State.evaluate s ch i hash second).vital.chans := by
  simp only [State.evaluate]
  (repeat' split) <;> simp -implicitDefEqProofs +contextual (maxDischargeDepth := 30) [hq]

@[simp] theorem judgeLines_quiet (s : State) (ch : Ch) (i : Image)
    (hq : Quiet s.mstate s.vital.chans) : Quiet (State.judgeLines s ch i).mstate (State.judgeLines s ch i).vital.chans := by
  simp -implicitDefEqProofs +contextual (maxDischargeDepth := 30) [State.judgeLines, hq]

@[simp] theorem timed_quiet (s : State) (ch : Ch)
    (hq : Quiet s.mstate s.vital.chans) : Quiet (State.timed s ch).mstate (State.timed s ch).vital.chans := by
  simp only [State.timed]
  (repeat' split) <;> simp -implicitDefEqProofs +contextual (maxDischargeDepth := 30) [hq]

@[simp] theorem sendVote_quiet (s : State) (ch : Ch)
    (hq : Quiet s.mstate s.vital.chans) : Quiet (State.sendVote s ch).mstate (State.sendVote s ch).vital.chans := by
  simp only [State.sendVote]
  (repeat' split) <;> simp -implicitDefEqProofs +contextual (maxDischargeDepth := 30) [hq]

@[simp] theorem doEval_quiet (s : State) (ch : Ch) (i : Image) (hash : W64) (second : Bool)
    (hq : Quiet s.mstate s.vital.chans) :
    Quiet (State.doEval s ch i hash second).mstate (State.doEval s ch i hash second).vital.chans := by
  simp only [State.doEval]
  (repeat' split) <;> simp -implicitDefEqProofs +contextual (maxDischargeDepth := 30) [hq]

@[simp] theorem tenonVerdict_quiet (s : State) (ch : Ch) (attempt : Nat) (set : BitVec 4)
    (hq : Quiet s.mstate s.vital.chans) :
    Quiet (State.tenonVerdict s ch attempt set).mstate (State.tenonVerdict s ch attempt set).vital.chans := by
  simp only [State.tenonVerdict]
  (repeat' split) <;> simp -implicitDefEqProofs +contextual (maxDischargeDepth := 30) [hq]

@[simp] theorem judgeT2_quiet (s : State) (ch : Ch) (attempt : Nat)
    (hq : Quiet s.mstate s.vital.chans) :
    Quiet (State.judgeT2 s ch attempt).mstate (State.judgeT2 s ch attempt).vital.chans := by
  simp only [State.judgeT2]
  (repeat' split) <;> simp -implicitDefEqProofs +contextual (maxDischargeDepth := 30) [hq]

@[simp] theorem sendConfig_quiet (s : State) (ch : Ch) (n : Nat)
    (hq : Quiet s.mstate s.vital.chans) : Quiet (State.sendConfig s ch n).mstate (State.sendConfig s ch n).vital.chans := by
  exact foldl_quiet _ _ (fun x a h => by simp -implicitDefEqProofs +contextual (maxDischargeDepth := 30) [h]) s hq

@[simp] theorem writeEgress_quiet (s : State) (ch : Ch) (x : Egress × List Byte)
    (hq : Quiet s.mstate s.vital.chans) :
    Quiet (State.writeEgress s ch x).mstate (State.writeEgress s ch x).vital.chans := by
  simp only [State.writeEgress]
  (repeat' split) <;> simp -implicitDefEqProofs +contextual (maxDischargeDepth := 30) [hq]

@[simp] theorem emitP5_quiet (s : State) (ch : Ch) (hr : s.mstate = .run) :
    Quiet (s.emitP5 ch).mstate (s.emitP5 ch).vital.chans := by
  simp only [State.emitP5]
  refine foldl_quiet _ _ (fun x a h => sendConfig_quiet x ch a h) _ ?_
  refine foldl_quiet _ _ (fun x a h => writeEgress_quiet x ch a h) _ ?_
  exact quiet_of_run _ hr

@[simp] theorem outputVerdict_quiet (s : State) (ch : Ch)
    (hq : Quiet s.mstate s.vital.chans) :
    Quiet (State.outputVerdict s ch).mstate (State.outputVerdict s ch).vital.chans := by
  simp only [State.outputVerdict]
  have h : ∀ l n, Quiet (State.countDissents n false (s.raisesAgreed ch l)).mstate
      (State.countDissents n false (s.raisesAgreed ch l)).vital.chans := fun l n => by simp -implicitDefEqProofs +contextual (maxDischargeDepth := 30) [hq]
  split
  · exact h _ _
  · next hr =>
    have hr : (State.countDissents s.vital.resetsTotal false (s.raisesAgreed ch (s.verdict ch (fun x =>
        ((s.ch ch).voteOf ch x s.vital.cycle).map (·.outHash)) (majority s.vital.voting.length) 6).2)).mstate = .run := by
      simpa [State.runs] using hr
    (repeat' split) <;> simp -implicitDefEqProofs +contextual (maxDischargeDepth := 30) [h, hr]

@[simp] theorem countEcho_quiet (s : State) (ch : Ch) (before : Nat)
    (hq : Quiet s.mstate s.vital.chans) :
    Quiet (State.countEcho s ch before).mstate (State.countEcho s ch before).vital.chans := by
  refine foldl_quiet _ _ (fun x a h => ?_) s hq
  (repeat' split) <;> first | exact h | simp -implicitDefEqProofs +contextual (maxDischargeDepth := 30) [h]

@[simp] theorem sendMarks_quiet (s : State) (ch : Ch) (o : MarkObs)
    (hq : Quiet s.mstate s.vital.chans) : Quiet (State.sendMarks s ch o).mstate (State.sendMarks s ch o).vital.chans := by
  simp -implicitDefEqProofs +contextual (maxDischargeDepth := 30) [State.sendMarks, hq]

@[simp] theorem markResync_quiet (s : State) (ch : Ch)
    (hq : Quiet s.mstate s.vital.chans) : Quiet (State.markResync s ch).mstate (State.markResync s ch).vital.chans := by
  simp only [State.markResync]
  (repeat' split) <;> simp -implicitDefEqProofs +contextual (maxDischargeDepth := 30) [hq]

@[simp] theorem advance_quiet (ch : Ch) (n : Nat) (force : Bool) (s : State) (hq : Quiet s.mstate s.vital.chans) :
    Quiet (State.advance ch n force s).mstate (State.advance ch n force s).vital.chans := by
  induction n generalizing s force with
  | zero => exact hq
  | succ n ih =>
    simp only [State.advance]
    (repeat' split) <;> simp -implicitDefEqProofs +contextual (maxDischargeDepth := 30) [hq, ih]

@[simp] theorem markHot_quiet (s : State) (ch : Ch) (o : MarkObs)
    (hq : Quiet s.mstate s.vital.chans) : Quiet (State.markHot s ch o).mstate (State.markHot s ch o).vital.chans := by
  simp only [State.markHot]
  (repeat' split) <;> simp -implicitDefEqProofs +contextual (maxDischargeDepth := 30) [hq]

@[simp] theorem mark_quiet (s : State) (ch : Ch) (o : MarkObs)
    (hq : Quiet s.mstate s.vital.chans) : Quiet (State.mark s ch o).mstate (State.mark s ch o).vital.chans := by
  simp only [State.mark]
  (repeat' split) <;> simp -implicitDefEqProofs +contextual (maxDischargeDepth := 30) [hq]

@[simp] theorem offer_quiet (s : State) (c : Ch) (p : Producer) (n : Nat) (f : Channel → Channel)
    (hq : Quiet s.mstate s.vital.chans) : Quiet (State.offer s c p n f).mstate (State.offer s c p n f).vital.chans := by
  simp only [State.offer]
  (repeat' split) <;> simp_all -implicitDefEqProofs +contextual (maxDischargeDepth := 30)

@[simp] theorem putEntry_quiet (s : State) (p : Producer) (e : StreamEntry)
    (hq : Quiet s.mstate s.vital.chans) : Quiet (State.putEntry s p e).mstate (State.putEntry s p e).vital.chans := by
  simp -implicitDefEqProofs +contextual (maxDischargeDepth := 30) [State.putEntry, hq]

@[simp] theorem newEntry_quiet (s : State) (p : Producer) (e : StreamEntry)
    (hq : Quiet s.mstate s.vital.chans) : Quiet (State.newEntry s p e).mstate (State.newEntry s p e).vital.chans := by
  simp -implicitDefEqProofs +contextual (maxDischargeDepth := 30) [State.newEntry, hq]

@[simp] theorem svcEntry_quiet (s : State) (e : SvcEntry)
    (hq : Quiet s.mstate s.vital.chans) : Quiet (State.svcEntry s e).mstate (State.svcEntry s e).vital.chans := by
  simp -implicitDefEqProofs +contextual (maxDischargeDepth := 30) [State.svcEntry, hq]

@[simp] theorem putRec_quiet (s : State) (sp : Sp) (r : SensorRec)
    (hq : Quiet s.mstate s.vital.chans) : Quiet (State.putRec s sp r).mstate (State.putRec s sp r).vital.chans := by
  simp -implicitDefEqProofs +contextual (maxDischargeDepth := 30) [State.putRec, hq]

@[simp] theorem modSent_quiet (s : State) (sp : Sp) (f : List (SensorRec × Nat) → List (SensorRec × Nat))
    (hq : Quiet s.mstate s.vital.chans) : Quiet (State.modSent s sp f).mstate (State.modSent s sp f).vital.chans := by
  simp only [State.modSent]
  (repeat' split) <;> simp -implicitDefEqProofs +contextual (maxDischargeDepth := 30) [hq]

@[simp] theorem repeatRec_quiet (s : State) (sp : Sp) (n : Nat)
    (hq : Quiet s.mstate s.vital.chans) : Quiet (State.repeatRec s sp n).mstate (State.repeatRec s sp n).vital.chans := by
  simp only [State.repeatRec]
  (repeat' split) <;> simp -implicitDefEqProofs +contextual (maxDischargeDepth := 30) [hq]

@[simp] theorem repeatEntry_quiet (s : State) (p : Producer) (n : Nat)
    (hq : Quiet s.mstate s.vital.chans) : Quiet (State.repeatEntry s p n).mstate (State.repeatEntry s p n).vital.chans := by
  simp only [State.repeatEntry]
  (repeat' split) <;> simp -implicitDefEqProofs +contextual (maxDischargeDepth := 30) [hq]

@[simp] theorem phaseOverrun_quiet (ch : Ch) (ph : Phase) (s : State)
    (hq : Quiet s.mstate s.vital.chans) : Quiet (phaseOverrun ch ph s).mstate (phaseOverrun ch ph s).vital.chans := by
  simp only [phaseOverrun]
  (repeat' split) <;> simp -implicitDefEqProofs +contextual (maxDischargeDepth := 30) [hq]

@[simp] theorem meshRow_quiet (s : State) (rx tx : Ch) (h : MeshHead) (m : MeshOut) (f : State → State) (hf : ∀ x : State, Quiet x.mstate x.vital.chans → Quiet (f x).mstate (f x).vital.chans)
    (hq : Quiet s.mstate s.vital.chans) :
    Quiet (State.meshRow s rx tx h m f).mstate (State.meshRow s rx tx h m f).vital.chans := by
  simp only [State.meshRow]
  (repeat' split) <;> simp -implicitDefEqProofs +contextual (maxDischargeDepth := 30) [hq, hf]

@[simp] theorem dovetailEdge_quiet (ch : Ch) (stores : List StoreReq) (edge : Bundle × Bundle) (s : State)
    (hq : Quiet s.mstate s.vital.chans) :
    Quiet (dovetailEdge ch stores edge s).mstate (dovetailEdge ch stores edge s).vital.chans := by
  simp only [dovetailEdge]
  (repeat' split) <;> simp -implicitDefEqProofs +contextual (maxDischargeDepth := 30) [hq]

@[simp] theorem modHw_quiet (s : State) (bk : Bank) (f : BankHw → BankHw)
    (hq : Quiet s.mstate s.vital.chans) : Quiet (State.modHw s bk f).mstate (State.modHw s bk f).vital.chans := by
  simp only [State.modHw]
  (repeat' split) <;> simp -implicitDefEqProofs +contextual (maxDischargeDepth := 30) [hq]

@[simp] theorem modProc_quiet (s : State) (sp : Sp) (f : SensorProc → SensorProc)
    (hq : Quiet s.mstate s.vital.chans) : Quiet (State.modProc s sp f).mstate (State.modProc s sp f).vital.chans := by
  simp only [State.modProc]
  (repeat' split) <;> simp -implicitDefEqProofs +contextual (maxDischargeDepth := 30) [hq]

@[simp] theorem modSys_quiet (s : State) (sp : Sp) (head : Nat) (f : SensorSys → SensorSys)
    (hq : Quiet s.mstate s.vital.chans) :
    Quiet (State.modSys s sp head f).mstate (State.modSys s sp head f).vital.chans := by
  simp -implicitDefEqProofs +contextual (maxDischargeDepth := 30) [State.modSys, hq]

@[simp] theorem modFeed_quiet (s : State) (head : Nat) (f : HeadFeed → HeadFeed)
    (hq : Quiet s.mstate s.vital.chans) : Quiet (State.modFeed s head f).mstate (State.modFeed s head f).vital.chans := by
  exact hq

@[simp] theorem sendRec_quiet (s : State) (sp : Sp) (kind b5 flags b7 : Byte) (w8 w12 : W32)
    (hq : Quiet s.mstate s.vital.chans) :
    Quiet (State.sendRec s sp kind b5 flags b7 w8 w12).mstate (State.sendRec s sp kind b5 flags b7 w8 w12).vital.chans := by
  simp only [State.sendRec]
  (repeat' split) <;> simp -implicitDefEqProofs +contextual (maxDischargeDepth := 30) [hq]

@[simp] theorem headRec_quiet (s : State) (sp : Sp) (head : Nat) (timeUs : W32)
    (hq : Quiet s.mstate s.vital.chans) :
    Quiet (State.headRec s sp head timeUs).mstate (State.headRec s sp head timeUs).vital.chans := by
  simp -implicitDefEqProofs +contextual (maxDischargeDepth := 30) [State.headRec, hq]

@[simp] theorem sysTo_quiet (s : State) (sp : Sp) (head : Nat) (st : HState) (cause : Nat) (timeUs : W32)
    (hq : Quiet s.mstate s.vital.chans) :
    Quiet (State.sysTo s sp head st cause timeUs).mstate (State.sysTo s sp head st cause timeUs).vital.chans := by
  simp -implicitDefEqProofs +contextual (maxDischargeDepth := 30) [State.sysTo, hq]

@[simp] theorem sysFault_quiet (s : State) (sp : Sp) (head cause : Nat) (timeUs : W32)
    (hq : Quiet s.mstate s.vital.chans) :
    Quiet (State.sysFault s sp head cause timeUs).mstate (State.sysFault s sp head cause timeUs).vital.chans := by
  simp -implicitDefEqProofs +contextual (maxDischargeDepth := 30) [State.sysFault, hq]

@[simp] theorem faultFrom_quiet (s : State) (sp : Sp) (head cause : Nat) (timeUs : W32)
    (hq : Quiet s.mstate s.vital.chans) :
    Quiet (State.faultFrom s sp head cause timeUs).mstate (State.faultFrom s sp head cause timeUs).vital.chans := by
  simp only [State.faultFrom]
  (repeat' split) <;> simp -implicitDefEqProofs +contextual (maxDischargeDepth := 30) [hq]

@[simp] theorem latchCal_quiet (s : State) (sp : Sp) (head : Nat)
    (hq : Quiet s.mstate s.vital.chans) :
    Quiet (State.latchCal s sp head).mstate (State.latchCal s sp head).vital.chans := by
  exact hq

@[simp] theorem settleSys_quiet (s : State) (sp : Sp) (head : Nat) (ramp : Nat) (timeUs : W32)
    (hq : Quiet s.mstate s.vital.chans) :
    Quiet (State.settleSys s sp head ramp timeUs).mstate (State.settleSys s sp head ramp timeUs).vital.chans := by
  simp -implicitDefEqProofs +contextual (maxDischargeDepth := 30) [State.settleSys, hq]

@[simp] theorem stopSys_quiet (s : State) (sp : Sp) (head : Nat) (timeUs : W32)
    (hq : Quiet s.mstate s.vital.chans) :
    Quiet (State.stopSys s sp head timeUs).mstate (State.stopSys s sp head timeUs).vital.chans := by
  simp only [State.stopSys]
  (repeat' split) <;> simp -implicitDefEqProofs +contextual (maxDischargeDepth := 30) [hq]

@[simp] theorem holdSys_quiet (s : State) (sp : Sp) (head : Nat) (timeUs : W32)
    (hq : Quiet s.mstate s.vital.chans) :
    Quiet (State.holdSys s sp head timeUs).mstate (State.holdSys s sp head timeUs).vital.chans := by
  simp only [State.holdSys]
  (repeat' split) <;> simp -implicitDefEqProofs +contextual (maxDischargeDepth := 30) [hq]

@[simp] theorem failSys_quiet (s : State) (sp : Sp) (head : Nat) (timeUs : W32)
    (hq : Quiet s.mstate s.vital.chans) :
    Quiet (State.failSys s sp head timeUs).mstate (State.failSys s sp head timeUs).vital.chans := by
  simp only [State.failSys]
  (repeat' split) <;> simp -implicitDefEqProofs +contextual (maxDischargeDepth := 30) [hq]

@[simp] theorem excite_quiet (s : State) (sp : Sp) (change : Bool) (timeUs : W32) (c : Nat × Bool × Nat × Nat)
    (hq : Quiet s.mstate s.vital.chans) :
    Quiet (State.excite s sp change timeUs c).mstate (State.excite s sp change timeUs c).vital.chans := by
  simp only [State.excite]
  (repeat' split) <;> simp -implicitDefEqProofs +contextual (maxDischargeDepth := 30) [hq]

@[simp] theorem keepAlive_quiet (s : State) (sp : Sp) (ch : Ch) (cmd : ExcCmd) (timeUs : W32)
    (hq : Quiet s.mstate s.vital.chans) :
    Quiet (State.keepAlive s sp ch cmd timeUs).mstate (State.keepAlive s sp ch cmd timeUs).vital.chans := by
  simp only [State.keepAlive]
  (repeat' split) <;> simp -implicitDefEqProofs +contextual (maxDischargeDepth := 30) [hq]

@[simp] theorem kaLoss_quiet (s : State) (sp : Sp) (timeUs : W32)
    (hq : Quiet s.mstate s.vital.chans) :
    Quiet (State.kaLoss s sp timeUs).mstate (State.kaLoss s sp timeUs).vital.chans := by
  simp only [State.kaLoss]
  (repeat' split) <;> simp -implicitDefEqProofs +contextual (maxDischargeDepth := 30) [hq]

@[simp] theorem stepRecs_quiet (s : State) (head : Nat) (kind : Byte) (timeUs : W32)
    (hq : Quiet s.mstate s.vital.chans) :
    Quiet (State.stepRecs s head kind timeUs).mstate (State.stepRecs s head kind timeUs).vital.chans := by
  unfold State.stepRecs
  simp -implicitDefEqProofs +contextual (maxDischargeDepth := 30) [hq]

@[simp] theorem unsettle_quiet (s : State) (head : Nat) (timeUs : W32) (us : Nat)
    (hq : Quiet s.mstate s.vital.chans) :
    Quiet (State.unsettle s head timeUs us).mstate (State.unsettle s head timeUs us).vital.chans := by
  simp -implicitDefEqProofs +contextual (maxDischargeDepth := 30) [State.unsettle, hq]

@[simp] theorem double_quiet (s : State) (head : Nat) (timeUs : W32)
    (hq : Quiet s.mstate s.vital.chans) :
    Quiet (State.double s head timeUs).mstate (State.double s head timeUs).vital.chans := by
  simp only [State.double]
  (repeat' split) <;> simp -implicitDefEqProofs +contextual (maxDischargeDepth := 30) [hq]

@[simp] theorem stopUnlocked_quiet (s : State) (head : Nat) (timeUs : W32)
    (hq : Quiet s.mstate s.vital.chans) :
    Quiet (State.stopUnlocked s head timeUs).mstate (State.stopUnlocked s head timeUs).vital.chans := by
  simp only [State.stopUnlocked]
  (repeat' split) <;> simp -implicitDefEqProofs +contextual (maxDischargeDepth := 30) [hq]

@[simp] theorem joinSys_quiet (s : State) (sp : Sp) (head : Nat) (timeUs : W32)
    (hq : Quiet s.mstate s.vital.chans) :
    Quiet (State.joinSys s sp head timeUs).mstate (State.joinSys s sp head timeUs).vital.chans := by
  simp -implicitDefEqProofs +contextual (maxDischargeDepth := 30) [State.joinSys, hq]

@[simp] theorem ringForward_quiet (s : State) (f : RingFrame)
    (hq : Quiet s.mstate s.vital.chans) : Quiet (State.ringForward s f).mstate (State.ringForward s f).vital.chans := by
  simp only [State.ringForward]
  (repeat' split) <;> simp -implicitDefEqProofs +contextual (maxDischargeDepth := 30) [hq]

@[simp] theorem ringRow_quiet (s : State) (f : RingFrame) (window : Bool) (g : State → State) (hg : ∀ x : State, Quiet x.mstate x.vital.chans → Quiet (g x).mstate (g x).vital.chans)
    (hq : Quiet s.mstate s.vital.chans) :
    Quiet (State.ringRow s f window g).mstate (State.ringRow s f window g).vital.chans := by
  simp only [State.ringRow]
  (repeat' split) <;> simp -implicitDefEqProofs +contextual (maxDischargeDepth := 30) [hq, hg]

@[simp] theorem ringOut_quiet (s : State) (port : RingPort) (typ : BitVec 3) (dir : Bool) (slot : Nat) (payload : List Byte)
    (hq : Quiet s.mstate s.vital.chans) :
    Quiet (State.ringOut s port typ dir slot payload).mstate (State.ringOut s port typ dir slot payload).vital.chans := by
  simp only [State.ringOut]
  (repeat' split) <;> simp -implicitDefEqProofs +contextual (maxDischargeDepth := 30) [hq]

theorem fromRing_quiet (s : State) (f : RingFrame) (g : RingFrame → State → State) (hq : Quiet s.mstate s.vital.chans)
    (h : ∀ (f : RingFrame) (s : State), Quiet s.mstate s.vital.chans → Quiet (g f s).mstate (g f s).vital.chans) :
    Quiet (s.fromRing f g).mstate (s.fromRing f g).vital.chans := by
  simp only [State.fromRing]
  split
  · exact hq
  · exact h _ _ (cvuStrip_quiet s 4 _ hq)

@[simp] theorem askEcho_quiet (s : State)
    (hq : Quiet s.mstate s.vital.chans) : Quiet (State.askEcho s).mstate (State.askEcho s).vital.chans := by
  simp -implicitDefEqProofs +contextual (maxDischargeDepth := 30) [State.askEcho, hq]

@[simp] theorem modRing_quiet (s : State) (f : Ring → Ring)
    (hq : Quiet s.mstate s.vital.chans) : Quiet (State.modRing s f).mstate (State.modRing s f).vital.chans := by
  exact hq

@[simp] theorem takeSync_quiet (s : State) (f : RingFrame)
    (hq : Quiet s.mstate s.vital.chans) : Quiet (State.takeSync s f).mstate (State.takeSync s f).vital.chans := by
  simp only [State.takeSync]
  (repeat' split) <;> simp -implicitDefEqProofs +contextual (maxDischargeDepth := 30) [hq]

@[simp] theorem loopRow_quiet (s : State) (f : RingFrame) (kind : Nat) (g : State → State) (hg : ∀ x : State, Quiet x.mstate x.vital.chans → Quiet (g x).mstate (g x).vital.chans)
    (hq : Quiet s.mstate s.vital.chans) :
    Quiet (State.loopRow s f kind g).mstate (State.loopRow s f kind g).vital.chans := by
  simp only [State.loopRow]
  (repeat' split) <;> simp -implicitDefEqProofs +contextual (maxDischargeDepth := 30) [hq, hg]

@[simp] theorem nullSlot_quiet (s : State) (c : Schedule) (x : SchedSlot)
    (hq : Quiet s.mstate s.vital.chans) : Quiet (State.nullSlot s c x).mstate (State.nullSlot s c x).vital.chans := by
  simp -implicitDefEqProofs +contextual (maxDischargeDepth := 30) [State.nullSlot, hq]

@[simp] theorem dataSlot_quiet (s : State) (c : Schedule) (x : SchedSlot)
    (hq : Quiet s.mstate s.vital.chans) : Quiet (State.dataSlot s c x).mstate (State.dataSlot s c x).vital.chans := by
  simp only [State.dataSlot]
  (repeat' split) <;> simp -implicitDefEqProofs +contextual (maxDischargeDepth := 30) [hq]

@[simp] theorem keyExtras_quiet (s : State)
    (hq : Quiet s.mstate s.vital.chans) : Quiet (State.keyExtras s).mstate (State.keyExtras s).vital.chans := by
  simp only [State.keyExtras]
  (repeat' split) <;> simp -implicitDefEqProofs +contextual (maxDischargeDepth := 30) [hq]

@[simp] theorem track_quiet (s : State)
    (hq : Quiet s.mstate s.vital.chans) : Quiet (State.track s).mstate (State.track s).vital.chans := by
  exact hq

@[simp] theorem selectSource_quiet (s : State) (src : TimeSource)
    (hq : Quiet s.mstate s.vital.chans) :
    Quiet (State.selectSource s src).mstate (State.selectSource s src).vital.chans := by
  simp only [State.selectSource]
  (repeat' split) <;> simp -implicitDefEqProofs +contextual (maxDischargeDepth := 30) [hq]

@[simp] theorem stepTime_quiet (s : State) (t : DTime)
    (hq : Quiet s.mstate s.vital.chans) : Quiet (State.stepTime s t).mstate (State.stepTime s t).vital.chans := by
  simp -implicitDefEqProofs +contextual (maxDischargeDepth := 30) [State.stepTime, hq]

@[simp] theorem timeMeasurement_quiet (offsetNs : Int) (s : State)
    (hq : Quiet s.mstate s.vital.chans) :
    Quiet (timeMeasurement offsetNs s).mstate (timeMeasurement offsetNs s).vital.chans := by
  simp only [timeMeasurement]
  (repeat' split) <;> simp -implicitDefEqProofs +contextual (maxDischargeDepth := 30) [hq]

@[simp] theorem modNet_quiet (s : State) (net : Net) (f : NetSide → NetSide)
    (hq : Quiet s.mstate s.vital.chans) : Quiet (State.modNet s net f).mstate (State.modNet s net f).vital.chans := by
  simp only [State.modNet]
  (repeat' split) <;> simp -implicitDefEqProofs +contextual (maxDischargeDepth := 30) [hq]

@[simp] theorem forwardEth_quiet (s : State) (net : Net) (port : Nat) (f : EthFrame)
    (hq : Quiet s.mstate s.vital.chans) :
    Quiet (State.forwardEth s net port f).mstate (State.forwardEth s net port f).vital.chans := by
  simp only [State.forwardEth]
  (repeat' split) <;> simp -implicitDefEqProofs +contextual (maxDischargeDepth := 30) [hq]

@[simp] theorem toInternal_quiet (s : State) (net : Net) (f : EthFrame)
    (hq : Quiet s.mstate s.vital.chans) :
    Quiet (State.toInternal s net f).mstate (State.toInternal s net f).vital.chans := by
  simp only [State.toInternal]
  (repeat' split) <;> simp -implicitDefEqProofs +contextual (maxDischargeDepth := 30) [hq]

@[simp] theorem groupEth_quiet (s : State) (net : Net) (port : Nat) (f : EthFrame)
    (hq : Quiet s.mstate s.vital.chans) :
    Quiet (State.groupEth s net port f).mstate (State.groupEth s net port f).vital.chans := by
  simp only [State.groupEth]
  (repeat' split) <;> simp -implicitDefEqProofs +contextual (maxDischargeDepth := 30) [hq]

@[simp] theorem ptpForward_quiet (net : Net) (m : PtpIn) (ns : Nat) (s : State)
    (hq : Quiet s.mstate s.vital.chans) : Quiet (ptpForward net m ns s).mstate (ptpForward net m ns s).vital.chans := by
  simp only [ptpForward]
  (repeat' split) <;> simp -implicitDefEqProofs +contextual (maxDischargeDepth := 30) [hq]

@[simp] theorem singlePath_quiet (s : State) (k : PairKey)
    (hq : Quiet s.mstate s.vital.chans) : Quiet (State.singlePath s k).mstate (State.singlePath s k).vital.chans := by
  simp only [State.singlePath]
  (repeat' split) <;> simp -implicitDefEqProofs +contextual (maxDischargeDepth := 30) [hq]

@[simp] theorem addKey_quiet (s : State) (k : PairKey)
    (hq : Quiet s.mstate s.vital.chans) : Quiet (State.addKey s k).mstate (State.addKey s k).vital.chans := by
  simp only [State.addKey]
  (repeat' split) <;> simp -implicitDefEqProofs +contextual (maxDischargeDepth := 30) [hq]

@[simp] theorem refuseConn_quiet (s : State) (net : Net) (p : Partner) (t : Telegram)
    (hq : Quiet s.mstate s.vital.chans) :
    Quiet (State.refuseConn s net p t).mstate (State.refuseConn s net p t).vital.chans := by
  simp -implicitDefEqProofs +contextual (maxDischargeDepth := 30) [State.refuseConn, hq]

@[simp] theorem routeCopy_quiet (s : State) (net : Net) (p : Partner) (t : Telegram)
    (hq : Quiet s.mstate s.vital.chans) :
    Quiet (State.routeCopy s net p t).mstate (State.routeCopy s net p t).vital.chans := by
  simp only [State.routeCopy]
  (repeat' split) <;> simp -implicitDefEqProofs +contextual (maxDischargeDepth := 30) [hq]

@[simp] theorem pairCopy_quiet (s : State) (net : Net) (p : Partner) (t : Telegram)
    (hq : Quiet s.mstate s.vital.chans) :
    Quiet (State.pairCopy s net p t).mstate (State.pairCopy s net p t).vital.chans := by
  simp only [State.pairCopy]
  (repeat' split) <;> simp -implicitDefEqProofs +contextual (maxDischargeDepth := 30) [hq]

@[simp] theorem prefilter_quiet (s : State) (net : Net) (dg : Datagram) (hq : Quiet s.mstate s.vital.chans) :
    Quiet (s.prefilter net dg).1.mstate (s.prefilter net dg).1.vital.chans := by
  simp only [State.prefilter]
  (repeat' split) <;> simp -implicitDefEqProofs +contextual (maxDischargeDepth := 30) [hq]

@[simp] theorem netDatagram_quiet (net : Net) (dg : Datagram) (s : State)
    (hq : Quiet s.mstate s.vital.chans) : Quiet (netDatagram net dg s).mstate (netDatagram net dg s).vital.chans := by
  simp only [netDatagram]
  split
  · simp -implicitDefEqProofs +contextual (maxDischargeDepth := 30) [hq]
  · have h := prefilter_quiet s net dg hq
    rcases hp : s.prefilter net dg with ⟨x, _ | p⟩ <;> rw [hp] at h <;> dsimp only at h ⊢
    · simp -implicitDefEqProofs +contextual (maxDischargeDepth := 30) [h]
    · split <;> simp -implicitDefEqProofs +contextual (maxDischargeDepth := 30) [h]

@[simp] theorem sendEntry_quiet (s : State) (net : Net) (e : List Byte)
    (hq : Quiet s.mstate s.vital.chans) : Quiet (State.sendEntry s net e).mstate (State.sendEntry s net e).vital.chans := by
  simp only [State.sendEntry]
  (repeat' split) <;> simp -implicitDefEqProofs +contextual (maxDischargeDepth := 30) [hq]

theorem cvuUnits_quiet {α : Type} (g : State → Nat → State × α) (f : α → α → α)
    (h : ∀ s i, Quiet s.mstate s.vital.chans → Quiet (g s i).1.mstate (g s i).1.vital.chans) (l : List Nat) (p : State × α)
    (hq : Quiet p.1.mstate p.1.vital.chans) :
    Quiet (l.foldl (fun (p : State × α) i => ((g p.1 i).1, f p.2 (g p.1 i).2)) p).1.mstate
      (l.foldl (fun (p : State × α) i => ((g p.1 i).1, f p.2 (g p.1 i).2)) p).1.vital.chans := by
  induction l generalizing p with
  | nil => exact hq
  | cons a t ih => exact ih _ (h _ _ hq)

@[simp] theorem sendVeneer_quiet (s : State) (e : List Byte)
    (hq : Quiet s.mstate s.vital.chans) : Quiet (State.sendVeneer s e).mstate (State.sendVeneer s e).vital.chans := by
  have h := cvuUnits_quiet (fun s i => ((s.cvuAppend 6 (slice e (4096 * i) 4096)).1, (s.cvuAppend 6 (slice e (4096 * i) 4096)).2.toList))
    (· ++ ·) (fun x i h => cvuAppend_quiet x _ _ h) (List.range ((e.length + 4095) / 4096)) (s, []) hq
  simp only [State.sendVeneer]
  split <;> simp -implicitDefEqProofs +contextual (maxDischargeDepth := 30) [h]

@[simp] theorem transmit_quiet (s : State) (eng : Egress) (e : List Byte)
    (hq : Quiet s.mstate s.vital.chans) : Quiet (State.transmit s eng e).mstate (State.transmit s eng e).vital.chans := by
  simp only [State.transmit]
  (repeat' split) <;> simp -implicitDefEqProofs +contextual (maxDischargeDepth := 30) [hq]

@[simp] theorem egressEntry_quiet (eng : Egress) (ch : Ch) (e : List Byte) (s : State)
    (hq : Quiet s.mstate s.vital.chans) : Quiet (egressEntry eng ch e s).mstate (egressEntry eng ch e s).vital.chans := by
  simp only [egressEntry]
  (repeat' split) <;> simp_all -implicitDefEqProofs +contextual (maxDischargeDepth := 30)

@[simp] theorem egressTimeout_quiet (eng : Egress) (s : State)
    (hq : Quiet s.mstate s.vital.chans) : Quiet (egressTimeout eng s).mstate (egressTimeout eng s).vital.chans := by
  simp only [egressTimeout]
  (repeat' split) <;> simp -implicitDefEqProofs +contextual (maxDischargeDepth := 30) [hq]

@[simp] theorem laneUp_quiet (s : State) (lane up : Bool)
    (hq : Quiet s.mstate s.vital.chans) : Quiet (State.laneUp s lane up).mstate (State.laneUp s lane up).vital.chans := by
  exact hq

@[simp] theorem release_quiet (s : State) (ack : Nat)
    (hq : Quiet s.mstate s.vital.chans) : Quiet (State.release s ack).mstate (State.release s ack).vital.chans := by
  exact settleWaits_quiet s _ hq

@[simp] theorem heartbeatReceive_quiet (lane : Bool) (h : Heartbeat) (s : State)
    (hq : Quiet s.mstate s.vital.chans) :
    Quiet (heartbeatReceive lane h s).mstate (heartbeatReceive lane h s).vital.chans := by
  simp only [heartbeatReceive]
  (repeat' split) <;> simp -implicitDefEqProofs +contextual (maxDischargeDepth := 30) [hq]

@[simp] theorem takeVeneer_quiet (s : State) (lane ok : Bool) (v : Veneer)
    (hq : Quiet s.mstate s.vital.chans) :
    Quiet (State.takeVeneer s lane ok v).mstate (State.takeVeneer s lane ok v).vital.chans := by
  simp only [State.takeVeneer]
  (repeat' split) <;> simp -implicitDefEqProofs +contextual (maxDischargeDepth := 30) [hq]

@[simp] theorem stripUnits_quiet (s : State) (w : List Byte) (crcs : List W32) (hq : Quiet s.mstate s.vital.chans) :
    Quiet (s.stripUnits w crcs).1.mstate (s.stripUnits w crcs).1.vital.chans :=
  cvuUnits_quiet (fun s i => s.cvuStrip 7 (slice w (4096 * i) 4096 ++ be 4 (crcs.getD i 0).toNat)) (· && ·)
    (fun x i h => cvuStrip_quiet x _ _ h) _ (s, true) hq

@[simp] theorem veneerReceive_quiet (lane : Bool) (v : Veneer) (s : State)
    (hq : Quiet s.mstate s.vital.chans) : Quiet (veneerReceive lane v s).mstate (veneerReceive lane v s).vital.chans := by
  simp only [veneerReceive]
  split <;> simp -implicitDefEqProofs +contextual (maxDischargeDepth := 30) [hq]

@[simp] theorem goAlone_quiet (s : State)
    (hq : Quiet s.mstate s.vital.chans) : Quiet (State.goAlone s).mstate (State.goAlone s).vital.chans := by
  exact hq

@[simp] theorem canDrop_quiet (s : State) (ack : Bool)
    (hq : Quiet s.mstate s.vital.chans) : Quiet (State.canDrop s ack).mstate (State.canDrop s ack).vital.chans := by
  simp only [State.canDrop]
  (repeat' split) <;> simp -implicitDefEqProofs +contextual (maxDischargeDepth := 30) [hq]

@[simp] theorem canCount_quiet (s : State) (tec rec_ : Nat)
    (hq : Quiet s.mstate s.vital.chans) :
    Quiet (State.canCount s tec rec_).mstate (State.canCount s tec rec_).vital.chans := by
  simp only [State.canCount]
  (repeat' split) <;> simp -implicitDefEqProofs +contextual (maxDischargeDepth := 30) [hq]

@[simp] theorem canFailed_quiet (s : State) (ack : Bool) (tec : Nat)
    (hq : Quiet s.mstate s.vital.chans) :
    Quiet (State.canFailed s ack tec).mstate (State.canFailed s ack tec).vital.chans := by
  simp only [State.canFailed]
  (repeat' split) <;> simp -implicitDefEqProofs +contextual (maxDischargeDepth := 30) [hq]

@[simp] theorem stamp_quiet (s : State) (t : TsuSt) (w : W32) (hq : Quiet s.mstate s.vital.chans) :
    Quiet (s.stamp t w).1.mstate (s.stamp t w).1.vital.chans := by
  simp only [State.stamp]
  (repeat' split) <;> simp -implicitDefEqProofs +contextual (maxDischargeDepth := 30) [hq]

@[simp] theorem reference_quiet (s : State) (hq : Quiet s.mstate s.vital.chans) :
    Quiet s.reference.1.mstate s.reference.1.vital.chans := by
  simp only [State.reference]
  (repeat' split) <;> simp -implicitDefEqProofs +contextual (maxDischargeDepth := 30) [hq]

@[simp] theorem canAcked_quiet (s : State) (stamp : Nat)
    (hq : Quiet s.mstate s.vital.chans) : Quiet (State.canAcked s stamp).mstate (State.canAcked s stamp).vital.chans := by
  unfold State.canAcked
  dsimp only
  (repeat' split) <;> simp -implicitDefEqProofs +contextual (maxDischargeDepth := 30) [hq]

@[simp] theorem canTransmit_quiet (r : TxResult) (s : State)
    (hq : Quiet s.mstate s.vital.chans) : Quiet (canTransmit r s).mstate (canTransmit r s).vital.chans := by
  simp only [canTransmit]
  (repeat' split) <;> simp -implicitDefEqProofs +contextual (maxDischargeDepth := 30) [hq]

@[simp] theorem canBeatSend_quiet (s : State)
    (hq : Quiet s.mstate s.vital.chans) : Quiet (State.canBeatSend s).mstate (State.canBeatSend s).vital.chans := by
  simp -implicitDefEqProofs +contextual (maxDischargeDepth := 30) [State.canBeatSend, hq]

@[simp] theorem canStart_quiet (s : State)
    (hq : Quiet s.mstate s.vital.chans) : Quiet (State.canStart s).mstate (State.canStart s).vital.chans := by
  simp only [State.canStart]
  (repeat' split) <;> simp -implicitDefEqProofs +contextual (maxDischargeDepth := 30) [hq]

@[simp] theorem endAlone_quiet (s : State)
    (hq : Quiet s.mstate s.vital.chans) : Quiet (State.endAlone s).mstate (State.endAlone s).vital.chans := by
  simp only [State.endAlone]
  (repeat' split) <;> simp -implicitDefEqProofs +contextual (maxDischargeDepth := 30) [hq]

@[simp] theorem canReject_quiet (s : State)
    (hq : Quiet s.mstate s.vital.chans) : Quiet (State.canReject s).mstate (State.canReject s).vital.chans := by
  exact hq

@[simp] theorem canReceive_quiet (f : CanFrame) (s : State)
    (hq : Quiet s.mstate s.vital.chans) : Quiet (canReceive f s).mstate (canReceive f s).vital.chans := by
  simp only [canReceive]
  (repeat' split) <;> simp -implicitDefEqProofs +contextual (maxDischargeDepth := 30) [hq]

@[simp] theorem nmtServed_quiet (s : State) (cs : Nat)
    (hq : Quiet s.mstate s.vital.chans) : Quiet (State.nmtServed s cs).mstate (State.nmtServed s cs).vital.chans := by
  exact hq

@[simp] theorem referenceReceive_quiet (m : RefMsg) (s : State)
    (hq : Quiet s.mstate s.vital.chans) : Quiet (referenceReceive m s).mstate (referenceReceive m s).vital.chans := by
  simp only [referenceReceive]
  (repeat' split) <;> simp -implicitDefEqProofs +contextual (maxDischargeDepth := 30) [hq]

@[simp] theorem sendRef_quiet (s : State)
    (hq : Quiet s.mstate s.vital.chans) : Quiet (State.sendRef s).mstate (State.sendRef s).vital.chans := by
  simp -implicitDefEqProofs +contextual (maxDischargeDepth := 30) [State.sendRef, hq]

@[simp] theorem enterSlot_quiet (s : State) (op : Nat) (l : Launch)
    (hq : Quiet s.mstate s.vital.chans) : Quiet (State.enterSlot s op l).mstate (State.enterSlot s op l).vital.chans := by
  simp only [State.enterSlot]
  (repeat' split) <;> simp -implicitDefEqProofs +contextual (maxDischargeDepth := 30) [hq]

@[simp] theorem launch_quiet (op : Nat) (l : Launch) (s : State)
    (hq : Quiet s.mstate s.vital.chans) : Quiet (State.launch op l s).mstate (State.launch op l s).vital.chans := by
  simp only [State.launch]
  (repeat' split) <;> simp -implicitDefEqProofs +contextual (maxDischargeDepth := 30) [hq]

@[simp] theorem control_quiet (s : State) (cl : Client) (n code : Nat)
    (hq : Quiet s.mstate s.vital.chans) :
    Quiet (State.control s cl n code).mstate (State.control s cl n code).vital.chans := by
  simp only [State.control]
  (repeat' split) <;> simp -implicitDefEqProofs +contextual (maxDischargeDepth := 30) [hq]

@[simp] theorem slotLimit_quiet (s : State) (f : Sdi → Kernel → Kernel)
    (hq : Quiet s.mstate s.vital.chans) : Quiet (State.slotLimit s f).mstate (State.slotLimit s f).vital.chans := by
  simp only [State.slotLimit]
  (repeat' split) <;> simp -implicitDefEqProofs +contextual (maxDischargeDepth := 30) [hq]

@[simp] theorem sccRow_quiet (s : State) (kind session : Nat) (r : SccRec)
    (hq : Quiet s.mstate s.vital.chans) :
    Quiet (State.sccRow s kind session r).mstate (State.sccRow s kind session r).vital.chans := by
  simp -implicitDefEqProofs +contextual (maxDischargeDepth := 30) [State.sccRow, hq]

@[simp] theorem elemRow_quiet (s : State) (cl : Client) (code el : Nat)
    (hq : Quiet s.mstate s.vital.chans) :
    Quiet (State.elemRow s cl code el).mstate (State.elemRow s cl code el).vital.chans := by
  simp -implicitDefEqProofs +contextual (maxDischargeDepth := 30) [State.elemRow, hq]

@[simp] theorem fieldTarget_quiet (cl : Client) (target : W16) (s : State)
    (hq : Quiet s.mstate s.vital.chans) : Quiet (fieldTarget cl target s).mstate (fieldTarget cl target s).vital.chans := by
  unfold fieldTarget
  refine write_quiet _ _ _ _ _ _ (fun x h => ?_) hq
  (repeat' split) <;> simp -implicitDefEqProofs +contextual (maxDischargeDepth := 30) [h]

@[simp] theorem fieldConfirm_quiet (cl : Client) (code : W16) (s : State)
    (hq : Quiet s.mstate s.vital.chans) : Quiet (fieldConfirm cl code s).mstate (fieldConfirm cl code s).vital.chans := by
  unfold fieldConfirm
  refine write_quiet _ _ _ _ _ _ (fun x h => ?_) hq
  (repeat' split) <;> simp -implicitDefEqProofs +contextual (maxDischargeDepth := 30) [h]

@[simp] theorem telRow_quiet (s : State) (types : List Nat) (idx : Nat) (t : Telegram)
    (hq : Quiet s.mstate s.vital.chans) :
    Quiet (State.telRow s types idx t).mstate (State.telRow s types idx t).vital.chans := by
  simp -implicitDefEqProofs +contextual (maxDischargeDepth := 30) [State.telRow, hq]

@[simp] theorem connRow_quiet (partner : Nat) (t : Telegram) (s : State)
    (hq : Quiet s.mstate s.vital.chans) : Quiet (connRow partner t s).mstate (connRow partner t s).vital.chans := by
  simp -implicitDefEqProofs +contextual (maxDischargeDepth := 30) [connRow, hq]

@[simp] theorem headRow_quiet (idx : Nat) (t : Telegram) (s : State)
    (hq : Quiet s.mstate s.vital.chans) : Quiet (headRow idx t s).mstate (headRow idx t s).vital.chans := by
  simp -implicitDefEqProofs +contextual (maxDischargeDepth := 30) [headRow, hq]

@[simp] theorem sessTimer_quiet (s : State) (p : SessSt → Bool) (idx : Nat)
    (hq : Quiet s.mstate s.vital.chans) : Quiet (State.sessTimer s p idx).mstate (State.sessTimer s p idx).vital.chans := by
  simp -implicitDefEqProofs +contextual (maxDischargeDepth := 30) [State.sessTimer, hq]

@[simp] theorem loginResult_quiet (s : State) (cl : Client) (code : Nat)
    (hq : Quiet s.mstate s.vital.chans) :
    Quiet (State.loginResult s cl code).mstate (State.loginResult s cl code).vital.chans := by
  simp -implicitDefEqProofs +contextual (maxDischargeDepth := 30) [State.loginResult, hq]

@[simp] theorem loginRequest_quiet (cl : Client) (level : Nat) (s : State)
    (hq : Quiet s.mstate s.vital.chans) : Quiet (loginRequest cl level s).mstate (loginRequest cl level s).vital.chans := by
  simp only [loginRequest]
  (repeat' split) <;> simp -implicitDefEqProofs +contextual (maxDischargeDepth := 30) [hq]

@[simp] theorem wrongResponse_quiet (s : State) (cl : Client)
    (hq : Quiet s.mstate s.vital.chans) :
    Quiet (State.wrongResponse s cl).mstate (State.wrongResponse s cl).vital.chans := by
  simp -implicitDefEqProofs +contextual (maxDischargeDepth := 30) [State.wrongResponse, hq]

@[simp] theorem loginResponse_quiet (cl : Client) (resp : W64) (s : State)
    (hq : Quiet s.mstate s.vital.chans) : Quiet (loginResponse cl resp s).mstate (loginResponse cl resp s).vital.chans := by
  simp only [loginResponse]
  (repeat' split) <;> simp -implicitDefEqProofs +contextual (maxDischargeDepth := 30) [hq]

@[simp] theorem lcRefuse_quiet (s : State) (cl : Client) (code : Nat)
    (hq : Quiet s.mstate s.vital.chans) :
    Quiet (State.lcRefuse s cl code).mstate (State.lcRefuse s cl code).vital.chans := by
  simp -implicitDefEqProofs +contextual (maxDischargeDepth := 30) [State.lcRefuse, hq]

@[simp] theorem lcRequest_quiet (cl : Client) (v : Nat) (s : State)
    (hq : Quiet s.mstate s.vital.chans) : Quiet (lcRequest cl v s).mstate (lcRequest cl v s).vital.chans := by
  simp only [lcRequest]
  (repeat' split) <;> simp -implicitDefEqProofs +contextual (maxDischargeDepth := 30) [hq]

@[simp] theorem sw1Change_quiet (rd : SwReader) (pos : Nat) (c : Contact) (s : State)
    (hq : Quiet s.mstate s.vital.chans) : Quiet (sw1Change rd pos c s).mstate (sw1Change rd pos c s).vital.chans := by
  simp only [sw1Change]
  (repeat' split) <;> simp -implicitDefEqProofs +contextual (maxDischargeDepth := 30) [hq]

@[simp] theorem testDone_quiet (s : State) (n : Nat)
    (hq : Quiet s.mstate s.vital.chans) : Quiet (State.testDone s n).mstate (State.testDone s n).vital.chans := by
  simp only [State.testDone]
  (repeat' split) <;> simp -implicitDefEqProofs +contextual (maxDischargeDepth := 30) [hq]

@[simp] theorem sliceEnd_quiet (r : SliceResult) (s : State)
    (hq : Quiet s.mstate s.vital.chans) : Quiet (sliceEnd r s).mstate (sliceEnd r s).vital.chans := by
  simp only [sliceEnd]
  (repeat' split) <;> simp -implicitDefEqProofs +contextual (maxDischargeDepth := 30) [hq]

@[simp] theorem setSnap_quiet (s : State) (cl : Client) (c : SnapCfg)
    (hq : Quiet s.mstate s.vital.chans) : Quiet (State.setSnap s cl c).mstate (State.setSnap s cl c).vital.chans := by
  simp only [State.setSnap]
  (repeat' split) <;> simp -implicitDefEqProofs +contextual (maxDischargeDepth := 30) [hq]

@[simp] theorem postEntry_quiet (s : State) (cl : Client) (slot : Nat) (launch : Bool) (e : Nat → SvcEntry)
    (hq : Quiet s.mstate s.vital.chans) :
    Quiet (State.postEntry s cl slot launch e).mstate (State.postEntry s cl slot launch e).vital.chans := by
  simp -implicitDefEqProofs +contextual (maxDischargeDepth := 30) [State.postEntry, hq]

@[simp] theorem postLaunch_quiet (cl : Client) (d : List Byte) (s : State)
    (hq : Quiet s.mstate s.vital.chans) : Quiet (postLaunch cl d s).mstate (postLaunch cl d s).vital.chans := by
  simp only [postLaunch]
  (repeat' split) <;> simp -implicitDefEqProofs +contextual (maxDischargeDepth := 30) [hq]

@[simp] theorem postControl_quiet (cl : Client) (slot code : Nat) (s : State)
    (hq : Quiet s.mstate s.vital.chans) :
    Quiet (postControl cl slot code s).mstate (postControl cl slot code s).vital.chans := by
  simp only [postControl]
  (repeat' split) <;> simp -implicitDefEqProofs +contextual (maxDischargeDepth := 30) [hq]

@[simp] theorem postElem_quiet (cl : Client) (code el : Nat) (s : State)
    (hq : Quiet s.mstate s.vital.chans) : Quiet (postElem cl code el s).mstate (postElem cl code el s).vital.chans := by
  simp only [postElem]
  (repeat' split) <;> simp -implicitDefEqProofs +contextual (maxDischargeDepth := 30) [hq]

theorem storing_quiet (n : Need) (len : Nat) (r : Nat → Bool) (idx sub : Nat) (d : List Byte) (s : State)
    (hq : Quiet s.mstate s.vital.chans) : Quiet ((storing n len r idx sub d).effect s).mstate
      ((storing n len r idx sub d).effect s).vital.chans := hq

theorem writeOf_quiet {cl : Client} {idx sub : Nat} {d : List Byte} {w : Write} (h : writeOf cl idx sub d = some w) (s : State)
    (hq : Quiet s.mstate s.vital.chans) : Quiet (w.effect s).mstate (w.effect s).vital.chans := by
  have h1 : ∀ w, writeConfig idx sub d = some w → Quiet (w.effect s).mstate (w.effect s).vital.chans := by
    intro w hw
    simp only [writeConfig] at hw
    split at hw <;> (repeat' split at hw) <;> first | (cases hw; exact hq) | cases hw
  have h2 : ∀ w, writeCal idx sub d = some w → Quiet (w.effect s).mstate (w.effect s).vital.chans := by
    intro w hw
    simp only [writeCal] at hw
    (repeat' split at hw) <;> first | (cases hw; exact hq) | cases hw
  have h3 : ∀ w, writeParam idx sub d = some w → Quiet (w.effect s).mstate (w.effect s).vital.chans := by
    intro w hw
    simp only [writeParam] at hw
    split at hw <;> first | (cases hw; exact hq) | cases hw
  have h4 : ∀ w, writeWindow cl idx sub d = some w → Quiet (w.effect s).mstate (w.effect s).vital.chans := by
    intro w hw
    simp only [writeWindow] at hw
    split at hw <;> first | (cases hw; dsimp only; (repeat' split) <;> simp -implicitDefEqProofs +contextual (maxDischargeDepth := 30) [hq]; done) | cases hw
  have h5 : ∀ w, writeOther cl idx sub d = some w → Quiet (w.effect s).mstate (w.effect s).vital.chans := by
    intro w hw
    simp only [writeOther] at hw
    (repeat' split at hw) <;> first | (cases hw; exact hq) | (cases hw; simp -implicitDefEqProofs +contextual (maxDischargeDepth := 30) [hq]; done) | cases hw
  unfold writeOf at h
  split at h
  · next w' hw =>
    cases h
    have : Quiet (w'.effect s).mstate (w'.effect s).vital.chans := by
      cases hc : writeConfig idx sub d with
      | some a => simp [hc] at hw; subst hw; exact h1 _ hc
      | none =>
        cases ha : writeCal idx sub d with
        | some a => simp [hc, ha] at hw; subst hw; exact h2 _ ha
        | none => simp [hc, ha] at hw; exact h3 _ hw
    simp -implicitDefEqProofs +contextual (maxDischargeDepth := 30) [Write.accepted, this]
  · cases hc : writeWindow cl idx sub d with
    | some a => simp [hc] at h; subst h; exact h4 _ hc
    | none => simp [hc] at h; exact h5 _ h

@[simp] theorem objectWrite_quiet (cl : Client) (idx sub : Nat) (d : List Byte) (s : State)
    (hq : Quiet s.mstate s.vital.chans) :
    Quiet (objectWrite cl idx sub d s).mstate (objectWrite cl idx sub d s).vital.chans := by
  simp only [objectWrite]
  split <;> try ( simp -implicitDefEqProofs +contextual (maxDischargeDepth := 30) [hq]; done)
  split <;> try ( simp -implicitDefEqProofs +contextual (maxDischargeDepth := 30) [hq]; done)
  split
  · next w hw => exact write_quiet _ _ _ _ _ _ (fun x h => writeOf_quiet hw x h) hq
  · exact hq

@[simp] theorem memoryFault_quiet (s : State) (src : Nat)
    (hq : Quiet s.mstate s.vital.chans) : Quiet (State.memoryFault s src).mstate (State.memoryFault s src).vital.chans := by
  simp -implicitDefEqProofs +contextual (maxDischargeDepth := 30) [State.memoryFault, hq]

@[simp] theorem fenceRegion_quiet (s : State) (region : Nat)
    (hq : Quiet s.mstate s.vital.chans) : Quiet (fenceRegion s region).mstate (fenceRegion s region).vital.chans := by
  simp only [fenceRegion]
  (repeat' split) <;> simp -implicitDefEqProofs +contextual (maxDischargeDepth := 30) [hq]

@[simp] theorem recorderClear_quiet (cl : Client) (v : W16) (s : State)
    (hq : Quiet s.mstate s.vital.chans) : Quiet (recorderClear cl v s).mstate (recorderClear cl v s).vital.chans := by
  simp only [recorderClear]
  (repeat' split) <;> simp -implicitDefEqProofs +contextual (maxDischargeDepth := 30) [hq]

@[simp] theorem exportAdvance_quiet (s : State) (cl : Client) (cur : Nat)
    (hq : Quiet s.mstate s.vital.chans) : Quiet (exportAdvance s cl cur).mstate (exportAdvance s cl cur).vital.chans := by
  simp only [exportAdvance]
  (repeat' split) <;> simp -implicitDefEqProofs +contextual (maxDischargeDepth := 30) [hq]

@[simp] theorem advanceTo_quiet (cl : Client) (n : Nat) (s : State)
    (hq : Quiet s.mstate s.vital.chans) : Quiet (advanceTo cl n s).mstate (advanceTo cl n s).vital.chans := by
  simp -implicitDefEqProofs +contextual (maxDischargeDepth := 30) [advanceTo, hq]

@[simp] theorem supplySource_quiet (s : State) (src : Nat) (old new : Bool)
    (hq : Quiet s.mstate s.vital.chans) :
    Quiet (State.supplySource s src old new).mstate (State.supplySource s src old new).vital.chans := by
  simp only [State.supplySource]
  (repeat' split) <;> simp -implicitDefEqProofs +contextual (maxDischargeDepth := 30) [hq]

@[simp] theorem supplyRead_quiet (s : State) (mv : Nat)
    (hq : Quiet s.mstate s.vital.chans) : Quiet (State.supplyRead s mv).mstate (State.supplyRead s mv).vital.chans := by
  simp -implicitDefEqProofs +contextual (maxDischargeDepth := 30) [State.supplyRead, hq]

@[simp] theorem supplyLow_quiet (mv : Nat) (s : State)
    (hq : Quiet s.mstate s.vital.chans) : Quiet (supplyLow mv s).mstate (supplyLow mv s).vital.chans := by
  simp only [supplyLow]
  (repeat' split) <;> simp -implicitDefEqProofs +contextual (maxDischargeDepth := 30) [hq]

@[simp] theorem tempSource_quiet (s : State) (src : Nat) (old new : Bool)
    (hq : Quiet s.mstate s.vital.chans) :
    Quiet (State.tempSource s src old new).mstate (State.tempSource s src old new).vital.chans := by
  simp only [State.tempSource]
  (repeat' split) <;> simp -implicitDefEqProofs +contextual (maxDischargeDepth := 30) [hq]

@[simp] theorem temperatureRead_quiet (dc : List Int) (s : State)
    (hq : Quiet s.mstate s.vital.chans) : Quiet (temperatureRead dc s).mstate (temperatureRead dc s).vital.chans := by
  simp only [temperatureRead]
  (repeat' split) <;> simp -implicitDefEqProofs +contextual (maxDischargeDepth := 30) [hq]

@[simp] theorem updRefuse_quiet (s : State) (cl : Client) (code : Nat)
    (hq : Quiet s.mstate s.vital.chans) :
    Quiet (State.updRefuse s cl code).mstate (State.updRefuse s cl code).vital.chans := by
  simp -implicitDefEqProofs +contextual (maxDischargeDepth := 30) [State.updRefuse, hq]

@[simp] theorem appendBlock_quiet (s : State) (t : Transfer) (data : List Byte)
    (hq : Quiet s.mstate s.vital.chans) :
    Quiet (State.appendBlock s t data).mstate (State.appendBlock s t data).vital.chans := by
  simp only [State.appendBlock]
  (repeat' split) <;> simp -implicitDefEqProofs +contextual (maxDischargeDepth := 30) [hq]

@[simp] theorem blockWrite_quiet (cl : Client) (offset : Nat) (data : List Byte) (s : State)
    (hq : Quiet s.mstate s.vital.chans) :
    Quiet (blockWrite cl offset data s).mstate (blockWrite cl offset data s).vital.chans := by
  unfold blockWrite
  refine write_quiet _ _ _ _ _ _ (fun x h => ?_) hq
  (repeat' split) <;> simp -implicitDefEqProofs +contextual (maxDischargeDepth := 30) [h]

@[simp] theorem writeComplete_quiet (failed : List SwReader) (s : State)
    (hq : Quiet s.mstate s.vital.chans) : Quiet (writeComplete failed s).mstate (writeComplete failed s).vital.chans := by
  simp only [writeComplete]
  (repeat' split) <;> simp -implicitDefEqProofs +contextual (maxDischargeDepth := 30) [hq]

@[simp] theorem timeStart_quiet (s : State) (o : StartObs)
    (hq : Quiet s.mstate s.vital.chans) : Quiet (State.timeStart s o).mstate (State.timeStart s o).vital.chans := by
  simp only [State.timeStart]
  (repeat' split) <;> simp -implicitDefEqProofs +contextual (maxDischargeDepth := 30) [hq]

@[simp] theorem recStart_quiet (s : State) (o : StartObs) (loss : Bool)
    (hq : Quiet s.mstate s.vital.chans) : Quiet (State.recStart s o loss).mstate (State.recStart s o loss).vital.chans := by
  simp only [State.recStart]
  (repeat' split) <;> simp -implicitDefEqProofs +contextual (maxDischargeDepth := 30) [hq]

@[simp] theorem pstSlot_quiet (s : State) (i : Img)
    (hq : Quiet s.mstate s.vital.chans) : Quiet (State.pstSlot s i).mstate (State.pstSlot s i).vital.chans := by
  simp only [State.pstSlot]
  (repeat' split) <;> simp -implicitDefEqProofs +contextual (maxDischargeDepth := 30) [hq]

@[simp] theorem fellBack_quiet (s : State)
    (hq : Quiet s.mstate s.vital.chans) : Quiet (State.fellBack s).mstate (State.fellBack s).vital.chans := by
  simp -implicitDefEqProofs +contextual (maxDischargeDepth := 30) [State.fellBack, hq]

@[simp] theorem bootJob_quiet (s : State) (t : ImageType)
    (hq : Quiet s.mstate s.vital.chans) : Quiet (State.bootJob s t).mstate (State.bootJob s t).vital.chans := by
  simp only [State.bootJob]
  (repeat' split) <;> simp -implicitDefEqProofs +contextual (maxDischargeDepth := 30) [hq]

@[simp] theorem bootType_quiet (s : State) (t : ImageType)
    (hq : Quiet s.mstate s.vital.chans) : Quiet (State.bootType s t).mstate (State.bootType s t).vital.chans := by
  simp only [State.bootType]
  (repeat' split) <;> simp -implicitDefEqProofs +contextual (maxDischargeDepth := 30) [hq]

@[simp] theorem undoSet_quiet (s : State)
    (hq : Quiet s.mstate s.vital.chans) : Quiet (State.undoSet s).mstate (State.undoSet s).vital.chans := by
  refine foldl_quiet _ _ (fun x a h => ?_) s hq
  by_cases e : (x.upd.img a).trial <;> by_cases e2 : a == .pst <;> simp -implicitDefEqProofs +contextual (maxDischargeDepth := 30) [h, e, e2]

@[simp] theorem pstMigrated_quiet (s : State)
    (hq : Quiet s.mstate s.vital.chans) : Quiet (State.pstMigrated s).mstate (State.pstMigrated s).vital.chans := by
  simp -implicitDefEqProofs +contextual (maxDischargeDepth := 30) [State.pstMigrated, hq]

@[simp] theorem migratePst_quiet (s : State) (before : Option Nat)
    (hq : Quiet s.mstate s.vital.chans) :
    Quiet (State.migratePst s before).mstate (State.migratePst s before).vital.chans := by
  simp only [State.migratePst]
  (repeat' split) <;> simp -implicitDefEqProofs +contextual (maxDischargeDepth := 30) [hq]

@[simp] theorem bootImages_quiet (s : State)
    (hq : Quiet s.mstate s.vital.chans) : Quiet (State.bootImages s).mstate (State.bootImages s).vital.chans := by
  have h := foldl_quiet imageTypes State.bootType (fun x a h => bootType_quiet x a h) s hq
  simp only [State.bootImages]
  split <;> simp -implicitDefEqProofs +contextual (maxDischargeDepth := 30) [h]

@[simp] theorem applyLc_quiet (s : State) (v : Nat)
    (hq : Quiet s.mstate s.vital.chans) : Quiet (State.applyLc s v).mstate (State.applyLc s v).vital.chans := by
  simp only [State.applyLc]
  (repeat' split) <;> simp -implicitDefEqProofs +contextual (maxDischargeDepth := 30) [hq]

@[simp] theorem lifeStart_quiet (s : State) (o : StartObs)
    (hq : Quiet s.mstate s.vital.chans) : Quiet (State.lifeStart s o).mstate (State.lifeStart s o).vital.chans := by
  simp only [State.lifeStart]
  (repeat' split) <;> simp -implicitDefEqProofs +contextual (maxDischargeDepth := 30) [hq]

@[simp] theorem readSw1_quiet (s : State) (o : StartObs)
    (hq : Quiet s.mstate s.vital.chans) : Quiet (State.readSw1 s o).mstate (State.readSw1 s o).vital.chans := by
  exact hq

@[simp] theorem twinPosition_quiet (s : State) (o : StartObs)
    (hq : Quiet s.mstate s.vital.chans) : Quiet (State.twinPosition s o).mstate (State.twinPosition s o).vital.chans := by
  simp only [State.twinPosition]
  (repeat' split) <;> simp -implicitDefEqProofs +contextual (maxDischargeDepth := 30) [hq]

@[simp] theorem relayImages_quiet (s : State) (o : StartObs)
    (hq : Quiet s.mstate s.vital.chans) : Quiet (State.relayImages s o).mstate (State.relayImages s o).vital.chans := by
  exact hq

@[simp] theorem dovetailTest_quiet (s : State) (o : StartObs)
    (hq : Quiet s.mstate s.vital.chans) : Quiet (State.dovetailTest s o).mstate (State.dovetailTest s o).vital.chans := by
  refine foldl_quiet _ _ (fun x a h => ?_) s hq
  (repeat' split) <;> first | exact h | simp -implicitDefEqProofs +contextual (maxDischargeDepth := 30) [h]

@[simp] theorem linkDelays_quiet (s : State) (o : StartObs)
    (hq : Quiet s.mstate s.vital.chans) : Quiet (State.linkDelays s o).mstate (State.linkDelays s o).vital.chans := by
  exact foldl_quiet _ _ (fun x a h => by obtain ⟨⟨p, q⟩, l⟩ := a; simp -implicitDefEqProofs +contextual (maxDischargeDepth := 30) [h]) s hq

@[simp] theorem acceptSdi_quiet (s : State) (u : SdiUse) (mig : Bool)
    (hq : Quiet s.mstate s.vital.chans) : Quiet (State.acceptSdi s u mig).mstate (State.acceptSdi s u mig).vital.chans := by
  simp only [State.acceptSdi]
  (repeat' split) <;> simp -implicitDefEqProofs +contextual (maxDischargeDepth := 30) [hq]

@[simp] theorem sdiChecked_quiet (s : State) (n : Nat) (d : List Byte) (ok : Bool)
    (hq : Quiet s.mstate s.vital.chans) :
    Quiet (State.sdiChecked s n d ok).mstate (State.sdiChecked s n d ok).vital.chans := by
  exact hq

@[simp] theorem noSdi_quiet (s : State) (u : SdiUse)
    (hq : Quiet s.mstate s.vital.chans) : Quiet (State.noSdi s u).mstate (State.noSdi s u).vital.chans := by
  simp -implicitDefEqProofs +contextual (maxDischargeDepth := 30) [State.noSdi, hq]

@[simp] theorem sdiStart_quiet (s : State) (o : StartObs)
    (hq : Quiet s.mstate s.vital.chans) : Quiet (State.sdiStart s o).mstate (State.sdiStart s o).vital.chans := by
  simp only [State.sdiStart]
  (repeat' split) <;> simp -implicitDefEqProofs +contextual (maxDischargeDepth := 30) [hq]

@[simp] theorem inStart_quiet (s : State) (f : State → State) (hf : ∀ x : State, Quiet x.mstate x.vital.chans → Quiet (f x).mstate (f x).vital.chans)
    (hq : Quiet s.mstate s.vital.chans) : Quiet (State.inStart s f).mstate (State.inStart s f).vital.chans := by
  simp only [State.inStart]
  (repeat' split) <;> simp -implicitDefEqProofs +contextual (maxDischargeDepth := 30) [hq, hf]

@[simp] theorem startSelftest_quiet (s : State) (o : StartObs)
    (hq : Quiet s.mstate s.vital.chans) : Quiet (State.startSelftest s o).mstate (State.startSelftest s o).vital.chans := by
  simp -implicitDefEqProofs +contextual (maxDischargeDepth := 30) [State.startSelftest, hq]

@[simp] theorem sealStart_quiet (s : State) (o : StartObs)
    (hq : Quiet s.mstate s.vital.chans) : Quiet (State.sealStart s o).mstate (State.sealStart s o).vital.chans := by
  simp only [State.sealStart]
  (repeat' split) <;> simp -implicitDefEqProofs +contextual (maxDischargeDepth := 30) [hq]

@[simp] theorem offEnds_quiet (s : State) (ch : Ch)
    (hq : Quiet s.mstate s.vital.chans) : Quiet (State.offEnds s ch).mstate (State.offEnds s ch).vital.chans := by
  exact quiet_modify ch Channel.dropEnds (quiet_map (fun (x : Channel) => x.dropEnd ch) hq (fun c hc => by simpa using hc))
    (fun hc => by simpa using hc)

@[simp] theorem assignRoles_quiet (s : State) (o : StartObs)
    (hq : Quiet s.mstate s.vital.chans) : Quiet (State.assignRoles s o).mstate (State.assignRoles s o).vital.chans := by
  simp -implicitDefEqProofs +contextual (maxDischargeDepth := 30) [State.assignRoles, hq]

@[simp] theorem alignMarks_quiet (s : State) (l : List Ch)
    (hq : Quiet s.mstate s.vital.chans) : Quiet (State.alignMarks s l).mstate (State.alignMarks s l).vital.chans := by
  exact foldl_quiet _ _ (fun x a h => foldl_quiet _ _ (fun y b h => mesh_quiet y a b _ h) x h) s hq

@[simp] theorem alignTo_quiet (s : State) (o : StartObs) (l : List Ch) (c : Ch)
    (hq : Quiet s.mstate s.vital.chans) : Quiet (State.alignTo s o l c).mstate (State.alignTo s o l c).vital.chans := by
  simp only [State.alignTo]
  (repeat' split) <;> simp -implicitDefEqProofs +contextual (maxDischargeDepth := 30) [hq]

@[simp] theorem alignCycles_quiet (s : State) (o : StartObs)
    (hq : Quiet s.mstate s.vital.chans) : Quiet (State.alignCycles s o).mstate (State.alignCycles s o).vital.chans := by
  unfold State.alignCycles
  extract_lets l
  exact sendMesh_quiet _ (foldl_quiet l (fun s c => s.alignTo o l c) (fun x a h => alignTo_quiet x o l a h) _ (alignMarks_quiet s l hq))

@[simp] theorem coldStart_quiet (s : State)
    (hq : Quiet s.mstate s.vital.chans) : Quiet (State.coldStart s).mstate (State.coldStart s).vital.chans := by
  exact hq

@[simp] theorem failBanks_quiet (s : State)
    (hq : Quiet s.mstate s.vital.chans) : Quiet (State.failBanks s).mstate (State.failBanks s).vital.chans := by
  exact hq

@[simp] theorem startEngines_quiet (s : State)
    (hq : Quiet s.mstate s.vital.chans) : Quiet (State.startEngines s).mstate (State.startEngines s).vital.chans := by
  simp only [State.startEngines]
  (repeat' split) <;> simp -implicitDefEqProofs +contextual (maxDischargeDepth := 30) [hq]

@[simp] theorem enterRun_quiet (s : State)
    (hq : Quiet s.mstate s.vital.chans) : Quiet (State.enterRun s).mstate (State.enterRun s).vital.chans := by
  simp -implicitDefEqProofs +contextual (maxDischargeDepth := 30) [State.enterRun, hq]

@[simp] theorem startDone_quiet (s : State) (o : StartObs)
    (hq : Quiet s.mstate s.vital.chans) : Quiet (State.startDone s o).mstate (State.startDone s o).vital.chans := by
  simp only [State.startDone]
  (repeat' split) <;> simp -implicitDefEqProofs +contextual (maxDischargeDepth := 30) [hq]

@[simp] theorem startSequence_quiet (s : State) (o : StartObs) (loss : Bool)
    (hq : Quiet s.mstate s.vital.chans) :
    Quiet (State.startSequence s o loss).mstate (State.startSequence s o loss).vital.chans := by
  simp only [State.startSequence]
  (repeat' split) <;> simp -implicitDefEqProofs +contextual (maxDischargeDepth := 30) [hq]

@[simp] theorem startTimeout_quiet (s : State)
    (hq : Quiet s.mstate s.vital.chans) : Quiet (startTimeout s).mstate (startTimeout s).vital.chans := by
  simp only [startTimeout]
  (repeat' split) <;> simp -implicitDefEqProofs +contextual (maxDischargeDepth := 30) [hq]

@[simp] theorem rtc_quiet (s : State)
    (hq : Quiet s.mstate s.vital.chans) : Quiet (State.rtc s).mstate (State.rtc s).vital.chans := by
  exact hq

@[simp] theorem clkSvc_quiet (s : State)
    (hq : Quiet s.mstate s.vital.chans) : Quiet (State.clkSvc s).mstate (State.clkSvc s).vital.chans := by
  exact hq

@[simp] theorem svcLimits_quiet (s : State)
    (hq : Quiet s.mstate s.vital.chans) : Quiet (State.svcLimits s).mstate (State.svcLimits s).vital.chans := by
  simp only [State.svcLimits]
  (repeat' split) <;> simp -implicitDefEqProofs +contextual (maxDischargeDepth := 30) [hq]

@[simp] theorem ethFrame_quiet (net : Net) (port : Nat) (f : EthFrame) (s : State)
    (hq : Quiet s.mstate s.vital.chans) : Quiet (ethFrame net port f s).mstate (ethFrame net port f s).vital.chans := by
  simp only [ethFrame]
  (repeat' split) <;> simp -implicitDefEqProofs +contextual (maxDischargeDepth := 30) [hq]

end Sys2Proof.Machine
end

