-- ==== Sys2Proof/Laws/Raise.lean ====
section
/-! SUPPORT. The reaction to a fault source stays within the collector, the recorder, the channels, the kernel, the lock-out
record, the check-value units, the ring's ready mark, the sessions and the EMCY queue (R341 to R352). -/

namespace Sys2Proof.Machine

/-- The ring node but for the cycles it stands ready for. -/
def Ring.still (r : Ring) : Ring := { r with ready := [] }

@[simp] theorem still_ready (r : Ring) (l : List (Nat × List Byte)) : Ring.still { r with ready := l } = Ring.still r := rfl

/-- The check-value units but for CVU11. -/
def calm (l : List Cvu) : List Cvu := modNth l 11 fun _ => Cvu.make 0 false 0 1 0

theorem modNth_modNth {α : Type} (l : List α) (i : Nat) (f g : α → α) : modNth (modNth l i f) i g = modNth l i (g ∘ f) := by
  induction l generalizing i with
  | nil => rfl
  | cons a t ih => cases i with
    | zero => rfl
    | succ i => simp [modNth, ih]

theorem modNth_getD_ne {α : Type} (l : List α) (i j : Nat) (f : α → α) (d : α) (h : j ≠ i) :
    (modNth l i f).getD j d = l.getD j d := by
  induction l generalizing i j with
  | nil => rfl
  | cons a t ih => cases i <;> cases j <;> simp_all [modNth]

@[simp] theorem calm_modNth (l : List Cvu) (f : Cvu → Cvu) : calm (modNth l 11 f) = calm l := by
  simp only [calm, modNth_modNth]; rfl

/-- Units that agree but for CVU11 agree one by one. -/
theorem cvu_of_calm {s t : State} (h : calm t.cvus = calm s.cvus) (n : Nat) (hn : n ≠ 11) : t.cvu n = s.cvu n := by
  have := congrArg (fun l => l.getD n (Cvu.make 0 false 0 1 0)) h
  dsimp only [calm] at this
  rw [modNth_getD_ne _ _ _ _ _ hn, modNth_getD_ne _ _ _ _ _ hn] at this
  exact this

/-- What an assertion leaves as it is. -/
abbrev Aside (s t : State) : Prop :=
  t.pending = s.pending ∧ t.svc = s.svc ∧ t.sdi = s.sdi ∧ t.sens = s.sens
    ∧ t.banks = s.banks ∧ t.clients = s.clients ∧ t.time = s.time ∧ t.twin = s.twin
    ∧ t.life = s.life ∧ t.upd = s.upd ∧ t.supply = s.supply ∧ t.pst = s.pst
    ∧ t.pstLive = s.pstLive
    ∧ Ring.still t.ring = Ring.still s.ring ∧ calm t.cvus = calm s.cvus

theorem foldl_aside {α : Type} (l : List α) (g : State → α → State) (h : ∀ s a, Aside s (g s a)) (s : State) :
    Aside s (l.foldl g s) := by
  induction l generalizing s with
  | nil => simp [Aside]
  | cons a t ih => have := ih (g s a); have := h s a; simp_all [Aside]

@[simp] theorem emit_aside (s : State) (o : Out) : Aside s (State.emit s o) := by
  simp only [State.emit]
  (repeat' split) <;> simp [Aside]

@[simp] theorem emits_aside (s : State) (l : List Out) : Aside s (State.emits s l) := by
  simp only [State.emits]
  (repeat' split) <;> simp [Aside]

@[simp] theorem queueEmcy_aside (s : State) (code src : Nat) : Aside s (State.queueEmcy s code src) := by
  simp only [State.queueEmcy]
  (repeat' split) <;> simp [Aside]

@[simp] theorem setRec_aside (s : State) (n : Nat) (r : Option FaultRec) : Aside s (State.setRec s n r) := by
  simp only [State.setRec]
  (repeat' split) <;> simp [Aside]

@[simp] theorem recordVals_aside (s : State) (code src flags : Nat) (vals : List (Option W32)) : Aside s (State.recordVals s code src flags vals) := by
  simp only [State.recordVals]
  (repeat' split) <;> simp [Aside]

@[simp] theorem record_aside (s : State) (code src flags : Nat) : Aside s (State.record s code src flags) := by
  simp only [State.record]
  (repeat' split) <;> simp [Aside]

@[simp] theorem countAssert_aside (s : State) (src : Nat) : Aside s (State.countAssert s src) := by
  simp only [State.countAssert]
  (repeat' split) <;> simp [Aside]

@[simp] theorem deassert_aside (s : State) (src : Nat) : Aside s (State.deassert s src) := by
  simp only [State.deassert]
  (repeat' split) <;> simp [Aside]

@[simp] theorem settleSource_aside (s : State) (src : Nat) : Aside s (State.settleSource s src) := by
  simp only [State.settleSource]
  (repeat' split) <;> simp [Aside]

@[simp] theorem mergeInto_aside (s : State) (n src : Nat) (forced : Bool) : Aside s (State.mergeInto s n src forced) := by
  simp only [State.mergeInto]
  (repeat' split) <;> simp [Aside]

@[simp] theorem checkClear_aside (s : State) : Aside s (State.checkClear s) := by
  simp only [State.checkClear]
  (repeat' split) <;> simp [Aside]

@[simp] theorem closeRec_aside (s : State) (n : Nat) : Aside s (State.closeRec s n) := by
  simp only [State.closeRec]
  (repeat' split) <;> simp [Aside]

@[simp] theorem settle_aside (s : State) (n : Option Nat) (src level : Nat) (acked : Bool) : Aside s (State.settle s n src level acked) := by
  simp only [State.settle]
  (repeat' split) <;> simp [Aside]

@[simp] theorem safeNets_aside (s : State) : Aside s (State.safeNets s) := by
  simp only [State.safeNets]
  (repeat' split) <;> simp [Aside]

@[simp] theorem slotRecords_aside (s : State) : Aside s (State.slotRecords s) := by
  exact foldl_aside s.kernel.notes _ (fun x a => by cases a <;> simp [Aside]) s

@[simp] theorem leaveRun_aside (s : State) (m : MState) : Aside s (State.leaveRun s m) := by
  simp only [State.leaveRun]
  (repeat' split) <;> simp [Aside]

@[simp] theorem goSafe_aside (s : State) (src : Nat) : Aside s (State.goSafe s src) := by
  simp only [State.goSafe]
  (repeat' split) <;> simp [Aside]

@[simp] theorem modCvu_aside (s : State) (f : Cvu → Cvu) : Aside s (s.modCvu 11 f) := by simp [State.modCvu, Aside]

@[simp] theorem cvuJob_aside (s : State) (l : List Byte) : Aside s (s.cvuJob 11 l) := by simp [State.cvuJob, Aside]

@[simp] theorem lockWritten_aside (s : State) : Aside s (State.lockWritten s) := by
  simp only [State.lockWritten]
  (repeat' split) <;> simp [Aside]

@[simp] theorem goLockout_aside (s : State) (src : Nat) (detail : W32) (forced : Bool) : Aside s (State.goLockout s src detail forced) := by
  simp only [State.goLockout]
  (repeat' split) <;> simp [Aside]

@[simp] theorem isolate_aside (s : State) (l : List Nat) : Aside s (State.isolate s l) := by
  simp only [State.isolate]
  (repeat' split) <;> simp [Aside]

@[simp] theorem pairReset_aside (s : State) (again : State → State) (ch : Ch) (hagain : ∀ x, Aside x (again x)) : Aside s (State.pairReset s again ch) := by
  simp only [Aside, forall_and] at hagain
  simp only [State.pairReset]
  (repeat' split) <;> simp [Aside, *]

@[simp] theorem openShadow_aside (s : State) (n : Option Nat) (ch : Ch) : Aside s (State.openShadow s n ch) := by
  simp only [State.openShadow]
  (repeat' split) <;> simp [Aside]

@[simp] theorem applyLevel_aside (s : State) (again : State → State) (n : Option Nat) (src level : Nat) (ch : Ch) (detail : W32) (forced acked : Bool) (hagain : ∀ x, Aside x (again x)) : Aside s (State.applyLevel s again n src level ch detail forced acked) := by
  simp only [Aside, forall_and] at hagain
  simp only [State.applyLevel]
  (repeat' split) <;> simp [Aside, *]

@[simp] theorem openRec_aside (s : State) (src : Nat) (forced : Bool) : Aside s (s.openRec src forced).1 := by
  simp only [State.openRec]
  (repeat' split) <;> simp [Aside]

@[simp] theorem raiseWith_aside (s : State) (again : State → State) (src : Nat) (detail : W32) (forced : Bool) (hagain : ∀ x, Aside x (again x)) : Aside s (State.raiseWith s again src detail forced) := by
  simp only [Aside, forall_and] at hagain
  simp only [State.raiseWith]
  (repeat' split) <;> simp [Aside, *]

@[simp] theorem raiseSafe_aside (s : State) : Aside s (State.raiseSafe s) := by
  simp only [State.raiseSafe]
  (repeat' split) <;> simp [Aside]

@[simp] theorem raise_aside (s : State) (src : Nat) : Aside s (State.raise s src) := by
  simp only [State.raise]
  (repeat' split) <;> simp [Aside]

@[simp] theorem raiseAbout_aside (s : State) (src a b : Nat) : Aside s (State.raiseAbout s src a b) := by
  simp only [State.raiseAbout]
  (repeat' split) <;> simp [Aside]

@[simp] theorem raises_aside (s : State) (l : List Nat) : Aside s (State.raises s l) := by
  exact foldl_aside l State.raise (fun x a => by simp [Aside]) s

@[simp] theorem raiseAgreed_aside (s : State) (src : Nat) (ch : Ch) : Aside s (State.raiseAgreed s src ch) := by
  simp only [State.raiseAgreed]
  (repeat' split) <;> simp [Aside]

end Sys2Proof.Machine
end

