-- ==== Sys2Proof/Laws/Rows.lean ====
section
/-! SUPPORT. What the shared wrappers of the commands come to: kernel rows, client writes, mesh frames. -/

namespace Sys2Proof.Machine

/-! ## Rows of the kernel -/

/-- A kernel row in `RUN`: the kernel is changed and what follows it acts. -/
theorem kRow_run {s : State} (h : s.mstate = .run) (f : Sdi → Env → Kernel → Kernel) :
    s.begin.kRow f = s.acted (f s.dat s.env s.kernel) := by
  simp only [State.kRow, begin_mstate, h, if_true, begin_dat, begin_env, begin_kernel, State.acted]

/-- A kernel row outside `RUN` does nothing. -/
theorem kRow_off {s : State} (h : s.mstate ≠ .run) (f : Sdi → Env → Kernel → Kernel) : s.kRow f = s := by
  simp only [State.kRow, h, if_false]

/-! ## A client's request -/

/-- What the module keeps of a client is under that client's name. -/
@[simp] theorem client_name (s : State) (cl : Client) : (s.client cl).client = cl := by
  unfold State.client
  cases h : s.clients.find? (·.client = cl) with
  | none => rfl
  | some c => simpa using List.find?_some h

@[simp] theorem setClient_client (s : State) (c : ClientSt) : (s.setClient c).client c.client = c := by
  simp [State.client, State.setClient]

/-- A request changes nothing of its client but the time of the last request. -/
theorem asked_client (s : State) (cl : Client) : (s.asked cl).client cl = { s.client cl with lastReq := s.svc.ms } := by
  have h : ({ s.client cl with lastReq := s.svc.ms } : ClientSt).client = cl := client_name s cl
  conv => lhs; rhs; rw [← h]
  exact setClient_client _ _

@[simp] theorem asked_level (s : State) (cl : Client) : ((s.asked cl).client cl).level = (s.client cl).level := by
  rw [asked_client]
@[simp] theorem asked_mstate (s : State) (cl : Client) : (s.asked cl).mstate = s.mstate := rfl
@[simp] theorem asked_kernel (s : State) (cl : Client) : (s.asked cl).kernel = s.kernel := rfl
@[simp] theorem asked_out (s : State) (cl : Client) : (s.asked cl).out = [] := rfl
@[simp] theorem asked_pending (s : State) (cl : Client) : (s.asked cl).pending = s.pending := rfl
@[simp] theorem asked_life (s : State) (cl : Client) : (s.asked cl).life = s.life := rfl
@[simp] theorem asked_svc (s : State) (cl : Client) : (s.asked cl).svc = s.svc := rfl
@[simp] theorem asked_dat (s : State) (cl : Client) : (s.asked cl).dat = s.dat := rfl
@[simp] theorem asked_env (s : State) (cl : Client) : (s.asked cl).env = s.env := rfl
@[simp] theorem asked_begin (s : State) (cl : Client) : (s.asked cl).begin = s.asked cl := rfl

/-- A kernel row of a client in `RUN`. -/
theorem kRow_asked {s : State} (h : s.mstate = .run) (cl : Client) (f : Sdi → Env → Kernel → Kernel) :
    (s.asked cl).kRow f = (s.asked cl).acted (f s.dat s.env s.kernel) := by
  simp only [State.kRow, asked_mstate, h, if_true, asked_dat, asked_env, asked_kernel, State.acted, asked_begin]

/-- A write that passes checks 5 to 8 is carried out (R301). -/
theorem write_ok {s : State} (cl : Client) (n : Need) (lenOk rangeOk : Bool) (f : State → State)
    (h : (s.asked cl).check cl n lenOk rangeOk = none) : s.begin.write cl n lenOk rangeOk f = f (s.asked cl) := by
  have h' : (s.begin.touch cl).check cl n lenOk rangeOk = none := h
  simp only [State.write, h']; rfl

/-- A write that fails one of them is aborted (R301). -/
theorem write_bad {s : State} (cl : Client) (n : Need) (lenOk rangeOk : Bool) (f : State → State) (e : W32)
    (h : (s.asked cl).check cl n lenOk rangeOk = some e) : s.begin.write cl n lenOk rangeOk f = (s.asked cl).abort cl e := by
  have h' : (s.begin.touch cl).check cl n lenOk rangeOk = some e := h
  simp only [State.write, h']; rfl

/-- A client at OPERATE passes the checks of an OPERATE write with a good length and range. -/
theorem check_operate {s : State} {cl : Client} (h : 1 ≤ (s.client cl).level) :
    (s.asked cl).check cl .operate true true = none := by
  have : ¬ (s.client cl).level < 1 := by omega
  simp [State.check, Need.level, Need.lifeOk, Need.inPst, this]

/-! ## Mesh rows -/

/-- A mesh command with control supply: what waits on the mesh goes out after it. -/
theorem ml_on {s : State} (hs : s.supply.on = true) (f : State → State) : s.meshLive f = (f s.begin).sendMesh := by
  simp [State.meshLive, live_on hs]
/-- A frame that is taken up counts for its link end. -/
theorem linkRx_held {s : State} {rx tx : Ch} {h : MeshHead} {m : MeshOut} (hh : Held s rx tx h m) :
    s.begin.linkRx rx tx (frameOf h m) = linked s rx tx h := by
  obtain ⟨-, h2, -, h4, h5, -⟩ := hh
  have h5' : ((s.begin.ch rx).ends.get tx).up = true := h5
  have hj : s.begin.judged rx tx = true := h4
  have e : ∀ q, ((s.begin.ch rx).ends.get tx).frame q true = ((s.ch rx).ends.get tx).frame q true := fun _ => rfl
  have u : ∀ q, (((s.ch rx).ends.get tx).frame q true).up = true := fun q => by simp [LinkEnd.frame, h5]
  simp only [State.linkRx, h2, hj, if_true, e, h5', u]
  rfl
/-- A frame that is taken up is of the running cycle or the next. -/
theorem takes_held {s : State} {rx tx : Ch} {h : MeshHead} {m : MeshOut} (hh : Held s rx tx h m) :
    (linked s rx tx h).takes rx tx (frameOf h m) = true := by
  obtain ⟨h1, h2, -, -, h5, h6⟩ := hh
  have e1 : (((linked s rx tx h).ch rx).ends.get tx).up = true := by
    simp [linked, LinkEnd.frame, State.modCh, State.modV, State.ch] at h5 ⊢
    simp [h5]
  have e2 : (linked s rx tx h).vital.cycle = s.vital.cycle := rfl
  simp only [State.takes, h2, e1, e2, bne_iff_ne, ne_eq, h1, not_false_eq_true, Bool.and_true, Bool.true_and, Bool.and_eq_true, Bool.or_eq_true, beq_iff_eq]
  simpa [frameOf] using h6
/-- A mesh row on a frame that is taken up. -/
theorem row_held {s : State} {rx tx : Ch} {h : MeshHead} {m : MeshOut} (hh : Held s rx tx h m) (f : State → State) :
    s.begin.meshRow rx tx h m f = f (linked s rx tx h) := by
  have hl := linkRx_held hh
  have ht := takes_held hh
  simp only [frameOf] at hl ht
  simp only [State.meshRow, hh.1, if_false, hl, ht, hh.2.2.1, Bool.true_and, decide_true, if_true]
/-- Two changes of a channel that agree on it. -/
theorem modCh_congr (s : State) (c : Ch) (f g : Channel → Channel) (h : f (s.ch c) = g (s.ch c)) : s.modCh c f = s.modCh c g := by
  unfold State.ch at h
  simp [State.modCh, State.modV, Quad.modify, h]
@[simp] theorem linked_ch (s : State) (rx tx : Ch) (h : MeshHead) :
    (linked s rx tx h).ch rx = { s.ch rx with ends := (s.ch rx).ends.set tx (((s.ch rx).ends.get tx).frame h.seq true) } := by
  simp [linked, State.modCh, State.modV, State.ch]

end Sys2Proof.Machine
end

