-- ==== Sys2Proof/Laws/Starts.lean ====
section
/-! SUPPORT. What starts, the loss of the supply and the tick leave as it is, and that they keep the invariant. -/

namespace Sys2Proof.Machine

/-- What a start leaves as it is: the queue, the count of CLK_SVC and the lengths of the fixed tables. -/
abbrev Begun (s t : State) : Prop :=
  t.pending = s.pending ∧ t.cvus.length = s.cvus.length ∧ t.lock.entries.length = s.lock.entries.length
    ∧ t.col.recs.length = s.col.recs.length ∧ (s.life.copies.length = 5 → t.life.copies.length = 5) ∧ t.svc.ms = s.svc.ms

theorem applyLc_begun (s : State) (v : Nat) : Begun s (s.applyLc v) := by
  simp only [State.applyLc]
  (repeat' split) <;> simp [Begun]

theorem applyLc_supply (s : State) (v : Nat) : (s.applyLc v).supply = s.supply := by
  simp only [State.applyLc]
  (repeat' split) <;> simp

theorem lifeStart_begun (s : State) (o : StartObs) : Begun s (s.lifeStart o) := by
  have h := fun x v => applyLc_begun x v
  simp only [Begun, forall_and] at h
  simp only [State.lifeStart]
  (repeat' split) <;> simp_all [Begun]

theorem lifeStart_supply (s : State) (o : StartObs) : (s.lifeStart o).supply = s.supply := by
  have h := applyLc_supply
  simp only [State.lifeStart]
  (repeat' split) <;> simp_all

/-- The start sequence begins anew what it does not keep (R387): it sets the input readings, and the supply else stays. -/
theorem startSequence_begun (s : State) (o : StartObs) (loss : Bool) :
    Begun s (s.startSequence o loss)
      ∧ (s.startSequence o loss).supply = { s.supply with mv := o.mv, minMv := o.mv } := by
  have h1 := lifeStart_begun
  have h2 := lifeStart_supply
  simp only [Begun, forall_and] at h1
  have k1 : ∀ s, Kept s (State.inStart s fun s => s.twinPosition o) :=
    fun s => inStart_kept _ _ (fun x => twinPosition_kept x o)
  have k2 : ∀ s, Kept s (State.inStart s fun s => s.dovetailTest o) :=
    fun s => inStart_kept _ _ (fun x => dovetailTest_kept x o)
  have k3 : ∀ s, Kept s (State.inStart s fun s => s.sdiStart o) :=
    fun s => inStart_kept _ _ (fun x => sdiStart_kept x o)
  have k4 : ∀ s, Kept s (State.inStart s fun s => s.alignCycles o) :=
    fun s => inStart_kept _ _ (fun x => alignCycles_kept x o)
  simp only [Kept, forall_and] at k1 k2 k3 k4
  cases loss <;> simp_all [State.startSequence, Begun]

/-- No step keeps less than the invariant asks when it keeps the tables and leaves the channels dark. -/
theorem Inv.of_kept {s t : State} (h : Inv s) (k : Kept s t) (q : Quiet t.mstate t.vital.chans) : Inv t := by
  obtain ⟨h1, h2, h3, h4, -⟩ := h
  obtain ⟨-, k1, k2, k3, k4, -, -⟩ := k
  exact ⟨k3.trans h1, k2.trans h2, k1.trans h3, k4.trans h4, q⟩

theorem reset_quiet (m : MState) : Quiet m (Quad.all Channel.reset) := fun _ x => by cases x <;> exact ⟨rfl, rfl⟩

/-- The loss of the supply keeps the invariant (R419). -/
theorem powerDown_inv {s : State} (h : Inv s) : Inv s.powerDown :=
  ⟨rfl, h.2.1, rfl, h.2.2.2.1, reset_quiet _⟩

/-- So does what a restart begins from (R353). -/
theorem restartBase_inv {s : State} (h : Inv s) : Inv s.restartBase :=
  ⟨rfl, h.2.1, rfl, h.2.2.2.1, reset_quiet _⟩

theorem startSequence_inv {s : State} (h : Inv s) (o : StartObs) (loss : Bool) : Inv (s.startSequence o loss) := by
  obtain ⟨⟨-, k1, k2, k3, k4, -⟩, -⟩ := startSequence_begun s o loss
  exact ⟨k3.trans h.1, k2.trans h.2.1, k1.trans h.2.2.1, k4 h.2.2.2.1, startSequence_quiet s o loss h.2.2.2.2⟩

theorem restart_inv {s : State} (h : Inv s) (o : StartObs) : Inv (s.restart o) := by
  have h1 := restartBase_inv h
  unfold State.restart
  generalize s.restartBase = x at h1 ⊢
  exact startSequence_inv h1 o false

theorem powerOn_inv {s : State} (h : Inv s) (o : StartObs) : Inv (powerOn o s) := by
  have h1 := powerDown_inv h
  unfold powerOn
  split
  · exact h
  · generalize s.powerDown = x at h1 ⊢
    exact startSequence_inv (by exact h1) o true

theorem restartBase_keeps (s : State) : s.restartBase.pending = s.pending ∧ s.restartBase.svc.ms = s.svc.ms
    ∧ s.restartBase.supply.cycles = s.supply.cycles := ⟨rfl, rfl, rfl⟩

/-- A restart is no power cycle (R353). -/
theorem restart_keeps (s : State) (o : StartObs) :
    (s.restart o).pending = s.pending ∧ (s.restart o).svc.ms = s.svc.ms ∧ (s.restart o).supply.cycles = s.supply.cycles := by
  unfold State.restart
  obtain ⟨b1, b2, b3⟩ := restartBase_keeps s
  generalize s.restartBase = x at b1 b2 b3 ⊢
  obtain ⟨⟨h, -, -, -, -, h5⟩, h6⟩ := startSequence_begun x o false
  exact ⟨h.trans b1, h5.trans b2, by rw [h6]; exact b3⟩

/-- What POWER_ON leaves as it is, and the supply it starts with (R387, R419). -/
theorem powerOn_keeps (s : State) (o : StartObs) (hv : 16800 ≤ o.mv ∧ o.mv ≤ 165000) :
    (powerOn o s).pending = s.pending ∧ (powerOn o s).svc.ms = s.svc.ms ∧ (powerOn o s).supply.on = true
      ∧ (powerOn o s).supply.cycles = s.supply.cycles + 1 := by
  unfold powerOn
  rw [if_neg (by simp; omega)]
  have b : s.powerDown.pending = s.pending ∧ s.powerDown.svc.ms = s.svc.ms ∧ s.powerDown.supply.cycles = s.supply.cycles :=
    ⟨rfl, rfl, rfl⟩
  generalize s.powerDown = x at b ⊢
  obtain ⟨b1, b2, b3⟩ := b
  obtain ⟨⟨h, -, -, -, -, h5⟩, h6⟩ := startSequence_begun { x with supply := { x.supply with
    on := true, cycles := x.supply.cycles + 1, temp := 0, tempMax := -32768 } } o true
  dsimp only at h h5 h6 ⊢
  exact ⟨h.trans b1, h5.trans b2, by rw [h6], by rw [h6, ← b3]⟩

/-! ## Supply, temperature and the tick -/

/-- What a reading of the supply leaves as it is. -/
abbrev Read (s t : State) : Prop :=
  t.pending = s.pending ∧ t.cvus.length = s.cvus.length ∧ t.lock.entries.length = s.lock.entries.length
    ∧ t.col.recs.length = s.col.recs.length ∧ t.life.copies.length = s.life.copies.length ∧ t.svc.ms = s.svc.ms

theorem supplyRead_read (s : State) (mv : Nat) : Read s (s.supplyRead mv) := by
  simp [Read, State.supplyRead]

theorem supplyLow_read (mv : Nat) (s : State) : Read s (supplyLow mv s) := by
  unfold supplyLow
  split
  · exact ⟨rfl, rfl, rfl, rfl, rfl, rfl⟩
  · exact supplyRead_read s mv

theorem temperatureRead_read (dc : List Int) (s : State) : Read s (temperatureRead dc s) := by
  simp only [temperatureRead]
  split <;> simp [Read]

theorem supplyRead_inv {s : State} (h : Inv s) (mv : Nat) : Inv (s.supplyRead mv) := by
  obtain ⟨-, k1, k2, k3, k4, -⟩ := supplyRead_read s mv
  exact ⟨k3.trans h.1, k2.trans h.2.1, k1.trans h.2.2.1, k4.trans h.2.2.2.1, supplyRead_quiet s mv h.2.2.2.2⟩

theorem supplyHigh_inv {s : State} (h : Inv s) (mv : Nat) : Inv (supplyHigh mv s) := by
  unfold supplyHigh
  split
  · exact powerDown_inv (by exact h)
  · split
    · exact h
    · exact supplyRead_inv h mv

/-- The tick keeps the invariant. -/
theorem tick_inv {s : State} (h : Inv s) : Inv (tick s) := by
  have h1 : Inv s.rtc.begin := h
  unfold tick State.live
  split
  · have h2 : Inv s.rtc.begin.clkSvc := by
      refine ⟨?_, ?_, ?_, ?_, clkSvc_quiet _ h1.2.2.2.2⟩ <;> simp [State.clkSvc] <;> first | exact h.1 | exact h.2.1 | exact h.2.2.1 | exact h.2.2.2.1
    have h3 := h2.of_kept (svcLimits_kept _) (svcLimits_quiet _ h2.2.2.2.2)
    have h4 := h3.of_kept (svcQueued_kept _) (svcQueued_quiet _ h3.2.2.2.2)
    exact h4.of_kept (settleAll_kept _) (settleAll_quiet _ h4.2.2.2.2)
  · exact h1

end Sys2Proof.Machine
end

