-- ==== Sys2Proof/WellFormed.lean ====
section
/-! DEFINITION. Which commands are well-formed: operands inside the ranges the spec gives their names. -/

namespace Sys2Proof

/-- The operand ranges of a command that its type does not bound already: slots 0 to 95 (R144), session indices 0 to
127 (R277), state pages of a cycle (R32), parts of a raw image (R53), SRAM addresses (R28), local heads 0 to 15 (R183), inputs 1 to 24 of a bank (R208), outputs 1 to 8, non-vital outputs 1 to 4,
sources 0x000 to 0x1FF (R340), port numbers 1 and 2 (R260), units 0 to 11 (R390), nodes 0 to 63 (R239). -/
def Instr.wf : Instr → Bool
  | .vitalCycleMark _ o => o.pages.length ≤ 80 && o.pages.all (· < 1024)
  | .tenon1 _ _ _ p n d => p < n && n ≤ 12 && d.length ≤ 4092
  | .deltaPage _ _ _ _ p _ d => p < 1024 && d.length = 2048
  | .dovetailMismatch _ l _ => l.length ≤ 2
  | .sramReadError _ a _ => a < 0x800000 && a % 4 = 0
  | .faultSourceAssert src _ => src < 0x200
  | .escalationExpiry src => src < 0x200
  | .slotSuspend _ n => n < 96
  | .slotResume _ n => n < 96
  | .slotCancel _ n => n < 96
  | .slotRelease _ n => n < 96
  | .queueTimeout n => n < 96
  | .slotAutoRelease n => n < 96
  | .sessionTimeout n => n < 128
  | .connResp n _ => n < 128
  | .dataTelegram n _ => n < 128
  | .headReport n _ => n < 128
  | .disc n _ => n < 128
  | .connReqRepeat n => n < 128
  | .responderTimeout n => n < 128
  | .holdOffExpiry n => n < 128
  | .pulseStart _ h _ _ => h < 16
  | .pulseEnd _ h _ _ => h < 16
  | .envelopeSample _ h e => h < 16 && e.raws.length = 50 && e.raws.all fun r => -32768 ≤ r.adc && r.adc ≤ 32767
  | .upRange _ h => h < 16
  | .downRange _ h => h < 16
  | .coilMeasurement _ h _ _ => h < 16
  | .inputDebounce _ i _ _ => 1 ≤ i && i ≤ 24
  | .wireBreakFlag _ i => 1 ≤ i && i ≤ 24
  | .wireBreakClear _ i => 1 ≤ i && i ≤ 24
  | .testPulse _ src l => 1 ≤ src && src ≤ 2 && l.all (fun i => 1 ≤ i && i ≤ 24)
  | .nvSilence _ n => 1 ≤ n && n ≤ 4
  | .outputTestDue n => n < 32
  | .switchCurrentLimit n _ => n < 32
  | .cvuKat u _ => u < 12
  | .ethernetLinkChange _ p v => 1 ≤ p && p ≤ 2 && v ≤ 2
  | .ethernetFrameForward _ p f => 1 ≤ p && p ≤ 2 && f.pcp < 8
  | .stratusData f => f.node < 64 && f.slot < 256
  | .sccConfirm n _ => n < 128
  | .sccRequest n _ => n < 128
  | _ => true

end Sys2Proof
end

