-- ==== Sys2Proof/Tests/Slice0.lean ====
section
/-! SUPPORT. Tests of the model: ill-formed commands, check values of the spec, and one witness for every statement that has
hypotheses. -/

namespace Sys2Proof.Tests

open Sys2Proof.Machine

/-! ## A small state in `RUN` -/

/-- A client of the tests, at COMMISSION. -/
def tester : ClientSt := ⟨.can 5, 3, 0, none, [], none, 0, 0, []⟩

/-- The client's name. -/
abbrev me : Client := .can 5

/-- A client that never asked, at VIEW. -/
abbrev guest : Client := .can 6

/-- A voting channel. -/
def chVoting : Channel := { Channel.reset with role := .voting }

/-- A module in `RUN` in `FULL`, single, with one client at COMMISSION, 100 s after its start. -/
def runs : State :=
  { State.reset with
    mstate := .run
    svc := ⟨100000, 0, 0⟩
    vital := { Vital.reset with
      chans := ⟨chVoting, chVoting, chVoting, { Channel.reset with role := .reserve }⟩, running := true }
    kernel := { Kernel.cold with cycle := 2500, vital := 100000, twin := { TwinK.reset with role := 0 } }
    clients := [tester] }

/-- The same module in another module state. -/
def inState (m : MState) : State := { runs with mstate := m }

/-- The same module with channel A changed. -/
def chA (f : Channel → Channel) : State := { runs with vital := { runs.vital with chans := ⟨f chVoting, chVoting, chVoting, chVoting⟩ } }

/-- The same module with its kernel changed. -/
def withK (f : Kernel → Kernel) : State := { runs with kernel := f runs.kernel }

/-- The same module with its collector changed. -/
def withCol (f : Collector → Collector) : State := { runs with col := f runs.col }

/-! ## The invariant -/

theorem test_reset_meets_inv : Inv State.reset := ⟨rfl, rfl, rfl, rfl, fun _ ch => by cases ch <;> exact ⟨rfl, rfl⟩⟩

/-- EveryStepKeepsTheInvariant: a step from reset. -/
theorem test_inv_step : Inv State.reset ∧ step State.reset = .next (tick State.reset) := ⟨test_reset_meets_inv, rfl⟩

/-- StepRunsTheFrontCommand. -/
theorem test_front : (State.reset.pending = [])
    ∧ ({ State.reset with pending := [.startTimeout] } : State).pending = .startTimeout :: [] ∧ Supplied State.reset :=
  ⟨rfl, rfl, rfl⟩

/-- WithoutSupplyNothingActs. -/
theorem test_no_supply : ¬ Supplied { State.reset with supply := { State.reset.supply with on := false } }
    ∧ ∀ o, Instr.startTimeout ≠ .powerOn o := ⟨by simp [Supplied], fun o h => by cases h⟩

/-! ## Witnesses: start, vital cycle and mesh -/

/-- StartTimeoutTakesTheModuleSafe: at 45 s, before it, and in another state. -/
theorem test_start_timeout :
    (Supplied { State.reset with svc := ⟨45000, 0, 0⟩ } ∧ State.reset.mstate = .start ∧ State.reset.svc.startMs + 45000 ≤ 45000)
    ∧ (44999 < State.reset.svc.startMs + 45000 ∧ Supplied runs ∧ runs.mstate ≠ .start) := by simp only [Supplied]; decide

/-- The observations of a start that finds nothing, at an input voltage. -/
def startObs (mv : Nat) : StartObs :=
  ⟨Quad.all ⟨true, ⟨-1, -1, -1⟩, (0, 0), 0, 0, Quad.all 0⟩, [], 0, 0, [], [], false, 0, true, true, [], 20000, mv, []⟩

/-- PowerOnCountsAPowerCycle: both ends of the supply range and both sides of it. -/
theorem test_power_on : (16800 ≤ (startObs 16800).mv ∧ (startObs 16800).mv ≤ 165000)
    ∧ (16800 ≤ (startObs 165000).mv ∧ (startObs 165000).mv ≤ 165000) ∧ (startObs 16799).mv < 16800
    ∧ 165000 < (startObs 165001).mv := by decide

/-- A mark with some phases late. -/
def markObs (late : List Phase) : MarkObs := ⟨4000000, 0, Quad.all 0, 100, 900, [3], [], [], [], [], late⟩

/-- MarkBeginsTheChannelsCycle: a channel in time and a late one, one in `RESYNC`, one `OFF` and one in reset. -/
theorem test_mark : Supplied runs ∧ runs.mstate = .run ∧ (runs.ch .a).inReset = false ∧ runs.vital.running = true
    ∧ (runs.ch .a).marked = false ∧ (runs.ch .a).role.hot = true ∧ (runs.ch .a).echoLags = false
    ∧ (runs.ch .a).holdsAny (markObs []).spoilt = false ∧ Phase.p1 ∉ (markObs []).late ∧ Phase.p1 ∈ (markObs [.p1]).late
    ∧ ((chA fun c => { c with role := .resync }).ch .a).role = .resync
    ∧ ((chA fun c => { c with role := .off }).ch .a).role = .off
    ∧ ((chA fun c => { c with inReset := true }).ch .a).inReset = true := by simp only [Supplied]; decide

/-- The module with channel D, a reserve, in a stage. -/
def reserveIn (st : CStage) : State :=
  { runs with vital := { runs.vital with chans := runs.vital.chans.set .d { Channel.reset with role := .reserve, stage := st } } }

/-- The module with channel A in a stage. -/
def votingIn (st : CStage) : State :=
  { runs with vital := { runs.vital with chans := runs.vital.chans.set .a { chVoting with stage := st } } }

/-- Channel A in a stage, with B having overrun P2. -/
def lateToo : State :=
  { votingIn .awaitT1 with vital := { (votingIn .awaitT1).vital with
    chans := (votingIn .awaitT1).vital.chans.set .b { chVoting with overrun := [.p2], stage := .done } } }

/-- PhaseOverrunDropsTheUnfinishedWork: every phase with its work unfinished, a majority late in P2, and work that is done. -/
theorem test_overrun : Supplied runs
    ∧ (∀ st ∈ [CStage.sampling, .awaitT1, .evaluating], (reserveIn st).mstate = .run ∧ ((reserveIn st).ch .d).role = .reserve
        ∧ ((reserveIn st).ch .d).stage = st)
    ∧ (∀ st ∈ [CStage.awaitVote, .emitting, .checkpointing], (votingIn st).mstate = .run ∧ ((votingIn st).ch .a).role.hot = true
        ∧ ((votingIn st).ch .a).stage = st)
    ∧ ((lateToo.ch .a).role = .voting ∧ (lateToo.ch .a).stage = .awaitT1
      ∧ (lateToo.chTo .a { lateToo.ch .a with overrun := .p2 :: (lateToo.ch .a).overrun, stage := .done } []).lateMajority .p2 = true)
    ∧ ((votingIn .done).ch .a).stage.phase ≠ some .p1 ∧ ((votingIn .sampling).ch .a).stage.phase ≠ some .p2 := by
  simp only [Supplied]; decide

/-- DeadlinesEndTheStageTheyBelongTo: each stage, of a channel that is not late. -/
theorem test_deadlines : Supplied runs ∧ ∀ st ∈ [CStage.awaitT1, .awaitT2 1, .awaitT2 2, .awaitVote, .done],
    (votingIn st).mstate = .run ∧ ((votingIn st).ch .a).role.hot = true ∧ ((votingIn st).ch .a).stage = st
    ∧ ((votingIn st).ch .a).lateIn .p2 = false ∧ ((votingIn st).ch .a).lateIn .p4 = false := by simp only [Supplied]; decide

/-- EmissionRunsTheGeneratorsAndSendsCommands: queues with room. -/
theorem test_emission : ∀ e ∈ [Egress.netA, .netB, .str],
    ((((runs.ch .a).egress ++ runs.kernel.egressOut).filter fun y => y.1 = e).map fun y => y.2.length).sum ≤ egressDepth e := by
  decide

/-- The head channel B gives a message under SEQ 0 in the running cycle. -/
def said (m : MeshOut) : MeshHead := (m.frame .b 0 0).head

/-- Channel A changed, with its link end to B `UP`. -/
def linkUp (f : Channel → Channel) : State := chA fun c => f { c with ends := c.ends.set .b { LinkEnd.reset with up := true } }

/-- A frame that says `m` with a payload that fits and, for a delta request, a kind the rule knows passes R14's checks, so the receiver
takes it up. -/
theorem held_said (s : State) (m : MeshOut) (h : s.judged .a .b = true) (u : ((s.ch .a).ends.get .b).up = true)
    (c : s.vital.cycle = 0) (n : m.payload.length ≤ 4096)
    (k : (m.typ != 6 || byteAt m.payload 0 == 1 || byteAt m.payload 0 == 2) = true) : Held s .a .b (said m) m := by
  refine ⟨by decide, ?_, rfl, h, u, .inl c.symm⟩
  have e : m.typ.toNat ≤ 6 := by cases m <;> exact Nat.le_of_ble_eq_true rfl
  show MeshFrame.sound (m.frame .b 0 0) .b = true
  have r : (m.frame .b 0 0).head.crc = (m.frame .b 0 0).crc := rfl
  simp only [MeshFrame.sound, r]
  simp only [MeshOut.frame, Bool.and_eq_true, beq_self_eq_true, decide_eq_true_eq, n, e, k, true_and, and_true]
  decide

/-- MeshFramesAreStoredForTheirCycle: each message, and the part number at its limit. -/
theorem test_mesh : Supplied (linkUp id) ∧ Held (linkUp id) .a .b (said .idle) .idle
    ∧ Held (linkUp id) .a .b (said (.mark 500)) (.mark 500)
    ∧ Held (linkUp id) .a .b (said (.tenon1 11 12 [7])) (.tenon1 11 12 [7]) ∧ 11 < 12 ∧ 12 ≤ 12
    ∧ Held (linkUp id) .a .b (said (.tenon2 ⟨1, 7, 0, 5, 0⟩)) (.tenon2 ⟨1, 7, 0, 5, 0⟩)
    ∧ Held (linkUp id) .a .b (said (.vote ⟨5, Quad.all 0⟩)) (.vote ⟨5, Quad.all 0⟩) := by
  refine ⟨rfl, ?_, ?_, ?_, by decide, by decide, ?_, ?_⟩ <;>
    exact held_said _ _ (by decide) (by decide) rfl (by decide) (by decide)

/-- BadMeshFramesAreOnlyCounted: the second bad frame in a row, of each type. -/
theorem test_bad_mesh :
    let h : MeshHead := ⟨0, 1, 0, 0, 0, 0, 0⟩
    Supplied (linkUp id) ∧ Ch.a ≠ .b ∧ (linkUp id).judged .a .b = true
    ∧ (((chA fun c => { c with ends := c.ends.set .b { LinkEnd.reset with bad := 1 } }).ch .a).ends.get .b).bad + 1 < 3
    ∧ (frameOf h .idle).sound .b = false ∧ (frameOf h (.tenon2 ⟨1, 7, 0, 5, 0⟩)).sound .b = false
    ∧ (frameOf h (.vote ⟨5, Quad.all 0⟩)).sound .b = false ∧ (frameOf h (.page 1 3 0 [1])).sound .b = false := by
  simp only [Supplied]; decide +kernel

/-- LinkEndsFallSilentAndIdle: an end `UP` and one `DOWN`, links with nothing waiting and one with a frame. -/
theorem test_silence : Supplied (linkUp id) ∧ Ch.a ≠ .b ∧ (((linkUp id).ch .a).ends.get .b).up = true
    ∧ (((linkUp id).ch .a).ends.get .c).up = false ∧ (∀ x y, ((linkUp id).ch x).txq.get y = [])
    ∧ ((chA fun c => { c with txq := c.txq.set .b [(0, .idle)] }).ch .a).txq.get .b ≠ [] := by
  simp only [Supplied]
  exact ⟨by decide, by decide, by decide, by decide, fun x y => by cases x <;> cases y <;> rfl, by decide⟩

/-- The link end B–A `UP` with channel B in `RESYNC`. -/
def resyncs : State := { linkUp id with vital := { (linkUp id).vital with chans :=
  ((linkUp id).vital.chans.set .b { Channel.reset with role := .resync }) } }

/-- DeltaStartIsAnsweredWithRoundOne. -/
theorem test_delta_start : Supplied resyncs ∧ Held resyncs .a .b (said (.start 2490 5 [3])) (.start 2490 5 [3])
    ∧ (resyncs.ch .a).role = .voting ∧ (resyncs.ch .b).role = .resync :=
  ⟨rfl, held_said _ _ (by decide) (by decide) rfl (by simp [MeshOut.payload, be, le, mapBytes]) (by rfl), by decide, by decide⟩

/-- A transfer under way at its requester, `n` rounds done, page 3 held in this round. -/
def asks (n : Nat) : XferReq := ⟨.b, 0, n, [⟨3, []⟩], [3], false, 0⟩

/-- A page of zeros. -/
def zeros : List Byte := List.replicate 2048 0

/-- DeltaRoundsCollectPages: a repair list, the last page index and a page whose CRC fails, an END complete and one with a page
missing. -/
theorem test_delta_rounds :
    let s := linkUp fun c => { c with req := some (asks 1) }
    Supplied s ∧ Held s .a .b (said (.repair 2 [3])) (.repair 2 [3]) ∧ (s.ch .a).req = some (asks 1) ∧ (asks 1).round + 1 = 2
    ∧ Held s .a .b (said (.page 2 1023 (crc32c zeros) zeros)) (.page 2 1023 (crc32c zeros) zeros) ∧ (asks 1).supplier = .b
    ∧ 1023 < 1024 ∧ zeros.length = 2048 ∧ Held s .a .b (said (.page 2 3 1 [5])) (.page 2 3 1 [5]) ∧ crc32c [5] ≠ 1 ∧ 2 < 3
    ∧ Held s .a .b (said (.deltaEnd 2 1 5 [3])) (.deltaEnd 2 1 5 [3]) ∧ (∀ j ∈ [3], j ∈ (asks 1).fresh)
    ∧ Held s .a .b (said (.deltaEnd 2 2 5 [3, 4])) (.deltaEnd 2 2 5 [3, 4]) ∧ (∃ j ∈ [3, 4], j ∉ (asks 1).fresh) := by
  have z : zeros.length = 2048 := List.length_replicate
  have p : (MeshOut.page 2 1023 (crc32c zeros) zeros).payload.length ≤ 4096 := by
    simp [MeshOut.payload, z, be, le]
  refine ⟨rfl, ?_, rfl, rfl, ?_, rfl, by decide, z, ?_, by decide +kernel, by decide, ?_, by decide, ?_, by decide⟩
  · exact held_said _ _ (by decide) (by decide) rfl (by simp [MeshOut.payload, be, le, mapBytes]) (by rfl)
  · exact held_said _ _ (by decide) (by decide) rfl p (by rfl)
  · exact held_said _ _ (by decide) (by decide) rfl (by simp [MeshOut.payload, be, le]) (by rfl)
  · exact held_said _ _ (by decide) (by decide) rfl (by simp [MeshOut.payload, be, le, mapBytes]) (by rfl)
  · exact held_said _ _ (by decide) (by decide) rfl (by simp [MeshOut.payload, be, le, mapBytes]) (by rfl)

/-- The transfer before its last END. -/
def ending : State := linkUp fun c => { c with req := some (asks 2) }

/-- The hash of the descriptor that the END under header `h` would leave. -/
def endHash (h : MeshHead) : W64 :=
  let c := (asks 2).got.foldl (fun (c : Channel) p => (c.setPage p.index p.data).valuePage p.index) ((linked ending .a .b h).ch .a)
  (c.descriptor ending.vital.cycle (asks 2).full (pageSet (c.dirty ++ (asks 2).got.map (·.index)))).hash

/-- DeltaTransferIsConfirmedByItsHash: the hash that is right, one that is not, a page missing, and a deadline. -/
theorem test_delta_end : Supplied ending ∧ (ending.ch .a).req = some (asks 2) ∧ (asks 2).round = 2 ∧ (asks 2).supplier = .b
    ∧ (asks 2).round < 3 ∧ (∀ j ∈ [3], j ∈ (asks 2).fresh) ∧ (∃ j ∈ [4], j ∉ (asks 2).fresh)
    ∧ (∀ h : W64, Held ending .a .b (said (.deltaEnd 3 1 h [3])) (.deltaEnd 3 1 h [3]))
    ∧ (∃ h : W64, endHash (said (.deltaEnd 3 1 h [3])) = h) ∧ (∃ h : W64, endHash (said (.deltaEnd 3 1 h [3])) ≠ h) := by
  refine ⟨rfl, rfl, rfl, rfl, by decide, by decide, by decide, fun h => ?_, ⟨endHash (said .idle), rfl⟩,
    ⟨~~~endHash (said .idle), fun h => ?_⟩⟩
  · exact held_said _ _ (by decide) (by decide) rfl (by simp [MeshOut.payload, be, le, mapBytes]) (by rfl)
  · have e : endHash (said (.deltaEnd 3 1 (~~~endHash (said .idle)) [3])) = endHash (said .idle) := rfl
    exact absurd (congrArg (fun (x : W64) => x.getLsbD 0) (e.symm.trans h)) (by simp)

/-- Two bundles that differ in one bit of the store data while a store is made. -/
def bundle (d : W32) : Bundle := ⟨0, 8, 0, 0xFF, d, 0⟩

/-- ComparisonAndMemoryErrorsAssert: equal and unequal bundles, a channel that is `OFF` and one in reset, each read. -/
theorem test_compare : Supplied runs ∧ (runs.ch .a).role ≠ .off ∧ (runs.ch .a).inReset = false
    ∧ (Bundle.mismatch (bundle 0) (bundle 1)).isSome = true ∧ Bundle.mismatch (bundle 1) (bundle 1) = none
    ∧ ((chA fun c => { c with role := .off }).ch .a).role = .off
    ∧ ((chA fun c => { c with inReset := true }).ch .a).inReset = true
    ∧ (let good : EccWord := ⟨7, eccCheck 0x20 7⟩
       good.read 0x20 = .clean ∧ ({ good with word := 5 } : EccWord).read 0x20 = .corrected 7
        ∧ ({ good with check := good.check ^^^ 1 } : EccWord).read 0x20 = .corrected 7
        ∧ ({ good with word := 4 } : EccWord).read 0x20 = .uncorrectable) := by simp only [Supplied]; decide +kernel

/-- AChannelComesBackFromItsReset. -/
theorem test_channel_back : Supplied resyncs ∧ (resyncs.ch .b).role ≠ .off ∧ (resyncs.ch .b).role = .resync
    ∧ (resyncs.ch .b).inReset = false ∧ ((chA fun c => { c with role := .off }).ch .a).role = .off := by
  simp only [Supplied]; decide

/-- DualTimeIsLimited: both sides of each limit. -/
theorem test_dual :
    let s : State := { runs with
      vital := { runs.vital with ladder := .dual, dualMs := 60000 }, sdi := { runs.sdi with sdi := some { Sdi.none_ with dualMin := 1 } } }
    Supplied s ∧ s.mstate = .run ∧ s.vital.running = true ∧ s.vital.ladder = .dual ∧ s.dat.dualMin * 60000 ≤ s.vital.dualMs
    ∧ 59999 < s.dat.dualMin * 60000
    ∧ (86400000 : Nat) ≤ ({ runs.vital with fullMs := 86400000 } : Vital).fullMs ∧ runs.vital.fullMs < 86400000 := by
  simp only [Supplied]; decide

/-! ## Witnesses: field banks -/

/-- The module with bank 1 changed. -/
def bankHw (f : BankHw → BankHw) : State := { runs with banks := runs.banks.set .a (f BankHw.reset) }

/-- A line with a valid enable. -/
def enabledLine : BankLine := ⟨none, false, 4, true, 0, false⟩

/-- A bank whose image is not complete. -/
def noImage : State := { runs with upd := { runs.upd with unbooted := [.bank .b1] } }

/-- BankFlagsFollowTheirCommand and BankSwitchesFollowSupplyAndPump: a bank that has started and one that has not; with two valid
enables and with none; configured with its pump ready and its supply there. -/
theorem test_bank_enables : Supplied runs ∧ runs.bankUp .b1 = true ∧ noImage.bankUp .b1 = false ∧ (runs.hw .b1).enables < 2
    ∧ (let b := (bankHw fun b => { b with
          lines := ⟨enabledLine, enabledLine, b.lines.c, b.lines.d⟩, config := false, pumpReady := true }).hw .b1
       2 ≤ b.enables ∧ b.config = false ∧ b.pumpReady = true ∧ b.ufCut = false) := by
  simp only [Supplied]; decide

/-- A good command frame of channel A for bank 1. -/
def cmdFrame : CmdFrame := CmdFrame.closed ⟨1, 0, 0, 1, 3, 0xFF, 0, 0, 0, 0⟩

/-- BankLinesCountOnlyWhileEnabledAndFresh and CommandFrameIsTakenUpByItsLine: the limits of a half-period; a good frame, one whose
CRC fails, and a good one of each other type, test, line and bank. -/
theorem test_bank_lines : Supplied runs ∧ runs.bankUp .b1 = true ∧ (40 ≤ 40 ∧ 40 ≤ 60) ∧ (40 ≤ 60 ∧ 60 ≤ 60) ∧ 39 < 40 ∧ 60 < 61
    ∧ CmdFrame.crcOk cmdFrame = true ∧ cmdFrame.typ = 1 ∧ cmdFrame.test.toNat < 2 ∧ cmdFrame.src.toNat = Ch.a.idx
    ∧ cmdFrame.bank.toNat = Bank.b1.idx ∧ CmdFrame.crcOk { cmdFrame with seq := 4 } = false
    ∧ (∀ f ∈ [CmdFrame.closed { cmdFrame with typ := 2 }, CmdFrame.closed { cmdFrame with test := 2 },
        CmdFrame.closed { cmdFrame with src := 1 }, CmdFrame.closed { cmdFrame with bank := 1 }],
      CmdFrame.crcOk f = true ∧ (f.typ ≠ 1 ∨ 2 ≤ f.test.toNat ∨ f.src.toNat ≠ Ch.a.idx ∨ f.bank.toNat ≠ Bank.b1.idx)) := by
  simp only [Supplied]; decide +kernel

/-- CommandFrameIsTakenUpByItsLine, the output test: two lines that ask for output 0 with both its switches closed. -/
theorem test_bank_test :
    let asks : BankLine := { enabledLine with cmd := some cmdFrame, fresh := true }
    let b := (bankHw fun b => { b with
      config := false, pumpReady := true, lines := ⟨asks, asks, b.lines.c, b.lines.d⟩, pSw := 1, mSw := 1 }).hw .b1
    b.test = none ∧ b.request = some 0 ∧ b.pSw.getLsbD 0 = true ∧ b.mSw.getLsbD 0 = true := by decide +kernel

/-- A good configuration frame of channel A for bank 1. -/
def cfgFrame (item v0 v1 v2 : Byte) : CfgFrame := CfgFrame.closed ⟨2, 0, 0, 0, 3, item, v0, v1, v2, 0⟩

/-- BankConfigurationNeedsTwoLines: an item a second line offers, the second COMMIT, a COMMIT of another value, outside CONFIG. -/
theorem test_bank_config : Supplied runs ∧ runs.bankUp .b1 = true
    ∧ (∀ f ∈ [cfgFrame 1 2 3 4, cfgFrame 0xFF 28 0 0, cfgFrame 0xFF 27 0 0], CfgFrame.crcOk f = true ∧ f.typ = 2
        ∧ f.test.toNat < 2 ∧ f.src.toNat = Ch.a.idx ∧ f.bank.toNat = Bank.b1.idx)
    ∧ cfgItemOk 0x01 = true ∧ (0x01 : Byte) ≠ 0xFF ∧ (27 : Byte) ≠ 28
    ∧ (let b := (bankHw fun b => { b with offers := [(.b, ⟨1, 2, 3, 4⟩)] }).hw .b1
       b.config = true ∧ ∃ x ∈ b.offers, x.1 ≠ Ch.a ∧ x.2 = ⟨1, 2, 3, 4⟩)
    ∧ (let b := (bankHw fun b => { b with items := List.replicate 28 ⟨1, 2, 3, 4⟩, commits := [.b] }).hw .b1
       b.config = true ∧ b.items.length = 28 ∧ ∃ x ∈ b.commits, x ≠ Ch.a)
    ∧ ((bankHw fun b => { b with config := false }).hw .b1).config = false := by simp only [Supplied]; decide +kernel

/-- The items of inputs 1 and 24 on test-pulse source 0, wire-break detection on, and of two non-vital outputs. -/
def itemized (b : BankHw) : BankHw :=
  { b with config := false, items := [⟨0, 3, 0xE8, 1⟩, ⟨23, 3, 0xE8, 3⟩, ⟨0x20, 0, 0, 1⟩, ⟨0x21, 0, 0, 2⟩] }

/-- BankInputCommandsSetOneBit and BankOutputsOpenOnLimitAndSilence: the first and the last input, held long enough and too short, free
and frozen; the last outputs of bank 4, and a silence with and without a hold. -/
theorem test_bank_io : Supplied runs ∧ runs.bankUp .b1 = true ∧ runs.bankUp .b4 = true ∧ (1 ≤ 1 ∧ 24 ≤ 24) ∧ Bank.ofIdx (31 / 8) = .b4
    ∧ (∀ n ∈ [1, 24], (runs.hw .b1).frozen (n - 1) = false ∧ (runs.hw .b1).debounceUs (n - 1) ≤ 1000
        ∧ 999 < (runs.hw .b1).debounceUs (n - 1))
    ∧ (let b := (bankHw itemized).hw .b1
       b.config = false ∧ b.votes = [] ∧ b.wireOn 1 = true ∧ b.wireOn 24 = true ∧ b.frozen (1 - 1) = false
        ∧ b.item (0x1F + 1) = some ⟨0x20, 0, 0, 1⟩ ∧ b.item (0x1F + 2) = some ⟨0x21, 0, 0, 2⟩)
    ∧ (∃ src n, ((bankHw itemized).hw .b1).pulsed (src - 1) = [n - 1]
        ∧ ((bankHw fun b => { itemized b with freeze := some (src - 1) }).hw .b1).frozen (n - 1) = true) := by
  simp only [Supplied]
  exact ⟨rfl, rfl, rfl, by decide, rfl, by decide, by decide, ⟨1, 24, by decide⟩⟩

/-- An input frame of bank 1 for channel A. -/
def inFrame : InputFrame := InputFrame.closed ⟨3, 0, 0, 0, 1, BankImage.none_, 0⟩

/-- BarrierFramesGoOutAndAreLatched: a frame meant for the channel, four that are not taken, and a channel that emits. -/
theorem test_barrier : Supplied runs ∧ runs.bankUp .b1 = true ∧ InputFrame.crcOk inFrame = true ∧ inFrame.typ = 3
    ∧ inFrame.dest.toNat = Ch.a.idx ∧ inFrame.bank.toNat = Bank.b1.idx
    ∧ InputFrame.crcOk { inFrame with frameSeq := 2 } = false ∧ ({ inFrame with typ := 2 } : InputFrame).typ ≠ 3
    ∧ inFrame.dest.toNat ≠ Ch.b.idx ∧ inFrame.bank.toNat ≠ Bank.b2.idx ∧ runs.mstate = .run ∧ (runs.ch .a).role = .voting
    ∧ ((chA fun c => { c with emitting := true }).ch .a).emitting = true := by simp only [Supplied]; decide +kernel

/-! ## Witnesses: faults -/

/-- A shadow of channel A. -/
def shadowA : Shadow := ⟨.a, 0, 2, none, 0⟩

/-- A fault record that holds a shadow. -/
def shadowRec : FaultRec := { runs.newFault 0 false with shadow := some shadowA }

/-- AnAssertionReactsAtItsLevel: each level, and a source that a shadow takes. -/
theorem test_levels :
    (let s := withCol fun c => { c with recs := some shadowRec :: List.replicate 15 none }
     s.shadowSlot 0x40 = some 0 ∧ (s.frec 0).isSome = true)
    ∧ (runs.shadowSlot 0x1E3 = none ∧ (runs.srcCfg 0x1E3).esc = 0 ∧ (runs.srcCfg 0x1E3).level ≤ 1)
    ∧ (runs.shadowSlot 0x80 = none ∧ (runs.srcCfg 0x80).esc = 0 ∧ (runs.srcCfg 0x80).level = 2)
    ∧ (runs.shadowSlot 0 = none ∧ (runs.srcCfg 0).esc = 0 ∧ (runs.srcCfg 0).level = 3 ∧ Ch.ofIdx (runs.srcCfg 0).target = .a
      ∧ runs.resettable = true ∧ (runs.ch .a).role ≠ .off ∧ runs.vital.ladder ≠ .dual ∧ (inState .safe).resettable = false
      ∧ ((inState .safe).srcCfg 0).level = 3)
    ∧ (runs.shadowSlot 0x49 = none ∧ (runs.srcCfg 0x49).esc = 0 ∧ (runs.srcCfg 0x49).level = 4)
    ∧ (runs.shadowSlot 0x1F0 = none ∧ (runs.srcCfg 0x1F0).esc = 0 ∧ (runs.srcCfg 0x1F0).level = 5
      ∧ runs.mstate ≠ .lockout ∧ runs.mstate ≠ .shutdown) := by decide

/-- InSafeAndLockoutNoChannelCycles: levels 3, 4 and 5 in `SAFE`, and one that falls due. -/
theorem test_safe_levels : Supplied (inState .safe) ∧ (inState .safe).mstate = .safe
    ∧ (inState .safe).shadowSlot 0 = none ∧ ((inState .safe).srcCfg 0).esc = 0 ∧ ((inState .safe).srcCfg 0).level = 3
    ∧ (inState .safe).can.emcys.length < 16
    ∧ (inState .safe).shadowSlot 0x49 = none ∧ ((inState .safe).srcCfg 0x49).esc = 0 ∧ ((inState .safe).srcCfg 0x49).level = 4
    ∧ (inState .safe).shadowSlot 0x1F0 = none ∧ ((inState .safe).srcCfg 0x1F0).esc = 0 ∧ ((inState .safe).srcCfg 0x1F0).level = 5
    ∧ (inState .safe).lock.place = some 0
    ∧ ({ inState .safe with col := { Collector.reset with escal := [⟨0, 100000, false⟩] } } : State).escalOf 0
        = some ⟨0, 100000, false⟩ := by simp only [Supplied]; decide

/-- NoMajorityIsAssertedInHardware: no end of P5, and two. -/
theorem test_p5 : Supplied runs ∧ runs.mstate = .run ∧ runs.vital.p5Count < 2
    ∧ 2 ≤ ({ runs.vital with chans := ⟨{ chVoting with p5End := true }, { chVoting with p5End := true }, chVoting, chVoting⟩ } :
      Vital).p5Count := by simp only [Supplied]; decide

/-- A mesh link source of class V waits for its acknowledgement. -/
def escalates : State := withCol fun c => { c with escal := [⟨0x40, 100010, false⟩] }

/-- An N-class source waits under an override. -/
def escalatesN : State := withCol fun c => { c with
  overrides := [(0x1E3, BitVec.ofNat 32 (1 * 2 ^ 28 + 100 * 2 ^ 18))], escal := [⟨0x1E3, 100010, false⟩] }

/-- An acknowledgement of the mesh link source by two voting channels. -/
def ackV (code applied : Nat) : AckWord := ⟨byteOf code, applied, .b, 0x40⟩

/-- AssertionsAreCountedAndEscalate: an escalation before and at its end. -/
theorem test_escalation : Supplied runs ∧ 0x1FF < 0x200 ∧ 0x40 < 0x200 ∧ runs.shadowSlot 0x40 = none ∧ (runs.srcCfg 0x40).esc ≠ 0
    ∧ escalates.escalOf 0x40 = some ⟨0x40, 100010, false⟩ ∧ escalates.svc.ms < 100010
    ∧ 100010 ≤ ({ escalates with svc := ⟨100010, 0, 0⟩ } : State).svc.ms
    ∧ (escalates.srcCfg 0x40).level = 3 ∧ escalates.resettable = true
    ∧ (escalates.ch (Ch.ofIdx (escalates.srcCfg 0x40).target)).role ≠ .off := by simp only [Supplied]; decide

/-- AcknowledgementsSettleEscalations: handled, lowered, dismissed, redirected, and not taken. -/
theorem test_acks :
    (escalates.ackable (ackV 1 3) 1 (.chans [.a, .c] true) = some ⟨0x40, 100010, false⟩ ∧ (escalates.srcCfg 0x40).level ≤ 3)
    ∧ (escalates.ackable (ackV 1 2) 1 (.chans [.a, .c] true) = some ⟨0x40, 100010, false⟩ ∧ 2 < (escalates.srcCfg 0x40).level)
    ∧ (escalatesN.ackable ⟨2, 0, .a, 0x1E3⟩ 2 .svc = some ⟨0x1E3, 100010, false⟩ ∧ (escalatesN.srcCfg 0x1E3).v = false)
    ∧ escalatesN.ackable ⟨3, 0, .a, 0x1E3⟩ 3 .svc = some ⟨0x1E3, 100010, false⟩
    ∧ (escalates.srcCfg 0x40).v = true
    ∧ (escalates.ackable (ackV 4 3) 4 (.chans [.a, .c] true) = some ⟨0x40, 100010, false⟩
      ∧ (ackV 4 3).channel = (linkEnds 0x40).2 ∧ escalates.resettable = true ∧ (escalates.ch .b).role ≠ .off)
    ∧ escalates.ackable (ackV 1 3) (ackV 1 3).code .svc = none := by decide

/-- CollectorIsScannedForcedAndOverridden: a pair of each class that disagrees, with and without an open record, one that agrees, and
both ends of the life-cycle and class conditions. -/
theorem test_collector : Supplied runs ∧ runs.mstate = .run
    ∧ (CfgPair.agrees ⟨0, 0x80000000, 0⟩ = false ∧ CfgPair.vital ⟨0, 0x80000000, 0⟩ = true)
    ∧ (CfgPair.agrees ⟨0x1E3, 0, 0xFFFFFFFE⟩ = false ∧ CfgPair.vital ⟨0x1E3, 0, 0xFFFFFFFE⟩ = false)
    ∧ CfgPair.agrees ⟨0x1E3, 0, 0xFFFFFFFF⟩ = true
    ∧ runs.col.recs.findIdx? (·.isSome) = none
    ∧ (let s := withCol fun c => { c with recs := some shadowRec :: List.replicate 15 none }
       s.col.recs.findIdx? (·.isSome) = some 0 ∧ s.frec 0 = some shadowRec)
    ∧ (2 ≤ (runs.client me).level ∧ ({ runs with life := { runs.life with state := 1 } } : State).life.state = 1)
    ∧ (runs.life.state ≠ 1 ∧ runs.life.state ≠ 3)
    ∧ (({ runs with life := { runs.life with state := 1, sw1Svc := 0xFF } } : State).asked me).check me .rwm true
        ((SrcCfg.ofWord 0x10000000).level ≤ 2 && (SrcCfg.ofWord 0x10000000).esc ≤ 1000) = none
    ∧ (imageCfg 0).v = true ∧ (imageCfg 0x1E3).v = false ∧ (0x10000000 : W32) ≠ 0 := by simp only [Supplied]; decide

/-! ## Witnesses: twin -/

/-- A heartbeat of the twin as its lane delivers it. -/
def beat : Heartbeat :=
  let h : Heartbeat := ⟨2, 2, 1, 0, 0, 7, 0, 0, 0, 0, 1, [], 0, 0⟩
  let g := { h with crc := crc32c (Heartbeat.body h) }
  { g with link := crc32c (Heartbeat.wire g) }

/-- A Veneer frame with nothing in it. -/
def veneer : Veneer :=
  let v : Veneer := ⟨1, false, false, false, 2, 9, 0, 0, 0, 0, 0, Quad.all 0, [], [], []⟩
  { v with unitCrcs := [crc32c (Veneer.wire v)] }

/-- The module as TWIN-A. -/
def twinA : State := { runs with life := { runs.life with position := 1 } }

/-- TwinLinkTakesEachUnitOnce: a single module and a twin module; a heartbeat sent with CVU6 in and out of service; a good heartbeat, one
the link spoils, one whose own CRC fails, and a second copy; a Veneer frame new, spoilt and seen. -/
theorem test_twin : Supplied twinA ∧ runs.life.position = 0 ∧ twinA.life.position ≠ 0 ∧ twinA.mstate = .run
    ∧ (∃ l, (twinA.begin.cvuAppend 6 (Heartbeat.wire (twinA.begin.heartbeat []))).2 = some l)
    ∧ ((twinA.begin.modCvu 6 fun u => { u with failed := true, pass := false }).cvuAppend 6 (Heartbeat.wire beat)).2 = none
    ∧ (twinA.begin.cvuStrip 7 (Heartbeat.wire beat ++ be 4 beat.link.toNat)).2 = true ∧ Heartbeat.crcOk beat = true
    ∧ (twinA.begin.cvuStrip 7 (Heartbeat.wire beat ++ be 4 0)).2 = false
    ∧ (let b := { beat with crc := 0 }
       let c := { b with link := crc32c (Heartbeat.wire b) }
       (twinA.begin.cvuStrip 7 (Heartbeat.wire c ++ be 4 c.link.toNat)).2 = true ∧ Heartbeat.crcOk c = false)
    ∧ twinA.twin.valid = false
    ∧ (let s : State := { twinA with twin := { twinA.twin with valid := true, last := some beat } }
       s.twin.valid = true ∧ s.twin.last = some beat
        ∧ (s.begin.cvuStrip 7 (Heartbeat.wire beat ++ be 4 beat.link.toNat)).2 = true)
    ∧ (twinA.begin.stripUnits (Veneer.wire veneer) veneer.unitCrcs).2 = true ∧ veneer.version = 1
    ∧ (twinA.begin.stripUnits (Veneer.wire veneer) [0]).2 = false ∧ twinA.twin.gotVeneer ≠ some veneer.cycle
    ∧ ({ twinA with twin := { twinA.twin with gotVeneer := some 9 } } : State).twin.gotVeneer = some veneer.cycle := by
  simp only [Supplied]
  refine ⟨rfl, rfl, by decide, rfl, Option.isSome_iff_exists.mp (by decide +kernel), ?_⟩
  decide +kernel

/-! ## Witnesses: starts, restarts and lock-out -/

/-- A module with a schedule at its device time. -/
def scheduled : State :=
  { runs with
    upd := { runs.upd with schedule := some (3, ⟨10, 0⟩) }
    time := { runs.time with now := ⟨10, 0⟩, source := .ptpA, ptpMs := some 40000 } }

/-- RestartsAreTakenOutsideRun: each state, word, hold time and number of channels at its limit, and a schedule due with PTP, without it and
not yet due. -/
theorem test_restarts : Supplied runs ∧ 1 ≤ (runs.client me).level ∧ (inState .safe).mstate.restarts = true
    ∧ 1 ≤ ((inState .safe).client me).level ∧ runs.mstate = .run ∧ (0x5A5B : W16) ≠ 0x5A5A ∧ (50 ≤ 50 ∧ 50 ≤ 2000)
    ∧ (50 ≤ 2000 ∧ 2000 ≤ 2000)
    ∧ ([Ch.a, .b].eraseDups.length = 2 ∧ [Ch.a, .a].eraseDups.length < 2)
    ∧ (scheduled.upd.schedule = some (3, ⟨10, 0⟩) ∧ (⟨10, 0⟩ : DTime).nanos ≤ scheduled.time.now.nanos
      ∧ isPtp scheduled.time.source = true ∧ scheduled.time.ptpMs = some 40000 ∧ 40000 + 60000 ≤ scheduled.svc.ms)
    ∧ isPtp ({ scheduled with time := { scheduled.time with source := .none } } : State).time.source = false
    ∧ (let s : State := { scheduled with time := { scheduled.time with now := ⟨9, 999999999⟩ } }
       s.time.now.nanos < (⟨10, 0⟩ : DTime).nanos) := by simp only [Supplied]; decide

/-- A module in `LOCKOUT` with an open window. -/
def locked : State := { inState .lockout with lock := { Lockout.reset with code := 0x1234, window := some 100001 } }

/-- LockoutIsResetByItsCodeOnly: within the window, at its end, with none, and below OPERATE. -/
theorem test_lockout : Supplied locked ∧ locked.mstate = .lockout ∧ 2 ≤ [Ch.a, .b].eraseDups.length
    ∧ 1 ≤ (locked.client me).level ∧ locked.lock.window = some 100001 ∧ locked.svc.ms < 100001
    ∧ (0x1234 : W16).toNat = locked.lock.code ∧ (0x1235 : W16).toNat ≠ locked.lock.code
    ∧ (inState .lockout).lock.window = none ∧ runs.mstate ≠ .lockout ∧ 1 ≤ (runs.client me).level ∧ (locked.client guest).level < 1
    ∧ 100001 ≤ ({ locked with svc := ⟨100001, 0, 0⟩ } : State).svc.ms := by simp only [Supplied]; decide

/-! ## Witnesses: routes and elements -/

/-- Station data with a point, a lamp-proved signal, a key lock on the point, a level crossing, a section with a source, and
one local and one remote head. -/
def station : Sdi :=
  { Sdi.none_ with
    elems := [⟨1, 0, 0, 0, 0, 0, .pt 0 0 0 0 0 0 0, []⟩, ⟨2, 0, 0, 0, 0, 0, .sg 0 1 0 0 0 0, []⟩,
      ⟨3, 0, 0, 0, 0, 0, .kl 1 0, []⟩, ⟨4, 0, 0, 0, 0, 0, .lx 0 10 0, []⟩, ⟨5, 0, 0, 0, 0, 0, .ts 1 0 0 0 80, []⟩,
      ⟨6, 0, 0, 0, 0, 0, .sg 0 0 0 0 0 0, []⟩]
    lists := [⟨7, 0, 0xFFFF, []⟩]
    heads := [⟨0, 0, 0, 0, 0, 0, 0, 0, 0⟩, ⟨16, 1, 0, 0, 0, 0, 0, 0, 0⟩]
    partners := [⟨0, 0, 4, 0, 30712, 0, 0, 500, 20, 200, 0, 40⟩] }

/-- The module with that station data. -/
def stands (f : Kernel → Kernel) : State :=
  { withK f with sdi := { runs.sdi with sdi := some station } }

/-- A route whose timer of a kind is due. -/
def timed (t : RTimer) : RouteSt := { RouteSt.idle 9 0 0 with state := .locked, timer := some (t, 2500), ovlAlt := some 7, ovlLocked := true }

/-- The module with a route whose timer is due. -/
def routed (t : RTimer) : State := stands fun k => { k with routes := [timed t] }

/-- RouteTimersReleaseWhatTheyHold: each timer at its cycle, an overlap whose sections are clear and one whose are not, and the
release. -/
theorem test_route_timers : Supplied (routed .approach) ∧ (routed .approach).mstate = .run ∧ (routed .approach).kernel.drives = true
    ∧ (∀ t ∈ [RTimer.approach, .emergency, .overlap], (routed t).kernel.rst 9 = some (timed t) ∧ (timed t).id = 9
      ∧ 2500 ≤ (routed t).kernel.cycle ∧ (timed t).timer = some (t, 2500) ∧ (timed t).ovlAlt = some 7
      ∧ ∀ x ∈ (routed t).dat.ovlSections 7, (routed t).kernel.clear x = true)
    ∧ (∃ x ∈ ({ station with lists := [⟨7, 0, 0xFFFF, [⟨5, 0, 0⟩]⟩] } : Sdi).ovlSections 7, runs.kernel.clear x = false)
    ∧ (∃ r, ((routed .overlap).kernel.releaseOvl (routed .overlap).dat 9).rst 9 = some r) := by
  simp only [Supplied]
  exact ⟨by decide, by decide, by decide, by decide, by decide, Option.isSome_iff_exists.mp (by decide)⟩

/-- A point in a state. -/
def pointIn (st : PState) : PtSt := ⟨st, some 1, 2500, 0, 0, false, false, false, false, 0, false⟩

/-- The element in a kind, in the kernel. -/
def withEl (n : Nat) (x : ElemKind) (l : List AttrVal) : State := stands fun k => { k with elems := [⟨n, false, x⟩], attrs := l }

/-- PointSupervisionEndsInLost: the last cycle of a throw, the last of a grace, and a throw timeout of a point that does not move. -/
theorem test_points :
    let s := withEl 1 (.pt (pointIn .moving)) []
    let t := withEl 1 (.pt (pointIn .normal)) []
    Supplied s ∧ s.mstate = .run ∧ s.kernel.drives = true
    ∧ s.kernel.pt 1 = some (pointIn .moving) ∧ (pointIn .moving).state = .moving ∧ (pointIn .moving).deadline ≤ s.kernel.cycle
    ∧ t.vital.evaluated ≠ some t.vital.cycle ∧ t.kernel.pt 1 = some (pointIn .normal) ∧ (pointIn .normal).state.pos = some 0
    ∧ t.kernel.attr 1 (1 + 0) = 0 ∧ t.dat.grace 1 ≤ (pointIn .normal).missing + 1 ∧ (pointIn .normal).state ≠ .moving := by
  simp only [Supplied]; decide

/-- A signal that changed its code 301 ms ago. -/
def signal (shown : Nat) : SgSt := ⟨shown, shown, 99699, false, false, false⟩

/-- LampProofIsJudgedOnceItIsDue: a signal that shows a code and one that shows stop past 300 ms, and one without lamp proving. -/
theorem test_lamps : (∀ c ∈ [0, 1],
      let s := withEl 2 (.sg (signal c)) []
      Supplied s ∧ s.mstate = .run ∧ s.kernel.drives = true ∧ s.kernel.sg 2 = some (signal c)
      ∧ (∃ e ∈ station.elems, e.id = 2 ∧ s.dat.elem 2 = some e ∧ e.lampProving = true)
      ∧ 300 < s.kernel.gone (signal c).changedAt ∧ (signal c).shown = c ∧ s.kernel.attr 2 2 ≠ 1 ∧ s.kernel.attr 2 1 ≠ 1)
    ∧ (let s := withEl 6 (.sg (signal 1)) []
       ∃ e ∈ station.elems, e.id = 6 ∧ s.dat.elem 6 = some e ∧ s.kernel.sg 6 = some (signal 1) ∧ e.lampProving = false
        ∧ s.kernel.outFailed e aspectAttr = false) := by simp only [Supplied]; decide

/-- A signal with both latches. -/
def latched : SgSt := { signal 0 with lampFault := true, stopUnproven := true }

/-- BlockSetsAndUnblockClears: a blockable element, blocked and not, and one that is not blockable. -/
theorem test_blocking :
    let s := withEl 2 (.sg latched) []
    Supplied s ∧ s.mstate = .run ∧ 1 ≤ (s.client me).level ∧ 2 < 4096 ∧ s.kernel.elem 2 = some ⟨2, false, .sg latched⟩
    ∧ blockable (some (.sg latched)) = true
    ∧ (stands fun k => { k with elems := [⟨2, true, .sg latched⟩] }).kernel.elem 2 = some ⟨2, true, .sg latched⟩
    ∧ (withEl 3 (.kl ⟨.fault, 0, none⟩) []).kernel.elem 3 = some ⟨3, false, .kl ⟨.fault, 0, none⟩⟩
    ∧ blockable (some (.kl ⟨.fault, 0, none⟩)) = false := by simp only [Supplied]; decide

/-- FaultResetClearsWhatIsMended: a signal whose proofs are right and one whose are not, a key lock and a crossing. -/
theorem test_fault_reset :
    let s := withEl 2 (.sg latched) [⟨2, 1, 1, true⟩]
    let t := withEl 2 (.sg latched) []
    let u := withEl 3 (.kl ⟨.fault, 0, none⟩) [⟨3, 1, 1, true⟩]
    let v := withEl 4 (.lx ⟨.failed, 0, none, true, false⟩) []
    Supplied s ∧ s.mstate = .run ∧ 1 ≤ (s.client me).level
    ∧ (∃ e ∈ station.elems, e.id = 2 ∧ station.elem 2 = some e ∧ s.kernel.kind 2 = some (.sg latched) ∧ latched.lampFault = true
      ∧ s.kernel.lampClear e latched = true ∧ t.kernel.kind 2 = some (.sg latched) ∧ t.kernel.lampClear e latched = false)
    ∧ (∃ e ∈ station.elems, e.id = 3 ∧ station.elem 3 = some e ∧ u.kernel.kind 3 = some (.kl ⟨.fault, 0, none⟩)
      ∧ u.kernel.attr 3 1 = 1)
    ∧ (∃ e ∈ station.elems, e.id = 4 ∧ station.elem 4 = some e ∧ v.kernel.kind 4 = some (.lx ⟨.failed, 0, none, true, false⟩)
      ∧ v.kernel.lxDemand v.dat 4 = false ∧ v.kernel.attr 4 3 = 0) := by simp only [Supplied]; decide

/-- The key lock beside its point, detected in position. -/
def keyed (l : KlSt) (a : List AttrVal) : State :=
  stands fun k => { k with elems := [⟨1, false, .pt (pointIn .normal)⟩, ⟨3, false, .kl l⟩], attrs := a }

/-- KeyLockIsReleasedAndReturned: granted, refused, withdrawn, 60 s unused, 1 s back. -/
theorem test_keys :
    let s := keyed ⟨.keyIn, 0, none⟩ [⟨1, 1, 1, true⟩]
    let t := stands fun k => { k with elems := [⟨1, false, .pt (pointIn .lost)⟩, ⟨3, false, .kl ⟨.keyIn, 0, none⟩⟩] }
    let u := keyed ⟨.released, 40000, none⟩ [⟨3, 1, 1, true⟩]
    let v := keyed ⟨.keyOut, 0, some 99000⟩ [⟨3, 1, 1, true⟩]
    Supplied s ∧ s.mstate = .run ∧ 1 ≤ (s.client me).level ∧ s.kernel.drives = true
    ∧ (∃ e ∈ station.elems, e.id = 3 ∧ station.elem 3 = some e ∧ e.spec = .kl 1 0)
    ∧ s.kernel.kind 3 = some (.kl ⟨.keyIn, 0, none⟩) ∧ s.kernel.keyFree s.dat 1 0 = true
    ∧ t.kernel.kind 3 = some (.kl ⟨.keyIn, 0, none⟩) ∧ t.kernel.keyFree t.dat 1 0 = false
    ∧ u.kernel.kind 3 = some (.kl ⟨.released, 40000, none⟩) ∧ u.kernel.attr 3 1 = 1 ∧ 60000 ≤ u.kernel.gone 40000
    ∧ v.kernel.kind 3 = some (.kl ⟨.keyOut, 0, some 99000⟩) ∧ v.kernel.attr 3 1 = 1 ∧ 1000 ≤ v.kernel.gone 99000 := by
  simp only [Supplied]; decide

/-- LevelCrossingFailsLateAndRecovers: a demand by a section that is not `CLEAR`, at the limit, and after 2 s. -/
theorem test_crossings :
    let s : State := { withEl 4 (.lx ⟨.closing, 2500, none, false, false⟩) [] with
      sdi := { runs.sdi with sdi := some { station with
        elems := [⟨4, 0, 0, 0, 0, 0, .lx 0 10 7, []⟩, ⟨5, 0, 0, 0, 0, 0, .ts 1 0 0 0 80, []⟩], lists := [⟨7, 0, 0xFFFF, [⟨5, 0, 0⟩]⟩] } } }
    let t : State := { s with kernel := { s.kernel with
      elems := [⟨4, false, .lx ⟨.failed, 0, some 98000, true, false⟩⟩], attrs := [⟨4, 1, 1, true⟩] } }
    Supplied s ∧ s.mstate = .run ∧ s.kernel.drives = true ∧ s.kernel.kind 4 = some (.lx ⟨.closing, 2500, none, false, false⟩)
    ∧ s.kernel.lxDemand s.dat 4 = true ∧ s.kernel.attr 4 3 ≠ 1 ∧ s.kernel.lxProved s.dat 4 = false ∧ 2500 ≤ s.kernel.cycle
    ∧ t.kernel.kind 4 = some (.lx ⟨.failed, 0, some 98000, true, false⟩)
    ∧ t.kernel.lxDemand t.dat 4 = true ∧ t.kernel.attr 4 3 ≠ 1 ∧ t.kernel.lxProved t.dat 4 = true ∧ 2000 ≤ t.kernel.gone 98000 := by
  simp only [Supplied]; decide

/-! ## Witnesses: axle counting, inputs and outputs -/

/-- A remote head whose last report came 2,000 ms ago, and one a millisecond later. -/
def remoteHead (t : Int) : HeadSt := { HeadRec.cold ⟨16, 1, 0, 0, 0, 0, 0, 0, 0⟩ with state := .active, reportAt := some t }

/-- A module whose evaluator did not advance for three evaluations. -/
def stuck (x y : Nat) : State :=
  stands fun k => { k with
    heads := [remoteHead 98000, HeadRec.cold ⟨0, 0, 0, 0, 0, 0, 0, 0, 0⟩]
    ev := { Evaluator.reset with noAdvance := 3, xStuck := x, yStuck := y }
    elems := [⟨5, false, .ts ⟨.clear, 2, false, false⟩⟩] }

/-- AxleCountingTimersAct: one processor stuck and both, the mapping invalid for three; both sides of a head's silence; a section at the
end of its delay. -/
theorem test_axles :
    let s := stuck 3 0
    Supplied s ∧ s.mstate = .run ∧ s.vital.evaluated ≠ some s.vital.cycle ∧ 3 ≤ s.kernel.ev.noAdvance
    ∧ (s.kernel.ev.xStuck ≥ 3 ∧ s.kernel.ev.yStuck < 3) ∧ ((stuck 3 3).kernel.ev.xStuck ≥ 3 ∧ (stuck 3 3).kernel.ev.yStuck ≥ 3)
    ∧ 3 ≤ (stands fun k => { k with ev := { Evaluator.reset with invalidRun := 3 } }).kernel.ev.invalidRun
    ∧ s.dat.head 16 = some ⟨16, 1, 0, 0, 0, 0, 0, 0, 0⟩ ∧ s.kernel.head 16 = some (remoteHead 98000)
    ∧ (remoteHead 98000).cause ≠ .remoteSilent ∧ 2000 ≤ s.kernel.reportAge (remoteHead 98000)
    ∧ s.kernel.reportAge (remoteHead 98001) < 2000
    ∧ (∃ e ∈ station.elems, e.id = 5 ∧ s.dat.elem 5 = some e ∧ e.spec = .ts 1 0 0 0 80)
    ∧ s.kernel.ts 5 = some ⟨.clear, 2, false, false⟩ ∧ s.dat.cycles 80 ≤ 2 := by simp only [Supplied]; decide

/-- A pair at its limit, and one in `FAULT` restrictive for 100 ms with the running cycle. -/
def pairAt (st : PairState) (since : Nat) (r : Option Nat) : PairSt :=
  { first := 0, second := 1, anti := false, limit := 200, state := st, value := none, since := since, restrictSince := r }

/-- The module with bank 1 running under an image. -/
def banked (img : BankImage) (low : Option Nat) (x : InputSt) (p : PairSt) : State :=
  withK fun k => { k with
    banks := k.banks.set .a { BankSt.reset with img := img, state := .running, lowSince := low }
    inputs := x :: k.inputs.tail
    pairs := [p] }

/-- Two members that read off. -/
def bothOff (p : PairSt) : State :=
  withK fun k => { k with
    inputs := { InputSt.reset with state := .off } :: { InputSt.reset with state := .off } :: k.inputs.tail.tail, pairs := [p] }

/-- DiscrepantPairGoesToFault: at its limit, and back after 100 ms. -/
theorem test_pairs :
    let p := pairAt .discrepant 99800 none
    let q := pairAt .fault 90000 (some 99940)
    let s := banked BankImage.none_ none InputSt.reset p
    let t := bothOff q
    Supplied s ∧ s.mstate = .run ∧ s.kernel.pairs.find? (·.first == p.first) = some p
    ∧ (s.kernel.input 0).state ≠ .held ∧ (s.kernel.input 1).state ≠ .held ∧ p.limit ≤ s.kernel.vital - p.since
    ∧ t.kernel.pairs.find? (·.first == q.first) = some q ∧ (t.kernel.input 0).state ≠ .held ∧ (t.kernel.input 1).state ≠ .held
    ∧ (if q.restrictive (t.kernel.input 0).state (t.kernel.input 1).state then some (q.restrictSince.getD t.kernel.vital) else none)
        = some 99940
    ∧ 100 + 99940 ≤ t.kernel.vital + t.dat.cycleMs := by simp only [Supplied]; decide

/-- InputLatchesFollowTheirTimes: UNDEF for 100 ms, 1 s without it, and a supply hold at its end. -/
theorem test_latches :
    let u : BankImage := { BankImage.none_ with undef := 1 }
    let x : InputSt := { InputSt.reset with undefSince := some 99940 }
    let y : InputSt := { InputSt.reset with undefClear := some 99040, undefLatched := true }
    let p := pairAt .agreed 0 none
    (let s := banked u none x p
     Supplied s ∧ s.mstate = .run ∧ 0 < 96 ∧ s.kernel.inputs.length = 96
      ∧ (s.kernel.bank 0).state = .running ∧ (s.kernel.bank 0).lowSince = none ∧ (s.kernel.rawInput 0).1 = (s.kernel.rawInput 0).2.1
      ∧ (s.kernel.input 0).crossFeed = false
      ∧ (s.kernel.rawInput 0).2.2.1 = false ∧ (s.kernel.rawInput 0).2.2.2 = true ∧ (s.kernel.input 0).undefSince = some 99940
      ∧ 100 + 99940 ≤ s.kernel.vital + s.dat.cycleMs)
    ∧ (let s := banked BankImage.none_ none y p
       (s.kernel.bank 0).state = .running ∧ (s.kernel.bank 0).lowSince = none ∧ (s.kernel.rawInput 0).1 = (s.kernel.rawInput 0).2.1
        ∧ (s.kernel.input 0).crossFeed = false ∧ (s.kernel.rawInput 0).2.2.1 = false
        ∧ (s.kernel.rawInput 0).2.2.2 = false ∧ (s.kernel.input 0).undefClear = some 99040
        ∧ 1000 + 99040 ≤ s.kernel.vital + s.dat.cycleMs)
    ∧ (let s := banked BankImage.none_ (some 99990) y p
       (s.kernel.bank 0).state = .running ∧ (s.kernel.bank 0).lowSince = some 99990 ∧ 99990 + 10 ≤ s.kernel.vital) := by
  simp only [Supplied]; decide

/-- Station data with one tested output, on for three evaluations in a running bank. -/
def tested : State :=
  { withK fun k => { k with
      banks := k.banks.set .a { BankSt.reset with state := .running, present := true }
      vouts := { VoutSt.reset with cmd := true, onRun := 3, sameRun := 3, readback := 3, judged := true } :: k.vouts.tail } with
    sdi := { runs.sdi with sdi := some { station with
      elems := [⟨8, 0, 0, 0, 0, 0, .sg 0 0 0 0 0 0, [⟨8, 0x81, 3, .vout 1 1 false true 1000⟩]⟩] } } }

/-- OutputTestsAndAbsentBanksAreTakenUp. -/
theorem test_outputs : Supplied tested ∧ tested.mstate = .run ∧ 0 < 32 ∧ 0 < tested.kernel.vouts.length
    ∧ tested.kernel.testDue tested.dat 0 = true
    ∧ tested.kernel.tests.get (Ch.ofIdx (0 / 8)) = none ∧ tested.dat.voutBind 0 = some (8, false, true, 1000)
    ∧ (let s := withK fun k => { k with banks := k.banks.set .a { BankSt.reset with absentRun := 2 } }
       s.vital.evaluated ≠ some s.vital.cycle ∧ (s.kernel.bank Bank.b1.idx).present = false
        ∧ 2 ≤ (s.kernel.bank Bank.b1.idx).absentRun ∧ (s.kernel.bank Bank.b1.idx).state ≠ .failed) := by
  simp only [Supplied]; decide

/-- FieldResetNeedsItsOwnConfirm: no reset pending, the client's own with the right and a wrong code, another's, and 30 s. -/
theorem test_field_reset :
    let s := withK fun k => { k with reset := ⟨some guest, 0x1000, 7, 69999, 0⟩ }
    Supplied runs ∧ runs.mstate = .run ∧ 1 ≤ (runs.client me).level
    ∧ targetOk (0x105F : W16).toNat = true ∧ targetOk (0x201F : W16).toNat = true ∧ targetOk (0x3004 : W16).toNat = true
    ∧ runs.kernel.reset.client = none ∧ runs.kernel.reset.client ≠ some me
    ∧ s.kernel.reset.client = some guest ∧ guest ≠ me
    ∧ (let t := withK fun k => { k with reset := ⟨some me, 0x1000, 7, 69999, 0⟩ }
       t.kernel.reset.client = some me ∧ (7 : W16) = t.kernel.reset.code ∧ (8 : W16) ≠ t.kernel.reset.code)
    ∧ s.kernel.reset.client ≠ none ∧ 30000 < s.kernel.gone s.kernel.reset.since := by simp only [Supplied]; decide

/-! ## Witnesses: sessions and slots -/

/-- The tests' partner, an interlocking at the near side of an SCC session. -/
def partner : Partner := ⟨0, 0, 4, 0, 30712, 0, 0, 500, 20, 200, 0, 40⟩

/-- A session of the one partner, in a state, at index 0. -/
def session (st : SessState) (f : SessSt → SessSt) : State :=
  stands fun k => { k with sess := f { SessSt.unbound with state := st, partner := 0, sid := 1 } :: k.sess.tail }

/-- A telegram of a type under SEQ 1, 100 s old by its echo, with its codes. -/
def telegram (typ : Byte) (d : List Byte) : Telegram :=
  let t : Telegram := ⟨1, typ, 0, 0, 1, 0, 1, 0, 0, 100000, d, 0, 0, none, true⟩
  { t with scC := crc32c (telBody t), scH := crc32h (telBody t) }

/-- AcceptedTelegramsAct, CONN_REQ: a partner without a session, answered as the responder. -/
theorem test_conn_req :
    let t := telegram 1 [0, 0, 0, 0, 0, 0, 0, 0]
    let s := stands id
    Supplied s ∧ s.mstate = .run ∧ 0 < 128 ∧ t.typ = 1 ∧ s.dat.partner partner.index = some partner
    ∧ s.kernel.sessOf partner.index = none ∧ codesOk s.env.pst partner t = true ∧ t.srcId = partner.id
    ∧ t.payload.length ≤ partner.maxPayload ∧ s.kernel.freeIndex = some 0 ∧ partner.opens = false
    ∧ (byteAt t.payload 4).getLsbD 0 = partner.tagged := by simp only [Supplied]; decide +kernel

/-- AcceptedTelegramsAct: an opener that gets its confirmation, an open session that takes DATA and DISC, and one with a partner of
class 2 that takes a HEAD_REPORT. -/
theorem test_accepts :
    let s := session .opening fun x => { x with opener := true, connSeq := some 0 }
    let u := session .open_ id
    let v : State := { u with sdi := { u.sdi with sdi := some { station with partners := [{ partner with cls := 2 }] } } }
    Supplied u ∧ u.mstate = .run ∧ 0 < 128 ∧ 0 < u.kernel.sess.length
    ∧ u.kernel.vital ≤ u.kernel.widen 100000 + partner.timeoutMs
    ∧ Accepts s 0 partner (telegram 2 []) ∧ (s.kernel.session 0).state = .opening
    ∧ (∃ c, (s.kernel.session 0).connSeq = some c ∧ seqLater 32 c (telegram 2 []).confSeq = false)
    ∧ Accepts u 0 partner (telegram 3 []) ∧ Accepts u 0 partner (telegram 6 []) ∧ (u.kernel.session 0).state = .open_
    ∧ Accepts v 0 { partner with cls := 2 } (telegram 5 []) := by
  simp only [Supplied, Accepts]
  refine ⟨by decide, by decide, by decide, by decide +kernel, by decide +kernel, by decide +kernel, by decide, ⟨0, by decide +kernel⟩, ?_⟩
  decide +kernel

/-- TelegramsAreJudgedByTheirSession: each type, a wrong code on an open session, and a session unbound and in `HOLD_OFF`. -/
theorem test_judged : Supplied (session .open_ id) ∧ (session .open_ id).mstate = .run
    ∧ (∀ n ∈ [2, 3, 6], (telegram (byteOf n) []).typ = byteOf n)
    ∧ station.partner ((session .open_ id).kernel.session 0).partner = some partner
    ∧ ((session .open_ id).kernel.session 0).state = .open_ ∧ ((session .opening id).kernel.session 0).state = .opening
    ∧ codesOk [] partner { telegram 3 [] with wire := false } = false
    ∧ codesOk [] partner { telegram 3 [] with scC := (telegram 3 []).scC + 1 } = false
    ∧ ((session .unbound id).kernel.session 0).state = .unbound ∧ ((session .holdOff id).kernel.session 0).state = .holdOff
    ∧ station.partner ((session .unbound id).kernel.session 0).partner = some partner := by
  simp only [Supplied]; decide +kernel

/-- SessionTimersMoveTheSession: each limit at its value, and a notice for a partner with and without a session. -/
theorem test_sessions : Supplied (session .open_ id) ∧ (session .open_ id).mstate = .run ∧ 127 < 128
    ∧ ((session .open_ fun x => { x with deadline := 99999 }).kernel.session 0).deadline < runs.kernel.vital
    ∧ runs.kernel.vital ≤ ((session .open_ fun x => { x with deadline := 100000 }).kernel.session 0).deadline
    ∧ (let x := (session .opening fun x => { x with opener := true, connAt := 99800 }).kernel.session 0
       x.state = .opening ∧ x.opener = true ∧ 200 ≤ runs.kernel.gone x.connAt)
    ∧ (let x := (session .opening fun x => { x with connAt := 99500 }).kernel.session 0
       x.state = .opening ∧ x.opener = false ∧ station.partner x.partner = some partner ∧ partner.timeoutMs ≤ runs.kernel.gone x.connAt)
    ∧ (let x := (session .holdOff fun x => { x with holdAt := 99000 }).kernel.session 0
       x.state = .holdOff ∧ 1000 ≤ runs.kernel.gone x.holdAt)
    ∧ (session .open_ id).kernel.sessOf 0 = some (0, (session .open_ id).kernel.session 0)
    ∧ ((session .open_ id).kernel.session 0).state = .open_ ∧ (session .open_ id).kernel.sessOf 1 = none := by
  simp only [Supplied]
  exact ⟨rfl, rfl, by decide, by decide, by decide, by decide, by decide, by decide, rfl, by decide, rfl⟩

/-- HandoverIsGivenUp: an offer five cycles old, none, and 10 s without a standby. -/
theorem test_handover :
    let h := fun (t : TwinK → TwinK) => withK fun k => { k with
      twin := t { k.twin with role := 1 }
      slots := { SlotSt.free with op := 0x0701, state := .running } :: k.slots.tail }
    let s := h fun t => { t with offer := true, offerCycle := 2495 }
    let u := h fun t => { t with since := 90000 }
    Supplied s ∧ s.mstate = .run ∧ s.kernel.twin.offer = true ∧ s.kernel.twin.offerCycle + 5 ≤ s.kernel.cycle
    ∧ s.kernel.running 0x0701 = some 0 ∧ u.kernel.twin.offer = false ∧ u.kernel.twin.role = 1 ∧ u.kernel.running 0x0701 = some 0
    ∧ 10000 ≤ u.kernel.gone u.kernel.twin.since := by simp only [Supplied]; decide

/-- An SCC request on the open session, for an emergency release of route 9. -/
def request (kind : Byte) : SccRec := ⟨kind, 0, 0x0103, 9, 77, 0, 0, 0, 0, 0⟩

/-- Station data with a route that may be released in an emergency, a point that may be thrown, and a counted section. -/
def releasable : Sdi :=
  { station with
    profiles := [⟨1, 8, 0, 0, 0, 0, 0, 0, 0, 0, 0, 0, []⟩]
    routes := [⟨9, 2, 2, 0, 4, 0, 0, 0, 0xFFFF, [], [5], [], []⟩]
    elems := [⟨1, 0, 0, 0, 0, 0, .pt 2 0 0 0 0 0 0, []⟩, ⟨5, 1, 0, 0, 0, 0, .ts 0 0 0 0 80, []⟩]
    sections := [⟨0, [(0, false)]⟩] }

/-- The module with that route locked, the point, and the section `DISTURBED` under an active head. -/
def ready (f : Kernel → Kernel) : State :=
  { session .open_ id with
    sdi := { runs.sdi with sdi := some releasable }
    kernel := f { (session .open_ id).kernel with
      routes := [{ RouteSt.idle 9 0 0 with state := .locked }]
      elems := [⟨1, false, .pt (pointIn .normal)⟩, ⟨5, false, .ts ⟨.disturbed, 0, false, false⟩⟩]
      sections := [SectionRec.cold ⟨0, [(0, false)]⟩]
      heads := [{ HeadRec.cold ⟨0, 0, 0, 0, 0, 0, 0, 0, 0⟩ with state := .active }] } }

/-- SccRequestTakesTheHighestFreeSlot: a request that is taken and one that is refused. -/
theorem test_scc_request :
    let s := ready id
    Supplied s ∧ s.mstate = .run ∧ (request 1).kind = 1 ∧ s.kernel.drives = true
    ∧ s.dat.partner (s.kernel.session 0).partner = some partner ∧ partner.cls = 4 ∧ (s.kernel.session 0).state = .open_
    ∧ s.kernel.requestBar s.dat (request 1) = none ∧ s.kernel.highFree = some 95 ∧ s.kernel.slots.length = 96
    ∧ (∃ c, (session .open_ id).kernel.requestBar station (request 1) = some c) := by
  simp only [Supplied]
  refine ⟨by decide, by decide, by decide, by decide, by decide, by decide, by decide, by decide, rfl, rfl, ?_⟩
  exact Option.isSome_iff_exists.mp (by decide)

/-- An SCC slot that awaits its confirmation until the end of cycle `w`. -/
def awaiting (op target w : Nat) : State :=
  ready fun k => { k with
    slots := { SlotSt.free with op := op, state := .running, stage := 1, target := target, okind := 4
                                scc := some ⟨0, 1, 77, 5, w, none⟩ } :: k.slots.tail }

/-- A confirmation of slot 0. -/
def confirm (challenge : Nat) : SccRec := ⟨3, 0, 0x0103, 9, 77, challenge, 0, 0, 0, 0⟩

/-- SccConfirmExecutesOnlyItsOwnRequest: the right one at the end of its window, a late one, a wrong challenge, another session. -/
theorem test_scc_confirm :
    let s := awaiting 0x0103 9 2500
    let late := awaiting 0x0103 9 2499
    Supplied s ∧ s.mstate = .run ∧ (confirm 5).kind = 3 ∧ s.kernel.drives = true
    ∧ s.dat.partner (s.kernel.session 0).partner = some partner ∧ partner.cls = 4 ∧ (s.kernel.session 0).state = .open_
    ∧ (confirm 5).slot < 96 ∧ (s.kernel.slot 0).scc = some ⟨0, 1, 77, 5, 2500, none⟩ ∧ (s.kernel.slot 0).awaits (confirm 5) = true
    ∧ (s.kernel.session 0).sid = 1 ∧ (confirm 5).challenge = 5 ∧ (confirm 6).challenge ≠ 5
    ∧ (s.kernel.slot 0).awaits (confirm 6) = true ∧ s.kernel.cycle ≤ 2500
    ∧ (s.kernel.slot 0).state = .running ∧ (late.kernel.slot 0).scc = some ⟨0, 1, 77, 5, 2499, none⟩ ∧ 2499 < late.kernel.cycle
    ∧ (let t : State := { s with kernel := { s.kernel with
          sess := { SessSt.unbound with state := .open_, partner := 0, sid := 2 } :: s.kernel.sess.tail } }
       (t.kernel.session 0).state = .open_ ∧ (t.kernel.slot 0).scc = some ⟨0, 1, 77, 5, 2500, none⟩
        ∧ (t.kernel.session 0).sid ≠ 1) := by simp only [Supplied]; decide

/-- ConfirmedOperationsExecute: each operation with nothing against it, and a release of a route that may not be released. -/
theorem test_confirmed :
    let s := awaiting 0x0103 9 2500
    Supplied s ∧ s.mstate = .run ∧ 0 < 96 ∧ s.kernel.slots.length = 96 ∧ (s.kernel.slot 0).scc = some ⟨0, 1, 77, 5, 2500, none⟩
    ∧ (s.kernel.slot 0).state = .running ∧ (s.kernel.slot 0).stage = 1 ∧ 1 = (s.kernel.session 0).sid ∧ s.kernel.cycle ≤ 2500
    ∧ s.kernel.emergReleaseBar s.dat 9 = none
    ∧ (awaiting 0x0202 0x1001 2500).kernel.emergThrowBar s.dat 0x1001 = none
    ∧ (awaiting 0x0301 5 2500).kernel.acBar s.dat false 5 = none
    ∧ (awaiting 0x0302 5 2500).kernel.sections.length = 1
    ∧ (let t : State := awaiting 0x0302 5 2500
       ({ t.kernel with routes := [] } : Kernel).acBar s.dat true 5 = none)
    ∧ (∃ x ∈ [0, 1, 2], (s.kernel.emergReleaseBar station 9) = some (0x0101, x)) := by simp only [Supplied]; decide

/-- A launch into a slot, with SEQ 0. -/
def launch (slot target : Nat) (p : List Byte) : Launch := ⟨me, target, slot, 0, 0, 0, p⟩

/-- The module with every switch closed and a head at rest. -/
def launches : State := { stands id with life := { runs.life with sw1Svc := 0xFF } }

/-- LaunchesEnterTheirSlot: each of the nine operations, into the first and the last slot. -/
theorem test_launch : Supplied launches ∧ launches.mstate = .run
    ∧ (∀ x ∈ [(0x0101, launch 0 1535 []), (0x0102, launch 95 9 []), (0x0201, launch 4 8191 []), (0x0501, launch 4 1 [0, 0, 0, 1]),
        (0x0502, launch 4 0 (List.replicate 10 0)), (0x0601, launch 4 0 [0, 0, 0, 0, 0, 0x80, 0, 0]),
        (0x0801, launch 4 0 [0, 3, 5, 0]), (0x0901, launch 95 0 [])], (launches.asked me).launchBar x.1 x.2 = none)
    ∧ (let s := withK fun k => { k with twin := { k.twin with role := 1 } }
       (s.asked me).launchBar 0x0701 (launch 4 0 []) = none)
    ∧ (launches.asked me).launchBar 0x0101 { launch 95 1535 [] with flags := 1 } = none ∧ 95 < launches.kernel.slots.length := by
  simp only [Supplied]; decide

/-- SelfTestRunsOutsideRunOnly: in `SAFE` and in `RUN`. -/
theorem test_bist : (let s : State := { inState .safe with life := { Life.reset with state := 3 } }
     Supplied s ∧ s.mstate = .safe ∧ (s.asked me).launchBar 0x0401 (launch 4 0 [1, 0]) = none)
    ∧ (let s : State := { runs with life := { Life.reset with state := 3 } }
       Supplied s ∧ s.mstate = .run ∧ (launch 4 0 [1, 0]).slot < 96 ∧ 2 ≤ (s.client me).level ∧ s.life.state = 3) := by
  simp only [Supplied]; decide

/-- LaunchesAreRefusedInOrder: each refusal at its limit. -/
theorem test_launch_refused : Supplied runs ∧ runs.mstate = .run ∧ 96 ≤ (launch 96 0 []).slot ∧ (launch 95 0 []).slot < 96
    ∧ (runs.client guest).level = 0 ∧ 1 ≤ (runs.client me).level
    ∧ (2 ≤ (withK fun k => { k with twin := { k.twin with role := 2 } }).kernel.twin.role)
    ∧ runs.kernel.twin.role ≤ 1 ∧ runs.kernel.twin.tookAt ≠ some runs.kernel.cycle
    ∧ ((withK fun k => { k with slots := { SlotSt.free with state := .done } :: k.slots.tail }).kernel.slot 0).state ≠ .free
    ∧ (({ runs with clients := [{ tester with launched := [⟨4, true, 0, 99999, none⟩] }] } : State).asked me).pendingLaunch 4 = true
    ∧ (runs.kernel.slot 4).state = .free ∧ (runs.asked me).pendingLaunch 4 = false
    ∧ (runs.kernel.slot 4).seq ≠ ({ launch 4 0 [] with seqNow := 1 } : Launch).seqNow := by simp only [Supplied]; decide

/-- The module with slot 0 holding an operation of the tests' client. -/
def slotted (x : SlotSt) : State := withK fun k => { k with slots := x :: k.slots.tail }

/-- A slot with a route setting. -/
def setting (st : SlotState) : SlotSt := { SlotSt.free with op := 0x0101, state := st, okind := 1, identity := 5, target := 9 }

/-- SlotControlsFollowTheStateTable: each control where it is taken and where it is refused. -/
theorem test_slot_controls : Supplied (slotted (setting .queued)) ∧ (slotted (setting .queued)).mstate = .run
    ∧ 1 ≤ ((slotted (setting .queued)).client me).level
    ∧ ((slotted (setting .queued)).kernel.slot 0).state = .queued ∧ suspendAt 0x0101 0 = true ∧ suspendAt 0x0101 0x13 = false
    ∧ (let x := (slotted { setting .running with stage := 0x13 }).kernel.slot 0
       x.state = .running ∧ suspendAt x.op x.stage = false)
    ∧ (let x := (slotted { setting .suspended with wasRunning := true }).kernel.slot 0
       x.state = .suspended ∧ x.wasRunning = true)
    ∧ (setting .queued).state ≠ .suspended
    ∧ (setting .queued).state.busy = true ∧ cancelAt 0x0101 0 = true ∧ (slotted (setting .queued)).env.lateSlot ≠ some 0
    ∧ (let s : State := { slotted { SlotSt.free with op := 0x0502, state := .running } with
          upd := { runs.upd with schedule := some (0, ⟨1, 0⟩) }, time := { runs.time with now := ⟨1, 0⟩ } }
       (s.kernel.slot 0).state.busy = true ∧ s.env.lateSlot = some 0)
    ∧ (setting .done).state.busy = false ∧ (setting .done).state.final = true ∧ (setting .done).ownedBy me 1 = true := by
  simp only [Supplied]; decide

/-- A client with one write that waits. -/
def waits (w : Waiting) : State := { runs with clients := [{ tester with launched := [w] }] }

/-- SlotLimitsEndWaiting and FinalStatesRaiseSeq: each limit at its value, in `RUN` and outside it. -/
theorem test_slot_limits :
    (let s := withK fun k => { k with vital := 300000, slots := setting .queued :: k.slots.tail }
     Supplied s ∧ (s.kernel.slot 0).state = .queued ∧ 300000 ≤ s.kernel.gone (s.kernel.slot 0).queuedAt + (s.kernel.slot 0).outMs)
    ∧ (let s : State := { slotted { setting .failed with finalAt := 90000, outMs := 50000 } with mstate := .safe }
       (s.kernel.slot 0).state.final = true ∧ 60000 ≤ s.kernel.gone (s.kernel.slot 0).finalAt + (s.kernel.slot 0).outMs)
    ∧ (let w : Waiting := ⟨4, true, 0, 100000 - 5 * runs.dat.cycleMs, none⟩
       ((waits w).client me).launched = [w] ∧ w.verdict = none ∧ w.ms + 5 * (waits w).dat.cycleMs ≤ (waits w).svc.ms)
    ∧ (let w : Waiting := ⟨4, true, 0, 100001 - 5 * runs.dat.cycleMs, none⟩
       ∀ x ∈ ((waits w).client me).launched, x.verdict ≠ none ∨ (waits w).svc.ms < x.ms + 5 * (waits w).dat.cycleMs)
    ∧ 0 < (slotted (setting .queued)).kernel.slots.length ∧ (setting .queued).state.busy = true
    ∧ (setting .done).state.busy = false := by simp only [Supplied]; decide

/-! ## Witnesses: CAN, the object dictionary and time -/

/-- A frame of one byte, whole. -/
def canFrame (id : Nat) (remote : Bool) : CanFrame := ⟨false, id, remote, true, [0], none⟩

/-- The module with its CAN engine changed. -/
def canIs (f : Can → Can) : State := { runs with can := f runs.can }

/-- CanEngineFollowsItsLinkState, frames received: one for each action, a remote one, one in error, and the limits of the error counts. -/
theorem test_can_receive :
    let hit := fun (n id : Nat) => runs.can.action runs.nodeId runs.refBase (canFrame id false).ext (canFrame id false).ident = n
    Supplied runs ∧ runs.can.link = .online ∧ (canIs fun c => { c with tec := 127, rec_ := 127 }).can.link = .online ∧ 127 < 128
    ∧ (canFrame 0x7FF false).error = none ∧ (canFrame 0x7FF false).ident < 0x800 ∧ (canFrame 1 true).remote = true
    ∧ (canFrame 0x7FF false).remote = false ∧ hit 0 0x7FF ∧ hit 2 0x17
    ∧ frameBytes runs.can.timeq + (canFrame 0x17 false).data.length ≤ 2048
    ∧ hit 1 (0x600 + runs.nodeId) ∧ runs.served (canFrame (0x600 + runs.nodeId) false) = true ∧ (canFrame 0x600 false).ext = false
    ∧ frameBytes runs.can.service + (canFrame 0x600 false).data.length ≤ 2048
    ∧ (canIs fun c => { c with stopped := true }).served (canFrame (0x600 + runs.nodeId) false) = false
    ∧ 118 + 9 < 128 ∧ ({ canFrame 1 false with error := some true } : CanFrame).error = some true := by
  simp only [Supplied]; decide

/-- CanEngineFollowsItsLinkState, frames sent: each link state and queue, and both sides of each count, limit and interval. -/
theorem test_can_send : Supplied runs
    ∧ (let c := (canIs fun c => { c with link := .alone, aloneAt := 99000 }).can
       c.link = .alone ∧ c.queue = [] ∧ c.tec < 128 ∧ c.rec_ < 128 ∧ c.aloneAt + 1000 ≤ runs.svc.ms ∧ c.role ≠ .master)
    ∧ (canIs fun c => { c with link := .busOff }).can.link = .busOff ∧ (canIs fun c => { c with link := .busOff }).can.queue = []
    ∧ (let s := canIs fun c => { c with queue := [.heartbeat false], tec := 119, attempts := 3 }
       s.can.link = .online ∧ s.can.queue = [.heartbeat false] ∧ s.can.tec + 8 < 128 ∧ s.can.rec_ < 128 ∧ s.can.attempts < s.retryLimit)
    ∧ (let s := canIs fun c => { c with queue := [.heartbeat false], attempts := 4, noAckRun := 6 }
       s.retryLimit ≤ s.can.attempts ∧ s.can.noAckRun < 7
        ∧ 7 ≤ (canIs fun c => { c with queue := [.heartbeat false], attempts := 4, noAckRun := 7 }).can.noAckRun)
    ∧ (let c := (canIs fun c => { c with queue := [.heartbeat false], passive := true, tec := 248 }).can
       c.link = .online ∧ c.queue = [.heartbeat false] ∧ c.rec_ < 128 ∧ c.passive = true ∧ 247 < c.tec)
    ∧ runs.can.link ≠ .alone ∧ runs.can.queue = []
    ∧ (canIs fun c => { c with beatAt := some 99000 }).beatDue = true ∧ (canIs fun c => { c with beatAt := some 99001 }).beatDue = false
    ∧ (let s := canIs fun c => { c with emcys := [⟨0, 0, 0, 0, 0⟩], emcyAt := some 99990 }
       s.can.emcys = ⟨0, 0, 0, 0, 0⟩ :: [] ∧ s.emcyDue = true ∧ s.can.link = .online ∧ s.can.queue = [])
    ∧ (let s := canIs fun c => { c with link := .alone, emcys := [⟨0, 0, 0, 0, 0⟩] }
       s.can.emcys = ⟨0, 0, 0, 0, 0⟩ :: [] ∧ s.emcyDue = true ∧ s.can.link = .alone)
    ∧ (canIs fun c => { c with emcyAt := some 99991 }).emcyDue = false ∧ runs.can.emcys = [] := by simp only [Supplied]; decide

/-- A module with a time role, its own time from PTP and its CAN stamp unit valid, timer W at its end. -/
def roled (r : TimeRole) (f : Can → Can) : State :=
  { canIs fun c => f { c with role := r, wStart := 99963 } with
    pstLive := [⟨0x2980, 8, [7]⟩], time := { runs.time with source := .ptpA, can := { TsuSt.reset with valid := true, run := 1, lastMs := 100000 } } }

/-- A reference whose stamp, less the fixed latency of the link, is the running count. -/
def reference (priority seq : Nat) : RefMsg := ⟨priority, seq, true, true, 0, 0, Config.stampLatency⟩

/-- NmtAndTimeRolesAct, references: a first one at a backup, the second of a pair at a slave, one of a higher priority at a master. -/
theorem test_references :
    (∀ r, ((roled r id).time.can.extend ((roled r id).refStamp (reference 0 0).stamp false) (roled r id).svc.ms).isSome = true)
    ∧ Supplied (roled .backup id) ∧ (roled .backup id).frameMode ≠ 0 ∧ (reference 7 255).priority < 8 ∧ (reference 7 255).seq < 256
    ∧ (roled .backup id).time.can.valid = true ∧ (roled .backup id).can.role = .backup ∧ (roled .backup id).can.lastRef = none
    ∧ (roled .slave fun c => { c with lastRef := some (reference 3 4, DTime.zero) }).can.role = .slave
    ∧ (roled .slave fun c => { c with lastRef := some (reference 3 4, DTime.zero) }).can.lastRef = some (reference 3 4, DTime.zero)
    ∧ pairs (reference 3 4) (reference 3 5) = true
    ∧ (roled .master id).can.role = .master ∧ (reference 6 0).priority < (roled .master id).masterPrio
    ∧ ({ roled .slave id with pstLive := [⟨0x2980, 4, [0]⟩] } : State).frameMode = 0 := by
  refine ⟨fun r => ?_, rfl, by decide, by decide, by decide, rfl, rfl, rfl, rfl, rfl, by rfl, rfl, by decide, by decide⟩
  have e : (roled r id).refStamp (reference 0 0).stamp false = 0 := by simp [State.refStamp, reference]
  rw [e]
  cases r <;> decide

/-- NmtAndTimeRolesAct, the rest: a start and a stop in the queue and none, a stopped node, the filters, a master that is due, and timer W at its
end with and without own time and before it. -/
theorem test_time_roles :
    (let s := canIs fun c => { c with service := [⟨false, 0, false, false, [1, 0], none⟩] }
     s.can.service = [⟨false, 0, false, false, [1, 0], none⟩] ∧ (byteAt [1, 0] 0).toNat = 1 ∧ (byteAt [2, 0] 0).toNat = 2)
    ∧ runs.can.service = []
    ∧ (canIs fun c => { c with stopped := true }).can.stopped = true ∧ (canFrame 0x600 false).ident ≠ 0
    ∧ (pstFilters runs.pstLive).any filterBad = false
    ∧ (let s := roled .master fun c => { c with refDue := 100000 }
       Supplied s ∧ s.can.role = .master ∧ s.ownTime = true ∧ s.can.link = .online ∧ s.can.stopped = false ∧ s.can.refDue ≤ s.svc.ms
        ∧ s.can.queue = [])
    ∧ ((canIs fun c => { c with role := .master }).can.role = .master ∧ (canIs fun c => { c with role := .master }).ownTime = false)
    ∧ runs.can.role ≠ .master
    ∧ (let s := roled .backup id
       s.can.role = .backup ∧ s.can.wStart + s.wTime ≤ s.svc.ms ∧ s.ownTime = true ∧ s.can.link = .online ∧ s.can.stopped = false
        ∧ s.svc.ms < s.can.wStart + 1 + s.wTime)
    ∧ (roled .backup fun c => { c with stopped := true }).can.stopped = true ∧ runs.ownTime = false := by
  simp only [Supplied]; decide

/-- The module with every switch closed. -/
def switched : State := { runs with life := { runs.life with sw1Svc := 0xFF } }

/-- WritesAreCheckedInOrder: an object that is not there, each check on a filter element, an element command, a control and a launch at
their limits, and the two levels of a reset of maxima. -/
theorem test_writes : Supplied switched ∧ switched.begin.access 0x1FFF 0 = .error 0x06020000
    ∧ switched.begin.access 0x2981 0x80 = .ok .rwc ∧ 3 ≤ (switched.client me).level ∧ switched.life.state < 2 ∧ switched.sw 4 = true
    ∧ (switched.client guest).level = 0 ∧ 2 ≤ ({ switched with life := { switched.life with state := 2 } } : State).life.state
    ∧ launches.mstate = .run
    ∧ (∃ acc, acc ≠ .const ∧ acc ≠ .ro ∧ launches.begin.access 0x2330 1 = .ok acc)
    ∧ (let d : List Byte := [0xFF, 0x0F, 0, 5]
       d.length = 4 ∧ 1 ≤ leAt d 3 1 ∧ leAt d 3 1 ≤ 5 ∧ leAt d 0 3 < 4096)
    ∧ (∃ acc, acc ≠ .const ∧ acc ≠ .ro ∧ launches.begin.access (0x3000 + 95) 3 = .ok acc) ∧ (1 ≤ ofLe [4] ∧ ofLe [4] ≤ 4)
    ∧ (∃ acc, acc ≠ .const ∧ acc ≠ .ro ∧ launches.begin.access 0x3100 1 = .ok acc)
    ∧ (let d : List Byte := [1, 1, 0, 0, 0, 0, 0, 0, 0, 0, 0, 0]
       12 ≤ d.length ∧ d.length ≤ 64 ∧ (launches.asked me).launchBar (leAt d 0 2) (launchOf me d) = none
        ∧ (∃ e, (launches.asked guest).launchBar (leAt d 0 2) (launchOf guest d) = some e))
    ∧ (2 : Byte) ≠ 1 := by
  simp only [Supplied]
  exact ⟨rfl, rfl, rfl, by decide, by decide, by decide, by decide, by decide, rfl, ⟨_, by decide, by decide, rfl⟩, by decide,
    ⟨_, by decide, by decide, rfl⟩, by decide, ⟨_, by decide, by decide, rfl⟩, ⟨by decide, by decide, by decide, _, rfl⟩, by decide⟩

/-- A module with a client, and a login key for OPERATE. -/
def challenged (c : ClientSt) : State :=
  { switched with clients := [c], pst := [⟨0x2081, 1, List.replicate 16 1⟩], pstLive := [⟨0x2081, 1, List.replicate 16 1⟩] }

/-- LoginGrantsAndBlocks: each request, the ends of the challenge and of the block, and idleness. -/
theorem test_login : Supplied switched ∧ (3 < (4 : Byte).toNat ∧ 1 ≤ (1 : Byte).toNat ∧ (3 : Byte).toNat ≤ 3)
    ∧ (runs.client me).blocked = none ∧ (runs.client me).challenge = none
    ∧ (let s := challenged { tester with challenge := some (1, [5], 70000) }
       Supplied s ∧ (s.client me).blocked = none ∧ (s.client me).challenge = some (1, [5], 70000) ∧ s.svc.ms ≤ 70000 + 30000
        ∧ 70000 + 30000 ≤ s.svc.ms ∧ (1 : Nat) ≠ 3 ∧ noKey (s.levelKey 1) = false
        ∧ ((s.asked me).modClient me fun c => { c with challenge := none }).levelSwitch me 1 = true)
    ∧ 69999 + 30000 < runs.svc.ms
    ∧ ((challenged { tester with blocked := some 100001 }).client me).blocked = some 100001 ∧ runs.svc.ms < 100001
    ∧ (let s := challenged { tester with blocked := some 100000, wrong := [99999, 99998] }
       (s.client me).blocked = some 100000 ∧ 100000 ≤ s.svc.ms ∧ 2 ≤ ((s.client me).wrong.filter fun x => s.svc.ms < x + 60000).length)
    ∧ runs.svc.ms < (runs.client me).lastReq + 600000
    ∧ (let s : State := { switched with svc := ⟨600000, 0, 0⟩ }
       (s.client me).lastReq + 600000 ≤ s.svc.ms) := by simp only [Supplied]; decide

/-- A response that is right and one that is wrong. -/
theorem test_responses (s : State) : ∃ a b : W64, a = s.loginWord me 1 [5] ∧ b ≠ s.loginWord me 1 [5] :=
  ⟨_, ~~~(s.loginWord me 1 [5]), rfl, fun h => by
    have := congrArg (·.getLsbD 0) h
    simp at this⟩

/-- The module with device time changed. -/
def timed_ (f : Time → Time) : State := { runs with time := f runs.time }

/-- DeviceTimeIsMeasuredSteppedAndSet: a stamp unit at its limit, both sides of 1 ms, the sources, the calendar's limit. -/
theorem test_time : Supplied runs
    ∧ (let x := (timed_ fun t => { t with na := { TsuSt.reset with valid := true, run := 1, lastMs := 99000 } }).time.tsu .na
       1 ≤ x.run ∧ x.lastMs + 1000 ≤ runs.svc.ms)
    ∧ runs.svc.ms < ((timed_ fun t => { t with na := { TsuSt.reset with lastMs := 99001 } }).time.tsu .na).lastMs + 1000
    ∧ runs.time.source = .none ∧ ((-1000000 : Int) ≤ 1000000 ∧ (1000000 : Int) < 1000001 ∧ (-1000001 : Int) < -1000000)
    ∧ (timed_ fun t => { t with source := .calendar }).time.source = .calendar ∧ 999999999 < 1000000000 ∧ 2 ^ 48 - 1 < 2 ^ 48
    ∧ (timed_ fun t => { t with source := .ptpA }).time.source = .ptpA ∧ 2 ≤ (runs.client me).level := by
  simp only [Supplied]; decide

/-- TimeSourcesChangeAndCalibrate: a source lost for 2 s, one usable for 10 s and one that is not better, both sides of 61 µs, and the
calibration at its time and with no PTP. -/
theorem test_sources : Supplied runs
    ∧ (let s : State := { runs with
          time := { runs.time with source := .calendar, calValid := true, usableMs := [(.ptpA, 90000)] }
          nets := { runs.nets with a := { runs.nets.a with ptpState := .slave, goodSyncs := 16 } } }
       (s.begin.track).usableFor .ptpA = some 10000 ∧ prio .ptpA < prio s.time.source ∧ TimeSource.ptpA ≠ s.begin.track.time.source)
    ∧ (let s : State := { runs with
          time := { runs.time with source := .ptpA, usableMs := [(.ptpA, 90000)] }
          nets := { runs.nets with a := { runs.nets.a with ptpState := .slave, goodSyncs := 16 } } }
       (s.begin.track).usableFor .ptpA = some 10000 ∧ prio s.time.source ≤ prio .ptpA)
    ∧ ((timed_ fun t => { t with source := .ptpB, lostMs := some 98000 }).begin.track).time.lostMs = some 98000
    ∧ 98000 + 2000 ≤ runs.svc.ms ∧ (runs.begin.track).time.lostMs = none
    ∧ (let s := timed_ fun t => { t with source := .ptpA, now := ⟨1, 0⟩, ptpMs := some 0 }
       isPtp s.time.source = true ∧ 999938999 + 61000 < s.time.now.nanos ∧ 1000061000 ≤ s.time.now.nanos + 61000
        ∧ s.time.now.nanos ≤ 999939000 + 61000
        ∧ pstNat s.pst 0x2A80 3 1 = 1 ∧ s.time.ptpMs = some 0
        ∧ 0 + 4096000 ≤ ({ s with svc := ⟨4096000, 0, 0⟩ } : State).svc.ms)
    ∧ runs.time.ptpMs = none := by simp only [Supplied]; decide

/-! ## Witnesses: wheel sensors -/

/-- The module with system 1 of head 0 changed. -/
def sensed (f : SensorSys → SensorSys) : State := State.modSys runs .x 0 f

/-- SamplesAndRangesFollowTheCoil: a processor with its image and without; ranges at their limits, an idle and an active system. -/
theorem test_samples : Supplied runs ∧ runs.spUp .x = true ∧ (runs.sys .x 0).state = .off
    ∧ ((sensed fun x => { x with state := .active }).sys .x 0).state ≠ .off
    ∧ ((sensed fun x => { x with range := 1 }).sys .x 0).range ≠ 0 ∧ (runs.sys .x 0).range = 0
    ∧ (let x := (sensed fun x => { x with range := 2, lowRun := 1024 }).sys .x 0
       x.active = false ∧ x.cand = none ∧ x.range < 3 ∧ 1024 ≤ x.lowRun)
    ∧ 3 ≤ ((sensed fun x => { x with range := 3 }).sys .x 0).range
    ∧ ((sensed fun x => { x with lowRun := 1023 }).sys .x 0).lowRun < 1024
    ∧ ((sensed fun x => { x with active := true }).sys .x 0).active = true := by
  simp only [Supplied]; decide

/-- SamplesAndRangesFollowTheCoil: a loop resistance within the limits of the coil temperature, and one beyond each. -/
theorem test_theta :
    let th := fun loop => coilTheta loop (runs.cal 0).cable1 (runs.cal 0).coil1
    let n := (runs.cal 0).cable1 + (runs.cal 0).coil1
    (-55000000 ≤ th n ∧ th n ≤ 155000000) ∧ th 0 < -55000000 ∧ 155000000 < th (2 * n) := by decide

/-- A crossing between two samples, the threshold between them. -/
def crossing : Crossing := ⟨some ⟨4000, 100, 100⟩, some ⟨5000, 0, 100⟩, false⟩

/-- PulsesAndStrobesAreRecorded: a candidate of three samples and one that has none, an end of three and one of two. -/
theorem test_pulses : Supplied runs ∧ runs.spUp .x = true ∧ 0 < (runs.proc .x).sys.length
    ∧ (let x := (sensed fun x => { x with cand := some 3, edge := crossing }).sys .x 0
       x.active = false ∧ (∃ n, x.cand = some n ∧ 3 ≤ n) ∧ (∃ t, x.edge.stamp runs.svc.ms = t ∧ x.edge.rs = false)
        ∧ (∃ t, x.edge.stamp runs.svc.ms ≠ t))
    ∧ (runs.sys .x 0).cand = none
    ∧ (let x := (sensed fun x => { x with active := true, endRun := 3, endEdge := some crossing }).sys .x 0
       x.active = true ∧ 3 ≤ x.endRun ∧ x.endEdge = some crossing ∧ (∃ t, crossing.stamp runs.svc.ms = t) ∧ crossing.rs = false)
    ∧ (runs.sys .x 0).active = false ∧ (runs.sys .x 0).endEdge = none
    ∧ ((sensed fun x => { x with active := true, endRun := 2 }).sys .x 0).endRun < 3 := by
  simp only [Supplied]
  exact ⟨rfl, rfl, by decide, ⟨rfl, ⟨3, rfl, by decide⟩, ⟨_, rfl, rfl⟩, ⟨0, by decide⟩⟩, rfl, ⟨rfl, by decide, rfl, ⟨_, rfl⟩, rfl⟩, rfl,
    rfl, by decide⟩

/-- A system settled on the mean 0, and one that conducts in 2,049 samples of 50,000. -/
theorem test_settled : (({ SensorSys.reset with hist := List.replicate 2048 0 } : SensorSys).settledMean = some 0)
    ∧ ({ SensorSys.reset with conducts := List.replicate 2049 0, rawNo := 61440 } : SensorSys).clampedLong = true
    ∧ SensorSys.reset.clampedLong = false ∧ SensorSys.reset.settledMean ≠ some 0 := by decide +kernel

/-- SystemStatesFollowTheirTable: each state, each time at its limit, the fourth fault in the window, and a peer that is not active. -/
theorem test_systems : Supplied runs ∧ 15 < 16
    ∧ (∀ st ∈ [HState.off, .settling, .active, .interfered, .fault], ((sensed fun x => { x with state := st }).sys .x 0).state = st)
    ∧ (2000000 ≤ usSince 2000000 (runs.sys .x 0).rampEnd ∧ usSince 2000000 (runs.sys .x 0).rampEnd < 2 ^ 31)
    ∧ 5000000 ≤ usSince 5000000 (runs.sys .x 0).clampUs ∧ 5000000 ≤ usSince 5000000 (runs.sys .x 0).causeUs
    ∧ (let s := sensed fun x => { x with state := .fault, faults := [1, 2, 3] }
       (s.sys .x 0).cause ≠ 6 ∧ s.col.isolated.contains (sysSrc .x 0) = false ∧ s.portFailed 0 = false
        ∧ ((s.sys .x 0).recent s.svc.ms).length < 4)
    ∧ 4 ≤ (((sensed fun x => { x with state := .fault, faults := [1, 2, 3, 4] }).sys .x 0).recent runs.svc.ms).length
    ∧ (let s := sensed fun x => { x with state := .settling, rhoNew := true }
       (s.sys .x 0).rhoNew = true ∧ 200000 ≤ usSince 200000 (s.sys .x 0).rampEnd ∧ usSince 200000 (s.sys .x 0).rampEnd < 2 ^ 31
        ∧ (((s.begin.modSys .x 0 fun y => { y with yref := 0, hist := [] }).sysTo .x 0 .active 0 200000).sys .y 0).state ≠ .active)
    ∧ (runs.sys .x 0).state ≠ .settling := by
  simp only [Supplied]; decide

/-- ExcitationNeedsTwoChannels: an identical copy of another channel at 2 ms and none, and both sides of the loss. -/
theorem test_keepalive : Supplied runs ∧ runs.spUp .x = true
    ∧ (let s := State.modProc runs .x fun p => { p with ka := [⟨.b, ⟨[], false⟩, 100⟩] }
       let live := (s.proc .x).ka.filter fun k => usSince 2100 k.timeUs ≤ 2000
       (∃ k ∈ live, k.ch ≠ .a ∧ k.cmd = ⟨[], false⟩) ∧ ∀ k ∈ live, k.ch = .a ∨ k.cmd ≠ ⟨[], true⟩)
    ∧ (let s := State.modProc runs .x fun p => { p with agreedUs := some 0 }
       (s.proc .x).agreedUs = some 0 ∧ 3000 * s.dat.cycleMs ≤ usSince (BitVec.ofNat 32 (3000 * s.dat.cycleMs)) 0
        ∧ usSince (BitVec.ofNat 32 (3000 * s.dat.cycleMs - 1)) 0 < 3000 * s.dat.cycleMs)
    ∧ 15 < 16 ∧ 15 < (runs.proc .x).sys.length := by
  simp only [Supplied]
  decide

/-- A head with DUAL_FED, its feed in a state. -/
def fed (d : Drive) (role : Nat) (lock : Bool) : State :=
  { withK fun k => { k with twin := { k.twin with role := role } } with
    sdi := { runs.sdi with sdi := some { station with heads := [⟨0, 0, 1, 0, 0, 0, 0, 0, 0⟩] } }
    sens := { runs.sens with feeds := ⟨d, d == .half, lock, false, none⟩ :: runs.sens.feeds.tail } }

/-- DualFeedSharesTheDrive: each drive, as the reference and not, locked and not, with both systems idle. -/
theorem test_dual_fed : Supplied (fed .half 1 true) ∧ (fed .half 1 true).dualFed 0 = true
    ∧ 0 < (fed .half 1 true).sens.feeds.length ∧ ((fed .half 1 true).feed 0).drive = .half
    ∧ ((fed .half 1 true).feed 0).suppress = false ∧ (fed .half 1 true).isRef 0 = true ∧ (fed .half 3 true).isRef 0 = false
    ∧ ((fed .half 1 true).feed 0).locked = true ∧ ((fed .half 3 false).feed 0).locked = false ∧ (fed .half 3 false).isRef 0 = false
    ∧ ((fed .half 3 false).feed 0).drive ≠ .none
    ∧ ((fed .none 1 true).feed 0).drive = .none ∧ (fed .none 1 true).kernel.twin.role = 1 ∧ (fed .none 3 true).kernel.twin.role = 3
    ∧ (fed .full 1 true).isRef 0 = true ∧ ((fed .full 1 true).feed 0).drive = .full
    ∧ (((fed .full 1 true).sys .x 0).active = false ∧ ((fed .full 1 true).sys .x 0).cand = none)
    ∧ (((fed .full 1 true).sys .y 0).active = false ∧ ((fed .full 1 true).sys .y 0).cand = none)
    ∧ ((fed .joining 1 true).feed 0).drive = .joining ∧ ((fed .half 1 true).feed 0).drive ≠ .joining := by
  simp only [Supplied]; decide

/-! ## Witnesses: recorder, life cycle and images -/

/-- A record of the recorder. -/
def recd (n : Nat) : Rec := ⟨0x8000, 0, 0, 0, 0, 0, [], n, 0, 1, 0, 0, 0, none⟩

/-- A module with an export of slot 0 pinned by the tests' client, its cursor on the last record. -/
def exporting : State :=
  { slotted { SlotSt.free with op := 0x0601, state := .running } with
    rcd := { runs.rcd with pin := some ⟨0, 1, 4, me, 40000⟩, rseq := 5, recs := [(0, recd 1), (1, recd 4)], cursors := [⟨me, 4⟩] } }

/-- The recorder with a bucket of code 6. -/
def bucket (n t : Nat) : State := { runs with rcd := { runs.rcd with buckets := [⟨6, n, t⟩] } }

/-- RecorderIsRefilledFencedAndMarked: a code with no bucket, a bucket at its refill time, before it and full; the last place of the ring; a
list that may be reverted. -/
theorem test_recorder : Supplied runs ∧ runs.rcd.buckets.find? (·.code == 6) = none
    ∧ (let c := runs.rcd.bucketCfg 6
       0 < c.1 ∧ (bucket 0 (100000 - c.2)).rcd.buckets.find? (·.code == 6) = some ⟨6, 0, 100000 - c.2⟩
        ∧ (bucket 0 (100000 - c.2)).rcd.bucketCfg 6 = c ∧ 100000 - c.2 + c.2 ≤ runs.svc.ms ∧ runs.svc.ms < 100001 - c.2 + c.2
        ∧ (bucket c.1 0).rcd.buckets.find? (·.code == 6) = some ⟨6, c.1, 0⟩)
    ∧ runs.rcd.fenced.contains (32767 / 64) = false ∧ 32767 / 64 * 64 < recPlaces runs.rcd.size
    ∧ 1 ≤ (runs.client me).level ∧ 2 ≤ (runs.client me).level ∧ vCode runs.rcd.selCode = false := by
  simp only [Supplied]; decide

/-- RecorderClearEmptiesTheRing: each refusal and the clear. -/
theorem test_recorder_clear :
    let s : State := { runs with life := { runs.life with state := 3 } }
    Supplied s ∧ 2 ≤ (s.client me).level ∧ s.life.state = 3 ∧ s.rcd.stopped = false ∧ 2 ≤ s.rcd.size
    ∧ s.rcd.freePlace 513 0 = some 0 ∧ (s.client guest).level < 2
    ∧ (∀ x ∈ runs.kernel.slots, x.op = 0x0601 → x.state ≠ .running)
    ∧ (∃ x ∈ exporting.kernel.slots, x.op = 0x0601 ∧ x.state = .running) ∧ runs.life.state ≠ 1 ∧ runs.life.state ≠ 3
    ∧ ({ s with rcd := { runs.rcd with stopped := true } } : State).rcd.stopped = true
    ∧ (0xC1EB : W16) ≠ 0xC1EA := by simp only [Supplied]; decide +kernel

/-- CursorsMoveAndExportsEnd: no export and another client's, the advance past the range, and both sides of the export's 60 s. -/
theorem test_cursors : Supplied exporting ∧ 1 ≤ (runs.client me).level ∧ runs.rcd.pin = none
    ∧ (∀ p, exporting.rcd.pin = some p → p.client ≠ guest) ∧ exporting.rcd.pin = some ⟨0, 1, 4, me, 40000⟩
    ∧ (let c := exporting.rcd.cursorOf me
       let next := if exporting.rcd.newest < c then c else nextRseq c
       1 ≤ next ∧ 4 < next)
    ∧ 0 < exporting.kernel.slots.length ∧ (exporting.kernel.slot 0).state = .running ∧ 40000 + 60000 ≤ exporting.svc.ms
    ∧ ({ exporting with svc := ⟨99999, 0, 0⟩ } : State).svc.ms < 40000 + 60000 := by
  simp only [Supplied]
  refine ⟨rfl, by decide, rfl, fun p h => ?_, rfl, by decide⟩
  cases h
  decide

/-- A module in a life-cycle state with every switch closed. -/
def lives (n : Nat) (sw : Byte) : State := { runs with life := { runs.life with state := n, sw1Svc := sw } }

/-- LifeCycleRequestsFollowTheirTable: a transition with its switches, without them, without its condition, none, the present state and
`RETIRED`. -/
theorem test_life_cycle : Supplied (lives 0 0xFF) ∧ (lives 0 0xFF).lcRule (1 : Byte).toNat = some (3, true, true) ∧ 3 ≤ (runs.client me).level
    ∧ (runs.client guest).level < 3 ∧ (lives 0 0xFF).sw 6 = true ∧ (lives 0 0xFF).sw 3 = true ∧ (lives 0 0).sw 6 = false
    ∧ (lives 0 0xDF).sw 6 = false ∧ (lives 0 0xFB).sw 3 = false
    ∧ (∃ n t, (lives 1 0xFF).lcRule (2 : Byte).toNat = some (n, t, false)) ∧ (lives 0 0xFF).lcRule (4 : Byte).toNat = none
    ∧ (4 : Byte).toNat ≤ 4 ∧ (4 : Byte).toNat ≠ (lives 0 0xFF).life.state ∧ (3 : Byte).toNat = (lives 3 0xFF).life.state
    ∧ 2 ≤ (runs.client me).level ∧ (lives 3 0xFF).life.state < 4 ∧ (lives 4 0xFF).life.state = 4 := by
  simp only [Supplied]
  exact ⟨rfl, rfl, by decide, by decide, by decide, by decide, by decide, by decide, by decide, ⟨_, _, rfl⟩, rfl, by decide, by decide,
    rfl, by decide, by decide, rfl⟩

/-- A run of the self-test with slices left, in a slot in a state. -/
def testing (l : List (Nat × Nat)) (st : SlotState) : State :=
  { slotted { SlotSt.free with op := 0x0401, state := st } with
    life := { runs.life with test := { runs.life.test with todo := l, slot := some 0 } } }

/-- SwitchSelfTestAndUnitsAreRead: the first and the last contact set, a difference that lasts and none, a suspended run, one slice left and
two, a shutdown's run, and the last unit. -/
theorem test_switches : Supplied runs ∧ (1 ≤ 1 ∧ 8 ≤ 8)
    ∧ (let s : State := { runs with life := { runs.life with diffMs := ⟨some 99900, some 99900, none, none⟩ } }
       s.mstate = .run ∧ Ch.a ∈ s.sw1Raisers ∧ (if s.vital.ladder == .dual then 1 else 2) ≤ s.sw1Raisers.length
        ∧ s.life.mismatch = false)
    ∧ runs.sw1Raisers.contains .a = false
    ∧ ((testing [] .suspended).life.test.slot = some 0 ∧ ((testing [] .suspended).kernel.slot 0).state = .suspended)
    ∧ (testing [(0, 0)] .running).life.test.todo = (0, 0) :: []
    ∧ (testing [(0, 0), (1, 0)] .running).life.test.todo = (0, 0) :: [(1, 0)]
    ∧ (testing [(0, 0)] .running).life.test.slot = some 0 ∧ ((testing [(0, 0)] .running).kernel.slot 0).state = .running
    ∧ (testing [(0, 0)] .running).life.test.abort = false ∧ (testing [(0, 0)] .running).life.test.cancel = false
    ∧ 0 < (testing [(0, 0)] .running).kernel.slots.length
    ∧ ((testing [(0, 0)] .running).kernel.slot 0).op ≠ 0x0901 ∧ 11 < 12 ∧ runs.cvus.length = 12 := by simp only [Supplied]; decide

/-- A transfer of 1,300 bytes of which some are there. -/
def transfer (n : Nat) (writing : Bool) : Transfer := ⟨0, .svc, 1300, List.replicate n 0, writing, 40000, me⟩

/-- The module with that transfer, its slot in a state. -/
def transfers (n : Nat) (writing : Bool) (st : SlotState) : State :=
  { slotted { SlotSt.free with op := 0x0501, state := st } with upd := { runs.upd with transfers := [transfer n writing] } }

/-- BlocksAreTakenInOrder: no transfer, a suspended one, the next block up to the last byte and beyond it, one received, one past the
next. -/
theorem test_blocks : Supplied (transfers 276 false .running) ∧ 2 ≤ (runs.client me).level ∧ 2 ^ 32 - 1 < 2 ^ 32
    ∧ (∀ t ∈ (transfers 0 false .suspended).upd.transfers,
        t.client ≠ me ∨ t.writing = true ∨ ((transfers 0 false .suspended).kernel.slot t.slot).state = .suspended)
    ∧ (transfers 276 false .running).window me = some (transfer 276 false)
    ∧ (transfers 277 false .running).window me = some (transfer 277 false)
    ∧ slice (transfer 276 false).got 0 2 = [0, 0] ∧ (transfer 276 false).len = 1300
    ∧ (∃ d : List Byte, (1 ≤ d.length ∧ d.length ≤ 1024)
      ∧ 276 = (transfer 276 false).got.length ∧ (transfer 276 false).got.length + d.length ≤ 1300
      ∧ 277 = (transfer 277 false).got.length ∧ 1300 < (transfer 277 false).got.length + d.length
      ∧ 0 < (transfer 276 false).got.length ∧ (transfer 276 false).got.length < 277 ∧ 128 ≤ (transfer 276 false).got.length) := by
  have l (n : Nat) (w : Bool) : (transfer n w).got.length = n := List.length_replicate
  refine ⟨rfl, by decide, by decide, by decide, by decide +kernel, by decide +kernel, by decide +kernel, rfl,
    List.replicate 1024 0, ?_⟩
  rw [l, l, List.length_replicate]
  decide

/-- WrittenImagesAreStagedOrFail: a write that ends well and one that fails, no write, and a transfer idle for 60 s and for less. -/
theorem test_written : Supplied (transfers 3 true .running) ∧ ((transfers 3 true .running).kernel.slot 0).state = .running
    ∧ (transfer 3 true).slot < (transfers 3 true .running).kernel.slots.length
    ∧ (transfers 3 true .running).upd.transfers.find? (·.writing) = some (transfer 3 true)
    ∧ badPackages (transfer 3 true).typ [] = [] ∧ badPackages (transfer 3 true).typ [.svc] ≠ []
    ∧ (∀ y ∈ (transfers 3 false .running).upd.transfers, y.writing = false)
    ∧ (transfers 3 false .running).upd.transfers.find? (fun y => !y.writing && y.lastMs + 60000 ≤ runs.svc.ms) = some (transfer 3 false)
    ∧ (∀ y ∈ (transfers 3 false .running).upd.transfers,
        y.writing = true ∨ ({ transfers 3 false .running with svc := ⟨99999, 0, 0⟩ } : State).svc.ms < y.lastMs + 60000) := by
  simp only [Supplied]; decide

/-- An image of type SVC in an activation state. -/
def activates (a : Activation) : State :=
  { runs with
    upd := { runs.upd with svc := { runs.upd.svc with act := a }, runMs := 3600000 }
    pst := [⟨0x2F80, 2, [1]⟩] }

/-- ActivationsAreConfirmedOrWithdrawn: each activation, in `RUN` and outside it, and the end of the hours. -/
theorem test_activations : Supplied (activates .unconfirmed) ∧ ImageType.ofCode (ImageType.code .svc) = some .svc
    ∧ 2 ≤ ((activates .unconfirmed).client me).level
    ∧ (activates .unconfirmed).mstate = .run ∧ (inState .safe).mstate ≠ .run
    ∧ (∀ a ∈ [Activation.unconfirmed, .staged, .pending, .none], ((activates a).upd.img .svc).act = a)
    ∧ pstNat (activates .unconfirmed).pst 0x2F80 2 0 ≠ 0
    ∧ pstNat (activates .unconfirmed).pst 0x2F80 2 0 * 3600000 ≤ (activates .unconfirmed).upd.runMs
    ∧ pstNat runs.pst 0x2F80 2 0 = 0 := by simp only [Supplied]; decide

/-- SupplyAndTemperatureAreWatched: both sides of each limit, and readings with their largest. -/
theorem test_supply : Supplied runs ∧ runs.supply.low = false ∧ runs.supply.high = false ∧ runs.supply.tempCrit = false
    ∧ runs.mstate = .run ∧ 16799 < 16800 ∧ (154000 < 154001 ∧ 165000 ≤ 165000) ∧ (16800 ≤ 154000 ∧ 154000 ≤ 154000) ∧ 165000 < 165001
    ∧ ((1100 : Int) ∈ [25, 1100] ∧ ∀ y ∈ [25, (1100 : Int)], y ≤ 1100) ∧ ((900 : Int) ≤ 900 ∧ (950 : Int) ≤ 950) := by
  simp only [Supplied]; decide

/-! ## Witnesses: networks and the ring -/

/-- The module with both ports of network A up and 1000BASE-T, its maintenance address 10.0.0.1 and port 2 forced. -/
def wired (f : NetSide → NetSide) : State :=
  { runs with
    nets := { runs.nets with a := f { NetSide.reset with port1 := 2, port2 := 2 } }
    pstLive := [⟨0x2880, 1, [1, 0, 0, 10]⟩, ⟨0x2880, 13, [2]⟩, ⟨0x2880, 3, [2, 0, 0, 10]⟩]
    time := { runs.time with na := { TsuSt.reset with valid := true, run := 1, lastMs := 100000 } } }

/-- A frame at the length limit. -/
def ethFrame : EthFrame := ⟨0x020000000001, 0x020000000002, 5, 1522, true, false, false, true, 0⟩

/-- SwitchForwardsAndAddressesAnswer: each limit at its value. -/
theorem test_switch : Supplied (wired id) ∧ bitAt (pstNat (wired id).pstLive 0x2880 13 0) (2 * netNo .a) = false
    ∧ bitAt (pstNat (wired id).pstLive 0x2880 13 0) (2 * netNo .a + 1) = true
    ∧ ((wired fun n => { n with macs := [⟨7, 1, 99000⟩] }).nets.a.macs = [⟨7, 1, 99000⟩]
      ∧ 99000 + 300000 ≤ ({ runs with svc := ⟨399000, 0, 0⟩ } : State).svc.ms ∧ runs.svc.ms < 99000 + 300000)
    ∧ (wired id).nets.a.port 1 ≠ 0 ∧ (wired id).nets.a.port (3 - 1) ≠ 0
    ∧ ethFrame.pause = false ∧ ethFrame.len ≤ 1522 ∧ 1522 < ({ ethFrame with len := 1523 } : EthFrame).len ∧ ethFrame.fcsOk = true
    ∧ bitAt ethFrame.dst 40 = false ∧ ethFrame.pcp < 6
    ∧ ((wired id).nets.a.learn ethFrame.src 1 100000).macs.find? (·.mac == ethFrame.dst) = none
    ∧ ((wired fun n => { n with macs := [⟨0x020000000001, 1, 99000⟩] }).nets.a.learn ethFrame.src 1 100000).macs.find?
        (·.mac == ethFrame.dst) = some ⟨0x020000000001, 1, 99000⟩
    ∧ bitAt ethFrame.src 40 = false ∧ (wired id).nets.a.macs.length < 1024
    ∧ runs.nets.a.port 1 = 0 ∧ ({ ethFrame with pause := true } : EthFrame).pause = true
    ∧ (0x0A000001 : W32).toNat ≠ 0 ∧ (0x0A000001 : W32).toNat = (wired id).maintIp .a
    ∧ (wired id).nets.a.icmpSec ≠ (wired id).svc.ms / 1000
    ∧ (0x0A000003 : W32).toNat ≠ (wired id).maintIp .a ∧ (wired id).nets.a.service = false
    ∧ (let n := (wired fun n => { n with icmpSec := 100, icmp := 10 }).nets.a
       n.icmpSec = runs.svc.ms / 1000 ∧ 10 ≤ n.icmp)
    ∧ (let s := wired fun n => { n with service := true, garpLeft := 1, garpAt := 99990 }
       s.nets.a.service = true ∧ 0 < s.nets.a.garpLeft ∧ s.serviceIp .a ≠ 0 ∧ s.nets.a.garpAt + 10 ≤ s.svc.ms)
    ∧ runs.svc.ms < (wired fun n => { n with service := true, garpLeft := 1, garpAt := 99991 }).nets.a.garpAt + 10 := by
  simp only [Supplied]; decide

/-- An address that is not the module's own. -/
theorem test_not_own_mac : ∃ d, bitAt d 40 = false ∧ d ≠ Config.mac 0 := by
  cases decEq (Config.mac 0) 0 with
  | isTrue h => exact ⟨1, by decide, fun e => absurd (e.trans h) (by decide)⟩
  | isFalse h => exact ⟨0, by decide, fun e => h e.symm⟩

/-- PtpClocksFollowAndCorrect: another domain; a new and the present master, its Sync and its answer; a residence held and not held, and both
sides of its second. -/
theorem test_ptp :
    let x : PtpIn := ⟨0, false, 1, .other⟩
    let s := wired fun n => { n with master := some 7, syncSeq := some 3, residences := [⟨1, 99000, 1, 3, 500⟩], ptpState := .uncalibrated }
    Supplied s ∧ s.ptpOwn { x with domain := 1 } = false ∧ s.ptpOwn x = true ∧ (wired id).ptpOwn x = true ∧ (wired id).nets.a.master = none
    ∧ s.nets.a.master = some 7 ∧ s.nets.a.syncSeq = some 3 ∧ s.nets.a.ptpState = .uncalibrated
    ∧ (s.begin.stamp (netTsu s .a) 0).2 = true
    ∧ s.nets.a.residences.find? (fun (y : Residence) => y.from_ == x.inPort && y.port == 1 && y.seq == 3) = some ⟨1, 99000, 1, 3, 500⟩
    ∧ s.nets.a.residences.find? (fun (y : Residence) => y.from_ == 2 && y.port == 1 && y.seq == 3) = none
    ∧ s.nets.a.residences = [⟨1, 99000, 1, 3, 500⟩] ∧ 99000 + 1000 ≤ s.svc.ms ∧ s.svc.ms < 99001 + 1000 := by
  simp only [Supplied]; decide

/-- A telegram with its safety codes, from the one partner. -/
def goodTelegram : Telegram := telegram 3 []

/-- Its datagram. -/
def datagram : Datagram := ⟨0, 0, 30712, false, false, true, goodTelegram⟩

/-- The module with the partner's data and one copy of that telegram held. -/
def holding (second done : Bool) : State :=
  { stands id with nets := { runs.nets with keys := [⟨99980, 0, 1, 1, goodTelegram, second, done⟩] } }

/-- CopiesMeetAndEgressNeedsTwo, telegrams: a fragment, a wrong port, a copy that passes the checks with no key, with a first and with a second
copy held, and both sides of the skew window. -/
theorem test_copies :
    let mine := fun (x : PairKey) => x.partner == 0 && x.session == 1 && x.seq == 1
    let u := fun (s : State) => (s.begin.prefilter .a datagram).1.modNet .a fun x => { x with rxValid := x.rxValid + 1 }
    Supplied (stands id) ∧ (stands id).mstate = .run ∧ (datagram.frag = false ∧ datagram.opts = false ∧ datagram.sumOk = true)
    ∧ ({ datagram with frag := true } : Datagram).frag = true ∧ (30713 : Nat) ≠ pstNat runs.pstLive 0x2880 9 30712
    ∧ ((stands id).begin.prefilter .a datagram).2 = some partner ∧ (u (stands id)).nets.keys.find? mine = none
    ∧ ((holding false false).begin.prefilter .a datagram).2 = some partner
    ∧ (u (holding false false)).nets.keys.find? mine = some ⟨99980, 0, 1, 1, goodTelegram, false, false⟩
    ∧ (u (holding true false)).nets.keys.find? mine = some ⟨99980, 0, 1, 1, goodTelegram, true, false⟩
    ∧ (holding false false).dat.partner 0 = some partner ∧ 99980 + partner.skewMs ≤ runs.svc.ms ∧ runs.svc.ms < 99981 + partner.skewMs := by
  simp only [Supplied]; decide +kernel

/-- CopiesMeetAndEgressNeedsTwo, egress and repeats: no entry, one of another channel, one unsent at its timeout on the ring and on a network,
and a record with one repeat left. -/
theorem test_egress : (runs.ch .a).role = .voting ∧ runs.nets.egress .netA = [] ∧ runs.nets.egress .str = []
    ∧ (let s : State := { runs with nets := runs.nets.setEgress .str [⟨[], [.b], false, 0⟩] }
       s.nets.egress .str = [⟨[], [.b], false, s.vital.cycle⟩] ∧ Ch.b ≠ .a ∧ ∃ x ∈ s.nets.egress .str, x.sent = false)
    ∧ (let s : State := { runs with nets := runs.nets.setEgress .netA [⟨[], [.b], false, 0⟩] }
       ∃ x ∈ s.nets.egress .netA, x.sent = false)
    ∧ (let r : SensorRec := ⟨1, 1, 0, 0, 0, 0, 0⟩
       ((State.modSent runs .x fun _ => [(r, 1), (r, 2)]).proc .x).sent = (r, 1) :: [(r, 2)] ∧ ∀ y ∈ [(r, 2)], 0 < y.2) := by
  decide

/-- A schedule with node 3 as ours and node 4 beside it. -/
def sched : Schedule :=
  ⟨1, 4, 2, 4, 2, 1, 1000, 500, 5, 100, [⟨3, true, true, 0, 0⟩, ⟨4, true, false, 1, 1⟩],
    [⟨0, 3, true, false, 16, 1000⟩, ⟨1, 4, true, false, 16, 3000⟩, ⟨2, 3, false, true, 16, 5000⟩, ⟨3, 4, false, false, 8, 7000⟩]⟩

/-- The module as node 3 in a state. -/
def ringAt (st : NodeState) (f : Ring → Ring) : State := { runs with ring := f { Ring.reset with state := st, own := 3, sched := some sched } }

/-- RingNodeFollowsItsStateTable: each state, and each count and cycle on both sides of its limit. -/
theorem test_ring_states : Supplied (ringAt .listen id) ∧ (ringAt .listen id).ring.state = .listen
    ∧ (ringAt .listen id).ring.sched = some sched ∧ sched.node (ringAt .listen id).ring.own = some ⟨3, true, true, 0, 0⟩
    ∧ (ringAt .synced id).ring.state ≠ .listen
    ∧ (ringAt .synced fun r => { r with cycle := 2 }).ring.cycle % 2 = 0 ∧ (ringAt .synced fun r => { r with cycle := 3 }).ring.cycle % 2 = 1
    ∧ (let r := (ringAt .coldstart fun r => { r with noReturn := 3, coldCycles := 32 }).ring
       r.state = .coldstart ∧ 3 ≤ r.noReturn ∧ 32 ≤ r.coldCycles)
    ∧ (ringAt .coldstart fun r => { r with noReturn := 2 }).ring.noReturn < 3
    ∧ (ringAt .coldstart fun r => { r with coldCycles := 31 }).ring.coldCycles < 32
    ∧ (let r := (ringAt .integrating fun r => { r with doubles := 3, measured := true, syncMiss := 2 }).ring
       r.state = .integrating ∧ 3 ≤ r.doubles ∧ r.measured = true ∧ 2 ≤ r.syncMiss)
    ∧ (ringAt .integrating fun r => { r with doubles := 2 }).ring.doubles < 3
    ∧ (ringAt .integrating fun r => { r with syncMiss := 1 }).ring.syncMiss < 2
    ∧ (let r := (ringAt .silent fun r => { r with cycle := 5, silentAt := 3 }).ring
       r.state = .silent ∧ r.cycle % 2 = 1 ∧ r.cycle ≠ r.silentAt)
    ∧ (ringAt .silent fun r => { r with cycle := 5, silentAt := 5 }).ring.cycle = 5
    ∧ (ringAt .synced id).ring.state = .synced ∧ 4 ≠ (ringAt .synced id).ring.own := by
  simp only [Supplied]; decide

/-- ClockCorrectionStaysWithinItsLimits: too few values once and twice, enough within the limits, and one beyond each. -/
theorem test_corrections : (ringAt .synced id).ring.sched = some sched ∧ (ringAt .synced id).ring.state = .synced
    ∧ (ringAt .synced id).ring.voff.length < 2 * sched.k + 1 ∧ (ringAt .synced id).ring.short = 0
    ∧ 1 ≤ (ringAt .synced fun r => { r with short := 1 }).ring.short
    ∧ (let r := (ringAt .synced fun r => { r with devOdd := [(4, 1), (5, 2)], devEven := [(4, 1), (5, 2)] }).ring
       2 * sched.k + 1 ≤ r.voff.length ∧ 2 * sched.k + 1 ≤ r.vrate.length
        ∧ (fta sched.k r.voff).natAbs ≤ sched.offLimit ∧ (r.rate + fta sched.k r.vrate).natAbs ≤ sched.rateLimit * sched.cycleMs)
    ∧ (let r := (ringAt .synced fun r => { r with devOdd := [(4, 20000), (5, 20000)], devEven := [(4, 1), (5, 2)] }).ring
       2 * sched.k + 1 ≤ r.voff.length ∧ 2 * sched.k + 1 ≤ r.vrate.length
        ∧ sched.offLimit < (fta sched.k r.voff).natAbs ∧ sched.rateLimit * sched.cycleMs < (r.rate + fta sched.k r.vrate).natAbs) := by
  decide

/-- RingLoopsAndSlotsAreServed: a port silent for two cycles and one for less, a node that loops and one that does not, the agreed cycle,
another's slot, its own slot with an entry, its key slot synchronised and in a cold start, outside `RUN`. -/
theorem test_ring_loops : Supplied (ringAt .synced id) ∧ (ringAt .synced id).ring.sched = some sched
    ∧ (ringAt .synced id).ring.loopRole = 0 ∧ (ringAt .synced id).ring.breakAt = none
    ∧ 2 ≤ (ringAt .synced fun r => { r with missE := 2, missW := 2 }).ring.missE
    ∧ 2 ≤ (ringAt .synced fun r => { r with missE := 2, missW := 2 }).ring.missW
    ∧ (ringAt .synced fun r => { r with missE := 1 }).ring.missE < 2
    ∧ (ringAt .synced fun r => { r with breakAt := some .e }).ring.breakAt = some .e
    ∧ (ringAt .synced fun r => { r with breakAt := some .w }).ring.breakAt = some .w
    ∧ (ringAt .synced fun r => { r with keyDone := true }).ring.keyDone = true
    ∧ (let r := (ringAt .synced fun r => { r with loopRole := 1, openAt := some 8, cycle := 7 }).ring
       r.openAt = some 8 ∧ r.loopRole ≠ 0 ∧ 8 ≤ r.cycle + 1)
    ∧ (ringAt .synced id).ring.openAt = none ∧ (ringAt .synced id).ring.state ≠ .notConfigured ∧ (ringAt .synced id).ring.state ≠ .listen
    ∧ (ringAt .synced id).mstate = .run
    ∧ ({ ringAt .synced id with mstate := .safe } : State).mstate ≠ .run
    ∧ sched.slots.find? (fun y => y.owner == (ringAt .synced id).ring.own && y.status) = some ⟨2, 3, false, true, 16, 5000⟩
    ∧ sched.slot 1 = some ⟨1, 4, true, false, 16, 3000⟩ ∧ (4 : Nat) ≠ (ringAt .synced id).ring.own
    ∧ sched.slot 2 = some ⟨2, 3, false, true, 16, 5000⟩ ∧ (3 : Nat) = (ringAt .synced id).ring.own
    ∧ (ringAt .synced fun r => { r with ready := [(2, [])] }).ring.ready.find? (·.1 == 2) = some (2, [])
    ∧ sched.slot 0 = some ⟨0, 3, true, false, 16, 1000⟩ ∧ (ringAt .synced id).ring.ownSync = true
    ∧ (ringAt .coldstart id).ring.state = .coldstart := by
  simp only [Supplied]; decide

/-- A frame of node 4 at its slot's start, whole. -/
def ringFrame (typ : BitVec 3) (dir : Bool) (slot : Nat) (p : List Byte) (port : RingPort) (at_ : Int) : RingFrame :=
  let f : RingFrame := ⟨typ, dir, 4, slot, 0, true, 2, p.length, 5, 1, 0, p, 0, 0, port, at_⟩
  { f with fcs := crc32c (RingFrame.bytes f) }

/-- A DATA frame of node 4. -/
def dataFrame : RingFrame := ringFrame 0 false 3 (List.replicate 8 0) .w 7000

/-- A LOOP frame of node 4. -/
def loopFrame (kind b1 b7 : Byte) (port : RingPort) : RingFrame :=
  ringFrame 4 false 1 [kind, b1, 0, 0, 0, 0, 0, b7, 0, 0, 0, 0, 0, 0, 0, 0] port 3000

/-- A frame passes CVU4 at a module. -/
def passes (s : State) (f : RingFrame) : Bool := (s.begin.cvuStrip 4 (RingFrame.bytes f ++ be 4 f.fcs.toNat)).2

/-- What the node is when it judges a frame. -/
def judging (s : State) (f : RingFrame) : Ring := (s.ring.readLoop f).heard f

/-- When a frame of a slot should arrive. -/
def due (f : RingFrame) : Int :=
  let r := (ringAt .synced id).ring
  f.arriveNs - r.deviation sched { f with arriveNs := f.arriveNs / 8 * 8 }

/-- RingFramesAreJudgedBeforeTheyAct: each type accepted in a window and without one, a heartbeat, a frame whose FCS fails, each state and
each side of a cold start, and a loop-back test. -/
theorem test_ring_frames :
    let s := ringAt .synced id
    let n := ringFrame 1 false 3 [] .w 0
    let y := ringFrame 2 false 1 (List.replicate 16 0) .w 0
    let c := ringFrame 3 false 1 (List.replicate 16 0) .w 0
    Supplied s ∧ s.loopTest = false ∧ s.ring.state = .synced
    ∧ (passes s (ringFrame 1 true 3 [] .w 0) = true ∧ (ringFrame 1 true 3 [] .w 0).dir = true
      ∧ RingFrame.fcsOk (ringFrame 1 true 3 [] .w 0) = true)
    ∧ (∀ f ∈ [{ dataFrame with arriveNs := due dataFrame + 1000 }, { n with arriveNs := due n }, { y with arriveNs := due y },
        { c with arriveNs := due c }], passes s f = true ∧ (judging s f).Takes sched f true)
    ∧ (∀ f ∈ [y, c], passes (ringAt .listen id) f = true ∧ (judging (ringAt .listen id) f).Takes sched f false)
    ∧ (passes (ringAt .coldstart id) c = true ∧ (judging (ringAt .coldstart id) c).Takes sched c false ∧ (ringAt .coldstart id).ring.own < c.node)
    ∧ (let t := ringAt .coldstart fun r => { r with own := 5 }
       passes t c = true ∧ (judging t c).Takes sched c false ∧ c.node < t.ring.own)
    ∧ (∀ f ∈ [dataFrame, n, y, c], passes s { f with fcs := f.fcs + 1 } = false)
    ∧ (dataFrame.typ = 0 ∧ n.typ = 1 ∧ y.typ = 2 ∧ c.typ = 3)
    ∧ Supplied (testing [(5, 0)] .running) ∧ (testing [(5, 0)] .running).loopTest = true := by simp only [Supplied, Ring.Takes]; decide +kernel

/-- LoopFramesMeasureAndHeal: each kind at each port, the fourth answer and an earlier one, one not asked for, a PROBE at a node that loops at
each end and at one that does not. -/
theorem test_loop_frames :
    let s := ringAt .synced id
    let l := ringAt .synced fun r => { r with loopRole := 1 }
    let w := ringAt .synced fun r => { r with loopRole := 2, probeRun := 7 }
    Supplied s ∧ s.loopTest = false
    ∧ (∀ x ∈ [(s, 1, loopFrame 1 0 0 .e), (s, 1, loopFrame 1 0 0 .w), (s, 2, loopFrame 2 0 0 .w), (s, 3, loopFrame 3 0 9 .e),
        (l, 3, loopFrame 3 0 9 .e), (w, 3, loopFrame 3 8 0 .w)], passes x.1 x.2.2 = true ∧ x.1.loopOk x.2.2 x.2.1 = true)
    ∧ ((ringAt .synced fun r => { r with asked := true, echoes := [1, 2, 3] }).ring.asked = true
      ∧ (ringAt .synced fun r => { r with asked := true, echoes := [1, 2, 3] }).ring.echoes.length = 3
      ∧ (ringAt .synced fun r => { r with asked := true, echoes := [1, 2] }).ring.echoes.length < 3)
    ∧ s.ring.asked = false ∧ s.ring.loopRole = 0 ∧ l.ring.loopRole = 1 ∧ l.ring.probeSeen = false
    ∧ beAt (loopFrame 3 0 9 .e).payload 4 4 ≠ 0
    ∧ w.ring.loopRole = 2 ∧ w.ring.probeSeen = false ∧ 7 ≤ w.ring.probeRun ∧ 8 ≤ (byteAt (loopFrame 3 8 0 .w).payload 1).toNat
    ∧ w.ring.openAt = none := by simp only [Supplied]; decide +kernel

/-! ## Check values of the spec -/

/-- The check values of R390 for the nine bytes "123456789". -/
theorem test_check_values :
    crc32c [0x31, 0x32, 0x33, 0x34, 0x35, 0x36, 0x37, 0x38, 0x39] = 0xE3069283
    ∧ crc32h [0x31, 0x32, 0x33, 0x34, 0x35, 0x36, 0x37, 0x38, 0x39] = 0xCBF43926 := by decide +kernel


/-! ## Well-formed commands -/

/-- A quiet observation of a cycle mark that writes `pages`. -/
def marked (pages : List Nat) : MarkObs := { markObs [] with pages := pages }

/-- An envelope sample from `n` raw samples of value `v`. -/
def raws (n : Nat) (v : Int) : EnvSample := ⟨List.replicate n ⟨v, false⟩, 0⟩

/-- An ill-formed command for every check of `Instr.wf`. -/
theorem test_wf_refuses :
    (∀ c ∈ [Instr.vitalCycleMark .a (marked (List.replicate 81 0)), .vitalCycleMark .a (marked [1024]),
        .tenon1 .a .b (said (.mark 0)) 2 2 [], .tenon1 .a .b (said (.mark 0)) 0 13 [],
        .tenon1 .a .b (said (.mark 0)) 0 1 (List.replicate 4093 0), .deltaPage .a .b (said (.mark 0)) 1 1024 0 zeros,
        .deltaPage .a .b (said (.mark 0)) 1 0 0 [], .dovetailMismatch .a (List.replicate 3 ⟨0, 0, 0⟩) (bundle 0, bundle 1),
        .sramReadError .a 0x800000 ⟨0, 0⟩, .sramReadError .a 2 ⟨0, 0⟩, .envelopeSample .x 16 (raws 50 0),
        .envelopeSample .x 0 (raws 49 0), .envelopeSample .x 0 (raws 50 32768), .envelopeSample .x 0 (raws 50 (-32769))],
      c.wf = false)
    ∧ (∀ c ∈ [Instr.faultSourceAssert 0x200 none, .escalationExpiry 0x200, .slotSuspend me 96, .slotResume me 96, .slotCancel me 96,
        .slotRelease me 96, .queueTimeout 96, .slotAutoRelease 96, .sessionTimeout 128, .connReqRepeat 128,
        .responderTimeout 128, .holdOffExpiry 128, .connResp 128 (telegram 2 []), .dataTelegram 128 (telegram 3 []),
        .headReport 128 (telegram 5 []), .disc 128 (telegram 6 []), .sccConfirm 128 (confirm 0), .sccRequest 128 (request 1)],
      c.wf = false)
    ∧ (∀ c ∈ [Instr.pulseStart .x 16 0 false, .pulseEnd .x 16 0 false, .upRange .x 16, .downRange .x 16,
        .coilMeasurement .x 16 0 0, .inputDebounce .b1 0 .i ⟨0, 0⟩, .inputDebounce .b1 25 .i ⟨0, 0⟩, .wireBreakFlag .b1 0,
        .wireBreakFlag .b1 25, .wireBreakClear .b1 0, .wireBreakClear .b1 25, .testPulse .b1 0 [], .testPulse .b1 3 [],
        .testPulse .b1 1 [25], .testPulse .b1 1 [0], .nvSilence .b1 0, .nvSilence .b1 5, .outputTestDue 32,
        .switchCurrentLimit 32 .p, .cvuKat 12 0, .ethernetLinkChange .a 0 0, .ethernetLinkChange .a 3 0,
        .ethernetLinkChange .a 1 3, .ethernetFrameForward .a 0 ethFrame, .ethernetFrameForward .a 3 ethFrame,
        .ethernetFrameForward .a 1 { ethFrame with pcp := 8 }, .stratusData { dataFrame with node := 64 },
        .stratusData { dataFrame with slot := 256 }], c.wf = false) := by decide +kernel

/-- Well-formed ones at the limits. -/
theorem test_wf_takes :
    ∀ c ∈ [Instr.vitalCycleMark .a (marked (List.replicate 80 1023)), .tenon1 .a .b (said (.mark 0)) 11 12 (List.replicate 4092 0),
      .deltaPage .a .b (said (.mark 0)) 1 1023 0 zeros, .dovetailMismatch .a (List.replicate 2 ⟨0, 0, 0⟩) (bundle 0, bundle 1),
      .sramReadError .a 0x7FFFFC ⟨0, 0⟩, .envelopeSample .x 15 (raws 50 32767), .envelopeSample .x 15 (raws 50 (-32768)),
      .faultSourceAssert 0x1FF none, .slotSuspend me 95, .sessionTimeout 127, .upRange .x 15, .wireBreakFlag .b1 24,
      .testPulse .b1 2 [1, 24], .nvSilence .b1 4, .outputTestDue 31, .cvuKat 11 0, .ethernetLinkChange .a 2 2,
      .ethernetFrameForward .a 2 { ethFrame with pcp := 7 }, .stratusData { dataFrame with node := 63, slot := 255 }],
      c.wf = true := by decide +kernel

end Sys2Proof.Tests
end

section
/-! PROOFS. The statements about faults: what the collector's bookkeeping leaves, what each reaction level comes to in `SAFE`
and `LOCKOUT` and in `RUN`, and the lock-out reset (R343 to R355). -/

namespace Sys2Proof.Machine

/-! ## Lists and counts -/

/-- A replaced entry stands in the list. -/
theorem mem_modNth_const {α : Type} (l : List α) (a : α) {i : Nat} (h : i < l.length) : a ∈ modNth l i fun _ => a := by
  induction l generalizing i with
  | nil => simp at h
  | cons x t ih => cases i with
    | zero => simp [modNth]
    | succ i => simpa [modNth] using .inr (ih (by simpa using h))

/-- A fold that keeps what it has or takes the next element ends with an element of the list. -/
theorem mem_of_foldl_choice {α : Type} (g : Option α → α → Option α) (hg : ∀ b x, g b x = b ∨ g b x = some x)
    (l : List α) {b : Option α} {y : α} (h : l.foldl g b = some y) : b = some y ∨ y ∈ l := by
  induction l generalizing b with
  | nil => exact .inl h
  | cons x t ih =>
    obtain hb | hy := ih h
    · obtain e | e := hg b x
      · exact .inl (e ▸ hb)
      · simp_all
    · simp [hy]

/-- A source counts one more assertion after it is counted (R359). -/
theorem lookupD_bump (l : List (Nat × Nat)) (k : Nat) : lookupD (bump l k) k = lookupD l k + 1 := by
  unfold bump
  split
  next h =>
    obtain ⟨p, hp⟩ := Option.isSome_iff_exists.mp (List.find?_isSome.mpr (List.any_eq_true.mp h))
    have hk : ((·.1 == k) ∘ fun q : Nat × Nat => if q.1 == k then (q.1, q.2 + 1) else q) = (·.1 == k) := by
      funext q
      dsimp only [Function.comp]
      split <;> rfl
    have hpk : p.1 == k := List.find?_some (p := fun q : Nat × Nat => q.1 == k) hp
    simp only [lookupD, List.find?_map, hk, hp, Option.map_some, hpk, if_true, Option.getD_some]
  next h =>
    have hn : l.find? (·.1 == k) = none := List.find?_eq_none.mpr (by simpa only [List.any_eq_true, not_exists, not_and] using h)
    simp [lookupD, hn]

/-! ## Bookkeeping -/

/-- What a settled reaction leaves as it is: the module state, the channels, the lock-out record, the cause of `SAFE`, the
overrides and the counts of assertions. It may send an EMCY. -/
abbrev Settled (s t : State) : Prop :=
  t.mstate = s.mstate ∧ t.vital = s.vital ∧ t.lock = s.lock ∧ t.col.safeCause = s.col.safeCause
    ∧ t.col.overrides = s.col.overrides ∧ t.col.counts = s.col.counts

/-- The books of the collector and the recorder leave the CAN engine as it is too. -/
abbrev Logged (s t : State) : Prop := Settled s t ∧ t.can = s.can

@[simp] theorem setRec_logged (s : State) (n : Nat) (r : Option FaultRec) : Logged s (s.setRec n r) := by simp [Logged, Settled]

@[simp] theorem record_logged (s : State) (code src flags : Nat) : Logged s (s.record code src flags) := by
  simp only [State.record, State.recordVals]
  (repeat' split) <;> simp [Logged, Settled]

@[simp] theorem settleSource_logged (s : State) (src : Nat) : Logged s (s.settleSource src) := by
  simp only [State.settleSource, State.deassert]
  (repeat' split) <;> simp [Logged, Settled]

@[simp] theorem mergeInto_logged (s : State) (n src : Nat) (forced : Bool) : Logged s (s.mergeInto n src forced) := by
  unfold State.mergeInto
  split <;> simp [Logged, Settled]

@[simp] theorem openRec_logged (s : State) (src : Nat) (forced : Bool) : Logged s (s.openRec src forced).1 := by
  unfold State.openRec
  split
  · simp [Logged, Settled]
  · dsimp only
    split <;> simp [Logged, Settled]

@[simp] theorem settleRec_logged (s : State) (src : Nat) (forced : Bool) : Logged s (s.settleRec src forced).1 := by
  unfold State.settleRec
  split <;> simp [Logged, Settled]

@[simp] theorem closeRec_logged (s : State) (n : Nat) : Logged s (s.closeRec n) := by
  unfold State.closeRec
  split <;> simp [Logged, Settled]

@[simp] theorem safeNets_logged (s : State) : Logged s s.safeNets := by simp [State.safeNets, Logged, Settled]

theorem foldl_logged {α : Type} (l : List α) (g : State → α → State) (h : ∀ s a, Logged s (g s a)) (s : State) :
    Logged s (l.foldl g s) := by
  induction l generalizing s with
  | nil => simp [Logged, Settled]
  | cons a t ih => have := ih (g s a); have := h s a; simp_all [Logged, Settled]

@[simp] theorem slotRecords_logged (s : State) : Logged s s.slotRecords :=
  foldl_logged s.kernel.notes _ (fun x a => by cases a <;> simp [Logged, Settled]) s

@[simp] theorem queueEmcy_settled (s : State) (code src : Nat) : Settled s (s.queueEmcy code src) := by
  unfold State.queueEmcy
  split <;> simp [Settled]

@[simp] theorem checkClear_settled (s : State) : Settled s s.checkClear := by
  unfold State.checkClear
  split <;> simp [Settled]

@[simp] theorem settle_settled (s : State) (n : Option Nat) (src level : Nat) (acked : Bool) :
    Settled s (s.settle n src level acked) := by
  simp only [State.settle]
  (repeat' split) <;> simp [Settled]

/-! ## EMCY messages -/

/-- An EMCY that is queued stays queued when another one follows (R304). -/
theorem mem_queueEmcy {s : State} {e : Emcy} (h : e ∈ s.can.emcys) (code src : Nat) :
    e ∈ (s.queueEmcy code src).can.emcys := by
  unfold State.queueEmcy
  split <;> simp [h]

theorem mem_checkClear {s : State} {e : Emcy} (h : e ∈ s.can.emcys) : e ∈ s.checkClear.can.emcys := by
  unfold State.checkClear
  split
  · exact mem_queueEmcy (by exact h) _ _
  · exact h

/-- With room in the queue an EMCY is sent (R304). -/
theorem queueEmcy_sends {s : State} (h : s.can.emcys.length < 16) (code src : Nat) :
    ∃ e ∈ (s.queueEmcy code src).can.emcys, e.source = src ∧ e.code = code := by
  refine ⟨⟨code, s.errReg, src, s.mstate.code, s.vital.cycleCount % 65536⟩, ?_, rfl, rfl⟩
  simp [State.queueEmcy, Nat.not_le.mpr h]

/-- A reaction settled at a level above L0 reports its level (R304). -/
theorem settle_reports {s : State} (h : s.can.emcys.length < 16) (n : Option Nat) (src : Nat) {level : Nat} (hl : 1 ≤ level)
    (acked : Bool) :
    ∃ e ∈ (s.settle n src level acked).can.emcys, e.source = src ∧ e.code = emcyCode src level := by
  obtain ⟨e, he, hsrc⟩ := queueEmcy_sends
    (s := { s with col := { s.col with highest := max s.col.highest level } }) h (emcyCode src level) src
  refine ⟨e, ?_, hsrc⟩
  simp only [State.settle, hl, if_true]
  (repeat' split)
  · simpa using he
  · exact he
  · simpa using he
  · exact mem_checkClear (by simpa using he)

/-! ## Entries to `SAFE` and `LOCKOUT` -/

/-- The module stands in `SAFE` or `LOCKOUT`, where no channel cycles (R345). -/
abbrev Halted (s : State) : Prop := s.mstate = .safe ∨ s.mstate = .lockout

theorem Halted.of_eq {s t : State} (h : Halted s) (e : t.mstate = s.mstate) : Halted t := by rwa [Halted, e]

theorem resettable_halted {s : State} (h : Halted s) : s.resettable = false := by
  obtain h | h := h <;> simp [State.resettable, h]

/-- In `SAFE` and `LOCKOUT` L4 is already in force (R345). -/
theorem goSafe_halted {s : State} (h : Halted s) (src : Nat) : s.goSafe src = s := by
  obtain h | h := h <;> simp [State.goSafe, h]

/-- The channels stop when the module leaves `RUN` (R352). -/
@[simp] theorem leaveRun_stops (s : State) (m : MState) : (s.leaveRun m).mstate = m ∧ (s.leaveRun m).vital = s.vital.stop
    ∧ (s.leaveRun m).lock = s.lock ∧ (s.leaveRun m).col.counts = s.col.counts := by
  simp [State.leaveRun]

/-- L4 in `RUN` takes the module `SAFE` and names the cause (R351). -/
theorem goSafe_run {s : State} (h : s.mstate = .run) (src : Nat) : (s.goSafe src).mstate = .safe
    ∧ (s.goSafe src).vital = s.vital.stop ∧ (s.goSafe src).col.safeCause = src ∧ (s.goSafe src).col.counts = s.col.counts := by
  simp [State.goSafe, h]

@[simp] theorem lockWritten_state (s : State) : s.lockWritten.mstate = s.mstate ∧ s.lockWritten.lock = s.lock := by
  simp [State.lockWritten, State.cvuJob]

/-- L5 in `SAFE` and `LOCKOUT` ends in `LOCKOUT` with the lock-out record that takes it (R345, R351). -/
theorem goLockout_halted {s : State} (h : Halted s) (src : Nat) (detail : W32) (forced : Bool) :
    (s.goLockout src detail forced).mstate = .lockout ∧ (s.goLockout src detail forced).lock =
      { s.lock.add src detail forced s.time.now s.vital.cycleCount with pending := false } := by
  obtain h | h := h <;> simp [State.goLockout, h]

/-- Every lock-out entry counts (R355). -/
theorem lockout_add_total (l : Lockout) (src : Nat) (detail : W32) (forced : Bool) (now : DTime) (cycle : Nat) :
    (l.add src detail forced now cycle).total = l.total + 1 := by
  simp only [Lockout.add]
  (repeat' split) <;> rfl

/-- The place of a new lock-out entry is one of the record's (R355). -/
theorem lockout_place_lt {l : Lockout} {n : Nat} (h : l.place = some n) : n < l.entries.length := by
  unfold Lockout.place at h
  split at h
  next m hm =>
    obtain rfl : m = n := by simpa using h
    exact (List.findIdx?_eq_some_iff_getElem.mp hm).1
  next =>
    obtain ⟨⟨e, i⟩, hf, rfl⟩ := Option.map_eq_some_iff.mp h
    have hm := mem_of_foldl_choice _ (fun b x => by (repeat' split) <;> simp) _ hf
    obtain ⟨hz, -⟩ := List.mem_filter.mp (hm.resolve_left (by simp))
    exact List.snd_lt_of_mem_zipIdx hz

/-- With a place for it a new lock-out entry is ACTIVE under its source and time (R355). -/
theorem lockout_add_active {l : Lockout} {n : Nat} (h : l.place = some n) (src : Nat) (detail : W32) (forced : Bool)
    (now : DTime) (cycle : Nat) :
    ∃ e ∈ (l.add src detail forced now cycle).entries, e.state = 1 ∧ e.source = src ∧ e.setTime = now := by
  have h' : ({ l with total := l.total + 1 } : Lockout).place = some n := h
  refine ⟨⟨1, bit forced, src, detail, now, cycle, DTime.zero⟩, ?_, rfl, rfl, rfl⟩
  simpa only [Lockout.add, h'] using mem_modNth_const l.entries _ (lockout_place_lt h)

/-! ## Assertions -/

/-- `s` once an assertion of `src` has been counted and a record for it has been opened (R348). -/
def State.opened (s : State) (src : Nat) : State := ((s.countAssert src).openRec src false).1

/-- An assertion opens its record and changes nothing more but its count (R348, R359). -/
theorem opened_eq (s : State) (src : Nat) : (s.opened src).mstate = s.mstate ∧ (s.opened src).vital = s.vital
    ∧ (s.opened src).lock = s.lock ∧ (s.opened src).can = s.can ∧ (s.opened src).time = s.time
    ∧ (s.opened src).col.safeCause = s.col.safeCause ∧ (s.opened src).col.counts = bump s.col.counts src := by
  simp [State.opened, State.countAssert]

/-- An assertion that no shadow takes and that does not escalate reacts at once, at its level (R343, R344). -/
theorem raise_applies {s : State} {src : Nat} (hs : s.shadowSlot src = none) (he : (s.srcCfg src).esc = 0)
    (hl : (s.srcCfg src).level ≠ 0) : ∃ n, s.raise src =
      (s.opened src).applyLevel State.raiseSafe n src (s.srcCfg src).level (Ch.ofIdx (s.srcCfg src).target) 0 false false := by
  have hs' : (s.countAssert src).shadowSlot src = none := hs
  have hc : (s.countAssert src).srcCfg src = s.srcCfg src := rfl
  exact ⟨((s.countAssert src).openRec src false).2, by simp [State.raise, State.raiseWith, hs', hc, he, hl, State.opened]⟩

/-- L3 where no channel cycles is recorded at L1 and not applied (R345). -/
theorem applyLevel_three_halted {s : State} (h : Halted s) (again : State → State) (n : Option Nat) (src : Nat)
    (ch : Ch) (detail : W32) (forced acked : Bool) :
    s.applyLevel again n src 3 ch detail forced acked = s.settle n src 1 acked := by
  simp [State.applyLevel, resettable_halted h]

section Raise
variable {s : State} {src : Nat} (hs : s.shadowSlot src = none) (he : (s.srcCfg src).esc = 0)
include hs he

theorem raise_three_halted (h : Halted s) (hl : (s.srcCfg src).level = 3) :
    ∃ n, s.raise src = (s.opened src).settle n src 1 false := by
  obtain ⟨n, hr⟩ := raise_applies hs he (by omega)
  obtain ⟨om, -⟩ := opened_eq s src
  exact ⟨n, by rw [hr, hl, applyLevel_three_halted (h.of_eq om)]⟩

theorem raise_four (hl : (s.srcCfg src).level = 4) : ∃ n, s.raise src = ((s.opened src).goSafe src).settle n src 4 false := by
  obtain ⟨n, hr⟩ := raise_applies hs he (by omega)
  exact ⟨n, by rw [hr, hl]; rfl⟩

theorem raise_five (hl : (s.srcCfg src).level = 5) :
    ∃ n, s.raise src = ((s.opened src).goLockout src 0 false).settle n src 5 false := by
  obtain ⟨n, hr⟩ := raise_applies hs he (by omega)
  exact ⟨n, by rw [hr, hl]; rfl⟩

end Raise

/-! ## Commands of `SAFE` and `LOCKOUT` -/

/-- A mark outside `RUN` starts no cycle; what waits on the mesh goes out. -/
theorem vitalCycleMark_off {s : State} (hs : Supplied s) (h : s.mstate ≠ .run) (ch : Ch) (o : MarkObs) :
    exec (.vitalCycleMark ch o) s = .next s.begin.sendMesh := by
  have hr : s.begin.runs = false := by simpa [State.runs] using h
  have hm : s.begin.mark ch o = s.begin := by simp [State.mark, hr]
  calc exec (.vitalCycleMark ch o) s = .next (s.meshLive fun s => s.mark ch o) := rfl
    _ = .next s.begin.sendMesh := by rw [ml_on hs, hm]

/-- `s` once the escalation of `src` has fallen due and is counted (R344). -/
def State.fallenDue (s : State) (src : Nat) : State :=
  { s.dropEscal src with col := { (s.dropEscal src).col with escalated := s.col.escalated + 1 } }

/-- An escalation that falls due applies the level of its source to its record (R344). -/
theorem escalationExpiry_due {s : State} {src : Nat} {e : Escalation} (he : s.escalOf src = some e) (hd : e.due ≤ s.svc.ms) :
    let r := (s.fallenDue src).settleRec src e.forced
    escalationExpiry src s = r.1.applyLevel State.raiseSafe r.2 src (r.1.srcCfg src).level (Ch.ofIdx (r.1.srcCfg src).target) 0
      e.forced false := by
  simp only [escalationExpiry, he, hd, if_true]
  rfl

/-- An escalation at L3 that falls due in `SAFE` or `LOCKOUT` is settled and not applied (R344, R345). -/
theorem escalationExpiry_three_halted {s : State} (h : Halted s) {src : Nat} {e : Escalation}
    (he : s.escalOf src = some e) (hd : e.due ≤ s.svc.ms) (hl : (s.srcCfg src).level = 3) :
    (escalationExpiry src s).mstate = s.mstate ∧ (escalationExpiry src s).vital = s.vital
      ∧ (escalationExpiry src s).lock = s.lock := by
  obtain ⟨⟨hm, hv, hk, -, ho, -⟩, -⟩ := settleRec_logged (s.fallenDue src) src e.forced
  have hx := escalationExpiry_due he hd
  dsimp only at hx
  generalize (s.fallenDue src).settleRec src e.forced = r at hx hm hv hk ho
  have hl' : (r.1.srcCfg src).level = 3 := by
    rw [← hl]
    simp only [State.srcCfg, ho]
    rfl
  rw [hl', applyLevel_three_halted (h.of_eq hm)] at hx
  obtain ⟨sm, sv, sk, -⟩ := settle_settled r.1 r.2 src 1 false
  exact hx ▸ ⟨sm.trans hm, sv.trans hv, sk.trans hk⟩

/-! ## NO_MAJORITY -/

theorem imageCfg_noMajority : imageCfg 0x49 = ⟨true, 4, 0, 1, 0⟩ := by decide

/-- NO_MAJORITY is class V, so that no override changes its L4 (R340, R342). -/
theorem srcCfg_noMajority (s : State) : s.srcCfg 0x49 = ⟨true, 4, 0, 1, 0⟩ := by simp [State.srcCfg, imageCfg_noMajority]

/-- NO_MAJORITY is no consequence of a reset: no shadow takes it (R350). -/
theorem expects_noMajority (sh : Shadow) (cycle : Nat) : sh.expects 0x49 cycle = false := by
  have hsrc : ∀ (x : Ch) (o : Nat), o < 0x10 → 0x49 ≠ chSrc x o := fun x o ho => by
    cases x <;> simp only [chSrc, Ch.idx] <;> omega
  cases hp : sh.promoted <;> simp [Shadow.expects, hp, hsrc]

theorem shadowSlot_noMajority (s : State) : s.shadowSlot 0x49 = none := by
  unfold State.shadowSlot
  rw [List.filterMap_eq_nil_iff.mpr fun p _ => by (repeat' split) <;> simp_all [expects_noMajority]]
  rfl

/-- NO_MAJORITY in `RUN` takes the module `SAFE` (R346, R351). -/
theorem raise_noMajority_run {s : State} (h : s.mstate = .run) :
    (s.raise 0x49).mstate = .safe ∧ (s.raise 0x49).vital = s.vital.stop ∧ (s.raise 0x49).col.safeCause = 0x49
      ∧ (s.raise 0x49).col.counts = bump s.col.counts 0x49 := by
  obtain ⟨n, hr⟩ := raise_four (shadowSlot_noMajority s) (by rw [srcCfg_noMajority]) (by rw [srcCfg_noMajority])
  obtain ⟨hm, hv, -, -, -, -, hc⟩ := opened_eq s 0x49
  obtain ⟨gm, gv, gs, gc⟩ := goSafe_run (hm.trans h) 0x49
  simp [hr, gm, gv, gs, gc, hv, hc]

/-! ## The lock-out reset -/

/-- The code of a reset window is never 0 (R354). -/
theorem lockCode_range (s : State) : 0 < lockCode s ∧ lockCode s < 65536 := by
  unfold lockCode
  dsimp only
  split <;> omega

/-- A request of CODE with control supply. -/
theorem lockoutResetConfirm_on {s : State} (hs : Supplied s) (cl : Client) (code : W16) (o : StartObs) :
    exec (.lockoutResetConfirm cl code o) s = .next (lockoutConfirm cl code o s.begin) :=
  congrArg Host.Outcome.next (live_on hs _)

/-- A hold of RESET with control supply. -/
theorem resetHold_on {s : State} (hs : Supplied s) (svc : Bool) (chans : List Ch) :
    exec (.resetHold svc chans) s = .next (resetHold svc chans s.begin) :=
  congrArg Host.Outcome.next (live_on hs _)

/-- At the end of its window a reset is closed, and not before (R354). -/
theorem lockoutResetWindowExpiry_open {s : State} (hs : Supplied s) {d : Nat} (h : s.lock.window = some d) :
    exec .lockoutResetWindowExpiry s = .next (if d ≤ s.svc.ms then
      { s.begin with lock := { s.lock with window := none, code := 0, result := 0x0E04 } } else s.begin) := by
  have h' : s.begin.lock.window = some d := h
  refine congrArg Host.Outcome.next ((live_on hs _).trans ?_)
  simp only [h']
  rfl

/-- Below OPERATE a client may not write CODE (R354, R358). -/
theorem lockoutConfirm_denied {s : State} {cl : Client} (h : (s.client cl).level < 1) (code : W16) (o : StartObs) :
    lockoutConfirm cl code o s.begin = (s.asked cl).abort cl 0x06010000 :=
  write_bad cl .operate true true _ _ (by simp [State.check, Need.level, h])

section Confirm
variable {s : State} {cl : Client} (hop : 1 ≤ (s.client cl).level) (code : W16) (o : StartObs)
include hop

/-- Outside `LOCKOUT` a CODE has nothing to reset (R354). -/
theorem lockoutConfirm_outside (h : s.mstate ≠ .lockout) : lockoutConfirm cl code o s.begin =
    State.accept { s.asked cl with lock := { s.lock with result := 0x0E01 } } cl := by
  unfold lockoutConfirm
  rw [write_ok _ _ _ _ _ (check_operate hop), if_pos (by simpa using h)]
  rfl

variable (hlk : s.mstate = .lockout)
include hlk

/-- Without a window a CODE is refused (R354). -/
theorem lockoutConfirm_closed (h : s.lock.window = none) :
    lockoutConfirm cl code o s.begin = (s.asked cl).abort cl 0x08000020 := by
  have h' : (s.asked cl).lock.window = none := h
  simp [lockoutConfirm, write_ok _ _ _ _ _ (check_operate hop), hlk, h']

/-- At the window's end a CODE is refused and the window closes (R354). -/
theorem lockoutConfirm_late {d : Nat} (h : s.lock.window = some d) (hd : d ≤ s.svc.ms) : lockoutConfirm cl code o s.begin =
    State.abort { s.asked cl with lock := { s.lock with window := none, code := 0, result := 0x0E04 } } cl 0x08000020 := by
  have h' : (s.asked cl).lock.window = some d := h
  simp only [lockoutConfirm, write_ok _ _ _ _ _ (check_operate hop), asked_mstate, hlk, h', asked_svc, hd]
  rfl

/-- A wrong CODE within the window closes it (R354). -/
theorem lockoutConfirm_wrong {d : Nat} (h : s.lock.window = some d) (hd : s.svc.ms < d) (hc : code.toNat ≠ s.lock.code) :
    lockoutConfirm cl code o s.begin =
      State.accept { s.asked cl with lock := { s.lock with window := none, code := 0, result := 0x0E03 } } cl := by
  have h' : (s.asked cl).lock.window = some d := h
  have hc' : code.toNat ≠ (s.asked cl).lock.code := hc
  simp only [lockoutConfirm, write_ok _ _ _ _ _ (check_operate hop), asked_mstate, hlk, h', asked_svc, Nat.not_le.mpr hd, hc']
  rfl

/-- The right CODE within the window clears every ACTIVE entry and restarts the module (R354). -/
theorem lockoutConfirm_right {d : Nat} (h : s.lock.window = some d) (hd : s.svc.ms < d) (hc : code.toNat = s.lock.code) :
    lockoutConfirm cl code o s.begin =
      (State.accept (State.lockWritten { s.asked cl with lock := s.lock.clear s.time.now }) cl).restart o := by
  have h' : (s.asked cl).lock.window = some d := h
  have hc' : code.toNat = (s.asked cl).lock.code := hc
  simp only [lockoutConfirm, write_ok _ _ _ _ _ (check_operate hop), asked_mstate, hlk, h', asked_svc, Nat.not_le.mpr hd, hc']
  rfl

end Confirm

/-! ## The statements -/

/-- Settles O8: where the channels do not cycle, L3 becomes a settlement at L1, `goSafe` does nothing, and `goLockout` still
adds its entry. -/
theorem inSafeAndLockoutNoChannelCycles : Obligations.InSafeAndLockoutNoChannelCycles := by
  intro s src hs h
  have hrun : s.mstate ≠ .run := by obtain h | h := h <;> simp [h]
  refine ⟨vitalCycleMark_off hs hrun, fun hsh hesc => ?_, fun e he hd hl => ?_⟩
  · obtain ⟨om, ov, ol, oc, ot, os, -⟩ := opened_eq s src
    have ho : Halted (s.opened src) := Halted.of_eq h om
    refine ⟨fun hl => ?_, fun hl => ?_, fun hl => ?_⟩
    · obtain ⟨n, hr⟩ := raise_three_halted hsh hesc h hl
      exact ⟨by simp [hr, om], by simp [hr, ov], by simp [hr, ol],
        fun hq => hr ▸ settle_reports (oc ▸ hq) n src (Nat.le_refl 1) false⟩
    · obtain ⟨n, hr⟩ := raise_four hsh hesc hl
      simp [hr, goSafe_halted ho, om, ov, ol, os]
    · obtain ⟨n, hr⟩ := raise_five hsh hesc hl
      obtain ⟨gm, gl⟩ := goLockout_halted ho src 0 false
      obtain ⟨sm, -, sl, -⟩ := settle_settled ((s.opened src).goLockout src 0 false) n src 5 false
      rw [ol, ot, ov] at gl
      rw [hr, sm, sl, gm, gl]
      exact ⟨rfl, lockout_add_total .., fun m hm => lockout_add_active hm ..⟩
  · obtain ⟨tm, tv, tl⟩ := escalationExpiry_three_halted (s := s.begin) h he hd hl
    exact ⟨escalationExpiry src s.begin, congrArg Host.Outcome.next (live_on hs _), tm, tv, tl⟩

/-- Settles O9: the collector's row asserts NO_MAJORITY below two ends of P5, and its L4 leaves `RUN`. -/
theorem noMajorityIsAssertedInHardware : Obligations.NoMajorityIsAssertedInHardware := by
  intro s hs h
  have hx : exec .noMajorityHw s = .next (if s.mstate == .run && s.vital.p5Count < 2 then s.begin.raise 0x49 else s.begin) :=
    congrArg Host.Outcome.next (live_on hs _)
  refine ⟨fun hp => ?_, fun hp => by simp [hx, Nat.not_lt.mpr hp]⟩
  obtain ⟨hm, hv, hc, hn⟩ := raise_noMajority_run (s := s.begin) h
  exact ⟨by simp [hx, h, hp], by rw [hn, lookupD_bump, begin_col], hm, by rw [hv]; rfl, hc⟩

/-- Settles O14, by the cases of a hold and of a write of CODE. -/
theorem lockoutIsResetByItsCodeOnly : Obligations.LockoutIsResetByItsCodeOnly := by
  intro s cl code o hs
  simp only [resetHold_on hs, lockoutResetConfirm_on hs, Host.Outcome.next.injEq]
  refine ⟨lockCode_range s, rfl, fun chans hlk hch => ?_, fun chans hlk => by simp [resetHold, hlk],
    fun hop hlk => ⟨fun d hw hd hc => ?_, fun d hw hd hc => ?_, fun d hw hd => ?_, ?_⟩,
    fun hop hlk => lockoutConfirm_outside hop code o hlk, fun hdn => lockoutConfirm_denied hdn code o, ⟨rfl, rfl⟩,
    fun d hw hd => ?_, fun d hw hd => ?_⟩
  · simp [resetHold, hlk, hch, lockCode]
  · exact lockoutConfirm_right hop code o hlk hw hd hc
  · exact lockoutConfirm_wrong hop code o hlk hw hd hc
  · exact lockoutConfirm_late hop code o hlk hw hd
  · exact lockoutConfirm_closed hop code o hlk
  · rw [lockoutResetWindowExpiry_open hs hw, if_pos hd]
  · rw [lockoutResetWindowExpiry_open hs hw, if_neg (Nat.not_le.mpr hd)]

end Sys2Proof.Machine
end

section
/-! PROOFS. The statement about RECORDER_CLEAR: what a new record leaves of the recorder, what it makes of an empty ring, and the
checks of the clear in their order (R367, R369, R372, R373). -/

namespace Sys2Proof.Machine

/-! ## A record in the ring -/

/-- The search for a place looks at nothing but the size and the fences (R369, R373). -/
theorem freePlace_congr {q r : Recorder} (hs : q.size = r.size) (hf : q.fenced = r.fenced) (fuel p : Nat) :
    q.freePlace fuel p = r.freePlace fuel p := by
  induction fuel generalizing p with
  | zero => rfl
  | succ fuel ih => simp only [Recorder.freePlace, hs, hf, ih]

@[simp] theorem takeToken_freePlace (r : Recorder) (code ms fuel p : Nat) :
    (r.takeToken code ms).freePlace fuel p = r.freePlace fuel p :=
  freePlace_congr (q := r.takeToken code ms) (r := r) rfl rfl fuel p

@[simp] theorem clear_freePlace (r : Recorder) (fuel p : Nat) : r.clear.freePlace fuel p = r.freePlace fuel p :=
  freePlace_congr (q := r.clear) (r := r) rfl rfl fuel p

@[simp] theorem lose_fenced (r : Recorder) (n : Nat) : (r.lose n).fenced = r.fenced := rfl
@[simp] theorem takeToken_fenced (r : Recorder) (code ms : Nat) : (r.takeToken code ms).fenced = r.fenced := rfl

/-- A record that goes into the ring moves no fence (R373). -/
@[simp] theorem put_fenced (r : Recorder) (n : Rec) (epoch : Nat) : (r.put n epoch).fenced = r.fenced := by
  unfold Recorder.put
  split
  · rfl
  · extract_lets old pinned
    split <;> simp

/-- A trigger moves no fence (R373). -/
@[simp] theorem record_fenced (s : State) (code src flags : Nat) : (s.record code src flags).rcd.fenced = s.rcd.fenced := by
  simp only [State.record, State.recordVals]
  repeat' split
  all_goals simp

/-- A stopped recorder takes no record (R373). -/
theorem record_stopped {s : State} (h : s.rcd.stopped = true) (code src flags : Nat) : s.record code src flags = s := by
  simp [State.record, State.recordVals, h]

/-- In an empty ring a record replaces none, so that it takes the first free place (R369). -/
theorem put_empty {r : Recorder} {p : Nat} (he : r.recs = []) (hp : r.freePlace 513 (r.next % recPlaces r.size) = some p)
    (n : Rec) (epoch : Nat) : r.put n epoch =
      { r with recs := [(p, n)], next := (p + 1) % recPlaces r.size, rseq := nextRseq r.rseq, epoch := epoch } := by
  simp [Recorder.put, hp, he]

/-- A trigger that finds an empty ring, a token where the size asks for one and a free place stands alone in the ring, under the
next RSEQ (R367, R369). -/
theorem record_empty {s : State} {code p : Nat} (he : s.rcd.recs = []) (hr : s.rcd.stopped = false)
    (ht : 2 ≤ s.rcd.size ∨ 0 < s.rcd.tokens code) (hp : s.rcd.freePlace 513 (s.rcd.next % recPlaces s.rcd.size) = some p)
    (src flags : Nat) :
    let t := s.record code src flags
    t.rcd.recs = [(p, s.newRec code src flags (s.snapshot code src))] ∧ t.rcd.lost = s.rcd.lost
      ∧ t.rcd.rseq = nextRseq s.rcd.rseq := by
  by_cases hz : s.rcd.size < 2
  · have h0 : s.rcd.tokens code ≠ 0 := by omega
    have hp' := (takeToken_freePlace s.rcd code s.svc.ms _ _).trans hp
    simp only [State.record, State.recordVals, hr, hz, h0, put_empty (r := s.rcd.takeToken code s.svc.ms) he hp']
    exact ⟨rfl, rfl, rfl⟩
  · simp [State.record, State.recordVals, hr, hz, he, put_empty he hp]

/-! ## The clear and its refusals -/

/-- The state of a clear that is taken, before the record of it (R372). -/
abbrev State.cleared (s : State) (cl : Client) : State := { s.asked cl with rcd := s.rcd.clear }

/-- A write of CLEAR with control supply. -/
theorem recorderClear_on {s : State} (hs : Supplied s) (cl : Client) (v : W16) :
    exec (.recorderClear cl v) s = .next (recorderClear cl v s.begin) :=
  congrArg Host.Outcome.next (live_on hs _)

/-- The checks of a clear, in their order: the level, the life-cycle state, the word and a running export (R372). -/
theorem recorderClear_begin (cl : Client) (v : W16) (s : State) : recorderClear cl v s.begin =
    if (s.client cl).level < 2 then (s.asked cl).abort cl 0x06010000
    else if ¬ (s.life.state = 1 ∨ s.life.state = 3) then (s.asked cl).abort cl 0x08000021
    else if v ≠ 0xC1EA then (s.asked cl).abort cl 0x06090030
    else if ∃ x ∈ s.kernel.slots, x.op = 0x0601 ∧ x.state = .running then (s.asked cl).abort cl 0x08000022
    else ((s.cleared cl).record 6 1 0).accept cl := by
  have hv : v.toNat = 0xC1EA ↔ v = 0xC1EA := BitVec.toNat_inj (y := 0xC1EA)
  have ht : s.begin.touch cl = s.asked cl := rfl
  simp only [recorderClear, ht, asked_level, asked_life, asked_kernel, List.any_eq_true, Bool.and_eq_true, beq_iff_eq, bne_iff_ne,
    Bool.not_eq_true', Bool.or_eq_false_iff, beq_eq_false_iff_ne, not_or, ne_eq, hv]
  rfl

/-- Settles O56: the checks of the clear in their order, then what its record finds in the emptied ring. -/
theorem recorderClearEmptiesTheRing : Obligations.RecorderClearEmptiesTheRing := by
  intro s cl hs
  simp only [recorderClear_on hs, recorderClear_begin, Host.Outcome.next.injEq]
  refine ⟨fun hl hlc => ?_, fun hl h1 h3 v => ?_, fun hl v => if_pos hl⟩
  · simp only [if_neg (Nat.not_lt.mpr hl), if_neg (not_not_intro hlc)]
    refine ⟨fun hx => ⟨(s.cleared cl).record 6 1 0, ?_, record_fenced _ _ _ _, rfl, fun hst => ?_, fun p hst ht hp => ?_⟩,
      fun hx => ?_, fun v hv => if_pos hv⟩
    · have hx' : ¬ ∃ x ∈ s.kernel.slots, x.op = 0x0601 ∧ x.state = .running := fun ⟨x, hm, ho, hr⟩ => hx x hm ho hr
      rw [if_neg (not_not_intro rfl), if_neg hx']
    · rw [record_stopped (s := s.cleared cl) hst]
      exact ⟨rfl, rfl, rfl⟩
    · have hp' : s.rcd.clear.freePlace 513 (0 % recPlaces s.rcd.size) = some p := by rwa [Nat.zero_mod, clear_freePlace]
      obtain ⟨hrecs, hlost, hseq⟩ := record_empty (s := s.cleared cl) rfl hst ht hp' 1 0
      exact ⟨hlost, hseq, _, hrecs, rfl, rfl, rfl⟩
    · rw [if_neg (not_not_intro rfl), if_pos hx]
  · rw [if_neg (Nat.not_lt.mpr hl), if_pos (not_or.mpr ⟨h1, h3⟩)]

end Sys2Proof.Machine
end

section
/-! PROOFS. The statements about every command: without supply nothing acts, every command completes and keeps the queue and the
time of CLK_SVC, every step keeps the invariant, and what reset leaves. -/

namespace Sys2Proof.Machine

/-! ## What a row keeps -/

/-- What every command keeps: the waiting commands, the time of CLK_SVC and the invariant. -/
structure Fit (s t : State) : Prop where
  pending : t.pending = s.pending
  ms : t.svc.ms = s.svc.ms
  inv : Inv s → Inv t

theorem Fit.refl (s : State) : Fit s s := ⟨rfl, rfl, id⟩

theorem Fit.trans {s t u : State} (h : Fit s t) (k : Fit t u) : Fit s u :=
  ⟨k.pending.trans h.pending, k.ms.trans h.ms, k.inv ∘ h.inv⟩

/-- An operation that keeps the tables and makes no channel drive an enable outside `RUN` fits. -/
theorem Fit.of_kept {s t : State} (k : Kept s t) (q : Quiet s.mstate s.vital.chans → Quiet t.mstate t.vital.chans) : Fit s t :=
  have ⟨hp, _, _, _, _, _, hm⟩ := k
  ⟨hp, hm, fun h => h.of_kept k (q h.2.2.2.2)⟩

/-- What keeps the tables and leaves the module state and the channels as they are fits. -/
theorem Fit.of_same {s t : State} (k : Kept s t) (hm : t.mstate = s.mstate) (hv : t.vital.chans = s.vital.chans) : Fit s t :=
  .of_kept k (by rw [hm, hv]; exact id)

theorem begin_fit (s : State) : Fit s s.begin := ⟨rfl, rfl, id⟩

theorem fit_ite {s a b : State} {c : Prop} [Decidable c] (ha : Fit s a) (hb : Fit s b) : Fit s (if c then a else b) := by
  split <;> assumption

section Wrappers
variable {s : State} {f : State → State} (hf : ∀ x, Fit x (f x))
include hf

/-- A row fits with and without control supply (R419). -/
theorem live_fit : Fit s (s.live f) := fit_ite ((begin_fit s).trans (hf _)) (begin_fit s)

/-- So does one after which what waits on the mesh goes out (R14). -/
theorem meshLive_fit : Fit s (s.meshLive f) := live_fit fun x => (hf x).trans (.of_kept (sendMesh_kept _) (sendMesh_quiet _))

/-- A client's write does its row or is aborted (R301). -/
theorem write_fit {cl : Client} {n : Need} {lenOk rangeOk : Bool} : Fit s (s.write cl n lenOk rangeOk f) := by
  have ht : Fit s (s.touch cl) := .of_kept (touch_kept ..) (touch_quiet _ _)
  unfold State.write
  dsimp only
  split
  · exact ht.trans (.of_kept (abort_kept ..) (abort_quiet _ _ _))
  · exact ht.trans (hf _)

/-- A mesh frame counts for its link end, and its row runs when it is taken up (R14). -/
theorem meshRow_fit {rx tx : Ch} {h : MeshHead} {m : MeshOut} : Fit s (s.meshRow rx tx h m f) := by
  have hl : Fit s (s.linkRx rx tx ⟨h, m.payload⟩) := .of_kept (linkRx_kept ..) (linkRx_quiet _ _ _ _)
  exact fit_ite (.refl s) (fit_ite (hl.trans (hf _)) hl)

/-- A ring frame is forwarded and judged, and its row runs when it is accepted (R241, R249). -/
theorem ringRow_fit {r : RingFrame} {w : Bool} : Fit s (s.ringRow r w f) := by
  have hr : Fit s { s.ringForward r with ring := ((s.ringForward r).ring.receive r w).1 } :=
    (Fit.of_kept (ringForward_kept s r) (ringForward_quiet s r)).trans ⟨rfl, rfl, id⟩
  exact fit_ite (hr.trans (hf _)) hr

/-- A LOOP frame is forwarded and read, and its row runs when it is one for the node (R247, R251). -/
theorem loopRow_fit {r : RingFrame} {kind : Nat} : Fit s (s.loopRow r kind f) := by
  have hr : Fit s ((s.ringForward r).modRing fun x => (x.readLoop r).heard r) :=
    (Fit.of_kept (ringForward_kept s r) (ringForward_quiet s r)).trans ⟨rfl, rfl, id⟩
  exact fit_ite (hr.trans (hf _)) (hr.trans ⟨rfl, rfl, id⟩)

end Wrappers

/-- A frame from the ring passes CVU4 on its way to its row (R241). -/
theorem fromRing_fit {s : State} {r : RingFrame} {g : RingFrame → State → State} (hg : ∀ r x, Fit x (g r x)) :
    Fit s (s.fromRing r g) :=
  fit_ite (.refl s) ((Fit.of_kept (cvuStrip_kept ..) (cvuStrip_quiet _ _ _)).trans (hg _ _))

theorem asking_fit (s : State) (g : Ring → Ring) : Fit s (s.modRing g).askEcho :=
  (Fit.of_kept (modRing_kept s g) (modRing_quiet s g)).trans (.of_kept (askEcho_kept _) (askEcho_quiet _))

/-- A node that takes up another's time asks for its link delay (R247, R249). -/
theorem adopt_fit (s : State) (r : RingFrame) : Fit s (s.modRing (·.adopt r)).askEcho := asking_fit s _

/-- A generator that is not retriggered stops (R67). -/
theorem genStops_fit (s : State) (ch : Ch) (bk : Bank) :
    Fit s (s.modCh ch fun c => { c with gens := c.gens.set bk.ch false }) := by
  refine .of_kept (modCh_kept ..) fun h => quiet_modify ch _ h fun ⟨hg, he⟩ => ⟨?_, he⟩
  simp only [hg]
  cases bk <;> rfl

/-- A part of a raw image is stored, and the channel goes on (R53). -/
theorem takeT1_fit (s : State) (rx tx : Ch) (cycle part parts : Nat) (data : List Byte) :
    Fit s (State.advance rx 6 false (s.modCh rx fun c => c.takeT1 tx cycle part parts data)) :=
  .of_kept (kept_trans (modCh_kept ..) (advance_kept ..)) fun h => advance_quiet _ _ _ _ (quiet_modify rx _ h id)

/-! ## What restarts -/

theorem restart_fit (s : State) (o : StartObs) : Fit s (s.restart o) :=
  have ⟨hp, hm, _⟩ := restart_keeps s o
  ⟨hp, hm, fun h => restart_inv h o⟩

theorem powerDown_fit (s : State) : Fit s s.powerDown := ⟨rfl, rfl, powerDown_inv⟩

/-- The supply monitor's last reading, and the loss of the supply (R419). -/
theorem powerFail_fit (s : State) (mv : Nat) : Fit s ({ s with supply := s.supply.read mv } : State).powerDown :=
  .trans (t := { s with supply := s.supply.read mv }) ⟨rfl, rfl, id⟩ (powerDown_fit _)

/-- POWER_ON begins anew and keeps the queue and the time of CLK_SVC (R387, R419). -/
theorem powerOn_fit (s : State) (o : StartObs) : Fit s (powerOn o s) := by
  by_cases hv : 16800 ≤ o.mv ∧ o.mv ≤ 165000
  · obtain ⟨hp, hm, -⟩ := powerOn_keeps s o hv
    exact ⟨hp, hm, fun h => powerOn_inv h o⟩
  · rw [powerOn, if_pos (by simp; omega)]
    exact .refl s

theorem supplyRead_fit (s : State) (mv : Nat) : Fit s (s.supplyRead mv) :=
  have ⟨hp, _, _, _, _, hm⟩ := supplyRead_read s mv
  ⟨hp, hm, fun h => supplyRead_inv h mv⟩

theorem temperatureRead_fit (dc : List Int) (s : State) : Fit s (temperatureRead dc s) := by
  obtain ⟨hp, k1, k2, k3, k4, hm⟩ := temperatureRead_read dc s
  refine ⟨hp, hm, fun ⟨h1, h2, h3, h4, h5⟩ => ⟨k3.trans h1, k2.trans h2, k1.trans h3, k4.trans h4, temperatureRead_quiet dc s h5⟩⟩

/-- A schedule's time restarts the module or drops the schedule (R316, R403). -/
theorem scheduledActivation_fit (o : StartObs) (s : State) : Fit s (scheduledActivation o s) := by
  have hf : ∀ (x : State) n st r d, Fit x (x.finish n st r d) := fun x n st r d => .of_kept (finish_kept ..) (finish_quiet x n st r d)
  unfold scheduledActivation
  split
  · exact .refl s
  · exact fit_ite (.refl s) (fit_ite ((hf ..).trans (restart_fit ..))
      ((Fit.of_kept (dropSchedule_kept s) (dropSchedule_quiet s)).trans (hf ..)))

/-- A write of CODE restarts the module or is answered (R354). -/
theorem lockoutConfirm_fit (cl : Client) (code : W16) (o : StartObs) (s : State) : Fit s (lockoutConfirm cl code o s) := by
  have ha : ∀ x : State, Fit x (x.accept cl) := fun x => .of_kept (accept_kept ..) (accept_quiet x cl)
  have hb : ∀ (x : State) e, Fit x (x.abort cl e) := fun x e => .of_kept (abort_kept ..) (abort_quiet x cl e)
  have hl : ∀ (x : State) (l : Lockout), l.entries = x.lock.entries → Fit x { x with lock := l } := fun x l h =>
    .of_same ⟨rfl, rfl, congrArg List.length h, rfl, rfl, rfl, rfl⟩ rfl rfl
  refine write_fit fun x => ?_
  refine fit_ite ((hl x _ (by rfl)).trans (ha _)) ?_
  split
  · exact hb ..
  · refine fit_ite ((hl x _ (by rfl)).trans (hb ..)) (fit_ite ?_ ((hl x _ (by rfl)).trans (ha _)))
    have hc : Fit x { x with lock := x.lock.clear x.time.now } :=
      .of_same ⟨rfl, rfl, by simp [Lockout.clear], rfl, rfl, rfl, rfl⟩ rfl rfl
    exact hc.trans ((Fit.of_kept (lockWritten_kept _) (lockWritten_quiet _)).trans ((ha _).trans (restart_fit ..)))

/-! ## Every command -/

/-- Every command answers a next state and keeps what `Fit` says. -/
theorem exec_fit (c : Instr) (s : State) : ∃ t, exec c s = .next t ∧ Fit s t := by
  cases c with
  | powerOn o => exact ⟨_, rfl, (begin_fit s).trans (powerOn_fit ..)⟩
  | startTimeout => exact ⟨_, rfl, live_fit fun _ => .of_kept (startTimeout_kept ..) (startTimeout_quiet _)⟩
  | vitalCycleMark ch o => exact ⟨_, rfl, meshLive_fit fun _ => .of_kept (mark_kept ..) (mark_quiet _ _ _)⟩
  | phaseOverrun ch ph => exact ⟨_, rfl, meshLive_fit fun _ => .of_kept (phaseOverrun_kept ..) (phaseOverrun_quiet _ _ _)⟩
  | tenonDeadline ch st => exact ⟨_, rfl, meshLive_fit fun s => .of_kept (by dsimp only; (repeat' split) <;> simp [Kept])
      fun h => by dsimp only; (repeat' split) <;> simp -implicitDefEqProofs +contextual (maxDischargeDepth := 30) [h]⟩
  | voteDeadline ch => exact ⟨_, rfl, meshLive_fit fun s => .of_kept (by (repeat' split) <;> simp [Kept])
      fun h => by (repeat' split) <;> simp -implicitDefEqProofs +contextual (maxDischargeDepth := 30) [h]⟩
  | markFrame rx tx h arrivalNs waitNs => exact ⟨_, rfl, meshLive_fit fun _ => meshRow_fit fun s => .of_kept (by simp [Kept])
      fun h => by simp -implicitDefEqProofs +contextual (maxDischargeDepth := 30) [h]⟩
  | tenon1 rx tx h part parts data => exact ⟨_, rfl, meshLive_fit fun _ => meshRow_fit fun x =>
      fit_ite (takeT1_fit x rx tx h.cycle part parts data) (.refl x)⟩
  | tenon2 rx tx h p => exact ⟨_, rfl, meshLive_fit fun _ => meshRow_fit fun s => .of_kept (by dsimp only; simp [Kept])
      fun h => by dsimp only; simp -implicitDefEqProofs +contextual (maxDischargeDepth := 30) [h]⟩
  | vote rx tx h p => exact ⟨_, rfl, meshLive_fit fun _ => meshRow_fit fun s => .of_kept (by dsimp only; simp [Kept])
      fun h => by dsimp only; simp -implicitDefEqProofs +contextual (maxDischargeDepth := 30) [h]⟩
  | deltaReqStart rx tx h ckptCycle ckptHash map => exact ⟨_, rfl, meshLive_fit fun _ => meshRow_fit fun _ => .of_kept (takeStart_kept ..) (takeStart_quiet _ _ _ _ _)⟩
  | deltaReqRepair rx tx h round map => exact ⟨_, rfl, meshLive_fit fun _ => meshRow_fit fun _ => .of_kept (takeRepair_kept ..) (takeRepair_quiet _ _ _ _ _)⟩
  | deltaPage rx tx h round page crc data => exact ⟨_, rfl, meshLive_fit fun _ => meshRow_fit fun x =>
      fit_ite (.of_kept (takePage_kept ..) (takePage_quiet x rx tx page crc data)) (.refl x)⟩
  | deltaEnd rx tx h round count hash map => exact ⟨_, rfl, meshLive_fit fun _ => meshRow_fit fun s => .of_kept (by (repeat' split) <;> simp [Kept])
      fun h => by (repeat' split) <;> simp -implicitDefEqProofs +contextual (maxDischargeDepth := 30) [h]⟩
  | idleFrame rx tx h => exact ⟨_, rfl, meshLive_fit fun _ => meshRow_fit fun s => .of_kept (by simp [Kept])
      fun h => by simp -implicitDefEqProofs +contextual (maxDischargeDepth := 30) [h]⟩
  | linkEndSilence rx tx => exact ⟨_, rfl, live_fit fun s => .of_kept (by (repeat' split) <;> simp [Kept])
      fun h => by (repeat' split) <;> simp -implicitDefEqProofs +contextual (maxDischargeDepth := 30) [h]⟩
  | dovetailMismatch ch stores edge => exact ⟨_, rfl, live_fit fun _ => .of_kept (dovetailEdge_kept ..) (dovetailEdge_quiet _ _ _ _)⟩
  | sramReadError ch addr w => exact ⟨_, rfl, live_fit fun _ => .of_kept (sramRead_kept ..) (sramRead_quiet _ _ _ _)⟩
  | pairResetRelease ch => exact ⟨_, rfl, live_fit fun s => .of_kept (by (repeat' split) <;> simp [Kept])
      fun h => by (repeat' split) <;> simp -implicitDefEqProofs +contextual (maxDischargeDepth := 30) [h]⟩
  | channelReady ch => exact ⟨_, rfl, live_fit fun s => .of_kept (by (repeat' split) <;> simp [Kept])
      fun h => by (repeat' split) <;> simp -implicitDefEqProofs +contextual (maxDischargeDepth := 30) [h]⟩
  | deltaRoundDeadline ch => exact ⟨_, rfl, live_fit fun s => .of_kept (by (repeat' split) <;> simp [Kept])
      fun h => by (repeat' split) <;> simp -implicitDefEqProofs +contextual (maxDischargeDepth := 30) [h]⟩
  | resetWindowExpiry ch => exact ⟨_, rfl, live_fit fun s => .of_kept (by simp [Kept])
      fun h => by simp -implicitDefEqProofs +contextual (maxDischargeDepth := 30) [h]⟩
  | dualLimitReached => exact ⟨_, rfl, live_fit fun s => .of_kept (by (repeat' split) <;> simp [Kept])
      fun h => by (repeat' split) <;> simp -implicitDefEqProofs +contextual (maxDischargeDepth := 30) [h]⟩
  | dualAccumulatorClear => exact ⟨_, rfl, live_fit fun s => .of_kept (by (repeat' split) <;> simp [Kept])
      fun h => by (repeat' split) <;> simp -implicitDefEqProofs +contextual (maxDischargeDepth := 30) [h]⟩
  | enableGeneratorTimeout ch bk => exact ⟨_, rfl, live_fit fun _ => genStops_fit ..⟩
  | bankEnableInvalid bk ch => exact ⟨_, rfl, live_fit fun _ => .of_kept (modHw_kept ..) (modHw_quiet _ _ _)⟩
  | chargePumpDecay bk => exact ⟨_, rfl, live_fit fun _ => .of_kept (modHw_kept ..) (modHw_quiet _ _ _)⟩
  | chargePumpReady bk => exact ⟨_, rfl, live_fit fun _ => .of_kept (modHw_kept ..) (modHw_quiet _ _ _)⟩
  | bankLineStale bk ch => exact ⟨_, rfl, live_fit fun _ => .of_kept (modHw_kept ..) (modHw_quiet _ _ _)⟩
  | commandFrameRepeat ch bk => exact ⟨_, rfl, live_fit fun s => .of_kept (by dsimp only; (repeat' split) <;> simp [Kept])
      fun h => by dsimp only; (repeat' split) <;> simp -implicitDefEqProofs +contextual (maxDischargeDepth := 30) [h]⟩
  | commandFrameReceive bk ch f => exact ⟨_, rfl, live_fit fun _ => .of_kept (modHw_kept ..) (modHw_quiet _ _ _)⟩
  | configurationFrame bk ch f => exact ⟨_, rfl, live_fit fun _ => .of_kept (modHw_kept ..) (modHw_quiet _ _ _)⟩
  | bankInputFrameSend bk => exact ⟨_, rfl, live_fit fun s => .of_kept (by dsimp only; (repeat' split) <;> simp [Kept])
      fun h => by dsimp only; (repeat' split) <;> simp -implicitDefEqProofs +contextual (maxDischargeDepth := 30) [h]⟩
  | inputFrameReceive ch bk f => exact ⟨_, rfl, live_fit fun s => .of_kept (by (repeat' split) <;> simp [Kept])
      fun h => by (repeat' split) <;> simp -implicitDefEqProofs +contextual (maxDischargeDepth := 30) [h]⟩
  | inputDebounce bk inp path v => exact ⟨_, rfl, live_fit fun _ => .of_kept (modHw_kept ..) (modHw_quiet _ _ _)⟩
  | testPulse bk src carrying => exact ⟨_, rfl, live_fit fun _ => .of_kept (modHw_kept ..) (modHw_quiet _ _ _)⟩
  | wireBreakFlag bk inp => exact ⟨_, rfl, live_fit fun _ => .of_kept (modHw_kept ..) (modHw_quiet _ _ _)⟩
  | wireBreakClear bk inp => exact ⟨_, rfl, live_fit fun _ => .of_kept (modHw_kept ..) (modHw_quiet _ _ _)⟩
  | bankSelfFault bk chk => exact ⟨_, rfl, live_fit fun _ => .of_kept (modHw_kept ..) (modHw_quiet _ _ _)⟩
  | bankLineFaultClear bk ch => exact ⟨_, rfl, live_fit fun _ => .of_kept (modHw_kept ..) (modHw_quiet _ _ _)⟩
  | ufWarn bk below => exact ⟨_, rfl, live_fit fun _ => .of_kept (modHw_kept ..) (modHw_quiet _ _ _)⟩
  | ufLow bk below => exact ⟨_, rfl, live_fit fun _ => .of_kept (modHw_kept ..) (modHw_quiet _ _ _)⟩
  | ufCut bk => exact ⟨_, rfl, live_fit fun _ => .of_kept (modHw_kept ..) (modHw_quiet _ _ _)⟩
  | ufCutRecovery bk => exact ⟨_, rfl, live_fit fun _ => .of_kept (modHw_kept ..) (modHw_quiet _ _ _)⟩
  | nvSilence bk out => exact ⟨_, rfl, live_fit fun _ => .of_kept (modHw_kept ..) (modHw_quiet _ _ _)⟩
  | discrepancyTimeout first => exact ⟨_, rfl, live_fit fun _ => .of_kept (kRow_kept ..) (kRow_quiet _ _)⟩
  | undefLatch inp => exact ⟨_, rfl, live_fit fun _ => .of_kept (kRow_kept ..) (kRow_quiet _ _)⟩
  | undefLatchClear inp => exact ⟨_, rfl, live_fit fun _ => .of_kept (kRow_kept ..) (kRow_quiet _ _)⟩
  | supplyHoldExpiry bk => exact ⟨_, rfl, live_fit fun _ => .of_kept (kRow_kept ..) (kRow_quiet _ _)⟩
  | outputTestDue out => exact ⟨_, rfl, live_fit fun _ => .of_kept (kRow_kept ..) (kRow_quiet _ _)⟩
  | bankAbsentFailed bk => exact ⟨_, rfl, live_fit fun _ => .of_kept (kNext_kept ..) (kNext_quiet _ _)⟩
  | fieldResetTarget cl target => exact ⟨_, rfl, live_fit fun _ => .of_kept (fieldTarget_kept ..) (fieldTarget_quiet _ _ _)⟩
  | fieldResetConfirm cl code => exact ⟨_, rfl, live_fit fun _ => .of_kept (fieldConfirm_kept ..) (fieldConfirm_quiet _ _ _)⟩
  | fieldResetTimeout => exact ⟨_, rfl, live_fit fun _ => .of_kept (kRow_kept ..) (kRow_quiet _ _)⟩
  | pulseStart sp head startUs rsStart => exact ⟨_, rfl, live_fit fun s => .of_kept (by dsimp only; (repeat' split) <;> simp [Kept])
      fun h => by dsimp only; (repeat' split) <;> simp -implicitDefEqProofs +contextual (maxDischargeDepth := 30) [h]⟩
  | pulseEnd sp head endUs rsEnd => exact ⟨_, rfl, live_fit fun s => .of_kept (by dsimp only; (repeat' split) <;> simp [Kept])
      fun h => by dsimp only; (repeat' split) <;> simp -implicitDefEqProofs +contextual (maxDischargeDepth := 30) [h]⟩
  | timebaseStrobe sp sendUs => exact ⟨_, rfl, live_fit fun s => .of_kept (by dsimp only; (repeat' split) <;> simp [Kept])
      fun h => by dsimp only; (repeat' split) <;> simp -implicitDefEqProofs +contextual (maxDischargeDepth := 30) [h]⟩
  | peerStrobeReceive sp stampUs => exact ⟨_, rfl, live_fit fun s => .of_kept (by dsimp only; (repeat' split) <;> simp [Kept])
      fun h => by dsimp only; (repeat' split) <;> simp -implicitDefEqProofs +contextual (maxDischargeDepth := 30) [h]⟩
  | upRange sp head => exact ⟨_, rfl, live_fit fun _ => .of_kept (modSys_kept ..) (modSys_quiet _ _ _ _)⟩
  | downRange sp head => exact ⟨_, rfl, live_fit fun _ => .of_kept (modSys_kept ..) (modSys_quiet _ _ _ _)⟩
  | coilMeasurement sp head loopMilliohm timeUs => exact ⟨_, rfl, live_fit fun s => .of_kept (by dsimp only; (repeat' split) <;> simp [Kept])
      fun h => by dsimp only; (repeat' split) <;> simp -implicitDefEqProofs +contextual (maxDischargeDepth := 30) [h]⟩
  | driveFault sp head timeUs => exact ⟨_, rfl, live_fit fun _ => .of_kept (faultFrom_kept ..) (faultFrom_quiet _ _ _ _ _)⟩
  | keepaliveCommand sp ch cmd timeUs => exact ⟨_, rfl, live_fit fun s => .of_kept (by (repeat' split) <;> simp [Kept])
      fun h => by (repeat' split) <;> simp -implicitDefEqProofs +contextual (maxDischargeDepth := 30) [h]⟩
  | keepaliveLoss sp timeUs => exact ⟨_, rfl, live_fit fun _ => .of_kept (kaLoss_kept ..) (kaLoss_quiet _ _ _)⟩
  | systemSettled sp head mean timeUs => exact ⟨_, rfl, live_fit fun s => .of_kept (by dsimp only; (repeat' split) <;> simp [Kept])
      fun h => by dsimp only; (repeat' split) <;> simp -implicitDefEqProofs +contextual (maxDischargeDepth := 30) [h]⟩
  | settleTimeout sp head timeUs => exact ⟨_, rfl, live_fit fun s => .of_kept (by dsimp only; (repeat' split) <;> simp [Kept])
      fun h => by dsimp only; (repeat' split) <;> simp -implicitDefEqProofs +contextual (maxDischargeDepth := 30) [h]⟩
  | clampInterference sp head timeUs => exact ⟨_, rfl, live_fit fun s => .of_kept (by dsimp only; (repeat' split) <;> simp [Kept])
      fun h => by dsimp only; (repeat' split) <;> simp -implicitDefEqProofs +contextual (maxDischargeDepth := 30) [h]⟩
  | interferenceRecovery sp head timeUs => exact ⟨_, rfl, live_fit fun s => .of_kept (by dsimp only; (repeat' split) <;> simp [Kept])
      fun h => by dsimp only; (repeat' split) <;> simp -implicitDefEqProofs +contextual (maxDischargeDepth := 30) [h]⟩
  | faultRecovery sp head timeUs => exact ⟨_, rfl, live_fit fun s => .of_kept (by dsimp only; (repeat' split) <;> simp [Kept])
      fun h => by dsimp only; (repeat' split) <;> simp -implicitDefEqProofs +contextual (maxDischargeDepth := 30) [h]⟩
  | adcReferenceFault sp head timeUs => exact ⟨_, rfl, live_fit fun _ => .of_kept (faultFrom_kept ..) (faultFrom_quiet _ _ _ _ _)⟩
  | partnerDriveAbsent head timeUs => exact ⟨_, rfl, live_fit fun s => .of_kept (by simp [Kept])
      fun h => by simp -implicitDefEqProofs +contextual (maxDischargeDepth := 30) [h]⟩
  | partnerDrivePresent head => exact ⟨_, rfl, live_fit fun s => .of_kept (by (repeat' split) <;> simp [Kept])
      fun h => by (repeat' split) <;> simp -implicitDefEqProofs +contextual (maxDischargeDepth := 30) [h]⟩
  | lockLost head timeUs => exact ⟨_, rfl, live_fit fun s => .of_kept (by simp [Kept])
      fun h => by simp -implicitDefEqProofs +contextual (maxDischargeDepth := 30) [h]⟩
  | lockAcquired head => exact ⟨_, rfl, live_fit fun s => .of_kept (by simp [Kept])
      fun h => by simp -implicitDefEqProofs +contextual (maxDischargeDepth := 30) [h]⟩
  | joinRequest head idle timeUs => exact ⟨_, rfl, live_fit fun s => .of_kept (by dsimp only; (repeat' split) <;> simp [Kept])
      fun h => by dsimp only; (repeat' split) <;> simp -implicitDefEqProofs +contextual (maxDischargeDepth := 30) [h]⟩
  | joinRampEnd head timeUs => exact ⟨_, rfl, live_fit fun s => .of_kept (by (repeat' split) <;> simp [Kept])
      fun h => by (repeat' split) <;> simp -implicitDefEqProofs +contextual (maxDischargeDepth := 30) [h]⟩
  | sensorProcessorFailed sp => exact ⟨_, rfl, live_fit fun _ => .of_kept (kNext_kept ..) (kNext_quiet _ _)⟩
  | remoteSilent head => exact ⟨_, rfl, live_fit fun _ => .of_kept (kRow_kept ..) (kRow_quiet _ _)⟩
  | staleHold head => exact ⟨_, rfl, live_fit fun _ => .of_kept (kRow_kept ..) (kRow_quiet _ _)⟩
  | clearDelayExpiry el => exact ⟨_, rfl, live_fit fun _ => .of_kept (kNext_kept ..) (kNext_quiet _ _)⟩
  | routeSet l => exact ⟨_, rfl, live_fit fun _ => .of_kept (launch_kept ..) (launch_quiet _ _ _)⟩
  | routeCancel l => exact ⟨_, rfl, live_fit fun _ => .of_kept (launch_kept ..) (launch_quiet _ _ _)⟩
  | routeEmergencyRelease slot => exact ⟨_, rfl, live_fit fun _ => .of_kept (kRow_kept ..) (kRow_quiet _ _)⟩
  | overlapTimerExpiry route => exact ⟨_, rfl, live_fit fun _ => .of_kept (kRow_kept ..) (kRow_quiet _ _)⟩
  | approachTimerExpiry route => exact ⟨_, rfl, live_fit fun _ => .of_kept (kRow_kept ..) (kRow_quiet _ _)⟩
  | emergencyTimerExpiry route => exact ⟨_, rfl, live_fit fun _ => .of_kept (kRow_kept ..) (kRow_quiet _ _)⟩
  | pointThrow l => exact ⟨_, rfl, live_fit fun _ => .of_kept (launch_kept ..) (launch_quiet _ _ _)⟩
  | pointEmergencyThrow slot => exact ⟨_, rfl, live_fit fun _ => .of_kept (kRow_kept ..) (kRow_quiet _ _)⟩
  | throwTimeout el => exact ⟨_, rfl, live_fit fun _ => .of_kept (kRow_kept ..) (kRow_quiet _ _)⟩
  | detectionGraceExpiry el => exact ⟨_, rfl, live_fit fun _ => .of_kept (kNext_kept ..) (kNext_quiet _ _)⟩
  | lampProofJudgement el => exact ⟨_, rfl, live_fit fun _ => .of_kept (kRow_kept ..) (kRow_quiet _ _)⟩
  | block cl el => exact ⟨_, rfl, live_fit fun _ => .of_kept (elemRow_kept ..) (elemRow_quiet _ _ _ _)⟩
  | unblock cl el => exact ⟨_, rfl, live_fit fun _ => .of_kept (elemRow_kept ..) (elemRow_quiet _ _ _ _)⟩
  | faultReset cl el => exact ⟨_, rfl, live_fit fun _ => .of_kept (elemRow_kept ..) (elemRow_quiet _ _ _ _)⟩
  | keyGrant cl el => exact ⟨_, rfl, live_fit fun _ => .of_kept (elemRow_kept ..) (elemRow_quiet _ _ _ _)⟩
  | keyWithdraw cl el => exact ⟨_, rfl, live_fit fun _ => .of_kept (elemRow_kept ..) (elemRow_quiet _ _ _ _)⟩
  | keyRemovalTimeout el => exact ⟨_, rfl, live_fit fun _ => .of_kept (kRow_kept ..) (kRow_quiet _ _)⟩
  | keyReturn el => exact ⟨_, rfl, live_fit fun _ => .of_kept (kRow_kept ..) (kRow_quiet _ _)⟩
  | lxCloseTimeout el => exact ⟨_, rfl, live_fit fun _ => .of_kept (kRow_kept ..) (kRow_quiet _ _)⟩
  | lxRecovery el => exact ⟨_, rfl, live_fit fun _ => .of_kept (kRow_kept ..) (kRow_quiet _ _)⟩
  | acPrepReset slot => exact ⟨_, rfl, live_fit fun _ => .of_kept (kRow_kept ..) (kRow_quiet _ _)⟩
  | acDirectReset slot => exact ⟨_, rfl, live_fit fun _ => .of_kept (kRow_kept ..) (kRow_quiet _ _)⟩
  | sccConfirm session r => exact ⟨_, rfl, live_fit fun _ => .of_kept (sccRow_kept ..) (sccRow_quiet _ _ _ _)⟩
  | sccConfirmTimeout slot => exact ⟨_, rfl, live_fit fun _ => .of_kept (kRow_kept ..) (kRow_quiet _ _)⟩
  | bistRun l => exact ⟨_, rfl, live_fit fun _ => .of_kept (launch_kept ..) (launch_quiet _ _ _)⟩
  | imageTransfer l => exact ⟨_, rfl, live_fit fun _ => .of_kept (launch_kept ..) (launch_quiet _ _ _)⟩
  | activateSchedule l => exact ⟨_, rfl, live_fit fun _ => .of_kept (launch_kept ..) (launch_quiet _ _ _)⟩
  | recExport l => exact ⟨_, rfl, live_fit fun _ => .of_kept (launch_kept ..) (launch_quiet _ _ _)⟩
  | twinSwitchover l => exact ⟨_, rfl, live_fit fun _ => .of_kept (launch_kept ..) (launch_quiet _ _ _)⟩
  | headExcitationChange l => exact ⟨_, rfl, live_fit fun _ => .of_kept (launch_kept ..) (launch_quiet _ _ _)⟩
  | shutdown l => exact ⟨_, rfl, live_fit fun _ => .of_kept (launch_kept ..) (launch_quiet _ _ _)⟩
  | slotSuspend cl slot => exact ⟨_, rfl, live_fit fun _ => .of_kept (control_kept ..) (control_quiet _ _ _ _)⟩
  | slotResume cl slot => exact ⟨_, rfl, live_fit fun _ => .of_kept (control_kept ..) (control_quiet _ _ _ _)⟩
  | slotCancel cl slot => exact ⟨_, rfl, live_fit fun _ => .of_kept (control_kept ..) (control_quiet _ _ _ _)⟩
  | slotRelease cl slot => exact ⟨_, rfl, live_fit fun _ => .of_kept (control_kept ..) (control_quiet _ _ _ _)⟩
  | queueTimeout slot => exact ⟨_, rfl, live_fit fun _ => .of_kept (slotLimit_kept ..) (slotLimit_quiet _ _)⟩
  | slotAutoRelease slot => exact ⟨_, rfl, live_fit fun _ => .of_kept (slotLimit_kept ..) (slotLimit_quiet _ _)⟩
  | launchGiveUp cl => exact ⟨_, rfl, live_fit fun s => .of_kept (by (repeat' split) <;> simp [Kept])
      fun h => by (repeat' split) <;> simp -implicitDefEqProofs +contextual (maxDischargeDepth := 30) [h]⟩
  | netDatagramReceive net dg => exact ⟨_, rfl, live_fit fun _ => .of_kept (netDatagram_kept ..) (netDatagram_quiet _ _ _)⟩
  | skewTimerExpiry partner session seq => exact ⟨_, rfl, live_fit fun s => .of_kept (by dsimp only; (repeat' split) <;> simp [Kept])
      fun h => by dsimp only; (repeat' split) <;> simp -implicitDefEqProofs +contextual (maxDischargeDepth := 30) [h]⟩
  | connReq partner t => exact ⟨_, rfl, live_fit fun _ => .of_kept (connRow_kept ..) (connRow_quiet _ _ _)⟩
  | connResp idx t => exact ⟨_, rfl, live_fit fun _ => .of_kept (telRow_kept ..) (telRow_quiet _ _ _ _)⟩
  | dataTelegram idx t => exact ⟨_, rfl, live_fit fun _ => .of_kept (telRow_kept ..) (telRow_quiet _ _ _ _)⟩
  | headReport idx t => exact ⟨_, rfl, live_fit fun _ => .of_kept (headRow_kept ..) (headRow_quiet _ _ _)⟩
  | disc idx t => exact ⟨_, rfl, live_fit fun _ => .of_kept (telRow_kept ..) (telRow_quiet _ _ _ _)⟩
  | pathMismatchNotice partner => exact ⟨_, rfl, live_fit fun _ => .of_kept (kRow_kept ..) (kRow_quiet _ _)⟩
  | sessionTimeout idx => exact ⟨_, rfl, live_fit fun _ => .of_kept (sessTimer_kept ..) (sessTimer_quiet _ _ _)⟩
  | connReqRepeat idx => exact ⟨_, rfl, live_fit fun _ => .of_kept (sessTimer_kept ..) (sessTimer_quiet _ _ _)⟩
  | responderTimeout idx => exact ⟨_, rfl, live_fit fun _ => .of_kept (sessTimer_kept ..) (sessTimer_quiet _ _ _)⟩
  | holdOffExpiry idx => exact ⟨_, rfl, live_fit fun _ => .of_kept (sessTimer_kept ..) (sessTimer_quiet _ _ _)⟩
  | egressEntry eng ch entry => exact ⟨_, rfl, live_fit fun _ => .of_kept (egressEntry_kept ..) (egressEntry_quiet _ _ _ _)⟩
  | egressConfirmTimeout eng => exact ⟨_, rfl, live_fit fun _ => .of_kept (egressTimeout_kept ..) (egressTimeout_quiet _ _)⟩
  | ethernetFrameForward net port f => exact ⟨_, rfl, live_fit fun _ => .of_kept (ethFrame_kept ..) (ethFrame_quiet _ _ _ _)⟩
  | macAgeing net mac => exact ⟨_, rfl, live_fit fun _ => .of_kept (modNet_kept ..) (modNet_quiet _ _ _)⟩
  | arpRequest net ip => exact ⟨_, rfl, live_fit fun s => .of_kept (by dsimp only; (repeat' split) <;> simp [Kept])
      fun h => by dsimp only; (repeat' split) <;> simp -implicitDefEqProofs +contextual (maxDischargeDepth := 30) [h]⟩
  | icmpEcho net ip => exact ⟨_, rfl, live_fit fun s => .of_kept (by dsimp only; (repeat' split) <;> simp [Kept])
      fun h => by dsimp only; (repeat' split) <;> simp -implicitDefEqProofs +contextual (maxDischargeDepth := 30) [h]⟩
  | ptpSlaveMessage net m stamp => exact ⟨_, rfl, live_fit fun s => .of_kept (by dsimp only; (repeat' split) <;> simp [Kept])
      fun h => by dsimp only; (repeat' split) <;> simp -implicitDefEqProofs +contextual (maxDischargeDepth := 30) [h]⟩
  | ptpTcForward net m residenceNs => exact ⟨_, rfl, live_fit fun _ => .of_kept (ptpForward_kept ..) (ptpForward_quiet _ _ _ _)⟩
  | residenceHoldExpiry net port seq => exact ⟨_, rfl, live_fit fun _ => .of_kept (modNet_kept ..) (modNet_quiet _ _ _)⟩
  | stratusSlotStart slot => exact ⟨_, rfl, live_fit fun s => .of_kept (by dsimp only; (repeat' split) <;> simp [Kept])
      fun h => by dsimp only; (repeat' split) <;> simp -implicitDefEqProofs +contextual (maxDischargeDepth := 30) [h]⟩
  | stratusData f => exact ⟨_, rfl, live_fit fun _ => fit_ite (.refl _) (fromRing_fit fun _ _ => ringRow_fit fun _ =>
      .of_kept (newEntry_kept ..) (newEntry_quiet _ _ _))⟩
  | stratusNull f => exact ⟨_, rfl, live_fit fun _ => fit_ite (.refl _) (fromRing_fit fun _ _ => ringRow_fit .refl)⟩
  | sync f => exact ⟨_, rfl, live_fit fun _ => fit_ite (.refl _) (fromRing_fit fun _ _ => fit_ite (ringRow_fit fun _ => adopt_fit ..)
      (ringRow_fit fun x => .of_kept (takeSync_kept ..) (takeSync_quiet x _)))⟩
  | coldstart f =>
    refine ⟨_, rfl, live_fit fun _ => fit_ite (.refl _) (fromRing_fit fun _ _ => ?_)⟩
    split
    · exact ringRow_fit fun _ => adopt_fit ..
    · exact ringRow_fit fun x => fit_ite (asking_fit x _) (.refl x)
    · exact ringRow_fit fun x => .of_kept (takeSync_kept ..) (takeSync_quiet x _)
  | echoReq f => exact ⟨_, rfl, live_fit fun _ => fromRing_fit fun _ _ => loopRow_fit fun _ =>
      fit_ite (.refl _) (.of_kept (ringOut_kept ..) (ringOut_quiet _ _ _ _ _ _))⟩
  | echo f roundTripNs => exact ⟨_, rfl, live_fit fun _ => fromRing_fit fun _ _ => loopRow_fit fun x =>
      fit_ite (.refl x) (fit_ite (.of_kept (modRing_kept ..) (modRing_quiet _ _)) (asking_fit x _))⟩
  | probe f => exact ⟨_, rfl, live_fit fun _ => fromRing_fit fun _ _ => loopRow_fit fun x =>
      fit_ite (.refl x) (.of_kept (modRing_kept ..) (modRing_quiet _ _))⟩
  | guardianTruncation node => exact ⟨_, rfl, live_fit fun _ => .of_kept (modRing_kept ..) (modRing_quiet _ _)⟩
  | listenTimeout => exact ⟨_, rfl, live_fit fun _ => .of_kept (modRing_kept ..) (modRing_quiet _ _)⟩
  | clockCorrection => exact ⟨_, rfl, live_fit fun _ => .of_kept (modRing_kept ..) (modRing_quiet _ _)⟩
  | coldstartLimit noReturn => exact ⟨_, rfl, live_fit fun _ => .of_kept (modRing_kept ..) (modRing_quiet _ _)⟩
  | integrationComplete => exact ⟨_, rfl, live_fit fun _ => .of_kept (modRing_kept ..) (modRing_quiet _ _)⟩
  | integrationLost => exact ⟨_, rfl, live_fit fun _ => .of_kept (modRing_kept ..) (modRing_quiet _ _)⟩
  | silentReintegrate => exact ⟨_, rfl, live_fit fun s => .of_kept (by (repeat' split) <;> simp [Kept])
      fun h => by (repeat' split) <;> simp -implicitDefEqProofs +contextual (maxDischargeDepth := 30) [h]⟩
  | linkBreak port => exact ⟨_, rfl, live_fit fun _ => .of_kept (modRing_kept ..) (modRing_quiet _ _)⟩
  | loopOpen => exact ⟨_, rfl, live_fit fun _ => .of_kept (modRing_kept ..) (modRing_quiet _ _)⟩
  | linkDelayRemeasure => exact ⟨_, rfl, live_fit fun s => .of_kept (by (repeat' split) <;> simp [Kept])
      fun h => by (repeat' split) <;> simp -implicitDefEqProofs +contextual (maxDischargeDepth := 30) [h]⟩
  | statusFrameSelf => exact ⟨_, rfl, live_fit fun s => .of_kept (by dsimp only; (repeat' split) <;> simp [Kept])
      fun h => by dsimp only; (repeat' split) <;> simp -implicitDefEqProofs +contextual (maxDischargeDepth := 30) [h]⟩
  | canFrameReceive f stamp => exact ⟨_, rfl, live_fit fun _ => .of_kept (canReceive_kept ..) (canReceive_quiet _ _)⟩
  | nmtStart => exact ⟨_, rfl, live_fit fun s => .of_kept (by simp [Kept])
      fun h => by simp -implicitDefEqProofs +contextual (maxDischargeDepth := 30) [h]⟩
  | nmtStop => exact ⟨_, rfl, live_fit fun s => .of_kept (by simp [Kept])
      fun h => by simp -implicitDefEqProofs +contextual (maxDischargeDepth := 30) [h]⟩
  | nmtResetNode => exact ⟨_, rfl, live_fit fun _ => .of_kept (canStart_kept ..) (canStart_quiet _)⟩
  | nmtResetCommunication => exact ⟨_, rfl, live_fit fun _ => .of_kept (canStart_kept ..) (canStart_quiet _)⟩
  | referenceMessageReceive m => exact ⟨_, rfl, live_fit fun _ => .of_kept (referenceReceive_kept ..) (referenceReceive_quiet _ _)⟩
  | canTransmitComplete r => exact ⟨_, rfl, live_fit fun _ => .of_kept (canTransmit_kept ..) (canTransmit_quiet _ _)⟩
  | aloneSend => exact ⟨_, rfl, live_fit fun s => .of_kept (by dsimp only; (repeat' split) <;> simp [Kept])
      fun h => by dsimp only; (repeat' split) <;> simp -implicitDefEqProofs +contextual (maxDischargeDepth := 30) [h]⟩
  | busOffRecovery => exact ⟨_, rfl, live_fit fun s => .of_kept (by dsimp only; (repeat' split) <;> simp [Kept])
      fun h => by dsimp only; (repeat' split) <;> simp -implicitDefEqProofs +contextual (maxDischargeDepth := 30) [h]⟩
  | canHeartbeat => exact ⟨_, rfl, live_fit fun s => .of_kept (by (repeat' split) <;> simp [Kept])
      fun h => by (repeat' split) <;> simp -implicitDefEqProofs +contextual (maxDischargeDepth := 30) [h]⟩
  | referenceSend => exact ⟨_, rfl, live_fit fun s => .of_kept (by (repeat' split) <;> simp [Kept])
      fun h => by (repeat' split) <;> simp -implicitDefEqProofs +contextual (maxDischargeDepth := 30) [h]⟩
  | timeRoleWExpiry => exact ⟨_, rfl, live_fit fun s => .of_kept (by dsimp only; (repeat' split) <;> simp [Kept])
      fun h => by dsimp only; (repeat' split) <;> simp -implicitDefEqProofs +contextual (maxDischargeDepth := 30) [h]⟩
  | usdoSegmentTimeout cl => exact ⟨_, rfl, live_fit fun _ => .of_kept (abort_kept ..) (abort_quiet _ _ _)⟩
  | emcySend => exact ⟨_, rfl, live_fit fun s => .of_kept (by (repeat' split) <;> simp [Kept])
      fun h => by (repeat' split) <;> simp -implicitDefEqProofs +contextual (maxDischargeDepth := 30) [h]⟩
  | objectWrite cl idx sub data => exact ⟨_, rfl, live_fit fun _ => .of_kept (objectWrite_kept ..) (objectWrite_quiet _ _ _ _ _)⟩
  | resetMaxima cl v => exact ⟨_, rfl, live_fit fun _ => write_fit fun s => .of_kept (by simp [Kept])
      fun h => by simp -implicitDefEqProofs +contextual (maxDischargeDepth := 30) [h]⟩
  | resetCounts cl v => exact ⟨_, rfl, live_fit fun _ => write_fit fun s => .of_kept (by dsimp only; simp [Kept])
      fun h => by dsimp only; simp -implicitDefEqProofs +contextual (maxDischargeDepth := 30) [h]⟩
  | loginRequest cl level => exact ⟨_, rfl, live_fit fun _ => .of_kept (loginRequest_kept ..) (loginRequest_quiet _ _ _)⟩
  | loginResponse cl resp => exact ⟨_, rfl, live_fit fun _ => .of_kept (loginResponse_kept ..) (loginResponse_quiet _ _ _)⟩
  | challengeExpiry cl => exact ⟨_, rfl, live_fit fun s => .of_kept (by (repeat' split) <;> simp [Kept])
      fun h => by (repeat' split) <;> simp -implicitDefEqProofs +contextual (maxDischargeDepth := 30) [h]⟩
  | loginBlockExpiry cl => exact ⟨_, rfl, live_fit fun s => .of_kept (by (repeat' split) <;> simp [Kept])
      fun h => by (repeat' split) <;> simp -implicitDefEqProofs +contextual (maxDischargeDepth := 30) [h]⟩
  | idleLogout cl => exact ⟨_, rfl, live_fit fun s => .of_kept (by (repeat' split) <;> simp [Kept])
      fun h => by (repeat' split) <;> simp -implicitDefEqProofs +contextual (maxDischargeDepth := 30) [h]⟩
  | tsuSnapshot u counter arrival => exact ⟨_, rfl, live_fit fun s => .of_kept (by simp [Kept])
      fun h => by simp -implicitDefEqProofs +contextual (maxDischargeDepth := 30) [h]⟩
  | snapshotTimeout u => exact ⟨_, rfl, live_fit fun s => .of_kept (by dsimp only; (repeat' split) <;> simp [Kept])
      fun h => by dsimp only; (repeat' split) <;> simp -implicitDefEqProofs +contextual (maxDischargeDepth := 30) [h]⟩
  | timeMeasurement offsetNs => exact ⟨_, rfl, live_fit fun _ => .of_kept (timeMeasurement_kept ..) (timeMeasurement_quiet _ _)⟩
  | sourceHoldExpiry => exact ⟨_, rfl, live_fit fun s => .of_kept (by dsimp only; (repeat' split) <;> simp [Kept])
      fun h => by dsimp only; (repeat' split) <;> simp -implicitDefEqProofs +contextual (maxDischargeDepth := 30) [h]⟩
  | sourceQualified src => exact ⟨_, rfl, live_fit fun s => .of_kept (by dsimp only; (repeat' split) <;> simp [Kept])
      fun h => by dsimp only; (repeat' split) <;> simp -implicitDefEqProofs +contextual (maxDischargeDepth := 30) [h]⟩
  | calendarCompare calendarNs => exact ⟨_, rfl, live_fit fun s => .of_kept (by dsimp only; (repeat' split) <;> simp [Kept])
      fun h => by dsimp only; (repeat' split) <;> simp -implicitDefEqProofs +contextual (maxDischargeDepth := 30) [h]⟩
  | autoCalibration rateErr => exact ⟨_, rfl, live_fit fun s => .of_kept (by dsimp only; (repeat' split) <;> simp [Kept])
      fun h => by dsimp only; (repeat' split) <;> simp -implicitDefEqProofs +contextual (maxDischargeDepth := 30) [h]⟩
  | scheduledActivation o => exact ⟨_, rfl, live_fit fun _ => scheduledActivation_fit ..⟩
  | setTime cl ns sec => exact ⟨_, rfl, live_fit fun _ => write_fit fun s => .of_kept (by dsimp only; (repeat' split) <;> simp [Kept])
      fun h => by dsimp only; (repeat' split) <;> simp -implicitDefEqProofs +contextual (maxDischargeDepth := 30) [h]⟩
  | twinHeartbeatSend feeds => exact ⟨_, rfl, live_fit fun s => .of_kept (by dsimp only; (repeat' split) <;> simp [Kept])
      fun h => by dsimp only; (repeat' split) <;> simp -implicitDefEqProofs +contextual (maxDischargeDepth := 30) [h]⟩
  | twinHeartbeatReceive lane hb => exact ⟨_, rfl, live_fit fun _ => .of_kept (heartbeatReceive_kept ..) (heartbeatReceive_quiet _ _ _)⟩
  | twinStatusEntry => exact ⟨_, rfl, live_fit fun s => .of_kept (by (repeat' split) <;> simp [Kept])
      fun h => by (repeat' split) <;> simp -implicitDefEqProofs +contextual (maxDischargeDepth := 30) [h]⟩
  | veneerFrameReceive lane v => exact ⟨_, rfl, live_fit fun s => .of_kept (by simp [Kept])
      fun h => by simp -implicitDefEqProofs +contextual (maxDischargeDepth := 30) [h]⟩
  | switchoverNotTaken => exact ⟨_, rfl, live_fit fun _ => .of_kept (kRow_kept ..) (kRow_quiet _ _)⟩
  | switchoverNoStandby => exact ⟨_, rfl, live_fit fun _ => .of_kept (kRow_kept ..) (kRow_quiet _ _)⟩
  | faultSourceAssert src by_ => exact ⟨_, rfl, live_fit fun _ => .of_kept (faultSourceAssert_kept ..) (faultSourceAssert_quiet _ _ _)⟩
  | escalationExpiry src => exact ⟨_, rfl, live_fit fun _ => .of_kept (escalationExpiry_kept ..) (escalationExpiry_quiet _ _)⟩
  | ackHandled w who => exact ⟨_, rfl, live_fit fun _ => .of_kept (ackHandled_kept ..) (ackHandled_quiet _ _ _)⟩
  | ackLowered w who => exact ⟨_, rfl, live_fit fun _ => .of_kept (ackLowered_kept ..) (ackLowered_quiet _ _ _)⟩
  | ackDismissed w who => exact ⟨_, rfl, live_fit fun _ => .of_kept (ackDismissed_kept ..) (ackDismissed_quiet _ _ _)⟩
  | ackRedirect w who => exact ⟨_, rfl, live_fit fun _ => .of_kept (ackRedirect_kept ..) (ackRedirect_quiet _ _ _)⟩
  | configScan bad => exact ⟨_, rfl, live_fit fun s => .of_kept (by simp [Kept])
      fun h => by simp -implicitDefEqProofs +contextual (maxDischargeDepth := 30) [h]⟩
  | noMajorityHw => exact ⟨_, rfl, live_fit fun s => .of_kept (by (repeat' split) <;> simp [Kept])
      fun h => by (repeat' split) <;> simp -implicitDefEqProofs +contextual (maxDischargeDepth := 30) [h]⟩
  | forceWrite cl v => exact ⟨_, rfl, live_fit fun _ => .of_kept (forceWrite_kept ..) (forceWrite_quiet _ _ _)⟩
  | overrideWrite cl word => exact ⟨_, rfl, live_fit fun _ => .of_kept (overrideWrite_kept ..) (overrideWrite_quiet _ _ _)⟩
  | restart cl v o => exact ⟨_, rfl, live_fit fun _ => write_fit fun x =>
      fit_ite ((Fit.of_kept (accept_kept ..) (accept_quiet x cl)).trans (restart_fit ..)) (.of_kept (abort_kept ..) (abort_quiet _ _ _))⟩
  | resetButtonPress ms svc chans o => exact ⟨_, rfl, live_fit fun _ => fit_ite (restart_fit ..) (.refl _)⟩
  | resetHold svc chans => exact ⟨_, rfl, live_fit fun _ => .of_kept (resetHold_kept ..) (resetHold_quiet _ _ _)⟩
  | lockoutResetConfirm cl code o => exact ⟨_, rfl, live_fit fun _ => lockoutConfirm_fit ..⟩
  | lockoutResetWindowExpiry => exact ⟨_, rfl, live_fit fun s => .of_kept (by (repeat' split) <;> simp [Kept])
      fun h => by (repeat' split) <;> simp -implicitDefEqProofs +contextual (maxDischargeDepth := 30) [h]⟩
  | tokenRefill code => exact ⟨_, rfl, live_fit fun s => .of_kept (by simp [Kept])
      fun h => by simp -implicitDefEqProofs +contextual (maxDischargeDepth := 30) [h]⟩
  | recorderScrub bad corrected => exact ⟨_, rfl, live_fit fun s => .of_kept (by simp [Kept])
      fun h => by simp -implicitDefEqProofs +contextual (maxDischargeDepth := 30) [h]⟩
  | marker cl v => exact ⟨_, rfl, live_fit fun _ => write_fit fun s => .of_kept (by simp [Kept])
      fun h => by simp -implicitDefEqProofs +contextual (maxDischargeDepth := 30) [h]⟩
  | recorderClear cl v => exact ⟨_, rfl, live_fit fun _ => .of_kept (recorderClear_kept ..) (recorderClear_quiet _ _ _)⟩
  | advanceNext cl => exact ⟨_, rfl, live_fit fun _ => write_fit fun s => .of_kept (by dsimp only; (repeat' split) <;> simp [Kept])
      fun h => by dsimp only; (repeat' split) <;> simp -implicitDefEqProofs +contextual (maxDischargeDepth := 30) [h]⟩
  | advanceOldest cl => exact ⟨_, rfl, live_fit fun _ => write_fit fun s => .of_kept (by simp [Kept])
      fun h => by simp -implicitDefEqProofs +contextual (maxDischargeDepth := 30) [h]⟩
  | advanceNewest cl => exact ⟨_, rfl, live_fit fun _ => write_fit fun _ => .of_kept (advanceTo_kept ..) (advanceTo_quiet _ _ _)⟩
  | cursor cl rseq => exact ⟨_, rfl, live_fit fun _ => write_fit fun s => .of_kept (by simp [Kept])
      fun h => by simp -implicitDefEqProofs +contextual (maxDischargeDepth := 30) [h]⟩
  | revert cl v => exact ⟨_, rfl, live_fit fun _ => write_fit fun s => .of_kept (by simp [Kept])
      fun h => by simp -implicitDefEqProofs +contextual (maxDischargeDepth := 30) [h]⟩
  | exportIdle => exact ⟨_, rfl, live_fit fun s => .of_kept (by (repeat' split) <;> simp [Kept])
      fun h => by (repeat' split) <;> simp -implicitDefEqProofs +contextual (maxDischargeDepth := 30) [h]⟩
  | lcRequest cl v => exact ⟨_, rfl, live_fit fun _ => .of_kept (lcRequest_kept ..) (lcRequest_quiet _ _ _)⟩
  | sw1Change rd pos c => exact ⟨_, rfl, live_fit fun _ => .of_kept (sw1Change_kept ..) (sw1Change_quiet _ _ _ _)⟩
  | sw1WordEntry => exact ⟨_, rfl, live_fit fun _ => .of_kept (svcEntry_kept ..) (svcEntry_quiet _ _)⟩
  | sw1Mismatch ch => exact ⟨_, rfl, live_fit fun s => .of_kept (by (repeat' split) <;> simp [Kept])
      fun h => by (repeat' split) <;> simp -implicitDefEqProofs +contextual (maxDischargeDepth := 30) [h]⟩
  | selftestSliceEnd r => exact ⟨_, rfl, live_fit fun _ => .of_kept (sliceEnd_kept ..) (sliceEnd_quiet _ _)⟩
  | cvuKat unit result => exact ⟨_, rfl, live_fit fun _ => .of_kept (cvuKat_kept ..) (cvuKat_quiet _ _ _)⟩
  | blockWrite cl offset data => exact ⟨_, rfl, live_fit fun _ => .of_kept (blockWrite_kept ..) (blockWrite_quiet _ _ _ _)⟩
  | imageWriteComplete failed => exact ⟨_, rfl, live_fit fun _ => .of_kept (writeComplete_kept ..) (writeComplete_quiet _ _)⟩
  | transferIdle => exact ⟨_, rfl, live_fit fun s => .of_kept (by (repeat' split) <;> simp [Kept])
      fun h => by (repeat' split) <;> simp -implicitDefEqProofs +contextual (maxDischargeDepth := 30) [h]⟩
  | imageConfirm cl typ => exact ⟨_, rfl, live_fit fun _ => write_fit fun s => .of_kept (by (repeat' split) <;> simp [Kept])
      fun h => by (repeat' split) <;> simp -implicitDefEqProofs +contextual (maxDischargeDepth := 30) [h]⟩
  | imageWithdraw cl typ => exact ⟨_, rfl, live_fit fun _ => write_fit fun s => .of_kept (by (repeat' split) <;> simp [Kept])
      fun h => by (repeat' split) <;> simp -implicitDefEqProofs +contextual (maxDischargeDepth := 30) [h]⟩
  | autoConfirm typ => exact ⟨_, rfl, live_fit fun s => .of_kept (by dsimp only; (repeat' split) <;> simp [Kept])
      fun h => by dsimp only; (repeat' split) <;> simp -implicitDefEqProofs +contextual (maxDischargeDepth := 30) [h]⟩
  | supplyLow mv => exact ⟨_, rfl, live_fit fun _ => fit_ite (.refl _) (supplyRead_fit ..)⟩
  | supplyHigh mv => exact ⟨_, rfl, live_fit fun _ => fit_ite (powerFail_fit ..) (fit_ite (.refl _) (supplyRead_fit ..))⟩
  | powerFail mv => exact ⟨_, rfl, live_fit fun _ => powerFail_fit ..⟩
  | temperatureRead dc => exact ⟨_, rfl, live_fit fun _ => temperatureRead_fit ..⟩
  | sccRequest session r => exact ⟨_, rfl, live_fit fun _ => .of_kept (sccRow_kept ..) (sccRow_quiet _ _ _ _)⟩
  | entryRepeatWrite p n => exact ⟨_, rfl, live_fit fun s => .of_kept (by (repeat' split) <;> simp [Kept])
      fun h => by (repeat' split) <;> simp -implicitDefEqProofs +contextual (maxDischargeDepth := 30) [h]⟩
  | meshIdleSend tx rx => exact ⟨_, rfl, meshLive_fit fun s => .of_kept (by (repeat' split) <;> simp [Kept])
      fun h => by (repeat' split) <;> simp -implicitDefEqProofs +contextual (maxDischargeDepth := 30) [h]⟩
  | dynamicEnableEdge bk ch halfUs => exact ⟨_, rfl, live_fit fun _ => .of_kept (modHw_kept ..) (modHw_quiet _ _ _)⟩
  | envelopeSample sp head e => exact ⟨_, rfl, live_fit fun _ => .of_kept (modSys_kept ..) (modSys_quiet _ _ _ _)⟩
  | switchCurrentLimit out sw => exact ⟨_, rfl, live_fit fun s => .of_kept (by (repeat' split) <;> simp [Kept])
      fun h => by (repeat' split) <;> simp -implicitDefEqProofs +contextual (maxDischargeDepth := 30) [h]⟩
  | ethernetLinkChange net port speed => exact ⟨_, rfl, live_fit fun s => .of_kept (by dsimp only; (repeat' split) <;> simp [Kept])
      fun h => by dsimp only; (repeat' split) <;> simp -implicitDefEqProofs +contextual (maxDischargeDepth := 30) [h]⟩
  | stratusPortLinkChange port up => exact ⟨_, rfl, live_fit fun _ => .of_kept (modRing_kept ..) (modRing_quiet _ _)⟩
  | gratuitousArpRepeat net => exact ⟨_, rfl, live_fit fun s => .of_kept (by dsimp only; (repeat' split) <;> simp [Kept])
      fun h => by dsimp only; (repeat' split) <;> simp -implicitDefEqProofs +contextual (maxDischargeDepth := 30) [h]⟩
  | announceReceiptTimeout net => exact ⟨_, rfl, live_fit fun _ => .of_kept (modNet_kept ..) (modNet_quiet _ _ _)⟩

/-! ## The statements -/

/-- The tick leaves the queue and counts a millisecond under supply. -/
theorem tick_keeps (s : State) : (tick s).pending = s.pending ∧ (Supplied s → (tick s).svc.ms = s.svc.ms + 1) := by
  have hk (x : State) : Kept x x.svcLimits.svcQueued.settleAll :=
    kept_trans (svcLimits_kept x) (kept_trans (svcQueued_kept _) (settleAll_kept _))
  obtain ⟨hp, -, -, -, -, -, hm⟩ := hk s.rtc.begin.clkSvc
  have hq : s.rtc.begin.clkSvc.pending = s.pending ∧ s.rtc.begin.clkSvc.svc.ms = s.svc.ms + 1 := ⟨rfl, rfl⟩
  unfold tick
  by_cases hs : Supplied s
  · rw [live_on (by exact hs)]
    exact ⟨hp.trans hq.1, fun _ => hm.trans hq.2⟩
  · rw [live_off (by simpa [Supplied] using hs)]
    exact ⟨rfl, fun h => absurd h hs⟩

/-- Settles O1: `step` is defined by the queue's front, and the tick's rows keep the queue. -/
theorem stepRunsTheFrontCommand : Obligations.StepRunsTheFrontCommand := by
  refine ⟨fun s c rest h => by rw [step, h], fun s h => ⟨by rw [step, h], ?_, (tick_keeps s).2⟩⟩
  rw [(tick_keeps s).1, h]

/-- Settles O2: without supply every row but that of POWER_ON is `live`, which does nothing. -/
theorem withoutSupplyNothingActs : Obligations.WithoutSupplyNothingActs := by
  intro s hs
  have hoff : s.supply.on = false := by simpa [Supplied] using hs
  refine ⟨fun c hc => ?_, ?_⟩
  · cases c
    case powerOn o => exact absurd rfl (hc o)
    all_goals exact congrArg Host.Outcome.next (live_off hoff _)
  · exact live_off (s := s.rtc) hoff _

/-- Settles O3: every command fits. -/
theorem everyCommandCompletesAndKeepsTheQueue : Obligations.EveryCommandCompletesAndKeepsTheQueue := fun c s =>
  have ⟨t, ht, hf⟩ := exec_fit c s
  ⟨t, ht, hf.pending, hf.ms⟩

/-- Settles O4. -/
theorem resetMeetsTheInvariant : Obligations.ResetMeetsTheInvariant := ⟨rfl, rfl, rfl, rfl, reset_quiet _⟩

/-- Settles O5: a step is a tick or a command, and each keeps the invariant. -/
theorem everyStepKeepsTheInvariant : Obligations.EveryStepKeepsTheInvariant := by
  intro s t hi hst
  unfold step at hst
  split at hst
  · cases hst
    exact tick_inv hi
  · next c rest _ =>
    obtain ⟨u, hu, hf⟩ := exec_fit c { s with pending := rest }
    obtain rfl : u = t := by simpa [hu] using hst
    exact hf.inv hi

/-- Settles O6: the reset state and the cold kernel are written out by their definitions. -/
theorem resetAndColdStartLeaveTheStatedValues : Obligations.ResetAndColdStartLeaveTheStatedValues := by
  refine ⟨⟨rfl, rfl, rfl, rfl, rfl, by simp [State.reset, Kernel.cold], fun x hx => ?_,
    by simp [State.reset, Kernel.cold], fun x hx => ?_, fun bk => ?_,
    fun n hn => ?_, fun e he => ?_⟩, fun d n role => ⟨rfl, fun x hx => ?_, fun x hx => ?_, fun x hx => ?_, ?_, fun x hx => ?_⟩⟩
  · rw [List.eq_of_mem_replicate hx]; exact ⟨rfl, rfl⟩
  · rw [List.eq_of_mem_replicate hx]; exact ⟨rfl, rfl⟩
  · cases bk <;> exact ⟨rfl, rfl⟩
  · have h16 : ∀ x ∈ State.reset.col.recs, x = none := fun x hx => List.eq_of_mem_replicate hx
    have hl : n < State.reset.col.recs.length := hn
    rw [State.frec, List.getD_eq_getElem?_getD, List.getElem?_eq_getElem hl]
    exact h16 _ (List.getElem_mem hl)
  · rw [List.eq_of_mem_replicate he]; rfl
  · obtain ⟨y, -, rfl⟩ := List.mem_map.mp hx; rfl
  · obtain ⟨y, -, rfl⟩ := List.mem_map.mp hx; rfl
  · obtain ⟨y, -, rfl⟩ := List.mem_map.mp hx; rfl
  · exact (List.map_map ..)
  · rw [List.eq_of_mem_replicate hx]

end Sys2Proof.Machine
end

section
/-! PROOFS. The statements about assertions: what a reaction leaves of the collector's own settings, the reaction at each level,
escalations and their acknowledgements, and what a client writes to the collector (R341 to R350). -/

namespace Sys2Proof.Machine

/-! ## What a reaction leaves of the collector -/

/-- A record goes to the recorder and changes nothing else (R365). -/
theorem record_eq (s : State) (code src flags : Nat) : ∃ r, s.record code src flags = { s with rcd := r } := by
  simp only [State.record, State.recordVals]
  repeat' split
  all_goals exact ⟨_, rfl⟩

@[simp] theorem record_col (s : State) (code src flags : Nat) : (s.record code src flags).col = s.col := by
  obtain ⟨r, h⟩ := record_eq s code src flags
  rw [h]

@[simp] theorem record_kernel (s : State) (code src flags : Nat) : (s.record code src flags).kernel = s.kernel := by
  obtain ⟨r, h⟩ := record_eq s code src flags
  rw [h]

/-- What a reaction leaves of the collector: overrides, forces, the selection, escalations with their count and the count of bad
configuration pairs. -/
abbrev Ledger (s t : State) : Prop :=
  t.col.overrides = s.col.overrides ∧ t.col.forces = s.col.forces ∧ t.col.select = s.col.select ∧ t.col.escal = s.col.escal
    ∧ t.col.escalated = s.col.escalated ∧ t.col.configErrs = s.col.configErrs

theorem ledger_trans {s t u : State} (h : Ledger s t) (k : Ledger t u) : Ledger s u := by
  obtain ⟨h1, h2, h3, h4, h5, h6⟩ := h
  obtain ⟨k1, k2, k3, k4, k5, k6⟩ := k
  exact ⟨k1.trans h1, k2.trans h2, k3.trans h3, k4.trans h4, k5.trans h5, k6.trans h6⟩

@[simp] theorem queueEmcy_col (s : State) (code src : Nat) : (s.queueEmcy code src).col = s.col := by
  unfold State.queueEmcy
  split <;> rfl

@[simp] theorem deassert_ledger (s : State) (src : Nat) : Ledger s (s.deassert src) := by
  unfold State.deassert
  split <;> simp [Ledger]

@[simp] theorem settleSource_ledger (s : State) (src : Nat) : Ledger s (s.settleSource src) := by
  unfold State.settleSource
  split <;> simp [Ledger]

@[simp] theorem mergeInto_ledger (s : State) (n src : Nat) (forced : Bool) : Ledger s (s.mergeInto n src forced) := by
  unfold State.mergeInto
  split <;> simp [Ledger]

@[simp] theorem openRec_ledger (s : State) (src : Nat) (forced : Bool) : Ledger s (s.openRec src forced).1 := by
  unfold State.openRec
  split
  · simp [Ledger]
  · dsimp only
    split <;> simp [Ledger]

@[simp] theorem settleRec_ledger (s : State) (src : Nat) (forced : Bool) : Ledger s (s.settleRec src forced).1 := by
  unfold State.settleRec
  split
  · simp [Ledger]
  · exact openRec_ledger s src forced

@[simp] theorem closeRec_ledger (s : State) (n : Nat) : Ledger s (s.closeRec n) := by
  unfold State.closeRec
  split <;> simp [Ledger]

@[simp] theorem checkClear_ledger (s : State) : Ledger s s.checkClear := by
  unfold State.checkClear
  split <;> simp [Ledger]

@[simp] theorem settle_ledger (s : State) (n : Option Nat) (src level : Nat) (acked : Bool) :
    Ledger s (s.settle n src level acked) := by
  simp only [State.settle]
  (repeat' split) <;> simp [Ledger]

@[simp] theorem safeNets_col (s : State) : s.safeNets.col = s.col := rfl

@[simp] theorem slotRecords_col (s : State) : s.slotRecords.col = s.col := by
  have h : ∀ (l : List Note) (t : State), (l.foldl (fun s n => match n with
      | .slotFinal i op => s.record (0x100 + i) op 0
      | _ => s) t).col = t.col := by
    intro l
    induction l with
    | nil => exact fun _ => rfl
    | cons a l ih =>
      intro t
      rw [List.foldl_cons, ih]
      cases a <;> simp
  exact h s.kernel.notes s

@[simp] theorem leaveRun_col (s : State) (m : MState) : (s.leaveRun m).col = s.col := by simp [State.leaveRun]

@[simp] theorem goSafe_ledger (s : State) (src : Nat) : Ledger s (s.goSafe src) := by
  unfold State.goSafe
  split <;> simp [Ledger]

@[simp] theorem lockWritten_col (s : State) : s.lockWritten.col = s.col := rfl

@[simp] theorem goLockout_ledger (s : State) (src : Nat) (detail : W32) (forced : Bool) : Ledger s (s.goLockout src detail forced) := by
  simp only [State.goLockout]
  split <;> simp [Ledger]

@[simp] theorem openShadow_logged (s : State) (n : Option Nat) (ch : Ch) : Logged s (s.openShadow n ch) := by
  simp only [State.openShadow]
  (repeat' split) <;> simp [Logged, Settled]

@[simp] theorem openShadow_ledger (s : State) (n : Option Nat) (ch : Ch) : Ledger s (s.openShadow n ch) := by
  simp only [State.openShadow]
  (repeat' split) <;> simp [Ledger]

@[simp] theorem openShadow_resets (s : State) (n : Option Nat) (ch : Ch) : (s.openShadow n ch).svc = s.svc := by
  simp only [State.openShadow]
  (repeat' split) <;> rfl

/-! ## Which shadow takes a source -/

/-- A source that no shadow expects is no consequence (R350). -/
theorem shadowSlot_none_of {src : Nat} (h : ∀ (sh : Shadow) cycle, sh.expects src cycle = false) (s : State) :
    s.shadowSlot src = none := by
  unfold State.shadowSlot
  rw [List.filterMap_eq_nil_iff.mpr fun p _ => by (repeat' split) <;> simp_all]
  rfl

/-- No reset makes a source from 0x80 on expected, nor one of 0x49 to 0x5F (R350). -/
theorem expects_outside {src : Nat} (h : 0x49 ≤ src ∧ src < 0x60 ∨ 0x80 ≤ src) (sh : Shadow) (cycle : Nat) :
    sh.expects src cycle = false := by
  have hc : ∀ (x : Ch) (o : Nat), o < 0x10 → src ≠ chSrc x o := fun x o ho => by
    cases x <;> simp only [chSrc, Ch.idx] <;> omega
  have h1 : ¬ (src < 70) := by omega
  have h2 : src ≠ 72 := by omega
  have h3 : ¬ (96 ≤ src ∧ src < 128) := by omega
  cases hp : sh.promoted <;> simp [Shadow.expects, hp, hc, h1, h2] <;> omega

/-! ## SAFE_REQUEST -/

theorem srcCfg_safeRequest (s : State) : s.srcCfg 0x4A = ⟨true, 4, 0, 1, 0⟩ := by simp [State.srcCfg, imageCfg]

/-- SAFE_REQUEST resets nothing, so that it is raised like every other source (R49). -/
theorem raiseSafe_eq (s : State) : s.raiseSafe = s.raise 0x4A := by
  have hc : (s.countAssert 0x4A).srcCfg 0x4A = ⟨true, 4, 0, 1, 0⟩ := srcCfg_safeRequest _
  simp [State.raiseSafe, State.raise, State.raiseWith, hc, State.applyLevel]

/-- SAFE_REQUEST takes the module `SAFE` from wherever its channels cycle (R49, R351). -/
theorem raiseSafe_goes (s : State) : ∃ n, s.raiseSafe = ((s.opened 0x4A).goSafe 0x4A).settle n 0x4A 4 false := by
  rw [raiseSafe_eq]
  exact raise_four (shadowSlot_none_of (expects_outside (by omega)) s) (by rw [srcCfg_safeRequest]) (by rw [srcCfg_safeRequest])

theorem opened_ledger (s : State) (src : Nat) : Ledger s (s.opened src) := openRec_ledger (s.countAssert src) src false

theorem raiseSafe_ledger (s : State) : Ledger s s.raiseSafe := by
  obtain ⟨n, h⟩ := raiseSafe_goes s
  rw [h]
  exact ledger_trans (opened_ledger s 0x4A) (ledger_trans (goSafe_ledger ..) (settle_ledger ..))

/-- Entering `SAFE` stops the channels or changes none (R352). -/
theorem goSafe_vital (s : State) (src : Nat) : (s.goSafe src).vital = s.vital ∨ (s.goSafe src).vital = s.vital.stop := by
  unfold State.goSafe
  split
  · exact .inr (by simp)
  · exact .inr (by simp)
  · exact .inl rfl

theorem raiseSafe_vital (s : State) : s.raiseSafe.vital = s.vital ∨ s.raiseSafe.vital = s.vital.stop := by
  obtain ⟨n, h⟩ := raiseSafe_goes s
  obtain ⟨-, ov, -⟩ := opened_eq s 0x4A
  rw [h, (settle_settled ..).2.1, ← ov]
  exact goSafe_vital ..

@[simp] theorem stop_ch (v : Vital) (ch : Ch) : v.stop.chans.get ch = (v.chans.get ch).stop := by cases ch <;> rfl

/-! ## The pair reset -/

/-- The channels once the collector has reset the pair of `ch` (R35, R46). -/
def State.paired (s : State) (ch : Ch) : State :=
  let n := (s.ch ch).reset_ s.svc.ms
  let chans := (s.vital.chans.map (·.abandon ch)).set ch n
  let chans := if n.role = .off then (chans.map fun (x : Channel) => x.dropEnd ch).modify ch Channel.dropEnds else chans
  { s with vital := { s.vital with chans := chans, left := s.vital.left || (s.ch ch).role == .voting
                                   resetsTotal := s.vital.resetsTotal + 1 } }

/-- A pair reset resets its channel, and in `DUAL` raises SAFE_REQUEST as well (R49). -/
theorem pairReset_eq {s : State} {ch : Ch} (h : (s.ch ch).role ≠ .off) (again : State → State) : s.pairReset again ch =
    if s.vital.ladder == .dual && s.vital.running then again (s.paired ch) else s.paired ch := by
  have h' : (s.vital.chans.get ch).role ≠ .off := h
  simp only [State.pairReset, h', if_false]
  rfl

theorem pairReset_off {s : State} {ch : Ch} (h : (s.ch ch).role = .off) (again : State → State) : s.pairReset again ch = s := by
  have h' : (s.vital.chans.get ch).role = .off := h
  simp only [State.pairReset, h', if_true]

/-- The reset channel differs from what its reset makes of it in its link ends alone (R15). -/
theorem paired_ch (s : State) (ch : Ch) : ∃ e, (s.paired ch).ch ch = { (s.ch ch).reset_ s.svc.ms with ends := e } := by
  by_cases h : ((s.ch ch).reset_ s.svc.ms).role = .off
  · refine ⟨(((s.ch ch).reset_ s.svc.ms).dropEnd ch).dropEnds.ends, ?_⟩
    simp only [State.paired, if_pos h]
    cases ch <;> rfl
  · refine ⟨((s.ch ch).reset_ s.svc.ms).ends, ?_⟩
    simp only [State.paired, if_neg h]
    exact Quad.get_set_same ..

/-- A channel in reset drives no enable generator (R67). -/
abbrev Channel.held (c : Channel) : Prop := c.inReset = true ∧ c.gens = Quad.all false

theorem paired_held (s : State) (ch : Ch) : ((s.paired ch).ch ch).held := by
  obtain ⟨e, h⟩ := paired_ch s ch
  rw [h]
  exact ⟨rfl, rfl⟩

/-- The reset channel is held in reset, whatever the ladder (R35, R49). -/
theorem pairReset_held {s : State} {ch : Ch} (h : (s.ch ch).role ≠ .off) : ((s.pairReset State.raiseSafe ch).ch ch).held := by
  obtain ⟨hr, hg⟩ := paired_held s ch
  rw [pairReset_eq h]
  split
  · obtain hv | hv := raiseSafe_vital (s.paired ch)
    · simp only [State.ch, Channel.held, hv]
      exact ⟨hr, hg⟩
    · simp only [State.ch, Channel.held, hv, stop_ch]
      exact ⟨hr, rfl⟩
  · exact ⟨hr, hg⟩

theorem pairReset_ledger (s : State) (ch : Ch) : Ledger s (s.pairReset State.raiseSafe ch) := by
  by_cases h : (s.ch ch).role = .off
  · rw [pairReset_off h]
    exact ⟨rfl, rfl, rfl, rfl, rfl, rfl⟩
  · rw [pairReset_eq h]
    split
    · exact ledger_trans (t := s.paired ch) ⟨rfl, rfl, rfl, rfl, rfl, rfl⟩ (raiseSafe_ledger _)
    · exact ⟨rfl, rfl, rfl, rfl, rfl, rfl⟩

/-! ## The reaction at each level -/

/-- A reaction at any level leaves the collector's settings (R343). -/
theorem applyLevel_ledger (s : State) (n : Option Nat) (src level : Nat) (ch : Ch) (detail : W32) (forced acked : Bool) :
    Ledger s (s.applyLevel State.raiseSafe n src level ch detail forced acked) := by
  unfold State.applyLevel
  split
  · exact settle_ledger ..
  · exact settle_ledger ..
  · exact ledger_trans (t := s.isolate _) ⟨rfl, rfl, rfl, rfl, rfl, rfl⟩ (settle_ledger ..)
  · split
    · exact ledger_trans (openShadow_ledger s n ch) (ledger_trans (pairReset_ledger ..) (settle_ledger ..))
    · exact settle_ledger ..
  · exact ledger_trans (goSafe_ledger ..) (settle_ledger ..)
  · exact ledger_trans (goLockout_ledger ..) (settle_ledger ..)

/-- L3 where the channels cycle resets the pair of its channel (R343). -/
theorem applyLevel_three {s : State} (h : s.resettable = true) (again : State → State) (n : Option Nat) (src : Nat) (ch : Ch)
    (detail : W32) (forced acked : Bool) : s.applyLevel again n src 3 ch detail forced acked =
      ((s.openShadow n ch).pairReset again ch).settle n src 3 acked := by
  simp [State.applyLevel, h]

/-- L3 holds its channel in reset (R343, R345). -/
theorem applyLevel_three_held {s : State} (h : s.resettable = true) {ch : Ch} (hr : (s.ch ch).role ≠ .off) (n : Option Nat)
    (src : Nat) (detail : W32) (forced acked : Bool) :
    ((s.applyLevel State.raiseSafe n src 3 ch detail forced acked).ch ch).held := by
  obtain ⟨⟨-, hv, -⟩, -⟩ := openShadow_logged s n ch
  have hr' : ((s.openShadow n ch).ch ch).role ≠ .off := by rw [State.ch, hv]; exact hr
  rw [applyLevel_three h]
  simp only [State.ch, (settle_settled ..).2.1]
  exact pairReset_held hr'

/-- A reaction below L3 leaves the module state and the channels (R343). -/
theorem applyLevel_low {s : State} {level : Nat} (h : level ≤ 2) (again : State → State) (n : Option Nat) (src : Nat) (ch : Ch)
    (detail : W32) (forced acked : Bool) : (s.applyLevel again n src level ch detail forced acked).mstate = s.mstate
      ∧ (s.applyLevel again n src level ch detail forced acked).vital = s.vital := by
  match level, h with
  | 0, _ => exact ⟨(settle_settled ..).1, (settle_settled ..).2.1⟩
  | 1, _ => exact ⟨(settle_settled ..).1, (settle_settled ..).2.1⟩
  | 2, _ => exact ⟨(settle_settled ..).1, (settle_settled ..).2.1⟩

end Sys2Proof.Machine
end

section
/-! PROOFS. The statements about the collector's commands: an assertion's reaction, escalation and acknowledgement, the
configuration scan, force bits and overrides (R341 to R350). -/

namespace Sys2Proof.Machine

/-! ## Assertions -/

/-- The channel a source at L3 resets (R343). -/
abbrev State.targetOf (s : State) (src : Nat) : Ch := Ch.ofIdx (s.srcCfg src).target

theorem resettable_of_eq {s t : State} (h : t.mstate = s.mstate) : t.resettable = s.resettable := by
  simp only [State.resettable, h]

/-- An assertion of a source below L3 leaves the module state and the channels, merged or not (R343, R350). -/
theorem raise_low {s : State} {src : Nat} (h : (s.srcCfg src).level ≤ 2) :
    (s.raise src).mstate = s.mstate ∧ (s.raise src).vital = s.vital := by
  have hc : (s.countAssert src).srcCfg src = s.srcCfg src := rfl
  obtain ⟨om, ov, -⟩ := opened_eq s src
  simp only [State.raise, State.raiseWith, hc]
  split
  · obtain ⟨⟨hm, hv, -⟩, -⟩ := mergeInto_logged (s.countAssert src) (by assumption) src false
    exact ⟨hm, hv⟩
  · split
    · split
      · obtain ⟨hm, hv, -⟩ := checkClear_settled
          (((s.countAssert src).record (0x1000 + src) src (recFlags false false false false 0)).settleSource src)
        exact ⟨hm.trans (by simp; rfl), hv.trans (by simp; rfl)⟩
      · obtain ⟨hm, hv⟩ := applyLevel_low h State.raiseSafe ((s.countAssert src).openRec src false).2 src
          (s.targetOf src) 0 false false (s := s.opened src)
        exact ⟨hm.trans om, hv.trans ov⟩
    · split
      · exact ⟨om, ov⟩
      · exact ⟨rfl, rfl⟩

/-- What settles a reaction isolates nothing (R348). -/
theorem settle_isolated (s : State) (n : Option Nat) (src level : Nat) (acked : Bool) :
    (s.settle n src level acked).col.isolated = s.col.isolated := by
  have hd (x : State) (m : Nat) : (x.settleSource m).col.isolated = x.col.isolated := by
    simp only [State.settleSource, State.deassert]
    (repeat' split) <;> rfl
  have hc (x : State) (m : Nat) : (x.closeRec m).col.isolated = x.col.isolated := by
    unfold State.closeRec
    split <;> simp [hd]
  have hk (x : State) : x.checkClear.col.isolated = x.col.isolated := by
    unfold State.checkClear
    split <;> simp
  simp only [State.settle]
  (repeat' split) <;> simp [hd, hc, hk]

section Reaction
variable {s : State} {src : Nat} (hs : s.shadowSlot src = none) (he : (s.srcCfg src).esc = 0)
include hs he

/-- L2 isolates the source's target (R343). -/
theorem raise_two (hl : (s.srcCfg src).level = 2) : src ∈ (s.raise src).col.isolated := by
  obtain ⟨n, hr⟩ := raise_applies hs he (by omega)
  rw [hr, hl]
  simp only [State.applyLevel, settle_isolated, State.isolate]
  split
  next h => exact List.contains_iff_mem.mp h
  next => exact List.mem_cons_self

/-- L3 resets the pair of its channel where the channels cycle (R343, R345). -/
theorem raise_three (hl : (s.srcCfg src).level = 3) (hr : s.resettable = true) : ∃ n, s.raise src =
    (((s.opened src).openShadow n (s.targetOf src)).pairReset State.raiseSafe (s.targetOf src)).settle n src 3 false := by
  obtain ⟨n, h⟩ := raise_applies hs he (by omega)
  obtain ⟨om, -⟩ := opened_eq s src
  exact ⟨n, by rw [h, hl, applyLevel_three ((resettable_of_eq om).trans hr)]⟩

/-- L3 where no channel cycles is settled at L1 (R345). -/
theorem raise_three_off (hl : (s.srcCfg src).level = 3) (hr : s.resettable = false) :
    (s.raise src).mstate = s.mstate ∧ (s.raise src).vital = s.vital := by
  obtain ⟨n, h⟩ := raise_applies hs he (by omega)
  obtain ⟨om, ov, -⟩ := opened_eq s src
  have ho : (s.opened src).resettable = false := (resettable_of_eq om).trans hr
  rw [h, hl]
  simp [State.applyLevel, ho, om, ov]

end Reaction

/-- L4 stops the channels of a module that has them cycle (R351). -/
theorem goSafe_cycling {s : State} (h : s.resettable = true) (src : Nat) : (s.goSafe src).mstate = .safe
    ∧ (s.goSafe src).vital = s.vital.stop ∧ (s.goSafe src).col.safeCause = src := by
  have h' : s.mstate = .run ∨ s.mstate = .start := by simpa [State.resettable] using h
  obtain h' | h' := h' <;> simp [State.goSafe, h']

/-- L5 stops the channels of a module that is not `LOCKOUT` yet (R351). -/
theorem goLockout_running {s : State} (h : s.mstate ≠ .lockout) (h' : s.mstate ≠ .shutdown) (src : Nat) (detail : W32)
    (forced : Bool) : (s.goLockout src detail forced).mstate = .lockout
      ∧ (s.goLockout src detail forced).vital = s.vital.stop := by
  have hm : s.mstate = .start ∨ s.mstate = .run ∨ s.mstate = .safe := by cases e : s.mstate <;> simp_all
  have hv : s.lockWritten.vital = s.vital := rfl
  obtain e | e | e := hm <;> simp [State.goLockout, e] <;> rfl

/-- Every L5 counts its lock-out entry (R355). -/
theorem goLockout_total (s : State) (src : Nat) (detail : W32) (forced : Bool) :
    (s.goLockout src detail forced).lock.total = s.lock.total + 1 := by
  simp only [State.goLockout]
  split <;> simp [lockout_add_total]

/-- A channel that stops drives no enable generator (R352). -/
theorem gens_of_stop {s : State} {v : Vital} (h : s.vital = v.stop) (ch : Ch) : (s.ch ch).gens = Quad.all false := by
  rw [State.ch, h, stop_ch]
  rfl

/-- L3 holds its channel in reset; outside `DUAL` the channel goes to `RESYNC`, or `OFF` with two resets in the window, its
pages kept (R35, R45, R49). -/
theorem raise_three_resets {s : State} {src : Nat} (hs : s.shadowSlot src = none) (he : (s.srcCfg src).esc = 0)
    (hl : (s.srcCfg src).level = 3) (hr : s.resettable = true) (hrole : (s.ch (s.targetOf src)).role ≠ .off) :
    let t := s.raise src
    let c := s.targetOf src
    (t.ch c).inReset = true ∧ (t.ch c).gens = Quad.all false ∧ (s.vital.ladder ≠ .dual ∨ s.vital.running = false →
      t.mstate = s.mstate ∧ t.vital.resetsTotal = s.vital.resetsTotal + 1
      ∧ (t.ch c).role = (if ((s.ch c).recent s.svc.ms).length ≥ 2 then .off else .resync)
      ∧ (t.ch c).pages = (s.ch c).pages) := by
  obtain ⟨n, h⟩ := raise_three hs he hl hr
  obtain ⟨om, ov, -⟩ := opened_eq s src
  have os : (s.opened src).svc.ms = s.svc.ms := (openRec_kept (s.countAssert src) src false).2.2.2.2.2.2
  intro t c
  obtain ⟨⟨sm, sv, -⟩, -⟩ := openShadow_logged (s.opened src) n c
  have ss : ((s.opened src).openShadow n c).svc.ms = s.svc.ms := by rw [openShadow_resets, os]
  rw [om] at sm
  rw [ov] at sv
  generalize (s.opened src).openShadow n c = x at h sm sv ss
  have hx : x.ch c = s.ch c := by rw [State.ch, sv]; rfl
  obtain ⟨tm, tv, -⟩ := settle_settled (x.pairReset State.raiseSafe c) n src 3 false
  rw [← h] at tm tv
  have ht : t.ch c = (x.pairReset State.raiseSafe c).ch c := by rw [State.ch, tv]; rfl
  obtain ⟨hi, hg⟩ := pairReset_held (hx ▸ hrole : (x.ch c).role ≠ .off)
  refine ⟨ht ▸ hi, ht ▸ hg, fun hd => ?_⟩
  have hdual : (x.vital.ladder == .dual && x.vital.running) = false := by
    obtain hd | hd := hd <;> simp [sv, hd]
  have hp : x.pairReset State.raiseSafe c = x.paired c := by
    rw [pairReset_eq (hx ▸ hrole), hdual]
    rfl
  obtain ⟨e, hc⟩ := paired_ch x c
  rw [hp] at ht tm tv
  rw [ht, hc, tm, tv, hx, ss]
  exact ⟨sm, congrArg (·.resetsTotal + 1) sv, rfl, rfl⟩

/-- What an assertion leaves as it is, unit by unit. -/
theorem raise_leaves (s : State) (src : Nat) :
    let t := s.raise src
    t.pending = s.pending ∧ t.sens = s.sens ∧ t.banks = s.banks ∧ t.ring = { s.ring with ready := t.ring.ready }
      ∧ t.clients = s.clients ∧ t.time = s.time ∧ t.twin = s.twin ∧ t.life = s.life ∧ (∀ n, n ≠ 11 → t.cvu n = s.cvu n)
      ∧ t.upd = s.upd ∧ t.supply = s.supply ∧ t.pst = s.pst ∧ t.sdi = s.sdi := by
  obtain ⟨h1, -, h3, h4, h5, h6, h7, h8, h9, h10, h11, h12, -, h14, h15⟩ := raise_aside s src
  refine ⟨h1, h4, h5, ?_, h6, h7, h8, h9, cvu_of_calm h15, h10, h11, h12, h3⟩
  exact congrArg (fun r : Ring => { r with ready := (s.raise src).ring.ready }) h14

/-- An assertion that a shadow takes is merged: it is counted and has no reaction (R350). -/
theorem raise_merged {s : State} {src n : Nat} (h : s.shadowSlot src = some n) :
    s.raise src = (s.countAssert src).mergeInto n src false := by
  have h' : (s.countAssert src).shadowSlot src = some n := h
  simp only [State.raise, State.raiseWith, h']

/-- A merge into an open record counts (R348). -/
theorem mergeInto_total {s : State} {n : Nat} (h : (s.frec n).isSome = true) (src : Nat) (forced : Bool) :
    (s.mergeInto n src forced).col.mergedTotal = s.col.mergedTotal + 1 := by
  obtain ⟨r, hr⟩ := Option.isSome_iff_exists.mp h
  simp only [State.mergeInto, hr, State.settleSource, State.deassert]
  (repeat' split) <;> simp

/-- Settles O7: a merge, then the reaction at each level. -/
theorem anAssertionReactsAtItsLevel : Obligations.AnAssertionReactsAtItsLevel := by
  intro s src
  obtain ⟨om, ov, ol, -⟩ := opened_eq s src
  refine ⟨raise_leaves s src, fun n hn => ?_, fun hs he => ⟨fun hl => raise_low (by omega), fun hl => ?_, fun hl hr =>
    raise_three_off hs he hl hr, ?_, fun hl hr => ?_, fun hl => ?_⟩⟩
  · obtain ⟨⟨hm, hv, -⟩, hc⟩ := mergeInto_logged (s.countAssert src) n src false
    rw [raise_merged hn]
    exact ⟨hm, hv, hc, fun h => mergeInto_total (s := s.countAssert src) h src false⟩
  · obtain ⟨hm, hv⟩ := raise_low (src := src) (s := s) (by omega)
    exact ⟨hm, hv, raise_two hs he hl⟩
  · rintro ch hl rfl hr hrole
    exact raise_three_resets hs he hl hr hrole
  · obtain ⟨n, h⟩ := raise_four hs he hl
    obtain ⟨gm, gv, gs⟩ := goSafe_cycling ((resettable_of_eq om).trans hr) src
    obtain ⟨tm, tv, -, ts, -⟩ := settle_settled ((s.opened src).goSafe src) n src 4 false
    rw [← h] at tm tv ts
    exact ⟨tm.trans gm, by rw [tv, gv]; rfl, ts.trans gs, gens_of_stop (tv.trans gv)⟩
  · obtain ⟨n, h⟩ := raise_five hs he hl
    obtain ⟨tm, tv, tl, -⟩ := settle_settled ((s.opened src).goLockout src 0 false) n src 5 false
    rw [← h] at tm tv tl
    refine ⟨by rw [tl, goLockout_total, ol], fun h1 h2 => ?_⟩
    obtain ⟨gm, gv⟩ := goLockout_running (s := s.opened src) (om ▸ h1) (om ▸ h2) src 0 false
    exact ⟨tm.trans gm, gens_of_stop (tv.trans gv)⟩

end Sys2Proof.Machine
end

section
/-! PROOFS. The statements about escalations and acknowledgements, and about what is scanned of the collector and written to it
(R341 to R349). -/

namespace Sys2Proof.Machine

/-! ## Counts of assertions -/

/-- An assertion counts for no other source (R359). -/
theorem lookupD_bump_ne (l : List (Nat × Nat)) {k j : Nat} (h : j ≠ k) : lookupD (bump l k) j = lookupD l j := by
  unfold bump
  split
  · have hk : ((·.1 == j) ∘ fun q : Nat × Nat => if q.1 == k then (q.1, q.2 + 1) else q) = (·.1 == j) := by
      funext q
      dsimp only [Function.comp]
      split <;> rfl
    simp only [lookupD, List.find?_map, hk]
    cases hf : l.find? (·.1 == j) with
    | none => rfl
    | some q =>
      have hq : q.1 = j := by simpa using List.find?_some hf
      simp [hq, h]
  · simp [lookupD, Ne.symm h]

theorem goLockout_counts (s : State) (src : Nat) (detail : W32) (forced : Bool) :
    (s.goLockout src detail forced).col.counts = s.col.counts := by
  simp only [State.goLockout]
  split <;> simp

theorem goSafe_counts (s : State) (src : Nat) : (s.goSafe src).col.counts = s.col.counts := by
  unfold State.goSafe
  split <;> simp

/-- A pair reset counts no assertion but SAFE_REQUEST (R49). -/
theorem pairReset_counts (s : State) (ch : Ch) : (s.pairReset State.raiseSafe ch).col.counts = s.col.counts
    ∨ (s.pairReset State.raiseSafe ch).col.counts = bump s.col.counts 0x4A := by
  by_cases h : (s.ch ch).role = .off
  · exact .inl (by rw [pairReset_off h])
  · rw [pairReset_eq h]
    split
    · obtain ⟨n, hn⟩ := raiseSafe_goes (s.paired ch)
      obtain ⟨-, -, -, -, -, -, oc⟩ := opened_eq (s.paired ch) 0x4A
      right
      rw [hn, (settle_settled ..).2.2.2.2.2, goSafe_counts, oc]
      rfl
    · exact .inl rfl

/-- A reaction counts no assertion, but L3 may count SAFE_REQUEST (R343). -/
theorem applyLevel_counts (s : State) (n : Option Nat) (src level : Nat) (ch : Ch) (detail : W32) (forced acked : Bool) :
    (s.applyLevel State.raiseSafe n src level ch detail forced acked).col.counts = s.col.counts
      ∨ level = 3 ∧ (s.applyLevel State.raiseSafe n src level ch detail forced acked).col.counts = bump s.col.counts 0x4A := by
  unfold State.applyLevel
  split
  · exact .inl (settle_settled ..).2.2.2.2.2
  · exact .inl (settle_settled ..).2.2.2.2.2
  · exact .inl (settle_settled ..).2.2.2.2.2
  · split
    · obtain ⟨⟨-, -, -, -, -, hs⟩, -⟩ := openShadow_logged s n ch
      rw [(settle_settled ..).2.2.2.2.2, ← hs]
      exact (pairReset_counts _ ch).imp_right fun h => ⟨rfl, h⟩
    · exact .inl (settle_settled ..).2.2.2.2.2
  · exact .inl ((settle_settled ..).2.2.2.2.2.trans (goSafe_counts ..))
  · exact .inl ((settle_settled ..).2.2.2.2.2.trans (goLockout_counts ..))

/-- An assertion is counted once (R359). -/
theorem raise_counts (s : State) (src : Nat) : lookupD (s.raise src).col.counts src = lookupD s.col.counts src + 1 := by
  rw [← lookupD_bump]
  have hc : (s.countAssert src).srcCfg src = s.srcCfg src := rfl
  obtain ⟨-, -, -, -, -, -, oc⟩ := opened_eq s src
  simp only [State.raise, State.raiseWith, hc]
  split
  · rw [(mergeInto_logged ..).1.2.2.2.2.2]
    rfl
  · split
    · split
      · rw [(checkClear_settled _).2.2.2.2.2, (settleSource_logged ..).1.2.2.2.2.2, record_col]
        rfl
      · obtain h | ⟨hl, h⟩ := applyLevel_counts (s.opened src) ((s.countAssert src).openRec src false).2 src
          (s.srcCfg src).level (s.targetOf src) 0 false false
        · exact (congrArg (lookupD · src) h).trans (by rw [oc])
        · have hne : src ≠ 0x4A := by
            rintro rfl
            rw [srcCfg_safeRequest] at hl
            cases hl
          exact (congrArg (lookupD · src) h).trans (by rw [oc, lookupD_bump_ne _ hne])
    · split
      · exact congrArg (lookupD · src) oc
      · rfl

/-! ## Escalations -/

/-- What a filter by another source and a new entry make of a search (R344). -/
theorem find_escal_new (l : List Escalation) (e : Escalation) :
    (l.filter (·.source != e.source) ++ [e]).find? (·.source == e.source) = some e := by
  rw [List.find?_append, List.find?_eq_none.mpr]
  · simp
  · intro x hx
    simpa using (List.mem_filter.mp hx).2

/-- An assertion with an escalation time waits and has no reaction yet (R344). -/
theorem raise_waits {s : State} {src : Nat} (hs : s.shadowSlot src = none) (he : (s.srcCfg src).esc ≠ 0) :
    (s.raise src).escalOf src = some ⟨src, s.svc.ms + (s.srcCfg src).esc, false⟩ ∧ (s.raise src).vital = s.vital := by
  have hs' : (s.countAssert src).shadowSlot src = none := hs
  have hc : (s.countAssert src).srcCfg src = s.srcCfg src := rfl
  obtain ⟨-, ov, -⟩ := opened_eq s src
  have om : (s.opened src).svc.ms = s.svc.ms := (openRec_kept (s.countAssert src) src false).2.2.2.2.2.2
  simp only [State.raise, State.raiseWith, hs', hc, he, if_false, State.escalOf]
  split
  · refine ⟨?_, ov⟩
    exact (find_escal_new _ ⟨src, _, false⟩).trans (by rw [← om]; rfl)
  · exact ⟨find_escal_new _ ⟨src, _, false⟩, rfl⟩

theorem dropEscal_none (s : State) (src : Nat) : (s.dropEscal src).escalOf src = none := by
  simp [State.escalOf, State.dropEscal]

theorem escalOf_of_ledger {s t : State} (h : Ledger s t) (src : Nat) : t.escalOf src = s.escalOf src := by
  obtain ⟨-, -, -, he, -⟩ := h
  simp only [State.escalOf, he]

/-- At the expiry nothing waits any more, and the expiry is counted (R344). -/
theorem escalationExpiry_ends {s : State} {src : Nat} {e : Escalation} (he : s.escalOf src = some e) (hd : e.due ≤ s.svc.ms) :
    (escalationExpiry src s).escalOf src = none ∧ (escalationExpiry src s).col.escalated = s.col.escalated + 1 := by
  have h := escalationExpiry_due he hd
  have hl : Ledger (s.fallenDue src) (escalationExpiry src s) := by
    rw [h]
    exact ledger_trans (settleRec_ledger ..) (applyLevel_ledger ..)
  exact ⟨(escalOf_of_ledger hl src).trans (dropEscal_none s src), hl.2.2.2.2.1⟩

/-- At L3 the channel of the source is held in reset (R343, R344). -/
theorem escalationExpiry_three_held {s : State} {src : Nat} {e : Escalation} (he : s.escalOf src = some e) (hd : e.due ≤ s.svc.ms)
    (hl : (s.srcCfg src).level = 3) (hr : s.resettable = true) (hrole : (s.ch (s.targetOf src)).role ≠ .off) :
    ((escalationExpiry src s).ch (s.targetOf src)).inReset = true := by
  have h := escalationExpiry_due he hd
  obtain ⟨⟨hm, hv, -, -, ho, -⟩, -⟩ := settleRec_logged (s.fallenDue src) src e.forced
  dsimp only at h
  generalize (s.fallenDue src).settleRec src e.forced = r at h hm hv ho
  have hc : r.1.srcCfg src = s.srcCfg src := by
    simp only [State.srcCfg, ho]
    rfl
  rw [h, hc, hl]
  refine (applyLevel_three_held ((resettable_of_eq hm).trans hr) ?_ r.2 src 0 e.forced false).1
  rw [State.ch, hv]
  exact hrole

/-! ## Acknowledgements -/

/-- An acknowledged fault waits no more and has no reaction (R344). -/
theorem ackSettle_settles (s : State) (e : Escalation) (src level : Nat) : (s.ackSettle e src level).escalOf src = none
    ∧ (s.ackSettle e src level).vital = s.vital ∧ (s.ackSettle e src level).mstate = s.mstate := by
  obtain ⟨⟨hm, hv, -⟩, -⟩ := settleRec_logged (s.dropEscal src) src e.forced
  have hl : Ledger (s.dropEscal src) (s.ackSettle e src level) := ledger_trans (settleRec_ledger ..) (settle_ledger ..)
  exact ⟨(escalOf_of_ledger hl src).trans (dropEscal_none s src), (settle_settled ..).2.1.trans hv,
    (settle_settled ..).1.trans hm⟩

/-- Only the word's own code acknowledges (R344). -/
theorem ackable_none {s : State} {w : AckWord} {who : AckBy} (h : s.ackable w w.code who = none) (code : Byte) :
    s.ackable w code who = none := by
  by_cases hc : w.code = code
  · rwa [← hc]
  · unfold State.ackable
    split <;> simp [hc]

/-- An acknowledgement DISMISSED leaves the records, and its fault waits no more (R344, R348). -/
theorem ackDismissed_settles {s : State} {w : AckWord} {who : AckBy} {e : Escalation} (he : s.ackable w 3 who = some e)
    (hv : (s.srcCfg w.source).v = false) : (ackDismissed w who s).escalOf w.source = none
      ∧ (ackDismissed w who s).vital = s.vital ∧ (ackDismissed w who s).mstate = s.mstate
      ∧ (ackDismissed w who s).col.recs = s.col.recs := by
  have hr (x : State) (n : Nat) : (x.settleSource n).checkClear.col.recs = x.col.recs := by
    simp only [State.checkClear, State.settleSource, State.deassert]
    (repeat' split) <;> simp
  unfold ackDismissed
  simp only [he, hv, Bool.false_eq_true, if_false]
  refine ⟨(escalOf_of_ledger (s := s.dropEscal w.source) ?_ _).trans (dropEscal_none s w.source), ?_, ?_, ?_⟩
  · exact ledger_trans (t := (s.dropEscal w.source).record _ _ _) (by simp [Ledger])
      (ledger_trans (settleSource_ledger ..) (checkClear_ledger _))
  · rw [(checkClear_settled _).2.1, (settleSource_logged ..).1.2.1, (record_logged ..).1.2.1]
    rfl
  · rw [(checkClear_settled _).1, (settleSource_logged ..).1.1, (record_logged ..).1.1]
    rfl
  · rw [hr, record_col]
    rfl

/-- A REDIRECT of a mesh link resets the end it names (R344, R350). -/
theorem ackRedirect_resets {s : State} {w : AckWord} {who : AckBy} {e : Escalation} (he : s.ackable w 4 who = some e)
    (hlo : 0x40 ≤ w.source) (hhi : w.source < 0x46) (ha : w.applied = 3)
    (hw : w.channel = (linkEnds w.source).1 ∨ w.channel = (linkEnds w.source).2) (hr : s.resettable = true)
    (hrole : (s.ch w.channel).role ≠ .off) : (ackRedirect w who s).escalOf w.source = none
      ∧ ((ackRedirect w who s).ch w.channel).inReset = true := by
  obtain ⟨⟨hm, hv, -⟩, -⟩ := settleRec_logged (s.dropEscal w.source) w.source e.forced
  have hx : ackRedirect w who s = ((s.dropEscal w.source).settleRec w.source e.forced).1.applyLevel State.raiseSafe
      ((s.dropEscal w.source).settleRec w.source e.forced).2 w.source 3 w.channel 0 e.forced true := by
    have hc : (decide (0x40 ≤ w.source) && decide (w.source < 0x46) && decide (w.applied = 3)
        && decide (w.channel = (linkEnds w.source).1 ∨ w.channel = (linkEnds w.source).2)) = true := by simp [hlo, hhi, ha, hw]
    simp only [ackRedirect, he]
    rw [if_pos (by simpa using hc)]
  rw [hx]
  have hl := ledger_trans (settleRec_ledger (s.dropEscal w.source) w.source e.forced)
    (applyLevel_ledger _ ((s.dropEscal w.source).settleRec w.source e.forced).2 w.source 3 w.channel 0 e.forced true)
  refine ⟨(escalOf_of_ledger hl _).trans (dropEscal_none s w.source), ?_⟩
  refine (applyLevel_three_held ((resettable_of_eq hm).trans hr) ?_ _ _ 0 e.forced true).1
  rw [State.ch, hv]
  exact hrole

/-- Settles O10: the collector's rows for an escalation, and the acknowledgements by their code. -/
theorem assertionsEscalateUntilAcknowledged : Obligations.AssertionsEscalateUntilAcknowledged := by
  have hon {s : State} (hs : Supplied s) (f : State → State) : Host.Outcome.next (s.live f) = (.next (f s.begin) :
    Host.Outcome State Fault Refusal) := congrArg Host.Outcome.next (live_on hs f)
  refine ⟨fun s src hs hsrc => ?_, fun s w who hs => ?_⟩
  · have hmod : src % 0x200 = src := Nat.mod_eq_of_lt hsrc
    refine ⟨(hon hs _).trans (by simp only [faultSourceAssert, hmod]), fun ch => (hon hs _).trans
      (by simp only [faultSourceAssert, hmod]), raise_counts s src, raise_waits, fun e he hd => ?_, fun e he hd => ?_⟩
    · obtain ⟨h1, h2⟩ := escalationExpiry_ends (s := s.begin) he hd
      exact ⟨_, hon hs _, h1, h2, escalationExpiry_three_held (s := s.begin) he hd⟩
    · refine (hon hs _).trans ?_
      have he' : s.begin.escalOf src = some e := he
      simp only [escalationExpiry, he', begin_svc, Nat.not_le.mpr hd, if_false]
  · refine ⟨fun e he hl => ?_, fun e he hl => ?_, fun e he hv => ?_, fun e he hv => ⟨_, hon hs _, ?_⟩, fun hv => ⟨?_, ?_⟩,
      fun e he hlo hhi ha hw hr hrole => ⟨_, hon hs _, ackRedirect_resets (s := s.begin) he hlo hhi ha hw hr hrole⟩,
      fun hn => ⟨?_, ?_, ?_, ?_⟩⟩
    · have he' : s.begin.ackable w 1 who = some e := he
      have hl' : (s.begin.srcCfg w.source).level ≤ w.applied := hl
      have hx : ackHandled w who s.begin = s.begin.ackSettle e w.source w.applied := by simp only [ackHandled, he', if_pos hl']
      obtain ⟨h1, h2, h3⟩ := ackSettle_settles s.begin e w.source w.applied
      exact ⟨_, (hon hs _).trans (congrArg _ hx), h1, h2, h3, rfl⟩
    · have he' : s.begin.ackable w 1 who = some e := he
      have hl' : ¬ (s.begin.srcCfg w.source).level ≤ w.applied := Nat.not_le.mpr hl
      exact (hon hs _).trans (by simp only [ackHandled, he', if_neg hl'])
    · have he' : s.begin.ackable w 2 who = some e := he
      have hv' : (s.begin.srcCfg w.source).v = false := hv
      have hx : ackLowered w who s.begin = s.begin.ackSettle e w.source w.applied := by
        simp only [ackLowered, he', hv', Bool.false_eq_true, if_false]
      obtain ⟨h1, h2, h3⟩ := ackSettle_settles s.begin e w.source w.applied
      exact ⟨_, (hon hs _).trans (congrArg _ hx), h1, h2, h3, rfl⟩
    · exact ackDismissed_settles (s := s.begin) he hv
    · have hv' : (s.begin.srcCfg w.source).v = true := hv
      refine (hon hs _).trans (congrArg _ ?_)
      unfold ackLowered
      split <;> simp [hv']
    · have hv' : (s.begin.srcCfg w.source).v = true := hv
      refine (hon hs _).trans (congrArg _ ?_)
      unfold ackDismissed
      split <;> simp [hv']
    · exact (hon hs _).trans (by simp only [ackHandled, ackable_none (s := s.begin) hn])
    · exact (hon hs _).trans (by simp only [ackLowered, ackable_none (s := s.begin) hn])
    · exact (hon hs _).trans (by simp only [ackDismissed, ackable_none (s := s.begin) hn])
    · exact (hon hs _).trans (by simp only [ackRedirect, ackable_none (s := s.begin) hn])

/-! ## The configuration scan, force bits and overrides -/

theorem srcCfg_configV (s : State) : s.srcCfg 0x1F0 = ⟨true, 5, 0, 1, 0⟩ := by simp [State.srcCfg, imageCfg]

/-- A bad V-class pair takes the module `LOCKOUT` at once (R349, R351). -/
theorem raise_configV {s : State} (h : s.mstate = .start ∨ s.mstate = .run ∨ s.mstate = .safe) :
    (s.raise 0x1F0).mstate = .lockout ∧ (s.raise 0x1F0).lock.total = s.lock.total + 1
      ∧ (s.raise 0x1F0).col.configErrs = s.col.configErrs := by
  obtain ⟨n, hr⟩ := raise_five (src := 0x1F0) (shadowSlot_none_of (expects_outside (by omega)) s)
    (by rw [srcCfg_configV]) (by rw [srcCfg_configV])
  obtain ⟨om, -, ol, -⟩ := opened_eq s 0x1F0
  obtain ⟨tm, -, tl, -⟩ := settle_settled ((s.opened 0x1F0).goLockout 0x1F0 0 false) n 0x1F0 5 false
  have hl : Ledger s (s.raise 0x1F0) := by
    rw [hr]
    exact ledger_trans (opened_ledger s 0x1F0) (ledger_trans (goLockout_ledger ..) (settle_ledger ..))
  obtain ⟨-, -, -, -, -, hc⟩ := hl
  rw [← hr] at tm tl
  refine ⟨tm.trans (goLockout_running ?_ ?_ 0x1F0 0 false).1, by rw [tl, goLockout_total, ol], hc⟩
  all_goals rw [om]; obtain h | h | h := h <;> simp [h]

/-- A write that passes its checks has a good range (R301). -/
theorem range_of_check {s : State} {cl : Client} {n : Need} {lenOk rangeOk : Bool} (h : s.check cl n lenOk rangeOk = none) :
    rangeOk = true := by
  unfold State.check at h
  cases rangeOk
  · (repeat' split at h) <;> simp_all
  · rfl

/-- The configuration an override gives an N-class source (R342). -/
theorem srcCfg_override {s : State} {src : Nat} {w : W32} {rest : List (Nat × W32)} (h : s.col.overrides = (src, w) :: rest)
    (hw : w ≠ 0) (hv : (imageCfg src).v = false) (hr : (SrcCfg.ofWord w).level ≤ 2 ∧ (SrcCfg.ofWord w).esc ≤ 1000) :
    s.srcCfg src = { imageCfg src with level := (SrcCfg.ofWord w).level, esc := (SrcCfg.ofWord w).esc } := by
  have hw' : ¬ w = 0#32 := hw
  simp [State.srcCfg, hv, h, hw', Nat.min_eq_left hr.1, Nat.min_eq_left hr.2]

/-- A write of a force bit at EXPERT in COMMISSIONING or MAINTENANCE (R347). -/
theorem forceWrite_permitted {s : State} {cl : Client} (hl : 2 ≤ (s.client cl).level) (hc : s.life.state = 1 ∨ s.life.state = 3)
    (v : Byte) : forceWrite cl v s.begin = if v.toNat > 1 then (s.asked cl).abort cl 0x06090030
      else (forceBit s.col.select v (s.asked cl)).accept cl := by
  have h1 : ¬ ((s.begin.touch cl).client cl).level < 2 := by
    have := asked_level s cl
    rw [State.asked] at this
    omega
  have h2 : (!((s.begin.touch cl).life.state == 1 || (s.begin.touch cl).life.state == 3)) = false := by
    have : (s.begin.touch cl).life = s.life := rfl
    obtain hc | hc := hc <;> simp [this, hc]
  simp only [forceWrite, h1, h2, if_false, Bool.false_eq_true]
  rfl

/-- Settles O11: the pairs by their class, then the writes of a force bit and of an override. -/
theorem collectorIsScannedForcedAndOverridden : Obligations.CollectorIsScannedForcedAndOverridden := by
  intro s cl hs
  have hon (f : State → State) : Host.Outcome.next (s.live f) = (.next (f s.begin) : Host.Outcome State Fault Refusal) :=
    congrArg Host.Outcome.next (live_on hs f)
  refine ⟨fun p hp hv hm => ?_, fun p hp hv => ⟨fun hn => ?_, fun n r hn hr => ?_⟩, fun p hp => ?_, hon _, fun hl hc => ⟨?_, ?_, ?_⟩,
    fun hl h1 h3 v => ?_, fun w hw => ⟨fun hv => ?_, fun hv hne => ?_⟩⟩
  · obtain ⟨h1, h2, h3⟩ := raise_configV (s := { s.begin with col := { s.col with configErrs := s.col.configErrs + 1 } }) hm
    refine ⟨_, (hon _).trans ?_, h1, h2, h3⟩
    simp only [List.foldl, configPair, hp, hv, Bool.false_eq_true, if_false, if_true]
    rfl
  · refine (hon _).trans ?_
    simp only [List.foldl, configPair, hp, hv, Bool.false_eq_true, if_false, begin_col, hn]
  · refine (hon _).trans ?_
    have hr' : ({ s.begin with col := { s.col with configErrs := s.col.configErrs + 1 } } : State).frec n = some r := hr
    simp only [List.foldl, configPair, hp, hv, Bool.false_eq_true, if_false, begin_col, hn, hr']
  · exact (hon _).trans (by simp only [List.foldl, configPair, hp, if_true])
  · exact (hon _).trans (by rw [forceWrite_permitted hl hc]; rfl)
  · exact (hon _).trans (by rw [forceWrite_permitted hl hc]; rfl)
  · exact (hon _).trans (by rw [forceWrite_permitted hl hc]; rfl)
  · refine (hon _).trans (congrArg _ ?_)
    have h1' : ¬ ((s.begin.touch cl).client cl).level < 2 := by
      have := asked_level s cl
      rw [State.asked] at this
      omega
    have h2' : (!((s.begin.touch cl).life.state == 1 || (s.begin.touch cl).life.state == 3)) = true := by
      have : (s.begin.touch cl).life = s.life := rfl
      simp [this, h1, h3]
    simp only [forceWrite, h1', h2', if_false, if_true]
    rfl
  · refine (hon _).trans (congrArg _ ?_)
    unfold overrideWrite
    exact (write_ok cl .rwm true _ _ hw).trans (if_pos hv)
  · have hrange := range_of_check hw
    simp only [Bool.and_eq_true, decide_eq_true_eq] at hrange
    let rest := s.col.overrides.filter fun p => !(p.1 == s.col.select)
    refine ⟨{ s.asked cl with col := { s.col with overrides := (s.col.select, w) :: rest } }, ?_, ?_⟩
    · refine (hon _).trans (congrArg _ ?_)
      unfold overrideWrite
      refine (write_ok cl .rwm true _ _ hw).trans ?_
      simp only [begin_col, hv, Bool.false_eq_true, if_false, if_neg hne]
      rfl
    · exact srcCfg_override rfl hne hv hrange

end Sys2Proof.Machine
end

section
/-! PROOFS. The statements about starts, restarts, the supply and the board temperature (R48, R49, R316, R353, R387, R403, R419,
R424). -/

namespace Sys2Proof.Machine

/-- A row under control supply (R419). -/
theorem row_on {s : State} (hs : Supplied s) (f : State → State) :
    Host.Outcome.next (s.live f) = (.next (f s.begin) : Host.Outcome State Fault Refusal) :=
  congrArg Host.Outcome.next (live_on hs f)

/-! ## Starts -/

/-- The supply POWER_ON starts with (R387, R419). -/
theorem powerOn_supply (s : State) (o : StartObs) (h1 : 16800 ≤ o.mv) (h2 : o.mv ≤ 165000) :
    (powerOn o s).supply.mv = o.mv ∧ (powerOn o s).supply.minMv = o.mv := by
  unfold powerOn
  rw [if_neg (by simp; omega)]
  obtain ⟨-, hx⟩ := startSequence_begun { s.powerDown with supply := { s.powerDown.supply with
    on := true, cycles := s.powerDown.supply.cycles + 1, temp := 0, tempMax := -32768 } } o true
  exact ⟨congrArg (·.mv) hx, congrArg (·.minMv) hx⟩

/-- A start that has run out of its 45 s (R387). -/
theorem startTimeout_due {s : State} (h : s.mstate = .start) (hd : s.svc.startMs + 45000 ≤ s.svc.ms) :
    startTimeout s = s.goSafe 0xFFFF := by
  simp [startTimeout, h, hd]

theorem stop_pages (v : Vital) (ch : Ch) : (v.stop.chans.get ch).pages = (v.chans.get ch).pages := by
  rw [stop_ch]
  rfl

/-- Settles O12: the 45 s of a start, the rows of the ladder's times, and POWER_ON. -/
theorem startAndDualTimeAreLimited : Obligations.StartAndDualTimeAreLimited := by
  refine ⟨fun s hs => ⟨fun hm hd => ?_, fun h => ?_⟩, fun s hs => ⟨fun hm hr hl hd => ?_, fun hd => ?_, fun h => ?_, fun h => ?_⟩,
    fun s o => ⟨fun h1 h2 => ?_, fun h => ?_⟩⟩
  · obtain ⟨gm, gv, gs⟩ := goSafe_cycling (s := s.begin) (by simp [State.resettable, hm]) 0xFFFF
    refine ⟨_, (row_on hs _).trans (congrArg _ (startTimeout_due (s := s.begin) hm hd)), gm, gs, by rw [gv]; rfl, fun ch bk => ?_,
      fun ch => ?_⟩
    · rw [gens_of_stop gv]
      exact Quad.get_all ..
    · rw [State.ch, gv, stop_pages]
      rfl
  · refine (row_on hs _).trans (congrArg _ (if_neg ?_))
    rintro hc
    obtain ⟨hm, hd⟩ := (Bool.and_eq_true _ _).mp hc
    exact h.elim (absurd (by simpa using hm)) (absurd (of_decide_eq_true hd) ∘ Nat.not_le.mpr)
  · refine (row_on hs _).trans (congrArg _ (if_pos ?_))
    simp [State.runs, hm, hr, hl, hd]
  · refine (row_on hs _).trans (congrArg _ (if_neg ?_))
    simp [Nat.not_le.mpr hd]
  · exact (row_on hs _).trans (congrArg _ (if_pos h))
  · exact (row_on hs _).trans (congrArg _ (if_neg (Nat.not_le.mpr h)))
  · obtain ⟨hp, -, hon, hc⟩ := powerOn_keeps s.begin o ⟨h1, h2⟩
    obtain ⟨hv, hmin⟩ := powerOn_supply s.begin o h1 h2
    exact ⟨_, rfl, hon, hc, hv, hmin, hp⟩
  · exact congrArg Host.Outcome.next (if_pos (by simpa using h))

/-! ## Restarts -/

/-- A write of RESTART at OPERATE (R353). -/
theorem restart_row {s : State} {cl : Client} (hl : 1 ≤ (s.client cl).level) {v : W16} (o : StartObs) (hv : v = 0x5A5A) :
    restart cl v o s.begin = if s.mstate.restarts then ((s.asked cl).accept cl).restart o else (s.asked cl).abort cl 0x08000022 := by
  subst hv
  exact write_ok cl .operate true _ _ (check_operate hl)

/-- A schedule whose time has come (R316, R403). -/
theorem scheduledActivation_due {s : State} {n : Nat} {t : DTime} (h : s.upd.schedule = some (n, t))
    (hd : t.nanos ≤ s.time.now.nanos) (o : StartObs) : scheduledActivation o s =
      if (isPtp s.time.source && match s.time.ptpMs with | some m => m + 60000 ≤ s.svc.ms | none => false)
      then (s.finish n .done 0 []).restart o else s.dropSchedule.finish n .failed 0x0511 [] := by
  simp only [scheduledActivation, h, Nat.not_lt.mpr hd, if_false] <;> rfl

/-! ## What lasts is asserted -/

theorem checkClear_asserted (s : State) : s.checkClear.col.asserted = s.col.asserted := by
  unfold State.checkClear
  split <;> simp

section Lasting
variable {s : State} {src : Nat} (hl : levelSrc src = true)
include hl

/-- A source that lasts is not settled by its event (R347). -/
theorem settleSource_lasts (h : src ∈ s.col.asserted) (m : Nat) : src ∈ (s.settleSource m).col.asserted := by
  unfold State.settleSource
  split
  · exact h
  next hm =>
    unfold State.deassert
    split
    · exact h
    · refine List.mem_filter.mpr ⟨h, ?_⟩
      have : src ≠ m := by
        rintro rfl
        exact hm hl
      simpa using this

theorem mergeInto_lasts (h : src ∈ s.col.asserted) (n m : Nat) (forced : Bool) : src ∈ (s.mergeInto n m forced).col.asserted := by
  unfold State.mergeInto
  split
  · exact h
  · exact settleSource_lasts hl (by simpa using h) m

theorem openRec_lasts (h : src ∈ s.col.asserted) (m : Nat) (forced : Bool) : src ∈ (s.openRec m forced).1.col.asserted := by
  unfold State.openRec
  split
  · simpa using h
  · dsimp only
    split <;> exact mergeInto_lasts hl h 0 m forced

theorem settle_lasts (h : src ∈ s.col.asserted) (n : Option Nat) (m level : Nat) (acked : Bool) :
    src ∈ (s.settle n m level acked).col.asserted := by
  have hc {x : State} (h : src ∈ x.col.asserted) (i : Nat) : src ∈ (x.closeRec i).col.asserted := by
    unfold State.closeRec
    split
    · exact h
    · exact settleSource_lasts hl (by simpa using h) _
  unfold State.settle
  extract_lets c x y
  have hy : src ∈ y.col.asserted := by
    dsimp only [y]
    split
    · rw [queueEmcy_col]
      exact h
    · exact h
  split
  · exact settleSource_lasts hl hy m
  · split
    · exact hy
    · dsimp only
      split
      · exact hy
      · rw [checkClear_asserted]
        exact hc (by exact hy) _

/-- An assertion below L3 of a source that lasts stands (R341, R347). -/
theorem raise_lasts (h : (s.srcCfg src).level ≤ 2) : src ∈ (s.raise src).col.asserted := by
  have h0 : src ∈ (s.countAssert src).col.asserted := by
    simp only [State.countAssert]
    split
    next hc => exact List.contains_iff_mem.mp hc
    next => exact List.mem_cons_self
  have hc : (s.countAssert src).srcCfg src = s.srcCfg src := rfl
  have ho := openRec_lasts hl h0 src false
  simp only [State.raise, State.raiseWith, hc]
  split
  · exact mergeInto_lasts hl h0 ..
  · split
    · split
      · rw [checkClear_asserted]
        exact settleSource_lasts hl (by simpa using h0) src
      next hne =>
        obtain hl1 | hl2 : (s.srcCfg src).level = 1 ∨ (s.srcCfg src).level = 2 := by omega
        · rw [hl1]
          exact settle_lasts hl ho ..
        · rw [hl2]
          exact settle_lasts hl (by exact ho) ..
    · split
      · exact ho
      · exact h0

end Lasting

/-! ## The supply and the board temperature -/

/-- No override takes an N-class source above L2 (R342). -/
theorem srcCfg_low {src : Nat} (hv : (imageCfg src).v = false) (hl : (imageCfg src).level ≤ 2) (s : State) :
    (s.srcCfg src).level ≤ 2 := by
  simp only [State.srcCfg, hv, Bool.false_eq_true, if_false]
  repeat' split
  · exact hl
  · exact Nat.min_le_right ..
  · exact hl

/-- A flag's source asserts with the flag and ends with it, and the supply's readings stay (R419). -/
theorem supplySource_supply (s : State) (src : Nat) (old new : Bool) : (s.supplySource src old new).supply = s.supply := by
  unfold State.supplySource
  (repeat' split) <;> simp

/-- A flag whose source is below L3 leaves the module state and the channels (R343, R419). -/
theorem supplySource_low {s : State} {src : Nat} (h : (s.srcCfg src).level ≤ 2) (old new : Bool) :
    (s.supplySource src old new).mstate = s.mstate ∧ (s.supplySource src old new).vital = s.vital := by
  unfold State.supplySource
  split
  · exact ⟨rfl, rfl⟩
  · split
    · exact raise_low h
    · obtain ⟨hm, hv, -⟩ := checkClear_settled (s.deassert src)
      have hd : Settled s (s.deassert src) := by
        unfold State.deassert
        split <;> simp [Settled]
      exact ⟨hm.trans hd.1, hv.trans hd.2.1⟩

/-- A source whose flag is raised is asserted, and stays it while another flag is cleared (R419). -/
theorem supplySource_asserts {s : State} {src : Nat} (hl : levelSrc src = true) (h : (s.srcCfg src).level ≤ 2) :
    src ∈ (s.supplySource src false true).col.asserted := raise_lasts hl h

theorem supplySource_clears {s : State} {src m : Nat} (hne : src ≠ m) (h : src ∈ s.col.asserted) (old : Bool) :
    src ∈ (s.supplySource m old false).col.asserted := by
  unfold State.supplySource
  split
  · exact h
  · simp only [Bool.false_eq_true, if_false, checkClear_asserted]
    unfold State.deassert
    split
    · exact h
    · exact List.mem_filter.mpr ⟨h, by simpa using hne⟩

/-- What a reading of the input makes of the supply, the module state and the channels (R419). -/
theorem supplyRead_reads (s : State) (mv : Nat) : (s.supplyRead mv).mstate = s.mstate ∧ (s.supplyRead mv).vital = s.vital
    ∧ (s.supplyRead mv).supply = { s.supply.read mv with low := decide (mv < 16800), high := decide (154000 < mv) } := by
  have hlow (x : State) : (x.srcCfg 0x1F2).level ≤ 2 := srcCfg_low rfl (by decide) x
  have hhigh (x : State) : (x.srcCfg 0x1F3).level ≤ 2 := srcCfg_low rfl (by decide) x
  unfold State.supplyRead
  extract_lets p low high r x
  obtain ⟨m1, v1⟩ := supplySource_low (hlow x) s.supply.low low
  obtain ⟨m2, v2⟩ := supplySource_low (hhigh (x.supplySource 0x1F2 s.supply.low low)) s.supply.high high
  exact ⟨m2.trans m1, v2.trans v1, (supplySource_supply ..).trans (supplySource_supply ..)⟩

/-- A low input asserts SUPPLY_LOW (R419). -/
theorem supplyRead_low {s : State} {mv : Nat} (h : mv < 16800) (ho : s.supply.low = false) :
    0x1F2 ∈ (s.supplyRead mv).col.asserted := by
  have hh : decide (154000 < mv) = false := by simp; omega
  simp only [State.supplyRead, ho, h, decide_true, hh]
  exact supplySource_clears (by decide) (supplySource_asserts rfl (srcCfg_low rfl (by decide) _)) _

/-- A high input asserts SUPPLY_HIGH (R419). -/
theorem supplyRead_high {s : State} {mv : Nat} (h : 154000 < mv) (ho : s.supply.high = false) :
    0x1F3 ∈ (s.supplyRead mv).col.asserted := by
  simp only [State.supplyRead, ho, h, decide_true]
  exact supplySource_asserts rfl (srcCfg_low rfl (by decide) _)

theorem tempSource_eq : State.tempSource = State.supplySource := rfl

/-- The hottest reading is the greatest of the list (R424). -/
theorem hottest_eq {l : List Int} {x : Int} (hx : x ∈ l) (hm : ∀ y ∈ l, y ≤ x) : hottest l = some x := by
  have hf : ∀ (l : List Int) (b : Int), l.foldl (fun b x => match b with | none => some x | some y => some (max x y)) (some b)
      = some (l.foldl max b) := by
    intro l
    induction l with
    | nil => exact fun _ => rfl
    | cons a t ih => exact fun b => (ih _).trans (by rw [List.foldl_cons, Int.max_comm])
  cases l with
  | nil => cases hx
  | cons a t =>
    have hle : ∀ (t : List Int) (a : Int), a ≤ x → (∀ y ∈ t, y ≤ x) → (a = x ∨ x ∈ t) → t.foldl max a = x := by
      intro t
      induction t with
      | nil => exact fun a _ _ h => h.resolve_right (by simp)
      | cons b t ih =>
        intro a ha hb h
        have hbx := hb b List.mem_cons_self
        refine ih (max a b) (Int.max_le.mpr ⟨ha, hbx⟩) (fun y hy => hb y (List.mem_cons_of_mem _ hy)) ?_
        obtain rfl | h := h
        · exact .inl (Int.max_eq_left hbx)
        · obtain rfl | h := List.mem_cons.mp h
          · exact .inl (Int.max_eq_right ha)
          · exact .inr h
    exact (hf t a).trans (congrArg some (hle t a (hm a List.mem_cons_self) (fun y hy => hm y (List.mem_cons_of_mem _ hy))
      ((List.mem_cons.mp hx).imp_left Eq.symm)))

theorem srcCfg_tempCrit (s : State) : s.srcCfg 0x1F5 = ⟨true, 4, 0, 1, 0⟩ := by simp [State.srcCfg, imageCfg]

/-- A board temperature that becomes critical in `RUN` takes the module `SAFE` (R424). -/
theorem raise_tempCrit {s : State} (h : s.mstate = .run) : (s.raise 0x1F5).mstate = .safe := by
  obtain ⟨n, hr⟩ := raise_four (src := 0x1F5) (shadowSlot_none_of (expects_outside (by omega)) s)
    (by rw [srcCfg_tempCrit]) (by rw [srcCfg_tempCrit])
  rw [hr, (settle_settled ..).1]
  exact (goSafe_run ((opened_eq s 0x1F5).1.trans h) _).1

/-- What a reading of the board temperature leaves of the supply's readings, and a critical one in `RUN` (R424). -/
theorem temperatureRead_reads {s : State} {dc : List Int} {x : Int} (h : hottest dc = some x) :
    (temperatureRead dc s).supply.temp = x
      ∧ (temperatureRead dc s).supply.tempHigh = tempFlag s.supply.tempHigh x 950 900
      ∧ (1100 ≤ x → s.supply.tempCrit = false → s.mstate = .run → (temperatureRead dc s).mstate = .safe) := by
  have hlow (y : State) : (y.srcCfg 0x1F4).level ≤ 2 := srcCfg_low rfl (by decide) y
  simp only [temperatureRead, h, tempSource_eq, supplySource_supply]
  refine ⟨trivial, trivial, fun hx hc hm => ?_⟩
  obtain ⟨m1, -⟩ := supplySource_low (hlow { s with supply := { s.supply with
    temp := x, tempMax := max s.supply.tempMax x, tempHigh := tempFlag s.supply.tempHigh x 950 900
    tempCrit := tempFlag s.supply.tempCrit x 1100 1099 } }) s.supply.tempHigh (tempFlag s.supply.tempHigh x 950 900)
  have hf : tempFlag s.supply.tempCrit x 1100 1099 = true := if_pos hx
  rw [hf] at m1 ⊢
  rw [hc]
  exact raise_tempCrit (m1.trans hm)

/-- The rows of RESTART, of a press of RESET and of a schedule (R316, R353, R403). -/
theorem restarts_taken (s : State) (cl : Client) (o : StartObs) (hs : Supplied s) :
    (s.restart o).supply.cycles = s.supply.cycles
    ∧ (1 ≤ (s.client cl).level → s.mstate.restarts = true →
      exec (.restart cl 0x5A5A o) s = .next (((s.asked cl).accept cl).restart o))
    ∧ (1 ≤ (s.client cl).level → s.mstate = .run → exec (.restart cl 0x5A5A o) s = .next ((s.asked cl).abort cl 0x08000022))
    ∧ (1 ≤ (s.client cl).level → ∀ v, v ≠ 0x5A5A → exec (.restart cl v o) s = .next ((s.asked cl).abort cl 0x06090030))
    ∧ (∀ ms chans, s.mstate.restarts = true → 50 ≤ ms → ms ≤ 2000 → 2 ≤ chans.eraseDups.length →
      exec (.resetButtonPress ms true chans o) s = .next (s.begin.restart o))
    ∧ (∀ ms svc chans, (s.mstate = .run ∨ svc = false ∨ chans.eraseDups.length < 2) →
      exec (.resetButtonPress ms svc chans o) s = .next s.begin)
    ∧ (∀ n t, s.upd.schedule = some (n, t) → t.nanos ≤ s.time.now.nanos →
      (isPtp s.time.source = true → ∀ m, s.time.ptpMs = some m → m + 60000 ≤ s.svc.ms →
        exec (.scheduledActivation o) s = .next ((s.begin.finish n .done 0 []).restart o))
      ∧ ((isPtp s.time.source = false ∨ s.time.ptpMs = none) →
        exec (.scheduledActivation o) s = .next (s.begin.dropSchedule.finish n .failed 0x0511 [])))
    ∧ (∀ n t, s.upd.schedule = some (n, t) → s.time.now.nanos < t.nanos → exec (.scheduledActivation o) s = .next s.begin) := by
  refine ⟨(restart_keeps s o).2.2, fun hl hm => ?_, fun hl hm => ?_, fun hl v hv => ?_, fun ms chans hm h1 h2 hc => ?_,
    fun ms svc chans h => ?_, fun n t ht hd => ⟨fun hp m hm h => ?_, fun h => ?_⟩, fun n t ht hd => ?_⟩
  all_goals refine (row_on hs _).trans (congrArg _ ?_)
  · exact (restart_row hl o rfl).trans (if_pos hm)
  · exact (restart_row hl o rfl).trans (if_neg (by rw [hm]; decide))
  · refine write_bad cl .operate true _ _ _ ?_
    have hv' : v.toNat ≠ 0x5A5A := fun h => hv (BitVec.eq_of_toNat_eq h)
    have hl' : ¬ (s.client cl).level < 1 := by omega
    simp [State.check, Need.level, Need.lifeOk, Need.inPst, hl', hv']
  · exact if_pos (by simp [h1, h2, hc, hm])
  · refine if_neg ?_
    obtain h | h | h := h
    · simp [h, MState.restarts]
    · simp [h]
    · simp [Nat.not_le.mpr h]
  · exact (scheduledActivation_due (s := s.begin) ht hd o).trans (if_pos (by simp [hp, hm, h]))
  · exact (scheduledActivation_due (s := s.begin) ht hd o).trans (if_neg (by obtain h | h := h <;> simp [h]))
  · have ht' : s.begin.upd.schedule = some (n, t) := ht
    simp only [scheduledActivation, ht', begin_time, hd, if_true]

/-- The loss of the supply keeps the lock-out record and nothing of the recorder, and opens every output (R419). -/
theorem powerDown_leaves (s : State) : s.powerDown.supply.on = false ∧ s.powerDown.lock.entries = s.lock.entries
    ∧ s.powerDown.lock.pending = s.lock.pending ∧ s.powerDown.rcd.recs = [] ∧ s.powerDown.pst = s.pst
    ∧ s.powerDown.pending = s.pending ∧ ∀ n, (s.powerDown.kernel.vout n).cmd = false := by
  refine ⟨rfl, rfl, rfl, rfl, rfl, rfl, fun n => ?_⟩
  have h : s.powerDown.kernel.vouts = List.replicate 32 VoutSt.reset := rfl
  rw [Kernel.vout, h, List.getD_eq_getElem?_getD, List.getElem?_replicate]
  split <;> rfl

/-- Settles O13: the rows of a restart and of a schedule, then the readings of the supply and of the temperature. -/
theorem restartsAreTakenOutsideRun : Obligations.RestartsAreTakenOutsideRun := by
  refine ⟨restarts_taken, fun s mv hs => ?_⟩
  have low (h : mv ≤ 154000) : exec (.supplyLow mv) s = .next (s.begin.supplyRead mv) :=
    (row_on hs _).trans (congrArg _ (if_neg (by omega)))
  have high (h1 : 16800 ≤ mv) (h2 : mv ≤ 165000) : exec (.supplyHigh mv) s = .next (s.begin.supplyRead mv) :=
    (row_on hs _).trans (congrArg _ ((if_neg (by omega)).trans (if_neg (by omega))))
  obtain ⟨rm, rv, rs⟩ := supplyRead_reads s.begin mv
  obtain ⟨p1, p2, p3, p4, p5, p6, p7⟩ := powerDown_leaves { s.begin with supply := s.supply.read mv }
  refine ⟨fun h => ⟨_, low (by omega), ?_⟩, fun h1 h2 => ⟨_, high (by omega) h2, ?_⟩,
    fun h1 h2 => ⟨_, low h2, high h1 (by omega), ?_⟩, fun h => ?_, fun h => ?_,
    ⟨_, row_on hs _, p1, p2, p3, p4, p5, p6, p7, fun h => (row_on hs _).trans (congrArg _ (if_pos h))⟩,
    fun dc x hx hmax => ⟨_, row_on hs _, ?_⟩, row_on hs _⟩
  · rw [rs]
    exact ⟨by simp [h], by simp; omega, rfl, rfl, rm, rv, supplyRead_low (s := s.begin) h⟩
  · rw [rs]
    exact ⟨by simp [h1], rfl, rm, rv, supplyRead_high (s := s.begin) h1⟩
  · rw [rs]
    exact ⟨by simp [h1], by simp [h2], rfl⟩
  · exact (row_on hs _).trans (congrArg _ (if_pos h))
  · exact (row_on hs _).trans (congrArg _ ((if_neg (by omega)).trans (if_pos h)))
  · obtain ⟨h1, h2, h3⟩ := temperatureRead_reads (s := s.begin) (hottest_eq hx hmax)
    exact ⟨h1, fun h => h2.trans (if_pos h), fun h => h2.trans ((if_neg (by omega)).trans (if_pos h)), h3⟩

end Sys2Proof.Machine
end

section
/-! PROOFS. The statements about the vital cycle and the mesh between the channels (R12 to R19, R33 to R41, R53 to R65). -/

namespace Sys2Proof.Machine

/-! ## One channel changed twice, and its waiting frames -/

@[simp] theorem modCh_modCh (s : State) (ch : Ch) (f g : Channel → Channel) :
    (s.modCh ch f).modCh ch g = s.modCh ch fun c => g (f c) := by
  simp [State.modCh, State.modV, quad_modify_eq]

theorem modCh_self (s : State) (ch : Ch) : s.modCh ch (fun c => c) = s := by
  simp [State.modCh, State.modV, quad_modify_eq]

@[simp] theorem modCh_runs (s : State) (ch : Ch) (f : Channel → Channel) : (s.modCh ch f).runs = s.runs := rfl

/-- Frames of one channel, one for each receiver of a list, join its queues (R14). -/
theorem foldl_mesh_eq (l : List Ch) (tx : Ch) (m : Ch → MeshOut) (s : State) :
    l.foldl (fun s x => s.mesh tx x (m x)) s = s.modCh tx fun c =>
      { c with txq := l.foldl (fun q x => q.modify x (insWaiting (s.vital.cycle, m x))) c.txq } := by
  induction l generalizing s with
  | nil => exact (modCh_self s tx).symm
  | cons a t ih =>
    rw [List.foldl_cons, ih]
    simp only [State.mesh, modCh_modCh, List.foldl_cons]
    rfl

/-- The MARK frames stand in the queues of the other channels (R16). -/
theorem foldl_others_get (ch x : Ch) (h : x ≠ ch) (q : Quad (List (Nat × MeshOut))) (f : Ch → List (Nat × MeshOut) → List (Nat × MeshOut)) :
    ((Ch.others ch).foldl (fun q x => q.modify x (f x)) q).get x = f x (q.get x) := by
  cases ch <;> cases x <;> simp [Ch.others, Ch.all, Quad.modify, Quad.get, Quad.set] at h ⊢

/-- A mark's frames change nothing but the queues of the channel that sends them (R16). -/
theorem sendMarks_eq (s : State) (ch : Ch) (o : MarkObs) : s.sendMarks ch o = s.modCh ch fun c =>
    { c with txq := (Ch.others ch).foldl (fun q x => q.modify x (insWaiting (s.vital.cycle, .mark (o.waitNs.get x)))) c.txq } :=
  foldl_mesh_eq (Ch.others ch) ch (fun x => .mark (o.waitNs.get x)) s

/-- The channel that a mark leaves, before its cycle's work (R16). -/
theorem sendMarks_chTo (s : State) (ch : Ch) (c : Channel) (l : List Out) (o : MarkObs) :
    (s.chTo ch c l).sendMarks ch o = s.chTo ch { c with
      txq := (Ch.others ch).foldl (fun q x => q.modify x (insWaiting (s.vital.cycle, .mark (o.waitNs.get x)))) c.txq } l := by
  rw [sendMarks_eq, chTo_modCh]
  rfl

@[simp] theorem sendMarks_role (s : State) (ch : Ch) (o : MarkObs) : ((s.sendMarks ch o).ch ch).role = (s.ch ch).role := by
  rw [sendMarks_eq, modCh_ch]

/-! ## A channel's mark -/

/-- A channel's mark stands, before its cycle's work: its observations and its own mark, and its MARK frames waiting (R16). -/
def State.marked (s : State) (ch : Ch) (o : MarkObs) : State :=
  (s.modCh ch fun c => { c with
    marked := true, obs := some o, elapsed := o.elapsedNs, overrun := []
    marks := c.marks.set ch (some o.markNs) }).sendMarks ch o

/-- A channel in a running cycle that it has not marked (R16). -/
structure Unmarked (s : State) (ch : Ch) : Prop where
  runs : s.runs = true
  released : (s.ch ch).inReset = false
  cycling : s.vital.running = true
  fresh : (s.ch ch).marked = false

/-- The mark of a channel in `RESYNC` (R36). -/
theorem mark_resync {s : State} {ch : Ch} (h : Unmarked s ch) (o : MarkObs) (hr : (s.ch ch).role = .resync) :
    s.mark ch o = (s.marked ch o).markResync ch := by
  simp [State.mark, State.marked, h.runs, h.released, h.cycling, h.fresh, hr]

/-- The mark of a channel that takes part in the round (R18). -/
theorem mark_hot {s : State} {ch : Ch} (h : Unmarked s ch) (o : MarkObs) (hr : (s.ch ch).role.hot = true) :
    s.mark ch o = (s.marked ch o).markHot ch o := by
  cases hc : (s.ch ch).role <;> simp [hc, Role.hot] at hr <;>
    simp [State.mark, State.marked, h.runs, h.released, h.cycling, h.fresh, hc]

/-- The mark of a channel whose queue holds and whose bank lines answer (R12, R211). -/
theorem markHot_plain {s : State} {ch : Ch} {o : MarkObs} (hr : s.runs = true) (hot : (s.ch ch).role.hot = true)
    (he : (s.ch ch).echoLags = false) (hq : (s.ch ch).holdsAny o.spoilt = false) :
    s.markHot ch o = if Phase.p1 ∈ o.late then (s.modCh ch fun c => c.sampleLate s.vital).round2 ch
      else State.advance ch 6 false (((s.modCh ch fun c => c.sample s.vital o).sendRaw ch).round2 ch) := by
  simp [State.markHot, State.latchErrors, hr, hot, he, hq]

@[simp] theorem marked_ch (s : State) (ch : Ch) (o : MarkObs) : (s.marked ch o).ch ch = { s.ch ch with
    marked := true, obs := some o, elapsed := o.elapsedNs, overrun := []
    marks := (s.ch ch).marks.set ch (some o.markNs)
    txq := (Ch.others ch).foldl (fun q x => q.modify x (insWaiting (s.vital.cycle, .mark (o.waitNs.get x)))) (s.ch ch).txq } := by
  rw [State.marked, sendMarks_eq, modCh_ch, modCh_ch]
  rfl

@[simp] theorem marked_runs (s : State) (ch : Ch) (o : MarkObs) : (s.marked ch o).runs = s.runs := by
  rw [State.marked, sendMarks_eq]
  rfl

/-- The mark of a channel in the round whose queue holds and whose bank lines answer (R18). -/
theorem mark_plain {s : State} {ch : Ch} (h : Unmarked s ch) {o : MarkObs} (hot : (s.ch ch).role.hot = true)
    (he : (s.ch ch).echoLags = false) (hq : (s.ch ch).holdsAny o.spoilt = false) :
    s.mark ch o = if Phase.p1 ∈ o.late then ((s.marked ch o).modCh ch fun c => c.sampleLate (s.marked ch o).vital).round2 ch
      else State.advance ch 6 false ((((s.marked ch o).modCh ch fun c => c.sample (s.marked ch o).vital o).sendRaw ch).round2 ch) := by
  rw [mark_hot h o hot]
  exact markHot_plain (by simpa using h.runs) (by simpa using hot) (by rw [marked_ch]; exact he) (by rw [marked_ch]; exact hq)

/-! ## Emission -/

/-- Entries for which an egress queue has room stand in it (R12, R13). -/
theorem foldl_writeEgress (ch : Ch) (l : List (Egress × List Byte)) (s : State)
    (h : ∀ e, e ≠ .twin → ((((s.ch ch).egress ++ l).filter fun y => y.1 = e).map fun y => y.2.length).sum ≤ egressDepth e) :
    l.foldl (fun s x => s.writeEgress ch x) s = s.modCh ch fun c => { c with egress := c.egress ++ l } := by
  induction l generalizing s with
  | nil => simp only [List.append_nil]; exact (modCh_self s ch).symm
  | cons x t ih =>
    have hx : s.writeEgress ch x = s.modCh ch fun c => { c with egress := c.egress ++ [x] } := by
      refine if_neg ?_
      rintro hc
      obtain ⟨ht, hd⟩ := (Bool.and_eq_true _ _).mp hc
      have := h x.1 (by simpa using ht)
      simp at this hd
      omega
    rw [List.foldl_cons, hx, ih]
    · simp [List.append_assoc]
    · simpa using h

@[simp] theorem emits_ch (s : State) (l : List Out) (ch : Ch) : (s.emits l).ch ch = s.ch ch := rfl

/-- A state that has gone on to send frames to banks: only the channel's SEQ to the banks and what is sent differ (R213). -/
def Sent (ch : Ch) (s t : State) : Prop := ∃ q o, t = (s.modCh ch fun c => { c with cmdSeq := q }).emits o

theorem Sent.refl (ch : Ch) (s : State) : Sent ch s s :=
  ⟨(s.ch ch).cmdSeq, [], by
    rw [modCh_congr s ch _ (fun c => c) rfl, modCh_self]
    simp [State.emits]⟩

theorem Sent.trans {ch : Ch} {s t u : State} (h : Sent ch s t) (k : Sent ch t u) : Sent ch s u := by
  obtain ⟨q, o, rfl⟩ := h
  obtain ⟨q', o', rfl⟩ := k
  exact ⟨q', o ++ o', by simp [State.emits, State.modCh, State.modV, quad_modify_eq]⟩

theorem foldl_sent {α : Type} (ch : Ch) (g : State → α → State) (hg : ∀ s a, Sent ch s (g s a)) (l : List α) (s : State) :
    Sent ch s (l.foldl g s) := by
  induction l generalizing s with
  | nil => exact Sent.refl ch s
  | cons a t ih => exact (hg s a).trans (ih _)

/-- A bank's configuration goes out (R213). -/
theorem sendConfig_sent (ch : Ch) (n : Nat) (s : State) : Sent ch s (s.sendConfig ch n) :=
  foldl_sent ch _ (fun s x => ⟨_, _, rfl⟩) _ s

/-- A channel's emission (R19, R67): its state and its command frames; after them only frames to banks that wait for their
configuration. -/
theorem emitP5_sent {s : State} {ch : Ch}
    (h : ∀ e, e ≠ .twin → ((((s.ch ch).egress ++ s.kernel.egressOut).filter fun y => y.1 = e).map fun y => y.2.length).sum
      ≤ egressDepth e) :
    let c : Channel := { s.ch ch with
      cmds := s.kernel.cmds, tests := s.kernel.tests, cmdSeq := (s.ch ch).cmdSeq.map (· + 1), gens := Quad.all true
      emitting := true, p5End := true }
    Sent ch ((((s.modCh ch fun _ => c).emits ([0, 1, 2, 3].map fun n => .cmdFrame (Bank.ofIdx n) (c.frameTo ch n))).emits
      [.keepAlive ch .x (s.keepCmd false), .keepAlive ch .y (s.keepCmd true)]).modCh ch fun c =>
        { c with egress := c.egress ++ s.kernel.egressOut }) (s.emitP5 ch) := by
  intro c
  let t := ((s.modCh ch fun _ => c).emits ([0, 1, 2, 3].map fun n => .cmdFrame (Bank.ofIdx n) (c.frameTo ch n))).emits
      [.keepAlive ch .x (s.keepCmd false), .keepAlive ch .y (s.keepCmd true)]
  have ht : t.ch ch = c := modCh_ch s ch _
  have hw := foldl_writeEgress ch s.kernel.egressOut t (by rw [ht]; exact h)
  let w := s.kernel.egressOut.foldl (State.writeEgress · ch ·) t
  have he : s.emitP5 ch = w.unconfigured.foldl (fun (s : State) n => s.sendConfig ch n) w := by
    simp only [State.emitP5, modCh_ch]
    rfl
  rw [he, ← hw]
  exact foldl_sent ch _ (fun s n => sendConfig_sent ch n s) _ _

/-- Settles O15: the mark of each role, and the emission of a channel after its output verdict. -/
theorem markBeginsTheCycleAndEmissionEndsIt : Obligations.MarkBeginsTheCycleAndEmissionEndsIt := by
  refine ⟨fun s ch o hs => ⟨fun hm hi hv hk => ?_, fun h => ?_⟩, fun s ch h => ?_⟩
  · have hu : Unmarked s.begin ch := ⟨by simp [State.runs, hm], hi, hv, hk⟩
    have row : ∀ {t : State}, s.begin.mark ch o = t → exec (.vitalCycleMark ch o) s = .next t.sendMesh := fun h =>
      congrArg Host.Outcome.next ((ml_on hs _).trans (congrArg State.sendMesh h))
    intro m
    have hc : m.ch ch = _ := marked_ch s.begin ch o
    refine ⟨fun hot he hq hl => row ?_, fun hot he hq hl => row ?_, fun hr => row (mark_resync hu o hr), by rw [hc], by rw [hc],
      by rw [hc]; exact Quad.get_set_same .., fun x hx => by rw [hc]; exact foldl_others_get ch x hx _ _⟩
    · exact (mark_plain hu hot he hq).trans (if_neg hl)
    · exact (mark_plain hu hot he hq).trans (if_pos hl)
  · exact congrArg Host.Outcome.next ((ml_on hs _).trans (congrArg State.sendMesh (if_pos (by obtain h | h := h <;> simp [h]))))
  · intro c t
    obtain ⟨q, o, ht⟩ := emitP5_sent h
    have hc : t.ch ch = { c with egress := c.egress ++ s.kernel.egressOut, cmdSeq := q } := by
      rw [show t = _ from ht]
      simp only [emits_ch, modCh_ch, c]
    refine ⟨by rw [hc], by rw [hc], by rw [hc], by rw [hc], fun n hn => ?_, by rw [hc], fun e he => ?_, ?_⟩
    · have hmem : n ∈ [0, 1, 2, 3] := by simp; omega
      rw [show t = _ from ht]
      simp only [emits_out, modCh_out]
      exact List.mem_append_left _ (List.mem_append_left _ (List.mem_append_right _ (List.mem_map_of_mem hmem)))
    · rw [show t = _ from ht]
      simp only [emits_ch, ne_eq, he, not_false_eq_true, modCh_ch_ne]
    · rw [show t = _ from ht]
      rfl

end Sys2Proof.Machine
end

section
/-! PROOFS. The statements about mesh frames, link ends, the delta transfer and the resets of channels (R14 to R16, R24 to R45,
R53 to R63). -/

namespace Sys2Proof.Machine

/-- A mesh command under control supply on a frame that the channel takes up (R14). -/
theorem meshRow_on {s : State} (hs : Supplied s) {rx tx : Ch} {h : MeshHead} {m : MeshOut} (hh : Held s rx tx h m) {f : State → State}
    {t : State} (ht : f (linked s rx tx h) = t) :
    Host.Outcome.next (s.meshLive fun s => s.meshRow rx tx h m f) = (.next t.sendMesh : Host.Outcome State Fault Refusal) := by
  rw [ml_on hs, row_held hh, ht]

/-- Settles O17: what each frame leaves in the channel that takes it up. -/
theorem meshFramesAreStoredForTheirCycle : Obligations.MeshFramesAreStoredForTheirCycle := by
  intro s rx tx h arrivalNs waitNs part parts data p v hs
  refine ⟨fun hh => meshRow_on hs hh rfl, fun hh => meshRow_on hs hh ?_, fun hh hp h12 => meshRow_on hs hh ?_,
    fun hh => meshRow_on hs hh ?_, fun hh => meshRow_on hs hh ?_⟩
  · exact modCh_congr _ _ _ _ (by rw [linked_ch])
  · rw [if_pos (by simp [hp, h12])]
    exact congrArg _ (modCh_congr _ _ _ _ (by rw [linked_ch]; rfl))
  · exact congrArg _ (modCh_congr _ _ _ _ (by rw [linked_ch]))
  · exact congrArg _ (modCh_congr _ _ _ _ (by rw [linked_ch]))

/-! ## Frames that fail, and link ends -/

/-- What a frame that fails the checks of R14 leaves of a state whose link end stays as it is (R14, R15). -/
def State.discards (s : State) (rx tx : Ch) : State :=
  s.vitalTo { s.vital with
    discarded := s.vital.discarded + 1
    chans := s.vital.chans.set rx { s.ch rx with ends := (s.ch rx).ends.set tx { (s.ch rx).ends.get tx with
      bad := ((s.ch rx).ends.get tx).bad + 1, good := 0 } } } []

/-- Fewer than three discarded frames in a row leave a link end as it is (R15). -/
theorem linkRx_bad {s : State} {rx tx : Ch} {f : MeshFrame} (hj : s.judged rx tx = true)
    (h3 : ((s.ch rx).ends.get tx).bad + 1 < 3) (hb : f.sound tx = false) : s.begin.linkRx rx tx f = s.discards rx tx := by
  have hf : ∀ q, ((s.ch rx).ends.get tx).frame q false =
      { (s.ch rx).ends.get tx with bad := ((s.ch rx).ends.get tx).bad + 1, good := 0 } := fun q => by simp [LinkEnd.frame, h3]
  have hj' : s.begin.judged rx tx = true := hj
  simp only [State.linkRx, hb, hj', begin_ch, hf, if_true, Bool.false_eq_true, if_false, Bool.and_not_self, Bool.not_and_self]
  rfl

/-- A frame that fails the checks of R14 is counted, and nothing else (R14, R15). -/
theorem meshRow_bad {s : State} (hs : Supplied s) {rx tx : Ch} {h : MeshHead} {m : MeshOut} (hne : rx ≠ tx)
    (hj : s.judged rx tx = true) (h3 : ((s.ch rx).ends.get tx).bad + 1 < 3) (hb : (frameOf h m).sound tx = false)
    (f : State → State) :
    Host.Outcome.next (s.meshLive fun s => s.meshRow rx tx h m f) =
      (.next (s.discards rx tx).sendMesh : Host.Outcome State Fault Refusal) := by
  have hl : s.begin.linkRx rx tx ⟨h, m.payload⟩ = s.discards rx tx := linkRx_bad hj h3 hb
  have ht : (s.discards rx tx).takes rx tx ⟨h, m.payload⟩ = false := by
    have : MeshFrame.sound ⟨h, m.payload⟩ tx = false := hb
    simp [State.takes, this]
  rw [ml_on hs]
  simp [State.meshRow, hne, hl, ht]

/-- A link end that falls silent goes `DOWN` (R15). -/
theorem silent_up {s : State} {rx tx : Ch} (h : ((s.ch rx).ends.get tx).up = true) :
    s.begin.silent rx tx = (s.chTo rx { s.ch rx with
      ends := (s.ch rx).ends.set tx { (s.ch rx).ends.get tx with up := false, good := 0 } } []).linkDown rx tx :=
  if_pos h

/-! ## What waits on the mesh -/

theorem sendLink_empty {s : State} {tx rx : Ch} (h : (s.ch tx).txq.get rx = []) : s.sendLink tx rx = s := by
  simp [State.sendLink, h]

/-- A link sends its one waiting frame (R14). -/
theorem sendLink_one {s : State} {tx rx : Ch} {n : Nat} {m : MeshOut} (h : (s.ch tx).txq.get rx = [(n, m)]) :
    s.sendLink tx rx = (s.modCh tx fun c => { c with
      txq := c.txq.set rx [], txSeq := c.txSeq.set rx ((s.ch tx).txSeq.get rx + 1) }).emit
        (.mesh tx rx (m.frame tx ((s.ch tx).txSeq.get rx) n)) := by
  simp [State.sendLink, h, State.sendFrame]

/-- The links of the mesh in the order they send. -/
def Ch.links : List (Ch × Ch) := Ch.all.flatMap fun x => (Ch.others x).map fun y => (x, y)

theorem Ch.mem_all (x : Ch) : x ∈ Ch.all := by
  cases x <;> decide

theorem mem_links {x y : Ch} (h : x ≠ y) : (x, y) ∈ Ch.links := by
  simp only [Ch.links, Ch.others, List.mem_flatMap, List.mem_map, List.mem_filter]
  exact ⟨x, Ch.mem_all x, y, ⟨Ch.mem_all y, by simpa using h.symm⟩, rfl⟩

theorem sendMesh_links (s : State) : s.sendMesh = Ch.links.foldl (fun s p => s.sendLink p.1 p.2) s := by
  simp only [Ch.links, List.foldl_flatMap, List.foldl_map]
  rfl

/-- Links with nothing waiting send nothing (R14). -/
theorem foldl_sendLink_empty {s : State} (l : List (Ch × Ch)) (h : ∀ p ∈ l, (s.ch p.1).txq.get p.2 = []) :
    l.foldl (fun s p => s.sendLink p.1 p.2) s = s := by
  induction l with
  | nil => rfl
  | cons p t ih =>
    rw [List.foldl_cons, sendLink_empty (h p (by simp))]
    exact ih fun q hq => h q (by simp [hq])

/-- With one frame waiting on one link the mesh sends that frame (R14). -/
theorem sendMesh_one {s : State} {tx rx : Ch} {n : Nat} {m : MeshOut} (hne : tx ≠ rx) (h : (s.ch tx).txq.get rx = [(n, m)])
    (ho : ∀ x y, (x, y) ≠ (tx, rx) → (s.ch x).txq.get y = []) : s.sendMesh = s.sendLink tx rx := by
  obtain ⟨l, r, hl, hn⟩ := List.eq_append_cons_of_mem (mem_links hne)
  rw [sendMesh_links, hl, List.foldl_append, List.foldl_cons,
    foldl_sendLink_empty l fun p hp => ho p.1 p.2 fun e => hn (e ▸ hp)]
  refine foldl_sendLink_empty r fun p _ => ?_
  rw [sendLink_one h]
  by_cases hp : p.1 = tx
  · by_cases hq : p.2 = rx
    · simp [State.ch, hp, hq]
    · have := ho tx p.2 (by simp [hq])
      simp only [State.ch] at this
      simp [State.ch, hp, hq, this]
  · have := ho p.1 p.2 fun e => hp (congrArg Prod.fst e)
    simp only [State.ch] at this
    simp [State.ch, hp, this]

/-- Settles O18: what a bad frame leaves, an end that falls silent, and the frame of an idle link. -/
theorem badMeshFramesAndSilentEndsOnlyCount : Obligations.BadMeshFramesAndSilentEndsOnlyCount := by
  refine ⟨fun s rx tx h p v round page crc data hs hne hj h3 => ?_, fun s rx tx hs hne => ⟨fun hu => ?_, fun hu => ?_, fun he => ?_,
    fun hq => ?_⟩⟩
  · exact ⟨fun hb => meshRow_bad hs hne hj h3 hb _, fun hb => meshRow_bad hs hne hj h3 hb _,
      fun hb => meshRow_bad hs hne hj h3 hb _, fun hb => meshRow_bad hs hne hj h3 hb _⟩
  · exact (row_on hs _).trans (congrArg _ ((if_neg hne).trans (silent_up hu)))
  · exact (row_on hs _).trans (congrArg _ ((if_neg hne).trans (if_neg (by simp [hu]))))
  · have hm : (if tx = rx || !((s.begin.ch tx).txq.get rx).isEmpty then s.begin else s.begin.mesh tx rx .idle) =
        s.chTo tx { s.ch tx with txq := (s.ch tx).txq.set rx [(s.vital.cycle, .idle)] } [] := by
      rw [if_neg (by simp [he, hne.symm])]
      simp only [State.mesh, begin_modCh, quad_modify_eq, he]
      rfl
    refine congrArg Host.Outcome.next ((ml_on hs _).trans ?_)
    rw [hm, sendMesh_one hne.symm (n := s.vital.cycle) (m := .idle) (by simp), sendLink_one (n := s.vital.cycle) (m := .idle) (by simp)]
    · have hq : (s.ch tx).txq.set rx [] = (s.ch tx).txq := by simpa only [he] using quad_set_get (s.ch tx).txq rx
      simp only [chTo_modCh, chTo_ch, quad_set_set, hq]
      rfl
    · intro x y hxy
      by_cases hx : x = tx
      · have hy : y ≠ rx := fun hy => hxy (by rw [hx, hy])
        simp [hx, hy, he]
      · simp [hx, he]
  · exact congrArg Host.Outcome.next ((ml_on hs _).trans (congrArg State.sendMesh (if_pos (by simp [hq]))))

/-! ## The rounds of a delta transfer -/

/-- A waiting frame joins its queue (R14). -/
theorem insWaiting_perm (x : Nat × MeshOut) (l : List (Nat × MeshOut)) : (insWaiting x l).Perm (x :: l) := by
  induction l with
  | nil => exact .refl _
  | cons y t ih =>
    unfold insWaiting
    split
    · exact (ih.cons y).trans (.swap x y t)
    · exact .refl _

theorem foldl_insWaiting_perm {α : Type} (f : α → Nat × MeshOut) (l : List α) (q : List (Nat × MeshOut)) :
    (l.foldl (fun q a => insWaiting (f a) q) q).Perm (l.map f ++ q) := by
  induction l generalizing q with
  | nil => exact .refl _
  | cons a t ih => exact (ih _).trans (((insWaiting_perm (f a) q).append_left _).trans List.perm_middle)

/-- Frames to one receiver join its queue (R14). -/
theorem foldl_mesh_to {α : Type} (l : List α) (tx rx : Ch) (m : α → MeshOut) (s : State) :
    l.foldl (fun s a => s.mesh tx rx (m a)) s = s.modCh tx fun c => { c with
      txq := c.txq.modify rx fun q => l.foldl (fun q a => insWaiting (s.vital.cycle, m a) q) q } := by
  induction l generalizing s with
  | nil =>
    simp only [List.foldl_nil, quad_modify_eq, quad_set_get]
    exact (modCh_self s tx).symm
  | cons a t ih =>
    rw [List.foldl_cons, ih]
    simp only [State.mesh, modCh_modCh, quad_modify_eq, quad_set_set, Quad.get_set_same, List.foldl_cons]
    rfl

/-- The frames of a round: its pages and its END (R38, R40). -/
def roundFrames (c : Channel) (n round : Nat) (pages : List Nat) (hash : W64) : List (Nat × MeshOut) :=
  (n, .deltaEnd round pages.length hash pages) :: pages.map fun i => (n, .page round i (crc32c (c.page i)) (c.page i))

/-- What a supplier's round changes: the round's frames wait, and its transfer for the requester stands in that round (R38). -/
theorem sendRound_eq (s : State) (su rq : Ch) (round : Nat) (pages : List Nat) (hash : W64) :
    ∃ q, s.sendRound su rq round pages hash = (s.modCh su fun c => { c with
        txq := c.txq.set rq q
        sups := c.sups.map fun (x : XferSup) =>
          if x.requester = rq then { x with round := round, again := [], repair := [], total := x.total + pages.length } else x })
      ∧ q.Perm (roundFrames (s.ch su) s.vital.cycle round pages hash ++ (s.ch su).txq.get rq) := by
  have e := foldl_mesh_to pages su rq (fun i => .page round i (crc32c ((s.ch su).page i)) ((s.ch su).page i)) s
  refine ⟨_, ?_, (insWaiting_perm _ _).trans ((foldl_insWaiting_perm (fun i => (s.vital.cycle,
    .page round i (crc32c ((s.ch su).page i)) ((s.ch su).page i))) pages ((s.ch su).txq.get rq)).cons _)⟩
  unfold State.sendRound
  dsimp only
  rw [e]
  simp only [State.mesh, modCh_modCh, quad_modify_eq, quad_set_set, Quad.get_set_same]
  exact modCh_congr _ _ _ _ rfl

/-- START at a supplier of a channel in `RESYNC` begins round 1 (R37). -/
theorem takeStart_voting {s : State} {su rq : Ch} {k : Nat} {map : List Nat} (hs : (s.ch su).role = .voting)
    (hr : (s.ch rq).role = .resync) {known : Bool} (hk : ((s.ch su).ring.any fun d => d.sound && d.cycle == k) = known) :
    s.takeStart su rq k map = (s.modCh su fun c => { c with
        sups := (c.sups.filter fun (x : XferSup) => x.requester != rq) ++ [⟨rq, s.vital.cycle, 0, [], [], 0, !known⟩] }).sendRound su rq 1
      (if known then pageSet (map ++ (((s.ch su).ring.filter fun d => k < d.cycle).flatMap (·.map)) ++ (s.ch su).dirty)
        else List.range 1024) 0 := by
  simp [State.takeStart, hs, hr, hk]

/-- The transfer of a requester that has just begun is the only one its round advances (R37). -/
theorem map_sups_new (l : List XferSup) (rq : Ch) (f : XferSup → XferSup) (x : XferSup) (hx : x.requester = rq) :
    (((l.filter fun y => y.requester != rq) ++ [x]).map fun y => if y.requester = rq then f y else y)
      = (l.filter fun y => y.requester != rq) ++ [f x] := by
  have : ((l.filter fun y => y.requester != rq).map fun y => if y.requester = rq then f y else y) =
      l.filter fun y => y.requester != rq :=
    (List.map_congr_left fun y hy => if_neg (by simpa using (List.mem_filter.mp hy).2)).trans (List.map_id _)
  simp [this, hx]

/-- Settles O19: what the supplier of a delta transfer holds and sends after START. -/
theorem deltaStartIsAnsweredWithRoundOne : Obligations.DeltaStartIsAnsweredWithRoundOne := by
  intro s rx tx h k hash map hs hh hv hr known pages
  have hl := linked_ch s rx tx h
  have hne : tx ≠ rx := hh.1.symm
  have hrole : ((linked s rx tx h).ch tx).role = .resync := by
    rw [linked, modCh_ch_ne _ _ _ _ hne]
    exact hr
  have hstart := takeStart_voting (su := rx) (rq := tx) (k := k) (map := map) (s := linked s rx tx h) (known := known)
    (by rw [hl]; exact hv) hrole (by rw [hl])
  obtain ⟨q, hq, hperm⟩ := sendRound_eq ((linked s rx tx h).modCh rx fun c => { c with
    sups := (c.sups.filter fun (x : XferSup) => x.requester != tx) ++ [⟨tx, s.vital.cycle, 0, [], [], 0, !known⟩] }) rx tx 1 pages 0
  rw [hl] at hstart
  have ht := hstart.trans hq
  refine ⟨_, meshRow_on hs hh ht, ?_, ?_, fun i hi => ?_, ?_, fun c hc => ?_⟩
  all_goals simp only [modCh_ch, hl] at hperm ⊢
  · refine (map_sups_new _ tx (fun x => { x with round := 1, again := [], repair := [], total := x.total + pages.length })
      ⟨tx, s.vital.cycle, 0, [], [], 0, !known⟩ rfl).trans ?_
    simp only [Nat.zero_add]
  · rw [Quad.get_set_same, hperm.length_eq]
    simp [roundFrames]
    omega
  · rw [Quad.get_set_same, hperm.mem_iff]
    exact List.mem_append_left _ (List.mem_cons_of_mem _ (List.mem_map_of_mem hi))
  · rw [Quad.get_set_same, hperm.mem_iff]
    exact List.mem_cons_self
  · simp [hc, linked]

/-- What an END makes of the requester's transfer (R38, R40). -/
def XferReq.ended (x : XferReq) (n : Nat) (map : List Nat) : XferReq :=
  { x with round := n, full := x.full || (n = 1 && map.length = 1024), total := x.total + map.length }

/-- The END of the running round from the transfer's supplier (R38, R41). -/
theorem takeEnd_running {s : State} {rq su : Ch} {n : Nat} {map : List Nat} {x : XferReq} (hx : (s.ch rq).req = some x)
    (hn : x.round + 1 = n) (hsu : x.supplier = su) (hash : W64) : s.takeEnd rq su n hash map =
      let missing := map.filter fun i => !x.fresh.contains i
      if n = 3 then (if missing.isEmpty then s.finishXfer rq (x.ended n map) hash else s.failXfer rq)
      else
        let s := s.modCh rq fun c => { c with req := some { x.ended n map with fresh := [] } }
        if missing.isEmpty then s else s.mesh rq su (.repair n missing) := by
  simp [State.takeEnd, hx, hn, hsu, XferReq.ended]

/-- Nothing is missing of a round when every listed page was received in it (R38). -/
theorem missing_isEmpty (map fresh : List Nat) : (map.filter fun i => !fresh.contains i).isEmpty = true ↔ ∀ j ∈ map, j ∈ fresh := by
  simp [List.isEmpty_iff, List.filter_eq_nil_iff]

/-- The END of round 1 or 2 (R38). -/
theorem takeEnd_early {s : State} {rq su : Ch} {n : Nat} {map : List Nat} {x : XferReq} (hx : (s.ch rq).req = some x)
    (hn : x.round + 1 = n) (h3 : n < 3) (hsu : x.supplier = su) (hash : W64) :
    let t := s.modCh rq fun c => { c with req := some { x.ended n map with fresh := [] } }
    ((∀ j ∈ map, j ∈ x.fresh) → s.takeEnd rq su n hash map = t)
      ∧ ((∃ j ∈ map, j ∉ x.fresh) → s.takeEnd rq su n hash map =
        t.mesh rq su (.repair n (map.filter fun j => !x.fresh.contains j))) := by
  rw [takeEnd_running hx hn hsu]
  have h3' : n ≠ 3 := by omega
  refine ⟨fun h => ?_, fun ⟨j, hj, hf⟩ => ?_⟩
  · simp only [h3', if_false, (missing_isEmpty map x.fresh).mpr h, if_true]
  · have : ¬ (map.filter fun i => !x.fresh.contains i).isEmpty = true := fun he => hf ((missing_isEmpty map x.fresh).mp he j hj)
    simp only [h3', if_false, this]
    rfl

/-- The END of round 3 (R41). -/
theorem takeEnd_last {s : State} {rq su : Ch} {map : List Nat} {x : XferReq} (hx : (s.ch rq).req = some x)
    (hr : x.round = 2) (hsu : x.supplier = su) (hash : W64) :
    let c := x.got.foldl (fun (c : Channel) p => (c.setPage p.index p.data).valuePage p.index) (s.ch rq)
    let d := c.descriptor s.vital.cycle x.full (pageSet (c.dirty ++ x.got.map (·.index)))
    ((∀ j ∈ map, j ∈ x.fresh) → d.hash = hash → s.takeEnd rq su 3 hash map =
        (s.modCh rq fun _ => { c with ring := (d :: c.ring).take 4, dirty := [], req := none, confirmed := true }).modV fun v =>
          { v with lastPages := x.total + map.length })
      ∧ ((∃ j ∈ map, j ∉ x.fresh) ∨ d.hash ≠ hash → s.takeEnd rq su 3 hash map = s.failXfer rq) := by
  intro c d
  rw [takeEnd_running hx (by rw [hr]) hsu]
  have hfull : (x.ended 3 map).full = x.full := by simp [XferReq.ended]
  have hfin : s.finishXfer rq (x.ended 3 map) hash = if d.hash = hash then
      (s.modCh rq fun _ => { c with ring := (d :: c.ring).take 4, dirty := [], req := none, confirmed := true }).modV fun v =>
          { v with lastPages := x.total + map.length } else s.failXfer rq := by
    simp only [State.finishXfer, hfull]
    rfl
  have hm := missing_isEmpty map x.fresh
  refine ⟨fun h hd => ?_, fun h => ?_⟩
  · simp only [if_true, hm.mpr h, hfin, hd]
  · by_cases he : ∀ j ∈ map, j ∈ x.fresh
    · have hd : d.hash ≠ hash := h.resolve_left fun ⟨j, hj, hf⟩ => hf (he j hj)
      simp only [if_true, hm.mpr he, hfin, hd, if_false]
    · have hn : ¬ (map.filter fun i => !x.fresh.contains i).isEmpty = true := fun k => he (hm.mp k)
      simp only [if_true, hn]
      rfl

/-- Settles O20: the frames of the rounds, the end of round 3, and a round's deadline. -/
theorem deltaRoundsEndInAConfirmedHash : Obligations.DeltaRoundsEndInAConfirmedHash := by
  refine ⟨fun s rx tx h n i crc d hash map hs => ⟨fun hh => meshRow_on hs hh ?_, fun x hx hn hh => ?_, fun x hx hn h3 hsu hh => ?_⟩,
    fun s rx tx h hash map x hs hx => ⟨fun hh hr hsu => ?_, fun h3 => ?_⟩⟩
  · exact modCh_congr _ _ _ _ (by rw [linked_ch])
  · have hin : (linked s rx tx h).inRound rx n = true := by simp [State.inRound, linked_ch, hx, hn]
    refine ⟨fun hsu hi hc hl => meshRow_on hs hh ?_, fun hc => meshRow_on hs hh ?_⟩
    all_goals
      rw [if_pos hin]
      refine modCh_congr _ _ _ _ ?_
      rw [linked_ch]
    · simp [hx, hsu, hi, hc, hl]
    · simp [hx, hc]
  · have hx' : ((linked s rx tx h).ch rx).req = some x := by rw [linked_ch]; exact hx
    obtain ⟨hall, hmiss⟩ := takeEnd_early (map := map) hx' hn h3 hsu hash
    exact ⟨fun hf => meshRow_on hs hh ((if_pos rfl).trans (hall hf)), fun hf => meshRow_on hs hh ((if_pos rfl).trans (hmiss hf))⟩
  · have hx' : ((linked s rx tx h).ch rx).req = some x := by rw [linked_ch]; exact hx
    obtain ⟨hall, hmiss⟩ := takeEnd_last (map := map) hx' hr hsu hash
    exact ⟨fun hf hd => meshRow_on hs hh ((if_pos rfl).trans (hall hf hd)), fun hf => meshRow_on hs hh ((if_pos rfl).trans (hmiss hf))⟩
  · refine (row_on hs _).trans (congrArg _ ?_)
    have hx' : (s.begin.ch rx).req = some x := hx
    simp only [hx', h3, if_true]
    rfl

/-! ## Comparisons, resets, generators -/

/-- Settles O21: the comparator, the memory and the returns of a channel. -/
theorem channelErrorsAssertAndResetsEnd : Obligations.ChannelErrorsAssertAndResetsEnd := by
  refine ⟨fun s ch stores e a x hs => ⟨fun hr hi => ⟨fun hm => ?_, fun hm => ?_⟩, fun h => ?_, fun hx => ?_, fun w hx => ?_, fun hx => ?_⟩,
    fun s ch bk hs => ⟨fun hr => ?_, fun hr => ?_, fun hr hi => ?_, ?_, ?_⟩⟩
  all_goals refine (row_on hs _).trans (congrArg _ ?_)
  · obtain ⟨y, hy⟩ := Option.isSome_iff_exists.mp hm
    simp only [dovetailEdge, begin_ch, hr, hi, hy, decide_false, Bool.or_self, Bool.false_eq_true, if_false, modCh_modCh]
    rfl
  · simp only [dovetailEdge, begin_ch, hr, hi, hm, decide_false, Bool.or_self, Bool.false_eq_true, if_false, modCh_modCh]
    rfl
  · exact if_pos (by obtain h | h := h <;> simp [h])
  · simp only [State.sramRead, hx]
  · simp only [State.sramRead, hx]
    rfl
  · simp only [State.sramRead, hx]
  · exact if_neg hr
  · exact if_pos hr
  · exact if_pos (by simp [hr, hi])
  · rfl
  · rfl

end Sys2Proof.Machine
end

section
/-! PROOFS. The statements about the kernel's timers for routes, points, signals, key locks and crossings, and about element
commands (R106 to R134). -/

namespace Sys2Proof.Machine

/-! ## Entries of the kernel's tables -/

/-- An entry changed under its key is the one the key finds. -/
theorem find?_keyed {α : Type} (key : α → Nat) (l : List α) (n : Nat) {f : α → α} (hf : ∀ x, key x = n → key (f x) = n) :
    (l.map fun x => if key x == n then f x else x).find? (key · == n) = (l.find? (key · == n)).map f := by
  induction l with
  | nil => rfl
  | cons a t ih => by_cases h : key a = n <;> simp_all

/-- An entry under another key stays as it is. -/
theorem find?_keyed_ne {α : Type} (key : α → Nat) (l : List α) {n m : Nat} (hm : m ≠ n) {f : α → α}
    (hf : ∀ x, key x = n → key (f x) = n) :
    (l.map fun x => if key x == n then f x else x).find? (key · == m) = l.find? (key · == m) := by
  induction l with
  | nil => rfl
  | cons a t ih =>
    by_cases h : key a = n
    · have := hf a h
      simp_all [hm.symm]
    · by_cases h' : key a = m <;> simp_all

theorem modElem_elem (k : Kernel) (n : Nat) {f : ElemSt → ElemSt} (hf : ∀ x, x.id = n → (f x).id = n) :
    (k.modElem n f).elem n = (k.elem n).map f := find?_keyed ElemSt.id k.elems n hf

theorem modElem_elem_ne (k : Kernel) {n m : Nat} (hm : m ≠ n) {f : ElemSt → ElemSt} (hf : ∀ x, x.id = n → (f x).id = n) :
    (k.modElem n f).elem m = k.elem m := find?_keyed_ne ElemSt.id k.elems hm hf

theorem modRoute_rst (k : Kernel) (n : Nat) {f : RouteSt → RouteSt} (hf : ∀ x, x.id = n → (f x).id = n) :
    (k.modRoute n f).rst n = (k.rst n).map f := find?_keyed RouteSt.id k.routes n hf

/-! ## Rows of the kernel that drives -/

/-- A kernel row in `RUN` under control supply. -/
theorem kernelRow_on {s : State} (hs : Supplied s) (hm : s.mstate = .run) {f : Sdi → Env → Kernel → Kernel} {k : Kernel}
    (hk : f s.dat s.env s.kernel = k) :
    Host.Outcome.next (s.live fun s => s.kRow f) = (.next (s.acted k) : Host.Outcome State Fault Refusal) := by
  rw [live_on hs, kRow_run hm, hk]

/-- A kernel row of the evaluation that is still to come. -/
theorem nextRow_on {s : State} (hs : Supplied s) (hm : s.mstate = .run) (he : s.vital.evaluated ≠ some s.vital.cycle)
    {f : Sdi → Env → Kernel → Kernel} {k : Kernel} (hk : f s.dat s.env s.kernel = k) :
    Host.Outcome.next (s.live fun s => s.kNext f) = (.next (s.acted k) : Host.Outcome State Fault Refusal) := by
  rw [live_on hs, State.kNext, if_neg (by exact he), kRow_run hm, hk]

theorem driving_on {k : Kernel} (h : k.drives = true) (f : Kernel → Kernel) : k.driving f = f k := if_pos h

/-! ## Routes -/

/-- A due route timer of its kind acts (R111). -/
theorem routeTimer_due {k : Kernel} {n due : Nat} {q : RouteSt} {t : RTimer} (h : k.rst n = some q) (ht : q.timer = some (t, due))
    (hd : due ≤ k.cycle) (d : Sdi) : k.routeTimer d t n = (k.timerActs d q).step4 d := by
  simp [Kernel.routeTimer, h, ht, hd]

/-- Settles O22: the timers of a route, each due. -/
theorem routeTimersReleaseWhatTheyHold : Obligations.RouteTimersReleaseWhatTheyHold := by
  intro s n due q hs hm hq hid hd hdue
  have row : ∀ {t : RTimer} {k : Kernel}, q.timer = some (t, due) → s.kernel.timerActs s.dat q = k →
      s.kernel.driving (fun k => k.routeTimer s.dat t n) = k.step4 s.dat := fun ht hk => by
    rw [driving_on hd, routeTimer_due hq ht hdue, hk]
  refine ⟨fun ht => kernelRow_on hs hm (row ht ?_), fun ht => kernelRow_on hs hm (row ht ?_),
    fun ht a ha hc => kernelRow_on hs hm (row ht ?_), fun ht a ha hc => kernelRow_on hs hm (row ht ?_), fun r hr => ?_⟩
  · simp only [Kernel.timerActs, ht, hid]
  · simp only [Kernel.timerActs, ht, hid]
  · have : (s.dat.ovlSections a).all s.kernel.clear = true := List.all_eq_true.mpr hc
    simp only [Kernel.timerActs, ht, hid, ha, this, if_true]
  · have : (s.dat.ovlSections a).all s.kernel.clear = false := List.all_eq_false.mpr (by simpa using hc)
    simp only [Kernel.timerActs, ht, hid, ha, this]
    rfl
  · have h : (s.kernel.releaseOvl s.dat n).rst n = _ := modRoute_rst s.kernel n (fun _ hx => hx)
    rw [h, hq] at hr
    obtain rfl := Option.some.inj hr
    exact ⟨rfl, rfl⟩

/-! ## Points -/

theorem pt_some {k : Kernel} {n : Nat} {p : PtSt} (h : k.pt n = some p) : ∃ e, k.elem n = some e ∧ e.kind = .pt p := by
  unfold Kernel.pt at h
  split at h
  next e he =>
    split at h
    next q hq => exact ⟨e, he, by rw [hq, Option.some.inj h]⟩
    · contradiction
  · contradiction

theorem pt_of_elem {k : Kernel} {n : Nat} {e : ElemSt} {p : PtSt} (h : k.elem n = some e) (hp : e.kind = .pt p) : k.pt n = some p := by
  simp only [Kernel.pt, h, hp]

/-- An element whose point state has changed. -/
def ElemSt.onPt (f : PtSt → PtSt) (e : ElemSt) : ElemSt :=
  match e.kind with
  | .pt p => { e with kind := .pt (f p) }
  | _ => e

theorem modPt_eq (k : Kernel) (n : Nat) (f : PtSt → PtSt) : k.modPt n f = k.modElem n (ElemSt.onPt f) := rfl

@[simp] theorem onPt_id (f : PtSt → PtSt) (e : ElemSt) : (e.onPt f).id = e.id := by
  unfold ElemSt.onPt
  split <;> rfl

theorem modPt_elem_ne (k : Kernel) {n m : Nat} (hm : m ≠ n) (f : PtSt → PtSt) : (k.modPt n f).elem m = k.elem m :=
  modElem_elem_ne k hm fun e h => (onPt_id f e).trans h

theorem modPt_pt {k : Kernel} {n : Nat} {p : PtSt} (h : k.pt n = some p) (f : PtSt → PtSt) : (k.modPt n f).pt n = some (f p) := by
  obtain ⟨e, he, hp⟩ := pt_some h
  refine pt_of_elem (e := { e with kind := .pt (f p) }) ?_ rfl
  rw [modPt_eq, modElem_elem k n (fun e h => (onPt_id f e).trans h), he, Option.map_some, ElemSt.onPt, hp]

theorem pt_congr {k l : Kernel} {n : Nat} (h : k.elem n = l.elem n) : k.pt n = l.pt n := by
  simp only [Kernel.pt, h]

/-- Points beside those of a list stay as they are. -/
theorem foldl_modPt_elem (l : List Nat) (g : Nat → PtSt → PtSt) (k : Kernel) {n : Nat} (hn : n ∉ l) :
    (l.foldl (fun k x => k.modPt x (g x)) k).elem n = k.elem n := by
  induction l generalizing k with
  | nil => rfl
  | cons a t ih =>
    obtain ⟨ha, ht⟩ := not_or.mp ((not_congr List.mem_cons).mp hn)
    exact (ih _ ht).trans (modPt_elem_ne k ha (g a))

theorem repeat_first {α : Type} (f : α → α) (n : Nat) (a : α) : Nat.repeat f n (f a) = Nat.repeat f (n + 1) a := by
  induction n with
  | zero => rfl
  | succ n ih => exact congrArg f ih

/-- A point of a list is changed as often as it stands in it. -/
theorem foldl_modPt_pt (l : List Nat) (g : Nat → PtSt → PtSt) {k : Kernel} {n : Nat} {p : PtSt} (h : k.pt n = some p) :
    (l.foldl (fun k x => k.modPt x (g x)) k).pt n = some (Nat.repeat (g n) (l.count n) p) := by
  induction l generalizing k p with
  | nil => exact h
  | cons a t ih =>
    rw [List.foldl_cons]
    by_cases ha : a = n
    · subst ha
      rw [ih (modPt_pt h (g a)), List.count_cons_self, repeat_first]
    · rw [ih ((pt_congr (modPt_elem_ne k (Ne.symm ha) (g a))).trans h), List.count_cons_of_ne ha]

theorem mem_unit (d : Sdi) (n : Nat) : n ∈ d.unit n := by
  unfold Sdi.unit
  (repeat' split) <;> simp

/-- What a point of a unit that goes `LOST` becomes, on top of its faults (R124). -/
theorem lose_pt {k : Kernel} {n : Nat} {p : PtSt} (h : k.pt n = some p) (d : Sdi) (f : Nat → PtSt → PtSt) :
    ∃ m, (k.lose d n true f).pt n =
      some (f n { Nat.repeat (fun p => f n { p with state := .lost, target := none }) m p with state := .lost, target := none }) := by
  obtain ⟨m, hm⟩ := Nat.exists_eq_succ_of_ne_zero (Nat.ne_of_gt (List.count_pos_iff.mpr (mem_unit d n)))
  refine ⟨m, (foldl_modPt_pt (d.unit n) (fun x p => f x { p with state := .lost, target := none }) h).trans ?_⟩
  rw [hm]
  rfl

/-- Elements beside a unit stay as they are when it goes `LOST` (R125). -/
theorem lose_elem (k : Kernel) (d : Sdi) (n : Nat) (f : Nat → PtSt → PtSt) {x : Nat} (hx : x ∉ d.unit n) :
    (k.lose d n true f).elem x = k.elem x :=
  foldl_modPt_elem (d.unit n) (fun x p => f x { p with state := .lost, target := none }) k hx

/-! ## Signals -/

theorem sg_some {k : Kernel} {n : Nat} {g : SgSt} (h : k.kind n = some (.sg g)) : k.sg n = some g := by
  obtain ⟨e, he, hk⟩ := Option.map_eq_some_iff.mp h
  simp only [Kernel.sg, he, hk]

theorem stepSignal_judged {k : Kernel} {e : Elem} {g : SgSt} (hl : e.lampProving = true) (h3 : 300 < k.gone g.changedAt) :
    k.stepSignal e g = if k.outFailed e aspectAttr then { k.judgeLamp e g with lampFault := true } else k.judgeLamp e g := by
  simp [Kernel.stepSignal, hl, h3]

/-- A latch of a judged signal stays whatever its outputs do (R129). -/
theorem stepSignal_latches {k : Kernel} {e : Elem} {g : SgSt} (hl : e.lampProving = true) (h3 : 300 < k.gone g.changedAt) :
    ((k.judgeLamp e g).lampFault = true → (k.stepSignal e g).lampFault = true)
      ∧ (k.stepSignal e g).stopUnproven = (k.judgeLamp e g).stopUnproven := by
  rw [stepSignal_judged hl h3]
  split
  · exact ⟨fun _ => rfl, rfl⟩
  · exact ⟨id, rfl⟩

/-- Settles O23: the supervision of a moving point, the grace of one in position, and the proof of a signal. -/
theorem pointsAndLampsAreJudgedInTime : Obligations.PointsAndLampsAreJudgedInTime := by
  refine ⟨fun s el p hs hm hd hp => ⟨fun hmov hdl => ⟨kernelRow_on hs hm ?_, ?_, fun x hx _ => lose_elem _ _ _ _ hx⟩,
    fun pos hev hpos ha hg => ⟨nextRow_on hs hm hev ?_, ?_⟩, fun hn => kernelRow_on hs hm ?_⟩,
    fun s e g hs hm hd he hg => ⟨kernelRow_on hs hm ?_, fun hl h3 => ⟨fun h0 ha => ?_, fun h0 ha => ?_⟩, fun hl ho => ?_⟩⟩
  · rw [driving_on hd]
    simp [Kernel.throwTimeout, hp, hmov, hdl]
  · obtain ⟨m, hm⟩ := lose_pt hp s.dat fun _ q => { q with timeout := true }
    exact ⟨_, hm, rfl, rfl⟩
  · rw [driving_on hd]
    simp [Kernel.graceEnds, hp, hpos, ha, hg]
  · let f : Nat → PtSt → PtSt := fun x q => if x = el then { q with missing := q.missing + 1 } else q
    have hf : ∀ q, f el q = { q with missing := q.missing + 1 } := fun q => if_pos rfl
    obtain ⟨m, hm⟩ := lose_pt hp s.dat f
    have hmono : ∀ m, p.missing ≤ (Nat.repeat (fun p => f el { p with state := .lost, target := none }) m p).missing := fun m => by
      induction m with
      | zero => exact Nat.le_refl _
      | succ m ih =>
        rw [Nat.repeat, hf]
        exact Nat.le_trans ih (Nat.le_succ _)
    refine ⟨_, hm, ?_, ?_⟩
    · rw [hf]
    · rw [hf]
      exact Nat.lt_succ_of_le (hmono m)
  · rw [driving_on hd]
    simp [Kernel.throwTimeout, hp, hn]
  · rw [driving_on hd]
    simp [Kernel.judgeSignal, he, hg]
  · exact (stepSignal_latches hl h3).1 (by simp [Kernel.judgeLamp, h0, ha])
  · obtain ⟨hf, hu⟩ := stepSignal_latches hl h3
    exact ⟨hf (by simp [Kernel.judgeLamp, h0, ha]), hu.trans (by simp [Kernel.judgeLamp, h0, ha])⟩
  · simp [Kernel.stepSignal, hl, ho]

/-! ## Element commands -/

/-- An element command of a client at OPERATE in `RUN` (R120). -/
theorem elemRow_on {s : State} (hs : Supplied s) (hm : s.mstate = .run) {cl : Client} (hl : 1 ≤ (s.client cl).level) {el : Nat}
    (he : el < 4096) {code : Nat} {k : Kernel} (hk : s.kernel.elemCmd s.dat code el = k) :
    Host.Outcome.next (s.live fun s => s.elemRow cl code el) =
      (.next (((s.asked cl).acted k).accept cl) : Host.Outcome State Fault Refusal) := by
  rw [live_on hs, State.elemRow, decide_eq_true he, write_ok cl .operate true true _ (check_operate hl), kRow_asked hm, hk]

/-- BLOCK, and UNBLOCK of a blocked element (R120, R134). -/
theorem cmdBlock_ok {s : State} {el : Nat} {e : ElemSt} (he : s.kernel.elem el = some e) (hb : blockable (some e.kind) = true)
    {on : Bool} (ho : on = true ∨ e.blocked = true) : s.kernel.cmdBlock s.dat el on =
      .ok (s.kernel.modElem el fun x => { x with blocked := on, kind := kindBlocked s el on x.kind }) := by
  simp only [Kernel.cmdBlock, he, hb]
  rw [if_neg (by simp), if_pos (by simpa using ho)]
  rfl

/-- Settles O24: each element command and its refusals. -/
theorem blockingAndFaultResetActOnElements : Obligations.BlockingAndFaultResetActOnElements := by
  refine ⟨fun s cl el e hs hm hl hel he => ⟨fun hb => ?_, fun hb hblk => ?_, fun hb hblk => ?_, fun hb => ?_⟩,
    fun s cl e hs hm hl hel he => ⟨fun g hg hlatch => ⟨fun hc => ?_, fun hc => ?_⟩, fun l hk hf ha => ?_, fun x hk hf hd ha => ?_⟩⟩
  all_goals refine elemRow_on hs hm hl hel ?_
  · exact congrArg (s.kernel.elemDone 1 el) (cmdBlock_ok he hb (.inl rfl))
  · exact congrArg (s.kernel.elemDone 2 el) (cmdBlock_ok he hb (.inr hblk))
  · have h : s.kernel.cmdBlock s.dat el false = .err 0x0B03 := by simp [Kernel.cmdBlock, he, hb, hblk]
    exact congrArg (s.kernel.elemDone 2 el) h
  · have h : s.kernel.cmdBlock s.dat el true = .err 0x0B02 := by simp [Kernel.cmdBlock, he, hb]
    exact congrArg (s.kernel.elemDone 1 el) h
  · have h : s.kernel.cmdReset s.dat e.id =
        .ok (s.kernel.setKind e.id (.sg { g with lampFault := false, stopUnproven := false, wrongProof := false })) := by
      obtain h | h := hlatch <;> simp [Kernel.cmdReset, he, hg, h, hc]
    exact congrArg (s.kernel.elemDone 3 e.id) h
  · have h : s.kernel.cmdReset s.dat e.id = .err 0x0B04 := by
      obtain h | h := hlatch <;> simp [Kernel.cmdReset, he, hg, h, hc]
    exact congrArg (s.kernel.elemDone 3 e.id) h
  · have h : s.kernel.cmdReset s.dat e.id = .ok (s.kernel.setKind e.id (.kl ⟨.keyIn, s.kernel.vital, none⟩)) := by
      simp [Kernel.cmdReset, he, hk, hf, ha]
    exact congrArg (s.kernel.elemDone 3 e.id) h
  · have h : s.kernel.cmdReset s.dat e.id = .ok (s.kernel.setKind e.id (.lx ⟨.open_, 0, none, false, false⟩)) := by
      simp [Kernel.cmdReset, he, hk, hf, hd, ha]
    exact congrArg (s.kernel.elemDone 3 e.id) h

/-! ## Key locks and crossings -/

/-- A key lock's timer in the state it ends (R131). -/
theorem keyTimer_in {k : Kernel} {el : Nat} {l : KlSt} (h : k.kind el = some (.kl l)) (d : Sdi) :
    k.keyTimer d l.state el = (k.setKey el l (k.stepKey el l)).step4 d := by
  simp [Kernel.keyTimer, h]

/-- A crossing's timer in the state it ends (R132). -/
theorem lxTimer_in {k : Kernel} {el : Nat} {x : LxSt} (h : k.kind el = some (.lx x)) (d : Sdi) :
    k.lxTimer d x.state el = (k.setLx el x (k.stepLx d el x)).step4 d := by
  simp [Kernel.lxTimer, h]

/-- Settles O25: the key commands, and the times of key locks and crossings. -/
theorem locksAndCrossingsFollowTheirTimes : Obligations.LocksAndCrossingsFollowTheirTimes := by
  refine ⟨fun s cl e l x pos hs hm hel he hsp hk => ⟨fun hl hst hfree => elemRow_on hs hm hl hel ?_,
      fun hl hfree => elemRow_on hs hm hl hel ?_, fun hl hst => elemRow_on hs hm hl hel ?_, fun hd hst ha hg => kernelRow_on hs hm ?_,
      fun t hd hst ha ht hg => kernelRow_on hs hm ?_⟩,
    fun s el x hs hm hd hk hdem hfault => ⟨fun hst hp hdl => kernelRow_on hs hm ?_, fun t hst hp ht hg => kernelRow_on hs hm ?_⟩⟩
  · have h : s.kernel.cmdGrant s.dat e.id = .ok (s.kernel.setKind e.id (.kl ⟨.released, s.kernel.vital, none⟩)) := by
      simp [Kernel.cmdGrant, he, hk, hsp, hst, hfree]
    exact congrArg (s.kernel.elemDone 4 e.id) h
  · have h : s.kernel.cmdGrant s.dat e.id = .err 0x0B03 := by simp [Kernel.cmdGrant, he, hk, hsp, hfree]
    exact congrArg (s.kernel.elemDone 4 e.id) h
  · have h : s.kernel.cmdWithdraw e.id = .ok (s.kernel.setKind e.id (.kl ⟨.keyIn, s.kernel.vital, none⟩)) := by
      simp [Kernel.cmdWithdraw, hk, hst]
    exact congrArg (s.kernel.elemDone 5 e.id) h
  · have h : s.kernel.stepKey e.id l = ⟨.keyIn, s.kernel.vital, none⟩ := by simp [Kernel.stepKey, hst, ha, hg]
    rw [driving_on hd, ← hst, keyTimer_in hk, h]
    rfl
  · have h : s.kernel.stepKey e.id l = ⟨.keyIn, s.kernel.vital, none⟩ := by simp [Kernel.stepKey, hst, ha, ht, hg]
    rw [driving_on hd, ← hst, keyTimer_in hk, h]
    rfl
  · have h : s.kernel.stepLx s.dat el x = ⟨.failed, 0, none, true, false⟩ := by simp [Kernel.stepLx, hst, hdem, hp, hfault, hdl]
    rw [driving_on hd, ← hst, lxTimer_in hk, h]
    simp [Kernel.setLx, hst]
  · have h : s.kernel.stepLx s.dat el x = ⟨.protected_, 0, none, false, false⟩ := by simp [Kernel.stepLx, hst, hdem, hp, hfault, ht, hg]
    rw [driving_on hd, ← hst, lxTimer_in hk, h]
    simp [Kernel.setLx, hst]

end Sys2Proof.Machine
end

section
/-! PROOFS. The statements about axle counting, field inputs, output tests, banks and field resets as the kernel keeps them (R162 to R172,
R211, R218 to R230). -/

namespace Sys2Proof.Machine

/-! ## Heads -/

/-- What disturbing sections leaves as it is: the heads and the evaluator of axle counting (R171). -/
def SameHeads (k l : Kernel) : Prop := l.heads = k.heads ∧ l.ev = k.ev

theorem SameHeads.trans {k l m : Kernel} (h : SameHeads k l) (g : SameHeads l m) : SameHeads k m :=
  ⟨g.1.trans h.1, g.2.trans h.2⟩

theorem finish_heads (k : Kernel) (n : Nat) (st : SlotState) (result : Nat) (data : List Byte) :
    SameHeads k (k.finish n st result data) := by
  simp only [Kernel.finish, Kernel.noteRoute]
  (repeat' split) <;> exact ⟨rfl, rfl⟩

theorem endSecSlot_heads (d : Sdi) (k : Kernel) (sec : Nat) (st : SlotState) (code : Nat) (head : Option Nat) :
    SameHeads k (k.endSecSlot d sec st code head) := by
  unfold Kernel.endSecSlot
  split
  · split
    · exact finish_heads (k.modSec sec _) _ _ _ _
    · exact ⟨rfl, rfl⟩
  · exact ⟨rfl, rfl⟩

theorem disturb_heads (d : Sdi) (k : Kernel) (sec : Nat) (c : DCause) (head : Option Nat) (st : SlotState) (code : Nat) :
    SameHeads k (k.disturb d sec c head st code) := by
  unfold Kernel.disturb
  split
  · split
    · exact ⟨rfl, rfl⟩
    · exact endSecSlot_heads d (k.modSec sec _) _ _ _ _
  · exact ⟨rfl, rfl⟩

theorem disturbAll_heads (d : Sdi) (k : Kernel) (head : Nat) (c : DCause) : SameHeads k (k.disturbAll d head c) := by
  unfold Kernel.disturbAll
  induction d.bounds head generalizing k with
  | nil => exact ⟨rfl, rfl⟩
  | cons b t ih => exact (disturb_heads d k b.1 c (some head) .failed 0x0307).trans (ih _)

theorem modHead_head (k : Kernel) (n : Nat) {f : HeadSt → HeadSt} (hf : ∀ x, x.index = n → (f x).index = n) :
    (k.modHead n f).head n = (k.head n).map f := find?_keyed HeadSt.index k.heads n hf

theorem modHead_head_ne (k : Kernel) {n m : Nat} (hm : m ≠ n) {f : HeadSt → HeadSt} (hf : ∀ x, x.index = n → (f x).index = n) :
    (k.modHead n f).head m = k.head m := find?_keyed_ne HeadSt.index k.heads hm hf

/-- A head without counting: its state and its cause, with no open sequence (R170). -/
def HeadSt.to (st : HState) (c : HCause) (h : HeadSt) : HeadSt :=
  { (if st == .active then h else h.closed) with state := st, cause := c }

theorem to_index (st : HState) (c : HCause) (h : HeadSt) : (h.to st c).index = h.index := by
  simp only [HeadSt.to]
  split <;> rfl

/-- A head's new state changes the heads in nothing else (R170, R171). -/
theorem headTo_heads (d : Sdi) (k : Kernel) (n : Nat) (st : HState) (c : HCause) :
    SameHeads (k.modHead n (HeadSt.to st c)) (k.headTo d n st c) := by
  unfold Kernel.headTo
  split
  next h =>
    refine ⟨(List.map_id _).symm.trans (List.map_congr_left fun x hx => (if_neg fun e => ?_).symm), rfl⟩
    exact absurd hx (by simpa using List.find?_eq_none.mp h x · e)
  next h =>
    dsimp only
    split
    · exact disturbAll_heads d (k.modHead n _) n _
    · exact ⟨rfl, rfl⟩

theorem head_congr {k l : Kernel} (h : SameHeads k l) (n : Nat) : l.head n = k.head n := by
  rw [Kernel.head, h.1]
  rfl

theorem headTo_head (d : Sdi) (k : Kernel) (n : Nat) (st : HState) (c : HCause) :
    (k.headTo d n st c).head n = (k.head n).map (HeadSt.to st c) :=
  (head_congr (headTo_heads d k n st c) n).trans (modHead_head k n fun x hx => (to_index st c x).trans hx)

theorem headTo_head_ne (d : Sdi) (k : Kernel) {n m : Nat} (hm : m ≠ n) (st : HState) (c : HCause) :
    (k.headTo d n st c).head m = k.head m :=
  (head_congr (headTo_heads d k n st c) m).trans (modHead_head_ne k hm fun x hx => (to_index st c x).trans hx)

/-- Head `n`, when the module has it, is in `FAULT`. -/
def FaultAt (k : Kernel) (n : Nat) : Prop := ∀ h, k.head n = some h → h.state = .fault

theorem headTo_faultAt (d : Sdi) (k : Kernel) (n : Nat) (c : HCause) : FaultAt (k.headTo d n .fault c) n := fun h hh => by
  obtain ⟨x, -, rfl⟩ := Option.map_eq_some_iff.mp ((headTo_head d k n .fault c).symm.trans hh)
  rfl

theorem FaultAt.headTo {k : Kernel} {m : Nat} (h : FaultAt k m) (d : Sdi) (n : Nat) (c : HCause) :
    FaultAt (k.headTo d n .fault c) m := by
  by_cases hm : m = n
  · exact hm ▸ headTo_faultAt d k n c
  · exact fun x hx => h x ((headTo_head_ne d k hm .fault c).symm.trans hx)

/-- Heads that go to `FAULT` one after the other are all in `FAULT`, and the evaluator stays as it is (R162). -/
theorem foldl_headTo_fault (d : Sdi) (c : HCause) (l : List HeadRec) (k : Kernel) :
    let t := l.foldl (fun k h => k.headTo d h.index .fault c) k
    t.ev = k.ev ∧ (∀ r ∈ l, FaultAt t r.index) ∧ (∀ m, FaultAt k m → FaultAt t m) := by
  induction l generalizing k with
  | nil => exact ⟨rfl, fun r hr => absurd hr (List.not_mem_nil), fun m h => h⟩
  | cons a t ih =>
    obtain ⟨hev, hall, hkeep⟩ := ih (k.headTo d a.index .fault c)
    refine ⟨hev.trans (headTo_heads d k a.index .fault c).2, fun r hr => ?_, fun m h => hkeep m (h.headTo d a.index c)⟩
    obtain rfl | hr := List.mem_cons.mp hr
    · exact hkeep _ (headTo_faultAt d k _ c)
    · exact hall r hr

/-! ## The watch over the sensor processors -/

/-- The processors that fail: the one that stands still alone, else both (R162). -/
theorem culprits_three (e : Evaluator) :
    e.culprits 3 = (!(e.yStuck ≥ 3 && e.xStuck < 3), !(e.xStuck ≥ 3 && e.yStuck < 3)) := by
  by_cases hx : 3 ≤ e.xStuck <;> by_cases hy : 3 ≤ e.yStuck <;> simp [Evaluator.culprits, hx, hy]
  all_goals omega

/-- What a failed sensor processor comes to (R162). -/
theorem spFailed_faults (d : Sdi) (k : Kernel) (x y : Bool) :
    ((k.spFailed d x y).ev.xOk = (k.ev.xOk && !x)) ∧ ((k.spFailed d x y).ev.yOk = (k.ev.yOk && !y))
      ∧ ∀ r ∈ d.heads, r.kind = 0 → FaultAt (k.spFailed d x y) r.index := by
  obtain ⟨hev, hall, -⟩ := foldl_headTo_fault d .sensorProcessor (d.heads.filter (·.kind == 0))
    (let k : Kernel := { k with ev := { k.ev with xOk := k.ev.xOk && !x, yOk := k.ev.yOk && !y } }
     let k := if x then k.note 0x120 else k
     if y then k.note 0x121 else k)
  refine ⟨(congrArg Evaluator.xOk hev).trans ?_, (congrArg Evaluator.yOk hev).trans ?_,
    fun r hr hk => hall r (List.mem_filter.mpr ⟨hr, by simpa using hk⟩)⟩
  all_goals cases x <;> cases y <;> rfl

/-- Settles O26: the stuck time base, silent remote heads, their sections, and the clear delay. -/
theorem axleCountingTimersAct : Obligations.AxleCountingTimersAct := by
  intro s hs hm
  refine ⟨fun sp hev h3 => ?_, fun head r h hr hh hk hc => ⟨fun ha => kernelRow_on hs hm ?_, fun ha => kernelRow_on hs hm ?_⟩,
    fun head => kernelRow_on hs hm rfl, fun e t src ac a b delay hev he hsp ht hsrc hst hd => nextRow_on hs hm hev ?_⟩
  · intro x y k
    have hc : s.kernel.ev.culprits 3 = (x, y) := culprits_three _
    obtain ⟨hx, hy, hfault⟩ := spFailed_faults s.dat s.kernel x y
    have h3' : (decide (3 ≤ s.kernel.ev.noAdvance) || decide (3 ≤ s.kernel.ev.invalidRun)) = true := by simpa using h3
    refine ⟨fun hsp => ⟨nextRow_on hs hm hev ?_, fun e => by rw [hx, e, Bool.not_true, Bool.and_false],
      fun e => by rw [hy, e, Bool.not_true, Bool.and_false], fun r hr hk => hfault r hr hk⟩, fun hsp => nextRow_on hs hm hev ?_⟩
    · simp only [Kernel.spStuck, hc, h3', Bool.true_and]
      obtain ⟨rfl, e⟩ | ⟨rfl, e⟩ := hsp <;> exact if_pos e
    · simp only [Kernel.spStuck, hc, h3', Bool.true_and]
      obtain ⟨rfl, e⟩ | ⟨rfl, e⟩ := hsp <;> exact if_neg (by simp [e])
  · simp [Kernel.remoteGone, Kernel.silentRemote, hr, hh, hk, hc, ha]
  · simp [Kernel.remoteGone, hr, hh, Nat.not_le.mpr ha]
  · simp [Kernel.clearDelay, he, ht, hsp, hst, hsrc, hd]

/-! ## Pairs -/

/-- A discrepant pair at its limit (R220). -/
theorem step_limit {p : PairSt} {a b : InState} {now : Nat} (ha : a ≠ .held) (hb : b ≠ .held) (hs : p.state = .discrepant)
    (hl : p.limit ≤ now - p.since) (cycleMs : Nat) : p.step a b now cycleMs =
      { p with restrictSince := if p.restrictive a b then some (p.restrictSince.getD now) else none, state := .fault, value := none } := by
  simp [PairSt.step, ha, hb, hs, hl]

/-- A pair in `FAULT` whose members have been restrictive for 100 ms (R220). -/
theorem step_restrictive {p : PairSt} {a b : InState} {now cycleMs t : Nat} (ha : a ≠ .held) (hb : b ≠ .held) (hs : p.state = .fault)
    (hr : (if p.restrictive a b then some (p.restrictSince.getD now) else none) = some t) (ht : 100 + t ≤ now + cycleMs) :
    p.step a b now cycleMs = { p with restrictSince := some t, state := .agreed, value := some false } := by
  simp [PairSt.step, ha, hb, hs, hr, ht]

/-- A pair's timer judges the pair (R220). -/
theorem pairTimer_eq {k : Kernel} {p : PairSt} (h : k.pairs.find? (·.first == p.first) = some p) (d : Sdi) :
    k.pairTimer d p.first = (k.stepPair d p).reattr d := by
  simp only [Kernel.pairTimer, h]

/-! ## Inputs -/

theorem modNth_getD {α : Type} (l : List α) {i : Nat} (f : α → α) (d : α) (h : i < l.length) :
    (modNth l i f).getD i d = f (l.getD i d) := by
  induction l generalizing i with
  | nil => simp at h
  | cons a t ih => cases i with
    | zero => rfl
    | succ i => exact ih (by simpa using h)

theorem modInput_input {k : Kernel} {n : Nat} (h : n < k.inputs.length) (f : InputSt → InputSt) :
    (k.modInput n f).input n = f (k.input n) := modNth_getD k.inputs f InputSt.reset h

theorem modInput_input_ne (k : Kernel) {n m : Nat} (h : m ≠ n) (f : InputSt → InputSt) : (k.modInput n f).input m = k.input m :=
  modNth_getD_ne k.inputs n m f InputSt.reset h

/-- What an evaluation says of an input: its state, its cause and whether UNDEF is latched (R218). -/
def InputSt.said (x : InputSt) : InState × Nat × Bool := (x.state, x.cause, x.undefLatched)

theorem modInput_said (k : Kernel) (n m : Nat) {f : InputSt → InputSt} (hf : ∀ x, (f x).said = x.said) :
    ((k.modInput m f).input n).said = (k.input n).said := by
  by_cases h : n = m
  · subst h
    by_cases hn : n < k.inputs.length
    · rw [modInput_input hn, hf]
    · have hk : ∀ l : List InputSt, l.length ≤ n → l.getD n InputSt.reset = InputSt.reset := fun l hl => by
        simp [List.getD_eq_getElem?_getD, List.getElem?_eq_none hl]
      simp only [Kernel.input, Kernel.modInput]
      rw [hk _ (by simpa using hn), hk _ (by simpa using hn)]
  · rw [modInput_input_ne k h]

theorem noteIf_input (k : Kernel) (c : Bool) (src n : Nat) : (k.noteIf c src).input n = k.input n := by
  unfold Kernel.noteIf
  split <;> rfl

theorem crossPartner_said (d : Sdi) (k : Kernel) (n m : Nat) : ((k.crossPartner d n).input m).said = (k.input m).said := by
  have h : (((k.modInput n fun x => { x with crossAt := k.vital }).note (inputSrc (n / 24) 2)).input m).said = (k.input m).said :=
    modInput_said k m n fun _ => rfl
  unfold Kernel.crossPartner
  dsimp only
  split
  · rw [modInput_said _ _ _ (by exact fun _ => rfl), modInput_said _ _ _ (by exact fun _ => rfl)]
    exact h
  · exact h

/-- An input after an evaluation: the first row of R218 that applies (R218). -/
theorem stepInput_said (d : Sdi) {k : Kernel} {n : Nat} (h : n < k.inputs.length) : ((k.stepInput d n).input n).said =
    (((k.input n).watch k.vital d.cycleMs (k.rawInput n).2.2.2
      ((k.bank (n / 24)).state == .running && (k.rawInput n).1 != (k.rawInput n).2.1)).row (k.bank (n / 24)) (k.rawInput n)
      k.vital d.cycleMs).said := by
  unfold Kernel.stepInput
  dsimp only
  split
  · rw [crossPartner_said]
    simp only [noteIf_input, modInput_input h]
  · simp only [noteIf_input, modInput_input h]

/-- An input of a bank that gives values, without a fault of its line, its paths or a cross feed (R218). -/
theorem row_sound {x : InputSt} {b : BankSt} {raw : Bool × Bool × Bool × Bool} (hb : b.state = .running) (hl : b.lowSince = none)
    (hp : raw.1 = raw.2.1) (hc : x.crossFeed = false) (hw : raw.2.2.1 = false) (now cycleMs : Nat) :
    (x.row b raw now cycleMs).said =
      if x.undefLatched || x.undefLong now cycleMs then (.invalid, 5, true)
      else if raw.2.2.2 then (.off, 0, x.undefLatched) else (if raw.1 then .on else .off, 0, x.undefLatched) := by
  obtain ⟨i, j, line, undef⟩ := raw
  obtain rfl : i = j := hp
  obtain rfl : line = false := hw
  simp only [InputSt.row, hb, hl, hc]
  cases h : x.undefLatched || x.undefLong now cycleMs <;> cases undef <;> simp [InputSt.said]

/-- An input whose bank has lost its field supply for 10 ms (R218, R221). -/
theorem row_low {b : BankSt} {t now : Nat} (hb : b.state = .running) (hl : b.lowSince = some t) (ht : t + 10 ≤ now)
    (x : InputSt) (raw : Bool × Bool × Bool × Bool) (cycleMs : Nat) :
    (x.row b raw now cycleMs).state = .invalid ∧ (x.row b raw now cycleMs).cause = 6 := by
  simp [InputSt.row, hb, hl, Nat.not_lt.mpr ht]

/-- Settles O27: the timers of pairs and of inputs. -/
theorem inputPairsAndLatchesFollowTheirTimes : Obligations.InputPairsAndLatchesFollowTheirTimes := by
  refine ⟨fun s p hs hm hp => ?_, fun s n hs hm hn hlen => ?_⟩
  · intro a b rs ha hb
    refine ⟨fun hst hl => kernelRow_on hs hm ?_, fun t hst hr ht => kernelRow_on hs hm ?_⟩
    · rw [pairTimer_eq hp, Kernel.stepPair, step_limit ha hb hst hl]
      simp [Kernel.noteIf, hst, a, b, rs]
    · rw [pairTimer_eq hp, Kernel.stepPair, step_restrictive ha hb hst hr ht]
      simp [Kernel.noteIf, hr]
  · intro d b raw o k
    have hsaid : (k.input n).said = _ :=
      (modInput_said _ n n (by exact fun _ => rfl)).trans (stepInput_said s.dat (k := s.kernel) (by rw [hlen]; exact hn))
    have hk : ∀ {x : InState × Nat × Bool}, (k.input n).said = x →
        (k.input n).state = x.1 ∧ (k.input n).cause = x.2.1 ∧ (k.input n).undefLatched = x.2.2 := fun h => h ▸ ⟨rfl, rfl, rfl⟩
    refine ⟨kernelRow_on hs hm (if_pos hn), kernelRow_on hs hm (if_pos hn), fun hb hl hp hc hw hu t hsince ht => ?_,
      fun hb hl hp hc hw hu t hclear ht => ?_, fun bk => kernelRow_on hs hm rfl, fun hb t hl ht => ?_⟩
    · have h := hsaid.trans (row_sound (x := o.watch s.kernel.vital s.dat.cycleMs raw.2.2.2 _) hb hl hp hc hw _ _)
      have hlong : (o.watch s.kernel.vital s.dat.cycleMs raw.2.2.2 (b.state == .running && raw.1 != raw.2.1)).undefLong
          s.kernel.vital s.dat.cycleMs = true := by
        simpa [InputSt.watch, InputSt.undefLong, hu, hsince] using ht
      exact hk (h.trans (if_pos (by rw [hlong, Bool.or_true])))
    · have h := hsaid.trans (row_sound (x := o.watch s.kernel.vital s.dat.cycleMs raw.2.2.2 _) hb hl hp hc hw _ _)
      have hlatch : (o.watch s.kernel.vital s.dat.cycleMs raw.2.2.2 (b.state == .running && raw.1 != raw.2.1)).undefLatched = false := by
        simpa [InputSt.watch, hu, hclear] using fun _ => ht
      have hlong : (o.watch s.kernel.vital s.dat.cycleMs raw.2.2.2 (b.state == .running && raw.1 != raw.2.1)).undefLong
          s.kernel.vital s.dat.cycleMs = false := by
        simp [InputSt.watch, InputSt.undefLong, hu]
      obtain ⟨h1, -, h3⟩ := hk (h.trans ((if_neg (by rw [hlong, hlatch]; decide)).trans (if_neg (by rw [hu]; decide))))
      exact ⟨h3.trans hlatch, h1⟩
    · obtain ⟨h1, h2, -⟩ := hk hsaid
      obtain ⟨g1, g2⟩ := row_low hb hl ht _ _ s.dat.cycleMs
      exact ⟨h1.trans g1, h2.trans g2⟩

/-! ## Output tests, banks, field resets -/

theorem modVout_vout {k : Kernel} {n : Nat} (h : n < k.vouts.length) (f : VoutSt → VoutSt) :
    (k.modVout n f).vout n = f (k.vout n) := modNth_getD k.vouts f VoutSt.reset h

/-- An output whose test is requested (R224). -/
theorem requestTest_vout (d : Sdi) {k : Kernel} {n : Nat} (h : n < k.vouts.length) :
    ((k.requestTest d n).vout n).lastTest = some k.vital
      ∧ ∀ x y z per, d.voutBind n = some (x, y, z, per) → ((k.requestTest d n).vout n).nextTest = some (k.vital + per) := by
  have e : ∀ f, ({ k.modVout n f with tests := k.tests.set (Ch.ofIdx (n / 8)) (some n) } : Kernel).vout n = f (k.vout n) :=
    modVout_vout h
  refine ⟨congrArg VoutSt.lastTest (e _), fun x y z per hb => (congrArg VoutSt.nextTest (e _)).trans ?_⟩
  simp only [hb]

/-- A write of a client that passes its checks (R301). -/
theorem writeRow_on {s : State} (hs : Supplied s) {cl : Client} {n : Need} {lenOk rangeOk : Bool}
    (hc : (s.asked cl).check cl n lenOk rangeOk = none) {f : State → State} {t : State} (ht : f (s.asked cl) = t) :
    Host.Outcome.next (s.live fun s => s.write cl n lenOk rangeOk f) = (.next t : Host.Outcome State Fault Refusal) := by
  rw [live_on hs, write_ok cl n lenOk rangeOk f hc, ht]

/-- Settles O28: the output test that is due, the absent bank, and the write of a field reset with its confirm. -/
theorem outputTestsAndFieldResetsAct : Obligations.OutputTestsAndFieldResetsAct := by
  refine ⟨fun s hs hm => ⟨fun out h32 hlen hdue hnone => ?_, fun bk hev hp hr hf => nextRow_on hs hm hev ?_⟩,
    fun s cl t code hs hm hl => ⟨fun ht hc => ?_, fun ht c hc hne => ?_, fun hc => ?_, fun hc hcode => ?_, fun hc hcode => ?_,
      fun hc hg => kernelRow_on hs hm ?_⟩⟩
  · obtain ⟨hlast, hnext⟩ := requestTest_vout s.dat hlen
    refine ⟨kernelRow_on hs hm (if_pos ?_), Quad.get_set_same .., hlast, hnext⟩
    simp [h32, hdue, hnone]
  · simp [hp, hr, Kernel.failBank, hf]
  · have hc' : (s.asked cl).kernel.reset.client = none := hc
    refine writeRow_on hs (by rw [ht]; exact check_operate hl) ?_
    simp only [hc', kRow_asked hm]
    rfl
  · have hc' : (s.asked cl).kernel.reset.client = some c := hc
    refine writeRow_on hs (by rw [ht]; exact check_operate hl) ?_
    simp only [hc', hne, if_false]
  · exact writeRow_on hs (check_operate hl) (if_neg hc)
  · refine writeRow_on hs (check_operate hl) ((if_pos hc).trans ?_)
    rw [kRow_asked hm]
    simp only [Kernel.resetConfirm, bne_iff_ne, ne_eq, hcode, not_false_eq_true, if_true]
    rfl
  · refine writeRow_on hs (check_operate hl) ((if_pos hc).trans ?_)
    rw [kRow_asked hm]
    simp only [Kernel.resetConfirm, hcode, bne_self_eq_false, Bool.false_eq_true, if_false]
  · refine if_pos ?_
    simpa [hg] using Option.isSome_iff_ne_none.mpr hc

end Sys2Proof.Machine
end

section
/-! PROOFS. The statements about sessions and their telegrams (R271 to R283). -/

namespace Sys2Proof.Machine

/-! ## Telegrams -/

theorem modSess_session {k : Kernel} {n : Nat} (h : n < k.sess.length) (f : SessSt → SessSt) :
    (k.modSess n f).session n = f (k.session n) := modNth_getD k.sess f SessSt.unbound h

theorem modSess_session_ne (k : Kernel) {n m : Nat} (h : m ≠ n) (f : SessSt → SessSt) : (k.modSess n f).session m = k.session m :=
  modNth_getD_ne k.sess n m f SessSt.unbound h

@[simp] theorem modSess_sess (k : Kernel) (n : Nat) (f : SessSt → SessSt) : (k.modSess n f).sess.length = k.sess.length :=
  modNth_length ..

/-- A change that leaves the partner of a session leaves it for every index. -/
theorem modSess_partner (k : Kernel) (n : Nat) {f : SessSt → SessSt} (hf : ∀ x, (f x).partner = x.partner) :
    ((k.modSess n f).session n).partner = (k.session n).partner := by
  by_cases h : n < k.sess.length
  · rw [modSess_session h, hf]
  · have hk : ∀ l : List SessSt, l.length ≤ n → l.getD n SessSt.unbound = SessSt.unbound := fun l hl => by
      simp [List.getD_eq_getElem?_getD, List.getElem?_eq_none hl]
    simp only [Kernel.session, Kernel.modSess]
    rw [hk _ (by simpa using h), hk _ (by simpa using h)]

/-- A telegram its session accepts passes the checks 1 to 5 (R275). -/
theorem telegram_accepted {s : State} {n : Nat} {p : Partner} {t : Telegram} (h : Accepts s n p t) :
    s.kernel.telegram s.dat s.env.pst n t = s.kernel.acceptTel n p t := by
  obtain ⟨hp, hst, hcodes, hsrc, htyp, h4, hlen, hsid, hseq, honly, hconf⟩ := h
  have hopen : ((s.kernel.session n).state == .unbound || (s.kernel.session n).state == .holdOff) = false := by
    obtain h | h := hst <;> simp [h]
  have hseq' : ((s.kernel.session n).rxAny && !seqLater 32 t.seq (s.kernel.session n).rxSeq) = false := by
    cases hr : (s.kernel.session n).rxAny
    · rfl
    · simp [hseq hr]
  simp [Kernel.telegram, hp, hopen, hcodes, hsrc, htyp, Nat.not_lt.mpr hlen, hsid, hseq', honly, hconf]
  exact fun h => absurd h h4

/-- What an accepted telegram leaves before its payload (R275, R276). -/
def Kernel.taken (k : Kernel) (n : Nat) (p : Partner) (t : Telegram) : Kernel := (k.takeSeq n t).takeConf n p.timeoutMs t

theorem widen_congr {k l : Kernel} (h : l.vital = k.vital) (t : Nat) : l.widen t = k.widen t := by
  simp only [Kernel.widen, Kernel.now32, h]

/-- An accepted telegram that is no DISC and opens nothing (R275, R277). -/
theorem acceptTel_open {k : Kernel} {n : Nat} {p : Partner} {t : Telegram} (ho : sequenceOnly (k.session n) t = false)
    (h6 : t.typ ≠ 6) (hage : k.vital ≤ k.widen t.echoMs + p.timeoutMs) (hs : (k.session n).state = .open_) :
    k.acceptTel n p t = (k.taken n p t).applyPayload n t := by
  have hage' : ¬ ((k.taken n p t).widen t.echoMs + p.timeoutMs < (k.taken n p t).vital) :=
    Nat.not_lt.mpr ((widen_congr (k := k) (l := k.taken n p t) rfl t.echoMs).symm ▸ hage)
  have hno : (SessState.open_ == SessState.opening) = false := rfl
  simp only [Kernel.acceptTel, ho, hs, h6, hno, Bool.false_eq_true, if_false, Bool.false_and, Bool.not_false, Bool.and_true, decide_eq_true_eq]
  exact if_neg hage'

/-- A telegram that confirms the opener's CONN_REQ (R277). -/
theorem acceptTel_opens {k : Kernel} {n : Nat} {p : Partner} {t : Telegram} {c : Nat} (ho : sequenceOnly (k.session n) t = false)
    (h6 : t.typ ≠ 6) (hage : k.vital ≤ k.widen t.echoMs + p.timeoutMs) (hs : (k.session n).state = .opening)
    (hc : (k.session n).connSeq = some c) (hl : seqLater 32 c t.confSeq = false) :
    k.acceptTel n p t = ((k.taken n p t).toOpen n t).applyPayload n t := by
  have hage' : ¬ (((k.taken n p t).toOpen n t).widen t.echoMs + p.timeoutMs < ((k.taken n p t).toOpen n t).vital) :=
    Nat.not_lt.mpr ((widen_congr (k := k) (l := (k.taken n p t).toOpen n t) rfl t.echoMs).symm ▸ hage)
  simp only [Kernel.acceptTel, ho, hs, h6, hc, hl, Bool.false_eq_true, if_false, beq_self_eq_true, Bool.not_false, Bool.and_true,
    if_true, decide_eq_true_eq]
  exact if_neg hage'

/-- An accepted DISC (R277). -/
theorem acceptTel_disc {k : Kernel} {n : Nat} {p : Partner} {t : Telegram} (ho : sequenceOnly (k.session n) t = false)
    (h6 : t.typ = 6) : k.acceptTel n p t = (k.taken n p t).closeSess n 7 .unbind := by
  simp only [Kernel.acceptTel, ho, h6]
  rfl

/-- What a session keeps of a telegram it has taken (R275, R276). -/
theorem taken_session {k : Kernel} {n : Nat} (h : n < k.sess.length) (p : Partner) (t : Telegram) :
    ((k.taken n p t).session n).rxSeq = t.seq ∧ ((k.taken n p t).session n).confSeq = t.confSeq
      ∧ ((k.taken n p t).session n).deadline = k.widen t.echoMs + p.timeoutMs
      ∧ ((k.taken n p t).session n).sid = (k.session n).sid := by
  have h' : n < (k.takeSeq n t).sess.length := by
    simpa [Kernel.takeSeq, Kernel.modPartner] using h
  have hs : (k.takeSeq n t).session n = _ := modSess_session h _
  rw [Kernel.taken, Kernel.takeConf, modSess_session h']
  exact ⟨by rw [hs], rfl, rfl, by rw [hs]⟩

/-! ## Rows of a session's telegrams and timers -/

/-- The agreed telegram of a row's type (R275). -/
theorem telRow_on {s : State} (hs : Supplied s) (hm : s.mstate = .run) {n m : Nat} (hn : n < 128) {t : Telegram} (ht : t.typ.toNat = m)
    {k : Kernel} (hk : s.kernel.telegram s.dat s.env.pst n t = k) :
    Host.Outcome.next (s.live fun s => s.telRow [m] n t) = (.next (s.acted k) : Host.Outcome State Fault Refusal) :=
  kernelRow_on hs hm ((if_pos (by simp [hn, ht])).trans hk)

/-- A session's timer in the state of its row (R277). -/
theorem sessTimer_on {s : State} (hs : Supplied s) (hm : s.mstate = .run) {n : Nat} (hn : n < 128) {q : SessSt → Bool}
    (hq : q (s.kernel.session n) = true) {k : Kernel} (hk : s.kernel.timeSess s.dat n = k) :
    Host.Outcome.next (s.live fun s => s.sessTimer q n) = (.next (s.acted k) : Host.Outcome State Fault Refusal) :=
  kernelRow_on hs hm ((if_pos (by simp [hn, hq])).trans hk)

/-- A CONN_REQ of a partner without a session that the module accepts (R277). -/
theorem connReq_adopts {d : Sdi} {pst : List PstVal} {k : Kernel} {p : Partner} {t : Telegram} {n : Nat} (ht : t.typ = 1)
    (hp : d.partner p.index = some p) (hn : k.sessOf p.index = none) (hc : codesOk pst p t = true) (hsrc : t.srcId = p.id)
    (hlen : t.payload.length ≤ p.maxPayload) (hf : k.freeIndex = some n) (ho : p.opens = false)
    (htag : (byteAt t.payload 4).getLsbD 0 = p.tagged) : k.connReq d pst p.index t =
      (k.modSess n fun s => { SessSt.unbound with openings := 0, lastClose := s.lastClose }).adopt n p.index t true := by
  simp [Kernel.connReq, ht, hp, hn, hc, hsrc, Nat.not_lt.mpr hlen, hf, ho]
  exact fun h => absurd (by simpa using htag) h

/-- A session that adopts the SESSION of a CONN_REQ (R277). -/
theorem adopt_session {k : Kernel} {n : Nat} (h : n < k.sess.length) (partner : Nat) (t : Telegram) (bind : Bool) :
    (k.adopt n partner t bind).session n = { k.session n with
      state := .opening, partner := partner, sid := t.session, opener := false, rxSeq := t.seq, rxAny := true
      confSeq := 0, confEcho := 0, confAny := false, connSeq := none, connAt := k.vital
      dataIn := [], ctl := .connResp bind } :=
  modSess_session h _

/-- Settles O29: a CONN_REQ, the telegrams a session accepts or not, and the timers of sessions. -/
theorem telegramsAndTimersMoveTheSession : Obligations.TelegramsAndTimersMoveTheSession := by
  refine ⟨fun s n p t hs hm hn => ?_, fun s n t hs hm hn => ?_, fun s n hs hm hn => ?_⟩
  · intro x k
    refine ⟨fun ht hp hno hc hsrc hlen hf ho htag => ?_, fun ha hage => ?_⟩
    · have hlt : n < s.kernel.sess.length := (List.findIdx?_eq_some_iff_getElem.mp hf).1
      have hk := connReq_adopts (d := s.dat) (pst := s.env.pst) ht hp hno hc hsrc hlen hf ho htag
      let k' := (s.kernel.modSess n fun x => { SessSt.unbound with openings := 0, lastClose := x.lastClose }).adopt n p.index t true
      refine ⟨k', kernelRow_on hs hm ?_, ?_, fun m hm => (modSess_session_ne _ hm _).trans (modSess_session_ne _ hm _), rfl, rfl⟩
      · exact (if_neg (by simp [ht])).trans (by simp only [hno]; exact hk)
      · rw [adopt_session (by simpa using hlt), modSess_session hlt]
        rfl
    · have hopen := telegram_accepted ha
      obtain ⟨-, -, -, -, -, -, -, -, -, honly, -⟩ := ha
      refine ⟨fun ht hst ⟨c, hc, hl⟩ => telRow_on hs hm hn (by simp [ht]) ?_, fun ht hst => telRow_on hs hm hn (by simp [ht]) ?_,
        fun ht hst => kernelRow_on hs hm ?_, fun ht => telRow_on hs hm hn (by simp [ht]) (hopen.trans (acceptTel_disc honly ht)),
        fun hlt => taken_session hlt p t⟩
      · rw [hopen, acceptTel_opens honly (by simp [ht]) hage hst hc hl]
        simp [Kernel.applyPayload, ht, Kernel.taken, k]
      · rw [hopen, acceptTel_open honly (by simp [ht]) hage hst]
        simp [Kernel.applyPayload, ht, Kernel.taken, k]
      · have hp : ((k.session n).partner) = x.partner :=
          (modSess_partner _ n (by exact fun _ => rfl)).trans (modSess_partner s.kernel n (by exact fun _ => rfl))
        rw [if_pos (by simp [hn, ht]), hopen, acceptTel_open honly (by simp [ht]) hage hst]
        have hpay : (s.kernel.taken n p t).applyPayload n t = { k with reports := s.kernel.reports ++ [(2, x.partner, t.payload)] } := by
          simp only [Kernel.applyPayload, ht]
          exact congrArg (fun q => ({ k with reports := s.kernel.reports ++ [(2, q, t.payload)] } : Kernel)) hp
        rw [hpay]
        rfl
  · intro k
    refine ⟨fun ht => telRow_on hs hm hn (by simp [ht]) rfl, fun ht => telRow_on hs hm hn (by simp [ht]) rfl,
      fun ht => telRow_on hs hm hn (by simp [ht]) rfl, fun ht => kernelRow_on hs hm (if_neg ?_), fun p hp hst hc => ?_, fun p hp hst => ?_⟩
    · have : t.typ.toNat ≠ 3 := fun h => ht (BitVec.eq_of_toNat_eq h)
      simp [hn, this]
    · obtain h | h := hst <;> simp [k, Kernel.telegram, hp, h, hc]
    · obtain h | h := hst <;> simp [k, Kernel.telegram, hp, h, Kernel.discardTel]
  · intro x shut
    refine ⟨fun hst hd => sessTimer_on hs hm hn (by simpa using hst) ?_, fun hst hd => sessTimer_on hs hm hn (by simpa using hst) ?_,
      fun hst ho hg => sessTimer_on hs hm hn (by simpa using ⟨hst, ho⟩) ?_, fun p hst ho hp hg => sessTimer_on hs hm hn (by simpa using ⟨hst, ho⟩) ?_,
      fun hst hg => sessTimer_on hs hm hn (by simpa using hst) ?_, fun p hp hst => kernelRow_on hs hm ?_, fun p hp => kernelRow_on hs hm ?_⟩
    · simp only [Kernel.timeSess, show (s.kernel.session n).state = _ from hst]
      exact if_pos hd
    · simp only [Kernel.timeSess, show (s.kernel.session n).state = _ from hst]
      exact if_neg (Nat.not_lt.mpr hd)
    · simp only [Kernel.timeSess, show (s.kernel.session n).state = _ from hst, show (s.kernel.session n).opener = _ from ho, if_true]
      exact if_pos hg
    · simp only [Kernel.timeSess, show (s.kernel.session n).state = _ from hst, show (s.kernel.session n).opener = _ from ho,
        show s.dat.partner (s.kernel.session n).partner = _ from hp]
      exact if_pos hg
    · simp only [Kernel.timeSess, show (s.kernel.session n).state = _ from hst]
      exact if_pos hg
    · have hp' : ({ s.kernel with pathMismatch := s.kernel.pathMismatch + 1 } : Kernel).sessOf p = some (n, x) := hp
      simp only [Kernel.pathMismatchNotice, hp', hst]
      rfl
    · have hp' : ({ s.kernel with pathMismatch := s.kernel.pathMismatch + 1 } : Kernel).sessOf p = none := hp
      simp only [Kernel.pathMismatchNotice, hp']

end Sys2Proof.Machine
end

section
/-! PROOFS. The statements about the SCC procedure, launches, and the controls and limits of slots (R136 to R157). -/

namespace Sys2Proof.Machine

/-! ## Slots -/

theorem modSlot_slot {k : Kernel} {n : Nat} (h : n < k.slots.length) (f : SlotSt → SlotSt) :
    (k.modSlot n f).slot n = f (k.slot n) := modNth_getD k.slots f SlotSt.free h

theorem modSlot_slot_ne (k : Kernel) {n m : Nat} (h : m ≠ n) (f : SlotSt → SlotSt) : (k.modSlot n f).slot m = k.slot m :=
  modNth_getD_ne k.slots n m f SlotSt.free h

@[simp] theorem modSlot_length (k : Kernel) (n : Nat) (f : SlotSt → SlotSt) : (k.modSlot n f).slots.length = k.slots.length :=
  modNth_length ..

/-- A launch's slot as it stands when it has been entered (R144, R149). -/
theorem enter_slot {k : Kernel} {n : Nat} (h : n < k.slots.length) (e : SlotEntry) (hold : Bool) :
    (k.enter n e hold).slot n = { SlotSt.free with
      op := e.op, percent := percent0 e.op, state := if hold then .suspended else .queued, okind := e.okind, level := e.level
      identity := e.identity, seq := (k.slot n).seq, started := e.started, target := e.target, param := e.param
      order := k.launchNo, queuedAt := k.vital } :=
  modSlot_slot h _

theorem enter_slot_ne (k : Kernel) {n m : Nat} (h : m ≠ n) (e : SlotEntry) (hold : Bool) : (k.enter n e hold).slot m = k.slot m :=
  modSlot_slot_ne k h _

theorem enter_length (k : Kernel) (n : Nat) (e : SlotEntry) (hold : Bool) : (k.enter n e hold).slots.length = k.slots.length :=
  modNth_length ..

theorem highFree_lt {k : Kernel} {n : Nat} (h : k.highFree = some n) : n < 96 := by
  have := List.mem_of_find?_eq_some h
  simpa using this

/-! ## SCC records -/

/-- An SCC record of a host that a session brings (R136, R434). -/
theorem sccRow_on {s : State} (hs : Supplied s) (hm : s.mstate = .run) {kind i : Nat} {r : SccRec} {p : Partner}
    (hk : r.kind.toNat = kind) (h1 : r.r1 = 0) (h11 : r.r11 = 0) (h14 : r.r14 = 0) (hd : s.kernel.drives = true)
    (hp : s.dat.partner (s.kernel.session i).partner = some p) (hc : p.cls = 4) {k : Kernel}
    (h : s.kernel.sccRecord s.dat s.time.now.nanos (i, r) = k) :
    Host.Outcome.next (s.live fun s => s.sccRow kind i r) = (.next (s.acted k) : Host.Outcome State Fault Refusal) := by
  refine (row_on hs _).trans (congrArg _ ((kRow_run hm _).trans (congrArg s.acted ?_)))
  simp only [hk, h1, h11, h14, hd, hp, hc, decide_true, Bool.and_self, beq_self_eq_true, if_true]
  exact h

/-- Settles O30: the REQUEST that is taken and the one that is refused. -/
theorem sccRequestTakesTheHighestFreeSlot : Obligations.SccRequestTakesTheHighestFreeSlot := by
  intro s i n r p hs hm hk h1 h11 h14 hd hp hc ho
  have row : ∀ {k : Kernel}, s.kernel.sccRequest s.dat s.time.now.nanos i r = k → exec (.sccRequest i r) s = .next (s.acted k) :=
    fun h => sccRow_on hs hm (by rw [hk]; rfl) h1 h11 h14 hd hp hc (by simpa [Kernel.sccRecord, ho, hk] using h)
  refine ⟨fun hb hf hlen => ?_, fun c hb => row ?_⟩
  · have hn : n < s.kernel.slots.length := hlen ▸ highFree_lt hf
    let c := sccChallenge n (s.kernel.slot n).seq s.kernel.vital r.requestId r.target r.op
    let f : SlotSt → SlotSt := fun x => { x with
      state := .running, wasRunning := true, stage := 1, percent := 0x7F
      scc := some ⟨i, (s.kernel.session i).sid, r.requestId, c, s.kernel.cycle + 30000 / s.dat.cycleMs, none⟩ }
    let e := s.kernel.enter n ⟨r.op, r.target, [], 4, 0xFF, (s.kernel.session i).partner, s.time.now.nanos⟩ false
    have hx : (e.modSlot n f).slot n = f (e.slot n) := modSlot_slot (by rw [enter_length]; exact hn) f
    rw [enter_slot hn] at hx
    refine ⟨(e.modSlot n f).sccReply i (s.kernel.session i).sid 2 r c n 0, _, row (by simp only [Kernel.sccRequest, hb, hf]; rfl), hx, rfl, rfl, rfl, rfl, rfl, _, rfl, rfl, rfl, rfl, fun m hm => ?_,
      rfl, rfl, rfl⟩
    exact (modSlot_slot_ne e hm f).trans (enter_slot_ne s.kernel hm _ _)
  · simp only [Kernel.sccRequest, hb] <;> rfl

/-- A confirmation the slot awaits, of the session that asked (R138, R140). -/
theorem sccConfirm_own {k : Kernel} {i : Nat} {r : SccRec} {x : SccData} (hn : r.slot < 96) (hx : (k.slot r.slot).scc = some x)
    (ha : (k.slot r.slot).awaits r = true) (h : x.session = i ∧ x.sessionId = (k.session i).sid) (d : Sdi) :
    k.sccConfirm d i r =
      if x.challenge != r.challenge then k.finish r.slot .failed 0x0C02 (k.opData d r.slot)
      else if x.window < k.cycle then k.finish r.slot .failed 0x0C03 (k.opData d r.slot)
      else if (k.slot r.slot).state == .suspended then k.modSlot r.slot fun s => { s with scc := some { x with held := some r } }
      else k.sccExec d r.slot := by
  simp [Kernel.sccConfirm, hx, hn, ha, h.1, h.2]

/-- A slot that awaits its confirmation is in progress (R138). -/
theorem awaits_busy {y : SlotSt} {r : SccRec} (h : y.awaits r = true) : y.state.busy = true ∧ y.stage = 1 := by
  simp only [SlotSt.awaits, Bool.and_eq_true, Bool.or_eq_true, beq_iff_eq] at h
  obtain ⟨⟨⟨⟨h | h, hst⟩, -⟩, -⟩, -⟩ := h <;> exact ⟨by rw [h]; rfl, hst⟩

/-- The confirmed operation of a slot executes (R138, R140). -/
theorem confirmed_exec {k : Kernel} {n : Nat} {x : SccData} (hn : n < 96) (hx : (k.slot n).scc = some x)
    (hs : (k.slot n).state = .running) (hst : (k.slot n).stage = 1) (hid : x.sessionId = (k.session x.session).sid)
    (hw : k.cycle ≤ x.window) {op : Nat} (hop : (k.slot n).op = op) (d : Sdi) : k.confirmed d op n = k.sccExec d n := by
  have hc := sccConfirm_own (k := k) (i := x.session) (r := { kind := 3, r1 := 0, op := (k.slot n).op, target := (k.slot n).target, requestId := x.requestId, challenge := x.challenge, slot := n, r11 := 0, result := 0, r14 := 0 }) hn hx
    (by simp [SlotSt.awaits, hs, hst, hx]) ⟨rfl, hid⟩ d
  simp only [Kernel.confirmed, hx, hop, hs, hst, beq_self_eq_true, Bool.true_or, Bool.and_self, if_true]
  rw [hop] at hc
  rw [hc]
  simp [Nat.not_lt.mpr hw, hs]

/-- Settles O31: the confirmation and its window, and what the confirmed operation of a slot does. -/
theorem sccConfirmExecutesOnlyItsOwnRequest : Obligations.SccConfirmExecutesOnlyItsOwnRequest := by
  refine ⟨fun s i r p x hs hm hk h1 h11 h14 hd hp hc ho hn hx ha => ?_, fun s n x hs hm hn hlen hx hst hstage hid hw => ?_⟩
  · have row : ∀ {k : Kernel}, s.kernel.sccConfirm s.dat i r = k → exec (.sccConfirm i r) s = .next (s.acted k) :=
      fun h => sccRow_on hs hm (by rw [hk]; rfl) h1 h11 h14 hd hp hc (by simpa [Kernel.sccRecord, ho, hk] using h)
    intro k own
    refine ⟨fun h => row ?_, fun h hch => row ?_, fun h hch hw => row ?_, fun h hch hw hst => row ?_, fun hw hh => kernelRow_on hs hm ?_⟩
    · have : ¬ x.session = i ∨ ¬ x.sessionId = (s.kernel.session i).sid := Decidable.not_and_iff_not_or_not.mp h
      simp only [Kernel.sccConfirm, hx, hn, ha]
      exact (if_neg (by simp)).trans (if_pos (by simpa using this))
    · rw [sccConfirm_own hn hx ha h, if_pos (by simpa using hch)]
    · rw [sccConfirm_own hn hx ha h, if_neg (by simpa using hch), if_pos hw]
    · rw [sccConfirm_own hn hx ha h, if_neg (by simpa using hch), if_neg (Nat.not_lt.mpr hw), if_neg (by simp [show (s.kernel.slot r.slot).state = _ from hst])]
    · obtain ⟨hb, hs1⟩ := awaits_busy ha
      simp [Kernel.sccWindow, hx, hb, hs1, hw, hh, k]
  · intro op tgt k
    have row : ∀ {o : Nat} {t : Kernel}, op = o → s.kernel.sccExec s.dat n = t →
        Host.Outcome.next (s.live fun s => s.kRow fun d _ k => k.confirmed d o n) = (.next (s.acted t) : Host.Outcome State Fault Refusal) :=
      fun ho ht => kernelRow_on hs hm ((confirmed_exec hn hx hst hstage hid hw ho s.dat).trans ht)
    refine ⟨fun ho hb => row ho ?_, fun ho hb => row ho ?_, fun ho hb => row ho ?_, fun ho hb => row ho ?_, fun ho c d hb => row ho ?_,
      fun ho => kernelRow_on hs hm ?_⟩
    · have ho : (s.kernel.slot n).op = 0x0103 := ho
      have hb : s.kernel.emergReleaseBar s.dat (s.kernel.slot n).target = none := hb
      simp only [Kernel.sccExec, Kernel.sccBar, ho, hb, Option.map_none, k]
    · have ho : (s.kernel.slot n).op = 0x0202 := ho
      have hb : s.kernel.emergThrowBar s.dat (s.kernel.slot n).target = none := hb
      simp only [Kernel.sccExec, Kernel.sccBar, ho, hb, Option.map_none, k]
    · have ho : (s.kernel.slot n).op = 0x0301 := ho
      have hb : s.kernel.acBar s.dat (0x0301 == 0x0302) (s.kernel.slot n).target = none := hb
      simp only [Kernel.sccExec, Kernel.sccBar, ho, hb, Option.map_none, k]
      rfl
    · have ho : (s.kernel.slot n).op = 0x0302 := ho
      have hb : s.kernel.acBar s.dat (0x0302 == 0x0302) (s.kernel.slot n).target = none := hb
      simp only [Kernel.sccExec, Kernel.sccBar, ho, hb, Option.map_none, k]
      rfl
    · have ho : (s.kernel.slot n).op = 0x0103 := ho
      have hb : s.kernel.emergReleaseBar s.dat (s.kernel.slot n).target = some (c, d) := hb
      simp only [Kernel.sccExec, Kernel.sccBar, ho, hb, Option.map_some]
      rfl
    · have hne : ((s.kernel.slot n).op == 0x0202) = false := by simpa using ho
      simp [Kernel.confirmed, hx, hne]

/-! ## Launches -/

/-- A launch that a check refuses (R145, R146). -/
theorem launch_refused {s : State} (hs : Supplied s) {op c : Nat} {l : Launch} (h : (s.asked l.client).launchBar op l = some c) :
    Host.Outcome.next (s.live (State.launch op l)) =
      (.next ((s.asked l.client).refuse l.client c) : Host.Outcome State Fault Refusal) := by
  have h' : (s.begin.touch l.client).launchBar op l = some c := h
  refine (row_on hs _).trans (congrArg _ ?_)
  simp only [State.launch, h']
  rfl

/-- A launch that no check refuses (R145, R146). -/
theorem launch_taken {s : State} (hs : Supplied s) {op : Nat} {l : Launch} (h : (s.asked l.client).launchBar op l = none) :
    Host.Outcome.next (s.live (State.launch op l)) =
      (.next (((s.asked l.client).enterSlot op l).respond l.client ⟨l.slot, true, 0, s.svc.ms, none⟩ 0) :
        Host.Outcome State Fault Refusal) := by
  have h' : (s.begin.touch l.client).launchBar op l = none := h
  refine (row_on hs _).trans (congrArg _ ?_)
  simp only [State.launch, h']
  rfl

/-- The checks of a launch of an asking client (R145). -/
theorem asked_launchBar (s : State) (op : Nat) (l : Launch) : (s.asked l.client).launchBar op l =
    s.kernel.launchBar s.dat s.env ((s.asked l.client).pendingLaunch l.slot) (s.client l.client).level op l := by
  simp only [State.launchBar, asked_kernel, asked_dat, asked_env, asked_level]

/-- The checks 3 to 8 of ROUTE_SET in `RUN` (R145). -/
theorem launchBar_routeSet {s : State} (hm : s.mstate = .run) (pend : Bool) (level : Nat) (l : Launch) :
    s.kernel.launchBar s.dat s.env pend level 0x0101 l =
      if 96 ≤ l.slot then some 0x0D02
      else if level < 1 then some 0x0D05
      else if !(s.kernel.twin.role ≤ 1 && s.kernel.twin.tookAt != some s.kernel.cycle) then some 0x0D06
      else if (s.kernel.slot l.slot).state != .free || pend then some 0x0D03
      else if (s.kernel.slot l.slot).seq != l.seqNow then some 0x0D04
      else if !paramOk 0x0101 l then some 0x0D08 else none := by
  have hp : s.env.mstate.permits 0x0101 = true := by
    rw [show s.env.mstate = .run from hm]
    rfl
  have h1 : sccOp 0x0101 = false := rfl
  have h2 : launchCodes.contains 0x0101 = true := rfl
  have h3 : opLevel 0x0101 = 1 := rfl
  have h4 : serviceOp 0x0101 = false := rfl
  simp only [Kernel.launchBar, h1, h2, h3, hp, Kernel.condOk, h4, Kernel.ownBar, Bool.not_true, Bool.false_eq_true, if_false,
    Bool.false_or, Bool.and_true]

/-- What the module keeps of a client, for two states that keep the same. -/
theorem client_congr {s t : State} (hc : t.clients = s.clients) (hm : t.svc.ms = s.svc.ms) (cl : Client) : t.client cl = s.client cl := by
  simp only [State.client, hc, hm]

theorem canHead_clients (s : State) : s.canHead.clients = s.clients := by
  unfold State.canHead
  split
  · dsimp only
    split <;> rfl
  · rfl

theorem canQueue_clients (s : State) (f : CanOut) : (s.canQueue f).clients = s.clients := by
  unfold State.canQueue
  dsimp only
  split
  · obtain ⟨-, -, -, -, h, -⟩ := raise_leaves s 0x6B
    exact h
  · split
    · exact canHead_clients _
    · rfl

theorem canSend_clients (s : State) (f : CanOut) : (s.canSend f).clients = s.clients := by
  unfold State.canSend
  split
  · exact canQueue_clients s f
  · rfl
  · rfl

/-- What a client hears of an access leaves what the module keeps of the clients (R301). -/
theorem answerCan_clients (s : State) (cl : Client) (code : Option W32) : (s.answerCan cl code).clients = s.clients := by
  unfold State.answerCan
  split
  · split
    · rfl
    · exact canSend_clients s _
  · rfl

theorem abort_client (s : State) (cl e : Client) (code : W32) : (s.abort cl code).client e = s.client e := by
  obtain ⟨-, -, -, -, -, -, hms⟩ := answerCan_kept (s.emit (.abort cl code)) cl (some code)
  exact client_congr (answerCan_clients _ cl _) hms e

/-- A client finds the code of a refusal in 0x3100.02 (R146). -/
theorem refuse_refusal (s : State) (cl : Client) (code : Nat) : ((s.refuse cl code).client cl).refusal = code := by
  have h : ({ s.client cl with refusal := code } : ClientSt).client = cl := client_name s cl
  have hc := setClient_client s { s.client cl with refusal := code }
  rw [h] at hc
  rw [State.refuse, abort_client, State.modClient, hc]

/-- Settles O32: launches that enter their slot, BIST_RUN, and the order of the refusals. -/
theorem launchesEnterTheirSlotOrAreRefused : Obligations.LaunchesEnterTheirSlotOrAreRefused := by
  refine ⟨fun s l op c hs hm hc hb => ?_, fun s l hs => ⟨fun hm hb => ?_, fun hm hn hl hlc => ?_⟩, fun s l hs hm => ?_⟩
  · have hexec : exec c s = .next (s.live (State.launch op l)) := by
      simp only [List.mem_cons, Prod.mk.injEq, List.not_mem_nil, or_false] at hc
      rcases hc with ⟨rfl, rfl⟩ | ⟨rfl, rfl⟩ | ⟨rfl, rfl⟩ | ⟨rfl, rfl⟩ | ⟨rfl, rfl⟩ | ⟨rfl, rfl⟩ | ⟨rfl, rfl⟩ | ⟨rfl, rfl⟩ | ⟨rfl, rfl⟩ <;> rfl
    intro e k
    refine ⟨hexec.trans ((launch_taken hs hb).trans ?_), fun hlt => ?_⟩
    · simp only [State.enterSlot, asked_mstate, hm, if_true, kRow_asked, asked_level]
      rfl
    · have hk : k.slot l.slot = _ := enter_slot hlt e (l.flags.getLsbD 0)
      rw [hk]
      exact ⟨rfl, rfl, rfl, rfl, rfl⟩
  · refine (launch_taken hs hb).trans ?_
    simp only [State.enterSlot, asked_mstate, hm, reduceCtorEq, if_false, asked_level]
    rfl
  · refine launch_refused hs ((asked_launchBar s 0x0401 l).trans ?_)
    have hp : s.env.mstate.permits 0x0401 = false := by
      rw [show s.env.mstate = .run from hm]
      rfl
    have hlc' : s.env.lc = 3 := hlc
    have h2 : opLevel 0x0401 = 2 := rfl
    rw [Kernel.launchBar, if_neg (by decide), if_neg (by decide), if_neg (Nat.not_le.mpr hn), if_neg (by rw [h2]; omega), if_neg (by
      simp [Kernel.condOk, hlc', show serviceOp 0x0401 = true from rfl]), if_pos (by rw [hp]; rfl)]
  · have row : ∀ {c : Nat}, s.kernel.launchBar s.dat s.env ((s.asked l.client).pendingLaunch l.slot) (s.client l.client).level 0x0101 l = some c →
        exec (.routeSet l) s = .next ((s.asked l.client).refuse l.client c) := fun h =>
      launch_refused hs ((asked_launchBar s 0x0101 l).trans h)
    rw [launchBar_routeSet hm] at row
    refine ⟨fun h => row (if_pos h), fun h h0 => row ?_, fun h h1 => ⟨fun hr => row ?_, fun hr ht => ⟨fun hst => row ?_,
      fun hst hp hq => row ?_⟩⟩, fun t => ⟨rfl, ?_⟩⟩
    · rw [if_neg (Nat.not_le.mpr h), if_pos (by omega)]
    · rw [if_neg (Nat.not_le.mpr h), if_neg (by omega), if_pos (by simp; omega)]
    · rw [if_neg (Nat.not_le.mpr h), if_neg (by omega), if_neg (by simp [hr, ht]), if_pos (by simpa using hst)]
    · rw [if_neg (Nat.not_le.mpr h), if_neg (by omega), if_neg (by simp [hr, ht]), if_neg (by simp [hst, hp]),
        if_pos (by simpa using hq)]
    · exact refuse_refusal t l.client 0x0D04

/-! ## Controls and limits -/

/-- A control of a slot in `RUN` (R146 to R149). -/
theorem control_taken {s : State} (hs : Supplied s) (hm : s.mstate = .run) {cl : Client} {n code : Nat} (hn : n < 96) {k : Kernel}
    (h : s.kernel.control s.dat s.env ((s.kernel.slot n).ownedBy cl (s.client cl).level) (s.client cl).level code n = .ok k) :
    Host.Outcome.next (s.live fun s => s.control cl n code) =
      (.next (((s.asked cl).acted k).respond cl ⟨n, false, 0, s.svc.ms, none⟩ 0) : Host.Outcome State Fault Refusal) := by
  refine (row_on hs _).trans (congrArg _ ?_)
  have ht : s.begin.touch cl = s.asked cl := rfl
  simp only [State.control, ht, Nat.not_le.mpr hn, if_false, asked_kernel, asked_dat, asked_env, asked_level, h, asked_mstate, hm, if_true,
    State.acted, asked_begin, asked_svc]

/-- A control that is refused (R146). -/
theorem control_refused {s : State} (hs : Supplied s) {cl : Client} {n code : Nat} (hn : n < 96) {c : Nat}
    (h : s.kernel.control s.dat s.env ((s.kernel.slot n).ownedBy cl (s.client cl).level) (s.client cl).level code n = .error c) :
    Host.Outcome.next (s.live fun s => s.control cl n code) =
      (.next ((s.asked cl).refuse cl c) : Host.Outcome State Fault Refusal) := by
  refine (row_on hs _).trans (congrArg _ ?_)
  have ht : s.begin.touch cl = s.asked cl := rfl
  simp only [State.control, ht, Nat.not_le.mpr hn, if_false, asked_kernel, asked_dat, asked_env, asked_level, h]

/-- Settles O33: each control, taken and refused. -/
theorem slotControlsFollowTheStateTable : Obligations.SlotControlsFollowTheStateTable := by
  intro s cl n hs hm hn hl x ok
  have hl' : ¬ (s.client cl).level < 1 := Nat.not_lt.mpr hl
  refine ⟨fun hst hsus => control_taken hs hm hn ?_, fun hst hsus => control_refused hs hn ?_, fun hst hw => control_taken hs hm hn ?_,
    fun hst => control_refused hs hn ?_, fun hb hc hlate => control_taken hs hm hn ?_, fun hb hlate => control_refused hs hn ?_,
    fun hb => control_refused hs hn ?_, fun hf ho => control_taken hs hm hn ?_⟩
  all_goals simp only [x] at *
  · obtain h | h := hst <;> simp [Kernel.control, hl', Kernel.suspend, h, hsus]
  · obtain h | h := hst <;> simp [Kernel.control, hl', Kernel.suspend, h, hsus]
  · simp [Kernel.control, hl', Kernel.resume, hst, hw]
  · simp [Kernel.control, hl', Kernel.resume, hst]
  · simp [Kernel.control, hl', Kernel.cancel, hb, hc, hlate]
  · simp [Kernel.control, hl', hb, hlate]
  · simp [Kernel.control, hl', Kernel.cancel, hb]
  · simp [Kernel.control, Kernel.releaseCtl, hf, ho, Kernel.release]

/-- A limit of a slot acts in `RUN` and outside it (R149, R155). -/
theorem slotLimit_on {s : State} (hs : Supplied s) {f : Sdi → Kernel → Kernel} {k : Kernel} (hk : f s.dat s.kernel = k) :
    Host.Outcome.next (s.live fun s => s.slotLimit f) =
      (.next (if s.mstate = .run then s.acted k else ({ s.begin with kernel := k } : State).kernelDone) :
        Host.Outcome State Fault Refusal) := by
  refine (row_on hs _).trans (congrArg _ ?_)
  subst hk
  by_cases hm : s.mstate = .run
  · simp only [State.slotLimit, begin_mstate, hm, if_true, kRow_run hm]
  · simp only [State.slotLimit, begin_mstate, hm, if_false, begin_dat, begin_kernel]

theorem noteRoute_slots (k : Kernel) (op rid code detail : Nat) : (k.noteRoute op rid code detail).slots = k.slots
    ∧ (k.noteRoute op rid code detail).notes = k.notes := by
  unfold Kernel.noteRoute
  split <;> exact ⟨rfl, rfl⟩

/-- A slot in progress that ends (R149 to R151). -/
theorem finish_busy {k : Kernel} {n : Nat} (h : (k.slot n).state.busy = true) (st : SlotState) (result : Nat) (data : List Byte) :
    (k.finish n st result data).slots = (k.modSlot n (SlotSt.end_ st result data k.vital)).slots
      ∧ (k.finish n st result data).notes = k.notes ++ [.slotFinal n (k.slot n).op] := by
  simp only [Kernel.finish, h, if_true]
  split
  · exact noteRoute_slots _ _ _ _ _
  · exact ⟨rfl, rfl⟩

/-- A slot that is not in progress does not end (R149). -/
theorem finish_idle {k : Kernel} {n : Nat} (h : (k.slot n).state.busy = false) (st : SlotState) (result : Nat) (data : List Byte) :
    k.finish n st result data = k := by
  simp [Kernel.finish, h]

theorem slot_congr {k l : Kernel} (h : l.slots = k.slots) (n : Nat) : l.slot n = k.slot n := by
  simp only [Kernel.slot, h]

/-- Settles O34: the limits of slots and of a launch's verdict, and the end of a slot. -/
theorem slotLimitsEndWaitingAndRaiseSeq : Obligations.SlotLimitsEndWaitingAndRaiseSeq := by
  refine ⟨fun s n cl hs => ?_, fun k n r st x hn => ⟨fun hb => ?_, fun hb => finish_idle hb st r x, fun m hm => ?_⟩⟩
  · intro x done
    refine ⟨fun hst hd => slotLimit_on hs ?_, fun hst hd => slotLimit_on hs ?_, fun w hw hv hd => ?_, fun h => ?_⟩
    · simp [Kernel.queueLimit, show (s.kernel.slot n).state = _ from hst, show 300000 ≤ s.kernel.gone (s.kernel.slot n).queuedAt + (s.kernel.slot n).outMs from hd]
    · simp [Kernel.autoRelease, show (s.kernel.slot n).state.final = _ from hst, show 60000 ≤ s.kernel.gone (s.kernel.slot n).finalAt + (s.kernel.slot n).outMs from hd, Kernel.release]
    · have hf : (s.begin.client cl).launched.find? (fun w => w.verdict.isNone && w.ms + 5 * s.begin.dat.cycleMs ≤ s.begin.svc.ms) = some w := by
        rw [show (s.begin.client cl).launched = _ from hw]
        exact List.find?_cons_of_pos (by simp [hv, hd])
      refine (row_on hs _).trans (congrArg _ ?_)
      simp only [hf]
      refine congrArg (State.refuse · cl 0x0D0D) (congrArg s.begin.setClient ?_)
      dsimp only
      rw [show (s.begin.client cl).launched = _ from hw]
      simp
    · have hf : (s.begin.client cl).launched.find? (fun w => w.verdict.isNone && w.ms + 5 * s.begin.dat.cycleMs ≤ s.begin.svc.ms) = none := by
        refine List.find?_eq_none.mpr fun w hw => ?_
        obtain hv | hd := h w hw
        · simp [Option.isNone_eq_false_iff.mpr (Option.isSome_iff_ne_none.mpr hv)]
        · exact fun hc => absurd (of_decide_eq_true ((Bool.and_eq_true _ _).mp hc).2) (Nat.not_le.mpr hd)
      refine (row_on hs _).trans (congrArg _ ?_)
      simp only [hf]
  · obtain ⟨hslots, hnotes⟩ := finish_busy hb st r x
    have hn' : (k.finish n st r x).slot n = SlotSt.end_ st r x k.vital (k.slot n) :=
      (slot_congr hslots n).trans (modSlot_slot hn _)
    rw [hn']
    exact ⟨rfl, rfl, rfl, rfl, hnotes⟩
  · cases hb : (k.slot n).state.busy
    · rw [finish_idle hb]
    · exact (slot_congr (finish_busy hb st r x).1 m).trans (modSlot_slot_ne k hm _)

end Sys2Proof.Machine
end

section
/-! PROOFS. The statements about the twin link (R324 to R337). -/

namespace Sys2Proof.Machine

/-! ## Heartbeats -/

/-- The heartbeat the module holds as valid carries a SEQ (R326). -/
def State.heldBeat (s : State) (seq : Nat) : Bool :=
  s.twin.valid && (match s.twin.last with | some o => o.hbSeq == seq | none => false)

/-- A heartbeat is taken: it stands as the twin's newest, and its receipts release what waits (R146, R326). -/
def State.takeBeat (s : State) (h : Heartbeat) : State :=
  ({ s with twin := { s.twin with
    last := some h, valid := true, compatible := s.incompatible h == 0, cause := s.incompatible h } }).release h.ack

/-- A heartbeat on a lane of a module that has a twin (R324, R326). -/
theorem heartbeatReceive_eq {s : State} (hp : s.life.position ≠ 0) (lane : Bool) (h : Heartbeat) {u : State} {ok : Bool}
    (hu : s.cvuStrip 7 (Heartbeat.wire h ++ be 4 h.link.toNat) = (u, ok)) : heartbeatReceive lane h s =
      if !ok || !(Heartbeat.crcOk h) then u.laneUp lane ok
      else if (u.laneUp lane ok).heldBeat h.hbSeq then u.laneUp lane ok
      else (u.laneUp lane ok).takeBeat h := by
  rw [heartbeatReceive, if_neg hp, hu]
  rfl

theorem laneUp_heldBeat (s : State) (lane up : Bool) (q : Nat) : (s.laneUp lane up).heldBeat q = s.heldBeat q := by
  cases lane <;> rfl

theorem heldBeat_iff (s : State) (q : Nat) :
    s.heldBeat q = true ↔ s.twin.valid = true ∧ ∃ o, s.twin.last = some o ∧ o.hbSeq = q := by
  unfold State.heldBeat
  cases h : s.twin.last <;> simp

/-! ## Veneer frames -/

/-- The units of a Veneer frame pass CVU7 and leave the twin link as it is (R324). -/
theorem stripUnits_twin (s : State) (w : List Byte) (crcs : List W32) : (s.stripUnits w crcs).1.twin = s.twin := by
  have h : ∀ (l : List Nat) (p : State × Bool), (l.foldl (fun (p : State × Bool) i =>
      let q := p.1.cvuStrip 7 (slice w (4096 * i) 4096 ++ be 4 (crcs.getD i 0).toNat)
      (q.1, p.2 && q.2)) p).1.twin = p.1.twin := fun l => by
    induction l with
    | nil => exact fun p => rfl
    | cons a t ih => exact fun p => ih _
  exact h _ _

theorem laneUp_gotVeneer (s : State) (lane up : Bool) : (s.laneUp lane up).twin.gotVeneer = s.twin.gotVeneer := by
  cases lane <;> rfl

theorem veneerReceive_eq {s : State} (hp : s.life.position ≠ 0) (lane : Bool) (v : Veneer) : veneerReceive lane v s =
    (s.stripUnits (Veneer.wire v) v.unitCrcs).1.takeVeneer lane (s.stripUnits (Veneer.wire v) v.unitCrcs).2 v :=
  if_neg hp

theorem takeVeneer_bad (s : State) (lane : Bool) (v : Veneer) : s.takeVeneer lane false v = s.laneUp lane false := by
  simp [State.takeVeneer]

theorem takeVeneer_again (s : State) (lane : Bool) {v : Veneer} (h : s.twin.gotVeneer = some v.cycle) :
    s.takeVeneer lane true v = s.laneUp lane true := by
  simp [State.takeVeneer, laneUp_gotVeneer, h]

theorem takeVeneer_new (s : State) (lane : Bool) {v : Veneer} (hv : v.version = 1) (h : s.twin.gotVeneer ≠ some v.cycle) :
    s.takeVeneer lane true v = State.newEntry { s.laneUp lane true with
      twin := { (s.laneUp lane true).twin with gotVeneer := some v.cycle, ack := v.cycle } } .svc ⟨0x300, v.cycle % 2 ^ 32, .veneer v⟩ := by
  simp [State.takeVeneer, laneUp_gotVeneer, h, hv]

theorem stripUnits_gotVeneer (s : State) (w : List Byte) (crcs : List W32) :
    (s.stripUnits w crcs).1.twin.gotVeneer = s.twin.gotVeneer := by
  rw [stripUnits_twin]

theorem exec_veneerReceive {s : State} (hs : Supplied s) (hp : s.life.position ≠ 0) (lane : Bool) (v : Veneer) :
    exec (.veneerFrameReceive lane v) s = .next ((s.begin.stripUnits (Veneer.wire v) v.unitCrcs).1.takeVeneer lane
      (s.begin.stripUnits (Veneer.wire v) v.unitCrcs).2 v) := by
  refine (row_on hs _).trans ?_
  rw [veneerReceive_eq (by exact hp)]

/-! ## Handovers -/

/-- A handover of a running switchover is given up (R337). -/
theorem endHandover_running {k : Kernel} {n : Nat} (h : k.running 0x0701 = some n) (env : Env) (code : Nat) :
    k.endHandover env code = Kernel.finish { k with twin := { k.twin with offer := false, request := false } } n .failed code
      (switchData env.position 0 0) := by
  have h' : (k.modTwin fun t => { t with offer := false, request := false }).running 0x0701 = some n := h
  simp only [Kernel.endHandover, h']
  rfl

/-- Settles O35: the units of the twin link, and the ends of a handover. -/
theorem twinLinkTakesEachUnitOnce : Obligations.TwinLinkTakesEachUnitOnce := by
  refine ⟨fun s lane h v feeds hs => ⟨fun hp => ⟨?_, ?_, ?_, ?_⟩, fun hp => ?_, fun hp => ?_, fun hp hm => ?_, fun hp => ?_⟩,
    fun s hs hm => ?_⟩
  · exact (row_on hs _).trans (congrArg _ (if_pos hp))
  · exact (row_on hs _).trans (congrArg _ (if_pos hp))
  · exact (row_on hs _).trans (congrArg _ (if_pos hp))
  · exact (row_on hs _).trans (congrArg _ (if_neg (by simp [hp])))
  · intro t b u
    have hrow : exec (.twinHeartbeatSend feeds) s = .next (match u.2 with
        | some v => u.1.emits [.heartbeat false { b with link := BitVec.ofNat 32 (ofBe v) }, .heartbeat true { b with link := BitVec.ofNat 32 (ofBe v) }]
        | none => u.1) := (row_on hs _).trans (congrArg _ (if_neg hp))
    refine ⟨beq_self_eq_true _, fun hu => ?_, fun l hu => ?_⟩
    · rw [hrow, hu]
    · rw [hrow, hu]
      rfl
  · intro u
    have hrow : exec (.twinHeartbeatReceive lane h) s = .next _ :=
      (row_on hs _).trans (congrArg _ (heartbeatReceive_eq (s := s.begin) hp lane h (u := u.1) (ok := u.2) rfl))
    have hheld : (u.1.laneUp lane true).heldBeat h.hbSeq = s.heldBeat h.hbSeq := laneUp_heldBeat ..
    refine ⟨fun hu => ?_, fun hu hc => ?_, fun o hu hv hl ho => ?_, fun hu hc hne => ⟨?_, rfl⟩⟩
    · rw [hrow, hu]
      rfl
    · rw [hrow, hu, hc]
      rfl
    · rw [hrow, hu, hheld, (heldBeat_iff s _).mpr ⟨hv, o, hl, ho⟩]
      cases hc : Heartbeat.crcOk h <;> rfl
    · have hf : s.heldBeat h.hbSeq = false := Bool.eq_false_iff.mpr fun hh => by
        obtain ⟨hv, o, hl, ho⟩ := (heldBeat_iff s _).mp hh
        exact hne o hv hl ho
      rw [hrow, hu, hheld, hf, hc]
      rfl
  · exact (row_on hs _).trans (congrArg _ (if_pos (by simp [hm, hp])))
  · have hrow := exec_veneerReceive hs hp lane v
    have hgot := stripUnits_gotVeneer s.begin (Veneer.wire v) v.unitCrcs
    rw [show s.begin.twin = s.twin from rfl] at hgot
    generalize s.begin.stripUnits (Veneer.wire v) v.unitCrcs = u at hrow hgot ⊢
    refine ⟨fun hu => ?_, fun hu hv hne => ?_, fun hu hg => ?_⟩
    · rw [hrow, hu, takeVeneer_bad]
    · rw [hrow, hu, takeVeneer_new u.1 lane hv (hgot ▸ hne)]
    · rw [hrow, hu, takeVeneer_again u.1 lane (hgot.trans hg)]
  · refine ⟨fun n ho hd hr => kernelRow_on hs hm ?_, fun ho => kernelRow_on hs hm ?_, fun n hrole ho hr hg => kernelRow_on hs hm ?_⟩
    · rw [Kernel.notTaken, if_pos (by simp [ho, hd]), endHandover_running hr]
      rfl
    · exact if_neg (by simp [ho])
    · rw [if_pos (by simp [hrole, ho, hr]), Kernel.noStandby, if_pos hg, endHandover_running hr]
      rfl

end Sys2Proof.Machine
end

section
/-! PROOFS. The sensor processors: what a change of a system or a feed leaves, the samples, the pulses and the strobes (O36). -/
namespace Sys2Proof.Machine

/-! ## Systems, processors and feeds -/

/-- An entry is changed by what it becomes. -/
theorem modNth_const {α : Type} (l : List α) (i : Nat) (f : α → α) (d : α) :
    modNth l i f = modNth l i fun _ => f (l.getD i d) := by
  induction l generalizing i with
  | nil => rfl
  | cons a t ih =>
    cases i with
    | zero => rfl
    | succ n => exact congrArg (a :: ·) (ih n)

theorem modNth_id {α : Type} (l : List α) (i : Nat) : modNth l i id = l := by
  induction l generalizing i with
  | nil => rfl
  | cons a t ih =>
    cases i with
    | zero => rfl
    | succ n => exact congrArg (a :: ·) (ih n)

theorem modProc_spUp (s : State) (sp sq : Sp) (f : SensorProc → SensorProc) : (s.modProc sp f).spUp sq = s.spUp sq := by
  unfold State.modProc
  cases s.spUp sp <;> cases sp <;> rfl

theorem modProc_proc {s : State} {sp : Sp} (h : s.spUp sp = true) (f : SensorProc → SensorProc) :
    (s.modProc sp f).proc sp = f (s.proc sp) := by
  unfold State.modProc
  rw [h]
  cases sp <;> rfl

theorem modProc_modProc (s : State) (sp : Sp) (f g : SensorProc → SensorProc) :
    (s.modProc sp f).modProc sp g = s.modProc sp (g ∘ f) := by
  cases h : s.spUp sp
  · simp [State.modProc, h]
  · have h' := (modProc_spUp s sp sp f).trans h
    cases sp <;> simp only [State.modProc, h] at h' ⊢ <;> rw [h'] <;> rfl

theorem modProc_const (s : State) (sp : Sp) (f : SensorProc → SensorProc) : s.modProc sp f = s.modProc sp fun _ => f (s.proc sp) := by
  cases sp <;> rfl

theorem modSys_const (s : State) (sp : Sp) (head : Nat) (f : SensorSys → SensorSys) :
    s.modSys sp head f = s.modSys sp head fun _ => f (s.sys sp head) := by
  unfold State.modSys
  rw [modProc_const, modProc_const s sp fun p => { p with sys := modNth p.sys head fun _ => f (s.sys sp head) },
    modNth_const (s.proc sp).sys head f SensorSys.reset]
  rfl

/-- A system that becomes what it is leaves the state as it is. -/
theorem modSys_self (s : State) (sp : Sp) (head : Nat) : (s.modSys sp head fun _ => s.sys sp head) = s := by
  refine (modSys_const s sp head id).symm.trans ?_
  simp only [State.modSys, State.modProc, modNth_id]
  cases s.spUp sp <;> cases sp <;> rfl

theorem modSys_sys {s : State} {sp : Sp} {head : Nat} (h : s.spUp sp = true) (hl : head < (s.proc sp).sys.length)
    (f : SensorSys → SensorSys) : (s.modSys sp head f).sys sp head = f (s.sys sp head) := by
  unfold State.sys State.modSys
  rw [modProc_proc h]
  exact modNth_getD _ _ _ hl

theorem modSys_modSys (s : State) (sp : Sp) (head : Nat) (f g : SensorSys → SensorSys) :
    (s.modSys sp head f).modSys sp head g = s.modSys sp head (g ∘ f) := by
  unfold State.modSys
  rw [modProc_modProc]
  exact congrArg (s.modProc sp) (funext fun p => congrArg (fun l => { p with sys := l }) (modNth_modNth ..))

theorem modFeed_const (s : State) (head : Nat) (f : HeadFeed → HeadFeed) :
    s.modFeed head f = s.modFeed head fun _ => f (s.feed head) :=
  congrArg (fun l => { s with sens := { s.sens with feeds := l } }) (modNth_const ..)

theorem modFeed_feed {s : State} {head : Nat} (hl : head < s.sens.feeds.length) (f : HeadFeed → HeadFeed) :
    (s.modFeed head f).feed head = f (s.feed head) :=
  modNth_getD _ _ _ hl

theorem modFeed_modFeed (s : State) (head : Nat) (f g : HeadFeed → HeadFeed) :
    (s.modFeed head f).modFeed head g = s.modFeed head (g ∘ f) :=
  congrArg (fun l => { s with sens := { s.sens with feeds := l } }) (modNth_modNth ..)

/-! ## Records -/

theorem offer_sens (s : State) (c : Ch) (p : Producer) (n : Nat) (f : Channel → Channel) : (s.offer c p n f).sens = s.sens := by
  unfold State.offer
  split
  · rfl
  · simp only []
    split
    · exact (raise_leaves s _).2.1
    · cases c <;> rfl

/-- A record in the channels' queues leaves the sensors as they are. -/
theorem putRec_sens (s : State) (sp : Sp) (r : SensorRec) : (s.putRec sp r).sens = s.sens := by
  simp only [State.putRec, Ch.all, List.foldl, offer_sens]

theorem modSent_proc (s : State) (sp : Sp) (f : List (SensorRec × Nat) → List (SensorRec × Nat)) :
    (s.modSent sp f).proc sp = { s.proc sp with sent := f (s.proc sp).sent } := by
  cases sp <;> rfl

theorem emit_proc (s : State) (o : Out) (sp : Sp) : (s.emit o).proc sp = s.proc sp := rfl

/-- A processor's record takes its next number (R197). -/
theorem sendRec_proc {s : State} {sp : Sp} (h : s.spUp sp = true) (kind b5 flags b7 : Byte) (w8 w12 : W32) :
    (s.sendRec sp kind b5 flags b7 w8 w12).proc sp = { s.proc sp with
      seq := ((s.proc sp).seq + 1) % 2 ^ 32, sent := (s.proc sp).sent ++ [(⟨(s.proc sp).seq, kind, b5, flags, b7, w8, w12⟩, 3)] } := by
  unfold State.sendRec
  rw [h]
  have hsens : ∀ t u : State, t.sens = u.sens → t.proc sp = u.proc sp := fun t u e => by
    cases sp
    · exact congrArg (·.x) e
    · exact congrArg (·.y) e
  refine (hsens _ _ (putRec_sens _ _ _)).trans ?_
  rw [emit_proc, modSent_proc, modProc_proc h]

/-! ## Samples -/

/-- What a raw sample does not change of a system. -/
def SensorSys.held (x : SensorSys) : HState × Nat × Bool × Int × Option Nat := (x.state, x.range, x.active, x.theta, x.unsetTil)

theorem switchRaw_held (x : SensorSys) (r : RawSample) : (x.switchRaw r).held = x.held := by
  unfold SensorSys.switchRaw
  split
  · rfl
  · rfl
  · split <;> rfl
  · rfl

theorem foldl_takeRaw_held (l : List RawSample) (x : SensorSys) : (l.foldl SensorSys.takeRaw x).held = x.held := by
  induction l generalizing x with
  | nil => rfl
  | cons r t ih => exact (ih _).trans (switchRaw_held x r)

theorem takeRaws_held (x : SensorSys) (e : EnvSample) : (x.takeRaws e).held = x.held := by
  refine (foldl_takeRaw_held e.raws _).trans ?_
  split <;> rfl

/-- A sample in the pulse detector leaves state, range, confirmation, word and signal as they are. -/
theorem detect_leaves (x : SensorSys) (p : SamplePt) (d rs clamp unset : Bool) :
    (x.detect p d rs clamp unset).state = x.state ∧ (x.detect p d rs clamp unset).range = x.range
      ∧ (x.detect p d rs clamp unset).active = x.active ∧ (x.detect p d rs clamp unset).word = x.word
      ∧ (x.detect p d rs clamp unset).y = x.y := by
  simp only [SensorSys.detect, apply_ite SensorSys.state, apply_ite SensorSys.range, apply_ite SensorSys.active,
    apply_ite SensorSys.word, apply_ite SensorSys.y, ite_self, and_self]

theorem unsettled_held {x z : SensorSys} (h : z.held = x.held) (f : HeadFeed) (us : Nat) : z.unsettled f us = x.unsettled f us := by
  simp only [SensorSys.held, Prod.mk.injEq] at h
  obtain ⟨h1, -, -, -, h5⟩ := h
  simp only [SensorSys.unsettled, h1, h5]

/-- A measured sample gives the linearised signal, and leaves what the detector leaves (R193). -/
theorem measure_leaves (x : SensorSys) (c : HeadCal) (sp : Sp) (ticks env : Nat) (clamp unset rs : Bool) (n : Nat) :
    (x.measure c sp ticks env clamp unset rs n).state = x.state ∧ (x.measure c sp ticks env clamp unset rs n).range = x.range
      ∧ (x.measure c sp ticks env clamp unset rs n).active = x.active ∧ (x.measure c sp ticks env clamp unset rs n).word = x.word
      ∧ (x.measure c sp ticks env clamp unset rs n).y =
        linear c sp (normal env (c.ratio sp x.rawRange)) ((x.theta - 25000000) * fx / 100000000) := by
  simp only [SensorSys.measure, detect_leaves, and_self]

/-- What one envelope sample makes of a system (R188 to R193). -/
theorem sample_spec (x : SensorSys) (c : HeadCal) (f : HeadFeed) (sp : Sp) (e : EnvSample) (n : Nat) :
    let r := x.takeRaws e
    let y := x.sample c f sp e n
    y.word = sampleWord r.rawRange (r.demod c sp) r.clampTag (x.unsettled f (tickUs e.ticks)) r.rangeStep
      ∧ (x.state = .off → y = { r with word := y.word, unsetTil := y.unsetTil })
      ∧ (x.state ≠ .off → y.y = linear c sp (normal (r.demod c sp) (c.ratio sp r.rawRange)) ((x.theta - 25000000) * fx / 100000000))
      ∧ (y.range = x.range ∧ y.state = x.state ∧ y.active = x.active) := by
  have hr : (x.takeRaws e).held = x.held := takeRaws_held x e
  have hu := unsettled_held hr f (tickUs e.ticks)
  simp only [SensorSys.held, Prod.mk.injEq] at hr
  obtain ⟨h1, h2, h3, h4, -⟩ := hr
  simp only [SensorSys.sample, hu, h1]
  generalize x.takeRaws e = r at *
  by_cases ho : x.state = .off
  · simp only [ho, beq_self_eq_true, if_true, h2, h3, ne_eq, not_true, false_imp_iff, and_self, implies_true]
  · simp only [beq_iff_eq, ho, if_false, measure_leaves, h2, h3, h4, ne_eq, not_false_eq_true, and_self, true_imp_iff,
      false_imp_iff]

/-! ## Rows -/

/-- A command that changes one system makes of it what it is then. -/
theorem sysRow_on {s : State} (hs : Supplied s) (sp : Sp) (head : Nat) (f : State → SensorSys → SensorSys) {y : SensorSys}
    (hy : f s.begin (s.sys sp head) = y) :
    (.next (s.live fun s => s.modSys sp head (f s)) : Host.Outcome State Fault Refusal) = .next (s.begin.modSys sp head fun _ => y) := by
  rw [row_on hs, modSys_const]
  exact congrArg (fun y => Host.Outcome.next (s.begin.modSys sp head fun _ => y)) hy

/-- A pulse starts when its candidate has held for three samples, at the stamp and the tag its samples give (R194, R195). -/
theorem pulseStart_iff (x : SensorSys) (t : W32) (rs : Bool) (n : Nat) :
    (!x.active && x.confirmed && x.edge.stamp n = t && x.edge.rs == rs) = true ↔
      x.active = false ∧ (∃ m, x.cand = some m ∧ 3 ≤ m) ∧ x.edge.stamp n = t ∧ x.edge.rs = rs := by
  simp only [SensorSys.confirmed, Bool.and_eq_true, Bool.not_eq_true', Bool.or_eq_true, Option.any_eq_true, decide_eq_true_eq,
    beq_iff_eq, and_assoc]
  constructor
  · rintro ⟨ha, hc | hc, he⟩
    · exact absurd hc (by simp [ha])
    · exact ⟨ha, hc, he⟩
  · rintro ⟨ha, hc, he⟩
    exact ⟨ha, .inr hc, he⟩

/-- The end of a pulse as PULSE_END takes it (R194, R195). -/
def State.endPulse (s : State) (sp : Sp) (head : Nat) (t : W32) (rs : Bool) (c : Crossing) : State :=
  if (s.sys sp head).active && 3 ≤ (s.sys sp head).endRun && c.stamp s.svc.ms = t && c.rs == rs then
    (s.modSys sp head fun x => { x with active := false, cand := none, endRun := 0, endEdge := none, lowRun := 0 }).sendRec sp 2
      (byteOf head) ((s.sys sp head).flags rs) 0 (s.sys sp head).start t
  else s

theorem exec_pulseEnd {s : State} (hs : Supplied s) (sp : Sp) (head : Nat) (t : W32) (rs : Bool) :
    exec (.pulseEnd sp head t rs) s = .next ((s.sys sp head).endEdge.elim s.begin (s.begin.endPulse sp head t rs)) := by
  refine (row_on hs _).trans ?_
  have h : s.begin.sys sp head = s.sys sp head := rfl
  simp only [h]
  cases (s.sys sp head).endEdge <;> rfl

/-- Settles O36: the samples, ranges, pulses and strobes of the wheel sensors. -/
theorem samplesPulsesAndStrobesAreRecorded : Obligations.SamplesPulsesAndStrobesAreRecorded := by
  refine ⟨fun s sp head loop e t hs hu => ?_, fun s sp head t rs hs hu => ?_⟩
  · intro x put c r th m
    have hcoil : exec (.coilMeasurement sp head loop t) s = .next (if th < -55000000 || 155000000 < th then m.faultFrom sp head 2 t else m) := by
      have hm : (s.begin.modSys sp head fun x =>
          { x with loop := loop, theta := th, rhoNew := x.rhoNew || usSince t x.rampEnd < 2 ^ 31 }) = m := modSys_const ..
      refine (row_on hs _).trans ?_
      rw [← hm]
      cases sp <;> rfl
    refine ⟨⟨x.sample c (s.feed head) sp e s.svc.ms, sysRow_on hs sp head _ rfl, ?_⟩, fun h => ?_, fun h => ?_,
      fun ha hc hr hl => ?_, fun h => ?_, fun h1 h2 => ?_, fun h => ?_⟩
    · exact sample_spec x c (s.feed head) sp e s.svc.ms
    · exact sysRow_on hs sp head _ (if_neg h)
    · exact sysRow_on hs sp head _ (if_pos h)
    · exact sysRow_on hs sp head _ (if_neg (by simpa [x, ha, hc] using And.intro hr hl))
    · exact sysRow_on hs sp head _ (if_pos (by
        simp only [Bool.or_eq_true, decide_eq_true_eq]
        exact h.elim (fun h => .inl (.inl (.inl h))) fun h => h.elim (fun h => .inl (.inr h)) .inr))
    · rw [hcoil, if_neg (by simp only [Bool.or_eq_true, decide_eq_true_eq]; omega)]
    · rw [hcoil, if_pos (by simpa only [Bool.or_eq_true, decide_eq_true_eq] using h)]
  · intro x p
    have hu' : s.begin.spUp sp = true := hu
    refine ⟨fun ha hc hst hrs => ⟨fun hl => ?_, ?_⟩, fun h => ?_, fun c ha he hc hst hrs => ?_, fun h => ?_, ?_, row_on hs _, fun k b f c u v => ?_⟩
    · exact modSys_sys (s := s.begin) hu hl _
    · exact (row_on hs _).trans (congrArg _ (if_pos ((pulseStart_iff x t rs _).mpr ⟨ha, hc, hst, hrs⟩)))
    · refine (row_on hs _).trans (congrArg _ (if_neg fun hp => ?_))
      obtain ⟨ha, ⟨m, hc, -⟩, hst, -⟩ := (pulseStart_iff x t rs _).mp hp
      obtain h | h | h := h
      · exact absurd h (by simp [ha])
      · exact absurd h (by simp [hc])
      · exact h hst
    · rw [exec_pulseEnd hs, show (s.sys sp head).endEdge = some c from hc]
      exact congrArg _ (if_pos (by simpa only [Bool.and_eq_true, decide_eq_true_eq, beq_iff_eq] using ⟨⟨⟨ha, he⟩, hst⟩, hrs⟩))
    · rw [exec_pulseEnd hs]
      cases he : x.endEdge with
      | none => rfl
      | some c =>
        refine congrArg _ (if_neg fun hp => ?_)
        simp only [Bool.and_eq_true, decide_eq_true_eq, and_assoc] at hp
        obtain ⟨ha, hr, -⟩ := hp
        obtain h | h | h := h
        · exact absurd (h.symm.trans ha) (by simp)
        · simp [he] at h
        · exact Nat.not_le.mpr h hr
    · refine (row_on hs _).trans (congrArg _ ((if_neg (by simp [hu'])).trans ?_))
      simp only [modProc_proc hu']
      rfl
    · rw [sendRec_proc hu]
      exact ⟨rfl, rfl⟩

end Sys2Proof.Machine
end

section
/-! PROOFS. The states of the sensor systems: what leads to a fault and out of it (O37), excitation commands and their loss (O38). -/
namespace Sys2Proof.Machine

theorem faultFrom_driven {s : State} {sp : Sp} {head : Nat} (hh : head < 16) (cause : Nat) (t : W32)
    (h : (s.sys sp head).state = .settling ∨ (s.sys sp head).state = .active ∨ (s.sys sp head).state = .interfered) :
    s.faultFrom sp head cause t = s.sysFault sp head cause t := by
  unfold State.faultFrom
  obtain h | h | h := h <;> rw [h] <;> exact if_pos hh

theorem faultFrom_off {s : State} {sp : Sp} {head : Nat} (h : (s.sys sp head).state = .off) (cause : Nat) (t : W32) :
    s.faultFrom sp head cause t = s := by
  unfold State.faultFrom
  rw [h]

/-- Settles O37: the states of a sensor system by the table of R198. -/
theorem systemStatesFollowTheirTable : Obligations.SystemStatesFollowTheirTable := by
  intro s sp head t mean hs hh x fault
  have hb : s.begin.sys sp head = x := rfl
  refine ⟨fun h => ⟨?_, ?_⟩, fun h => ?_, fun h h1 h2 => ?_, fun h => ⟨fun hc => ?_, fun hc => ?_⟩, fun h h1 => ?_,
    fun h hc hi hp h1 => ?_, fun h hr h1 h2 hm => ?_, fun h => ?_⟩
  · exact (row_on hs _).trans (congrArg _ (faultFrom_driven (s := s.begin) hh 3 t h))
  · exact (row_on hs _).trans (congrArg _ (faultFrom_driven (s := s.begin) hh 4 t h))
  · exact (row_on hs _).trans (congrArg _ (faultFrom_off (s := s.begin) h 3 t))
  · refine (row_on hs _).trans (congrArg _ ((if_pos ?_).trans (faultFrom_driven (s := s.begin) hh 1 t (.inl h))))
    simpa only [hb, h, beq_self_eq_true, Bool.true_and, Bool.and_eq_true, decide_eq_true_eq] using ⟨h1, h2⟩
  · refine (row_on hs _).trans (congrArg _ ?_)
    obtain h | h := h <;> simp only [hb, h] <;> exact if_pos (by simp [hh, hc])
  · refine (row_on hs _).trans (congrArg _ ?_)
    obtain h | h := h <;> simp only [hb, h] <;> exact if_neg (by simp [hc])
  · exact (row_on hs _).trans (congrArg _ (if_pos (by
      simpa only [hb, h, beq_self_eq_true, Bool.true_and, decide_eq_true_eq] using h1)))
  · have hi' : s.begin.col.isolated.contains (sysSrc sp head) = false := hi
    have hp' : s.begin.portFailed head = false := hp
    have hpos : (x.state == .fault && x.cause != 6 && !s.begin.col.isolated.contains (sysSrc sp head) && !s.begin.portFailed head
        && 5000000 ≤ usSince t x.causeUs) = true := by
      simp only [h, hi', hp', beq_self_eq_true, Bool.not_false, Bool.and_true, Bool.true_and, Bool.and_eq_true, bne_iff_ne,
        decide_eq_true_eq]
      exact ⟨hc, h1⟩
    exact ⟨fun hn => (row_on hs _).trans (congrArg _ ((if_pos hpos).trans (if_pos hn))),
      fun hn => (row_on hs _).trans (congrArg _ ((if_pos hpos).trans (if_neg (Nat.not_lt.mpr hn))))⟩
  · intro u hu
    refine (row_on hs _).trans (congrArg _ ((if_pos ?_).trans (if_neg ?_)))
    · simp only [hb, h, hr, hm, hh, beq_self_eq_true, decide_true, Bool.true_and, Bool.and_true, Bool.and_eq_true, decide_eq_true_eq]
      exact ⟨h1, h2⟩
    · simp only [Bool.and_eq_true, beq_iff_eq]
      exact fun hp => hu.elim (· hp.1) (· hp.2)
  · refine (row_on hs _).trans (congrArg _ (if_neg ?_))
    simp only [hb, Bool.and_eq_true, beq_iff_eq, decide_eq_true_eq]
    rintro ⟨⟨⟨⟨⟨-, hst⟩, -⟩, -⟩, -⟩, hmean⟩
    exact h.elim (· hst) (· hmean)

/-! ## Excitation commands -/

theorem offer_upd (s : State) (c : Ch) (p : Producer) (n : Nat) (f : Channel → Channel) : (s.offer c p n f).upd = s.upd := by
  unfold State.offer
  split
  · rfl
  · simp only []
    split
    · obtain ⟨-, -, -, -, -, -, -, -, -, hupd, -⟩ := raise_leaves s (chSrc c 0xC)
      exact hupd
    · cases c <;> rfl

theorem sendRec_spUp (s : State) (sp sq : Sp) (kind b5 flags b7 : Byte) (w8 w12 : W32) :
    (s.sendRec sp kind b5 flags b7 w8 w12).spUp sq = s.spUp sq := by
  unfold State.sendRec
  split
  · rfl
  · refine (congrArg (fun u : Update => !u.unbooted.contains (.sp sq)) ?_).trans 
      (modProc_spUp s sp sq fun p => { p with seq := ((s.proc sp).seq + 1) % 2 ^ 32 })
    simp only [State.putRec, Ch.all, List.foldl, offer_upd]
    cases sp <;> rfl

/-- What a new state of a system leaves of its processor (R198). -/
theorem sysTo_proc {s : State} {sp : Sp} (h : s.spUp sp = true) (head : Nat) (st : HState) (cause : Nat) (t : W32) :
    let u := s.sysTo sp head st cause t
    u.spUp sp = true ∧ (u.proc sp).agreedUs = (s.proc sp).agreedUs ∧ (u.proc sp).ka = (s.proc sp).ka
      ∧ (u.proc sp).sys = modNth (s.proc sp).sys head fun x =>
        { x with state := st, cause := cause, active := false, cand := none, endEdge := none } := by
  have h1 := (modProc_spUp s sp sp fun p => { p with sys := modNth p.sys head fun x =>
    { x with state := st, cause := cause, active := false, cand := none, endEdge := none } }).trans h
  have h2 := (modProc_spUp _ sp sp fun p => { p with lastUs := t }).trans h1
  simp only [State.sysTo, State.headRec, State.modSys, sendRec_spUp, sendRec_proc h2, modProc_proc h1, modProc_proc h, h2, and_self]

/-- Every excitation of a processor stopped, as at the loss of its keep-alives, head by head (R187). -/
def State.stopHead (s : State) (sp : Sp) (t : W32) (h : Nat) : State :=
  (s.stopSys sp h t).modFeed h fun f => { f with drive := .none }

/-- A stopped system is `OFF`, and what the others are they stay. -/
theorem stopHead_proc {s : State} {sp : Sp} (hu : s.spUp sp = true) (t : W32) (h : Nat) :
    let u := s.stopHead sp t h
    u.spUp sp = true ∧ (u.proc sp).agreedUs = (s.proc sp).agreedUs ∧ (u.proc sp).ka = (s.proc sp).ka
      ∧ (u.proc sp).sys.length = (s.proc sp).sys.length ∧ (h < (s.proc sp).sys.length → (u.sys sp h).state = .off)
      ∧ ∀ k, (s.sys sp k).state = .off → (u.sys sp k).state = .off := by
  have hf : ∀ w : State, (w.modFeed h fun f => { f with drive := .none }).proc sp = w.proc sp := fun w => by cases sp <;> rfl
  simp only [State.stopHead, State.sys, hf]
  by_cases ho : (s.sys sp h).state = .off
  · rw [State.stopSys, if_pos (by simp [ho])]
    exact ⟨hu, rfl, rfl, rfl, fun _ => ho, fun _ hk => hk⟩
  · rw [State.stopSys, if_neg (by simpa using ho)]
    have h1 : (s.modSys sp h fun x => { x with exc := false }).spUp sp = true := (modProc_spUp ..).trans hu
    obtain ⟨tu, ta, tk, ts⟩ := sysTo_proc h1 h .off 0 t
    have hp : (s.modSys sp h fun x => { x with exc := false }).proc sp =
      { s.proc sp with sys := modNth (s.proc sp).sys h fun x => { x with exc := false } } := modProc_proc hu _
    rw [hp, modNth_modNth] at ts
    rw [hp] at ta tk
    rw [ts]
    refine ⟨tu, ta, tk, modNth_length .., fun hl => ?_, fun k hk => ?_⟩
    · rw [modNth_getD _ _ _ hl]
      rfl
    · by_cases he : k = h
      · exact absurd (he ▸ hk) ho
      · rw [modNth_getD_ne _ _ _ _ _ he]
        exact hk

/-- The heads of a list stopped one by one are `OFF`. -/
theorem foldl_stopHead (l : List Nat) {s : State} {sp : Sp} (hu : s.spUp sp = true) (t : W32) :
    let u := l.foldl (fun s h => s.stopHead sp t h) s
    (u.proc sp).agreedUs = (s.proc sp).agreedUs ∧ (u.proc sp).ka = (s.proc sp).ka
      ∧ (∀ h ∈ l, h < (s.proc sp).sys.length → (u.sys sp h).state = .off)
      ∧ ∀ k, (s.sys sp k).state = .off → (u.sys sp k).state = .off := by
  induction l generalizing s with
  | nil => exact ⟨rfl, rfl, by simp, fun _ h => h⟩
  | cons a l ih =>
    obtain ⟨tu, ta, tk, tl, toff, tkeep⟩ := stopHead_proc hu t a
    obtain ⟨ua, uk, uoff, ukeep⟩ := ih tu
    refine ⟨ua.trans ta, uk.trans tk, fun h hm hl => ?_, fun k hk => ukeep k (tkeep k hk)⟩
    obtain rfl | hm := List.mem_cons.mp hm
    · exact ukeep h (toff hl)
    · exact uoff h hm (tl.symm ▸ hl)

/-- Settles O38: an excitation command acts with two channels, and stops when none agrees. -/
theorem excitationNeedsTwoChannels : Obligations.ExcitationNeedsTwoChannels := by
  intro s sp ch cmd t a hs hu live
  have hu' : s.begin.spUp sp = true := hu
  have hka : exec (.keepaliveCommand sp ch cmd t) s = .next (s.begin.keepAlive sp ch cmd t) :=
    (row_on hs _).trans (congrArg _ (if_pos hu'))
  refine ⟨fun h => ?_, fun ⟨k, hk, hne, heq⟩ => ?_, fun ha hl => ?_, fun ha hl => ?_⟩
  · rw [hka]
    refine congrArg _ ((if_neg ?_).trans (modProc_modProc ..))
    simp only [List.any_eq_true, Bool.and_eq_true, bne_iff_ne, decide_eq_true_eq, not_exists, not_and]
    exact fun k hk hne heq => (h k hk).elim hne (· heq)
  · rw [hka]
    refine congrArg _ ((if_pos (List.any_eq_true.mpr ⟨k, hk, by simp [hne, heq]⟩)).trans ?_)
    rw [modProc_modProc]
    rfl
  · let w := s.begin.modProc sp fun p => { p with ka := [], agreedUs := none, lastUs := t }
    have hw : w.spUp sp = true := (modProc_spUp ..).trans hu
    have hwp : w.proc sp = { s.proc sp with ka := [], agreedUs := none, lastUs := t } := modProc_proc hu' _
    have hloss : s.begin.kaLoss sp t = (List.range 16).foldl (fun s h => s.stopHead sp t h) w := by
      have ha' : (s.begin.proc sp).agreedUs = some a := ha
      simp only [State.kaLoss, ha']
      exact if_neg (Nat.not_lt.mpr hl)
    obtain ⟨hpend, -⟩ := kaLoss_kept s.begin sp t
    obtain ⟨ua, uk, uoff, -⟩ := foldl_stopHead (List.range 16) hw t
    rw [hwp] at ua uk uoff
    refine ⟨_, (row_on hs _).trans (congrArg _ hloss), ua, uk, hloss ▸ hpend, fun h hh hl => uoff h (List.mem_range.mpr hh) hl⟩
  · refine (row_on hs _).trans (congrArg _ ?_)
    have ha' : (s.begin.proc sp).agreedUs = some a := ha
    simp only [State.kaLoss, ha']
    exact if_pos hl

end Sys2Proof.Machine
end

section
/-! PROOFS. The dual feed: doubling, unlocked drives, joining (O39). -/
namespace Sys2Proof.Machine

theorem isRef_feed {s : State} {head : Nat} (hl : head < s.sens.feeds.length) : s.isRef head =
    ((s.feed head).drive != .none && (s.feed head).drive != .joining && (!(s.feed head).partner || s.kernel.twin.role ≤ 1)) := by
  simp [State.isRef, State.feed, List.getElem?_eq_getElem hl, List.getD_eq_getElem?_getD]

theorem double_half {s : State} {head : Nat} (hd : s.dualFed head = true) (t : W32) (h : (s.feed head).drive = .half)
    (hp : (s.feed head).partner = false) (hs : (s.feed head).suppress = false) :
    s.double head t = ((s.modFeed head fun f => { f with drive := .full, ramp := none }).stepRecs head 1 t).unsettle head t 2000 :=
  if_pos (by simp [hd, h, hp, hs])

theorem double_other {s : State} {head : Nat} (t : W32) (h : (s.feed head).drive ≠ .half) : s.double head t = s :=
  if_neg (by simp [h])

theorem stopUnlocked_stops {s : State} {head : Nat} (hd : s.dualFed head = true) (t : W32) (h : (s.feed head).drive ≠ .none)
    (hl : (s.feed head).locked = false) (hr : s.isRef head = false) :
    s.stopUnlocked head t = ((s.stopSys .x head t).stopSys .y head (s.timeOf .y t)).modFeed head fun f =>
      { f with drive := .none, ramp := none } :=
  if_pos (by simp [hd, h, hl, hr])

theorem stopUnlocked_drives {s : State} {head : Nat} (t : W32)
    (h : (s.feed head).drive = .none ∨ (s.feed head).locked = true ∨ s.isRef head = true) : s.stopUnlocked head t = s := by
  refine if_neg ?_
  obtain h | h | h := h <;> simp [h]

theorem dualFed_head {s : State} {head : Nat} (h : s.dualFed head = true) :
    ((s.dat.head head).any fun h => h.kind == 0 && bitAt h.flags 0) = true := by
  unfold State.dualFed State.localHead at h
  by_cases hh : head < 16
  · rw [if_pos hh] at h
    cases hd : s.dat.head head with
    | none => simp [hd] at h
    | some r =>
      cases hk : r.kind == 0 <;> simp [hd, Option.filter, hk] at h ⊢
      exact h
  · simp [hh] at h

theorem joinHead_asks {s : State} {head : Nat} (hd : s.dualFed head = true) (h : (s.feed head).drive = .none)
    (hl : (s.feed head).locked = true) (hr : s.kernel.twin.role = 1 ∨ s.kernel.twin.role = 3) :
    s.joinHead head = (s.modFeed head fun f => { f with drive := .joining }).emit (.joinRequest head) := by
  refine if_pos ?_
  rw [dualFed_head hd]
  simp only [State.feed] at h hl
  simp only [h, hl, beq_self_eq_true, Bool.true_and, Bool.and_true, Bool.or_eq_true, beq_iff_eq]
  exact hr

/-- Settles O39: how two modules share the drive of a dual-fed head. -/
theorem dualFeedSharesTheDrive : Obligations.DualFeedSharesTheDrive := by
  intro s head t hs hd hl f put stop idle
  have hput : ∀ g : HeadFeed → HeadFeed, s.begin.modFeed head g = put (g f) := fun g => modFeed_const ..
  have hfeed : ∀ g, (put g).feed head = g := fun g => modFeed_feed (s := s.begin) hl _
  have hdual : ∀ g, (put g).dualFed head = true := fun _ => hd
  have href : ∀ g : HeadFeed, (put g).isRef head =
      (g.drive != .none && g.drive != .joining && (!g.partner || s.kernel.twin.role ≤ 1)) := fun g => by
    rw [isRef_feed (s := put g) (by simpa [put, State.modFeed] using hl), hfeed]
    rfl
  have hrefs : s.isRef head = (f.drive != .none && f.drive != .joining && (!f.partner || s.kernel.twin.role ≤ 1)) := isRef_feed hl
  refine ⟨fun h hsup => ?_, fun h => ?_, fun h => ?_, fun h hlk hj => ?_, fun h => ?_, fun hr h => ?_, fun h hr => ?_,
    fun hr h hx hy => ?_, ?_, fun h => ?_, fun h => ?_⟩
  · refine (row_on hs _).trans (congrArg _ ?_)
    rw [hput, double_half (hdual _) t (by rw [hfeed]; exact h) (by rw [hfeed]) (by rw [hfeed]; exact hsup)]
    exact congrArg (fun u : State => (u.stepRecs head 1 t).unsettle head t 2000) (modFeed_modFeed ..)
  · refine (row_on hs _).trans (congrArg _ ?_)
    rw [hput, double_other t (by rw [hfeed]; exact h)]
  · refine (row_on hs _).trans (congrArg _ ((if_pos hd).trans ?_))
    rw [hput, stopUnlocked_drives]
    rw [hfeed, href]
    obtain h | h | ⟨hj, hr⟩ := h
    · exact .inl h
    · exact .inr (.inl h)
    · by_cases hn : f.drive = .none
      · exact .inl hn
      · exact .inr (.inr (by simp [hn, hj, hr]))
  · refine (row_on hs _).trans (congrArg _ ((if_pos hd).trans ?_))
    rw [hput, stopUnlocked_stops (hdual _) _ (by rw [hfeed]; exact h) (by rw [hfeed]; exact hlk)]
    · rfl
    · rw [href]
      obtain hj | hj := hj
      · simp [hj]
      · simp [Nat.not_le.mpr hj]
  · refine (row_on hs _).trans (congrArg _ ?_)
    rw [hput, stopUnlocked_drives]
    rw [hfeed, href]
    exact h.elim (fun h => .inr (.inr (hrefs.symm.trans h))) .inl
  · refine (row_on hs _).trans (congrArg _ ?_)
    rw [hput, stopUnlocked_stops (hdual _) _ (by rw [hfeed]; exact h) (by rw [hfeed])]
    · rfl
    · rw [href]
      exact hrefs.symm.trans hr
  · refine (row_on hs _).trans (congrArg _ ?_)
    rw [hput]
    rw [joinHead_asks (hdual _) (by rw [hfeed]; exact h) (by rw [hfeed]) hr]
    exact congrArg (fun u : State => u.emit (.joinRequest head)) (modFeed_modFeed ..)
  · refine (row_on hs _).trans (congrArg _ ((if_pos ?_).trans ?_))
    · have hb : s.begin.dualFed head = true ∧ s.begin.isRef head = true ∧ (s.begin.feed head).drive = .full := ⟨hd, hr, h⟩
      have hsx : ∀ sp, s.begin.sys sp head = s.sys sp head := fun _ => rfl
      obtain ⟨hx1, hx2⟩ := hx
      obtain ⟨hy1, hy2⟩ := hy
      simp [hb, hsx, hx1, hx2, hy1, hy2]
    · rw [hput]
      rfl
  · exact (row_on hs _).trans (congrArg _ (if_neg (by simp)))
  · refine (row_on hs _).trans (congrArg _ ((if_pos (beq_iff_eq.mpr h)).trans ?_))
    rw [hput]
  · refine (row_on hs _).trans (congrArg _ ((if_neg fun hp => h (beq_iff_eq.mp hp)).trans ?_))
    rw [hput]

end Sys2Proof.Machine
end

section
/-! PROOFS. The field banks: supply and pump (O40), the lines (O41), the configuration (O42), inputs and outputs (O43), the
frames of the barrier (O44). -/
namespace Sys2Proof.Machine

/-! ## Voting -/

/-- A command that changes one bank, once it has started, makes of it what it is then. -/
theorem bankRow_on {s : State} {bk : Bank} (hs : Supplied s) (hu : s.bankUp bk = true) (f : BankHw → BankHw) :
    (.next (s.live fun s => s.modHw bk f) : Host.Outcome State Fault Refusal) = .next (s.bankTo bk (f (s.hw bk)) []) :=
  congrArg _ (bank_row hs hu f)

theorem bankRow_to {s : State} {bk : Bank} {b : BankHw} (hs : Supplied s) (hu : s.bankUp bk = true) (f : BankHw → BankHw)
    (hb : f (s.hw bk) = b) : (.next (s.live fun s => s.modHw bk f) : Host.Outcome State Fault Refusal) = .next (s.bankTo bk b []) :=
  hb ▸ bankRow_on hs hu f

/-- With power the switches follow the voters but where a current limit holds them open (R66, R222). -/
theorem revote_powered {b : BankHw} (hc : b.config = false) (hp : b.pumpReady = true) (hu : b.ufCut = false) :
    b.revote.pSw = b.revote.voteP &&& ~~~(b.pOpen &&& b.revote.voteP)
      ∧ b.revote.mSw = b.revote.voteM &&& ~~~(b.mOpen &&& b.revote.voteM) := by
  rw [revote_voteP, revote_voteM]
  have h : b.powered = true := by simp [BankHw.powered, hc, hp, hu]
  exact ⟨if_pos h, if_pos h⟩

/-- A cut supply opens every vital switch (R221). -/
theorem revote_cut {b : BankHw} (hu : b.ufCut = true) : b.revote.pSw = 0 ∧ b.revote.mSw = 0 := by
  have h : ¬ b.powered = true := by simp [BankHw.powered, hu]
  exact ⟨if_neg h, if_neg h⟩

/-- Settles O40: the flags and the switches of a bank follow its supply and its pump. -/
theorem bankFlagsAndSwitchesFollowSupply : Obligations.BankFlagsAndSwitchesFollowSupply := by
  refine ⟨fun s bk ch below chk hs => ⟨fun hu => ⟨bankRow_on hs hu _, bankRow_on hs hu _, ?_, ?_⟩, fun hu => ⟨?_, ?_, ?_, ?_⟩⟩,
    fun s bk hs hu => ⟨⟨_, bankRow_on hs hu _, rfl, ?_, ?_, revote_line _, rfl⟩, ⟨_, bankRow_on hs hu _, rfl, revote_line _, rfl, ?_⟩,
      fun he => ⟨(BankHw.revote { s.hw bk with pumpReady := true }), ?_, rfl, revote_line _, rfl, ?_⟩, fun he => ?_⟩⟩
  · cases chk <;> exact bankRow_on hs hu _
  · refine (bankRow_on hs hu _).trans ?_
    cases ch <;> rfl
  · exact congrArg _ (bank_row_off hs hu _)
  · exact congrArg _ (bank_row_off hs hu _)
  · exact congrArg _ (bank_row_off hs hu _)
  · exact congrArg _ (bank_row_off hs hu _)
  · exact (revote_cut rfl).1
  · exact (revote_cut rfl).2
  · exact fun hc hp => revote_powered (b := { s.hw bk with ufCut := false }) hc hp rfl
  · exact bankRow_to hs hu _ (if_pos he)
  · exact fun hc hu => revote_powered (b := { s.hw bk with pumpReady := true }) hc rfl hu
  · exact bankRow_to hs hu _ (if_pos he)

/-! ## Lines -/

/-- A bank with a line changed, its pump checked and its voters asked (R66, R68). -/
def BankHw.relined (b : BankHw) (ch : Ch) (g : BankLine → BankLine) : BankHw :=
  BankHw.revote (BankHw.pump { b with lines := b.lines.modify ch g })

theorem relined_line (b : BankHw) (ch : Ch) (g : BankLine → BankLine) :
    (b.relined ch g).lines.get ch = (g (b.lines.get ch)).echoed := by
  rw [BankHw.relined, revote_line, pump_lines, Quad.get_modify_same]

theorem relined_line_ne (b : BankHw) {ch c : Ch} (g : BankLine → BankLine) (h : c ≠ ch) :
    (b.relined ch g).lines.get c = (b.lines.get c).echoed := by
  rw [BankHw.relined, revote_line, pump_lines, Quad.get_modify_ne _ _ _ _ h]

/-- A bank with a line changed and its voters asked (R66). -/
def BankHw.revoted (b : BankHw) (ch : Ch) (g : BankLine → BankLine) : BankHw := BankHw.revote { b with lines := b.lines.modify ch g }

theorem revoted_line (b : BankHw) (ch : Ch) (g : BankLine → BankLine) :
    (b.revoted ch g).lines.get ch = (g (b.lines.get ch)).echoed := by
  rw [BankHw.revoted, revote_line, Quad.get_modify_same]

theorem revoted_line_ne (b : BankHw) {ch c : Ch} (g : BankLine → BankLine) (h : c ≠ ch) :
    (b.revoted ch g).lines.get c = (b.lines.get c).echoed := by
  rw [BankHw.revoted, revote_line, Quad.get_modify_ne _ _ _ _ h]

/-- A good frame is its line's latest, and the line echoes it while its enable is valid (R209). -/
theorem echoed_fresh_frame (l : BankLine) (f : CmdFrame) (e : Bool) :
    BankLine.echo (BankLine.echoed { l with cmd := some f, fresh := true, fault := e }) = if l.enable then f.seq else l.echo := by
  cases l.enable <;> simp [BankLine.echoed, BankLine.counted]

/-- A test that two lines request of an output the voters hold on starts (R224). -/
theorem testStep_starts {b : BankHw} {i : Nat} (ht : b.test = none) (hr : b.testStep.request = some i)
    (hp : b.testStep.pSw.getLsbD i = true) (hm : b.testStep.mSw.getLsbD i = true) :
    b.testStep.test = some ⟨i, b.lastP, b.lastM, false, 0⟩ := by
  rw [testStep_request] at hr
  obtain ⟨h1, h2⟩ := testStep_switches b
  rw [h1] at hp
  rw [h2] at hm
  simp [BankHw.testStep, BankHw.startTest, ht, hr, hp, hm]

/-- Settles O41: what the lines of a bank count, and what a frame on them does. -/
theorem bankLinesTakeFreshEnabledFrames : Obligations.BankLinesTakeFreshEnabledFrames := by
  refine ⟨fun s bk ch halfUs hs hu => ⟨fun h1 h2 => ?_, fun h => ?_, ?_, ?_⟩, fun s bk ch f hs hu => ⟨fun hc ht hte hsrc hb => ?_,
    fun hc => ?_, fun hc h => ?_⟩⟩
  · refine ⟨_, bankRow_on hs hu _, ?_, ?_, fun c hc => relined_line_ne _ _ hc, fun he => (pump_off _ he).2, pump_voted _ _⟩
    · exact (congrArg BankLine.halves (relined_line ..)).trans (by simp [h1, h2])
    · exact (congrArg (BankLine.enable · = true) (relined_line ..)).to_iff.trans (by simp [h1, h2])
  · have hn : ¬ (40 ≤ halfUs && halfUs ≤ 60) = true := by simp; omega
    refine ⟨_, bankRow_on hs hu _, ?_, ?_, fun c hc => relined_line_ne _ _ hc, fun he => (pump_off _ he).2, pump_voted _ _⟩
    · exact (congrArg BankLine.halves (relined_line ..)).trans (by rw [if_neg hn, echoed_halves])
    · exact (congrArg BankLine.enable (relined_line ..)).trans (by rw [if_neg hn, echoed_enable])
  · refine ⟨_, bankRow_on hs hu _, ?_, ?_, fun c hc => relined_line_ne _ _ hc, fun he => pump_off _ he, pump_voted _ _⟩
    · exact (congrArg BankLine.halves (relined_line ..)).trans (echoed_halves _)
    · exact (congrArg BankLine.enable (relined_line ..)).trans (echoed_enable _)
  · refine ⟨_, bankRow_on hs hu _, ?_, ?_, fun c hc => revoted_line_ne _ _ hc, rfl⟩
    · exact (congrArg BankLine.fresh (revoted_line ..)).trans (echoed_fresh _)
    · exact (congrArg BankLine.counted (revoted_line ..)).trans (echoed_counted _)
  · let b := ((s.hw bk).revoted ch fun l => { l with cmd := some f, fresh := true, fault := l.fault || !(CmdFrame.railsOk f) }).testStep
    have hrow : exec (.commandFrameReceive bk ch f) s = .next (s.bankTo bk b []) := by
      refine bankRow_to hs hu _ ?_
      rw [BankHw.takeFrame, if_neg (by simp [hc]), if_neg (by simp [ht, hsrc, hb, hte])]
      rfl
    have hl : b.lines = ((s.hw bk).revoted ch _).lines := testStep_lines _
    refine ⟨b, hrow, ?_, ?_, ?_, fun i hn hr hp hm => testStep_starts hn hr hp hm, fun c hne => ?_, revote_testStep_voted _ _⟩
    · rw [hl, revoted_line, echoed_cmd]
    · rw [hl, revoted_line, echoed_fresh]
    · rw [hl, revoted_line, echoed_fresh_frame]
    · rw [hl, revoted_line_ne _ _ hne]
  · refine ⟨(s.hw bk).badFrame ch, ?_, ?_, ?_, fun c hne => revoted_line_ne _ _ hne, rfl⟩
    · exact bankRow_to hs hu _ (if_pos (by simp [hc]))
    · exact (congrArg BankLine.fault (revoted_line ..)).trans (echoed_fault _)
    · exact (congrArg BankLine.fresh (revoted_line ..)).trans (echoed_fresh _)
  · refine bankRow_to hs hu _ ?_
    rw [BankHw.takeFrame, if_neg (by simp [hc]), if_pos (by simpa [or_assoc] using h)]

/-! ## Configuration -/

/-- A good configuration frame of its own line and bank, in CONFIG (R213). -/
theorem takeConfig_item {b : BankHw} {own : Nat} {ch : Ch} {f : CfgFrame} (hc : CfgFrame.crcOk f = true) (hb : b.config = true)
    (ht : f.typ = 2) (hte : f.test.toNat < 2) (hsrc : f.src.toNat = ch.idx) (hown : f.bank.toNat = own) (hi : f.item ≠ 0xFF)
    (hok : cfgItemOk f.item.toNat = true) (h : ∃ x ∈ b.offers, x.1 ≠ ch ∧ x.2 = ⟨f.item, f.v0, f.v1, f.v2⟩) :
    (⟨f.item, f.v0, f.v1, f.v2⟩ : CfgItem) ∈ (b.takeConfig own ch f).items ∧ (b.takeConfig own ch f).config = true := by
  obtain ⟨x, hx, hne, he⟩ := h
  have hany : ((ch, (⟨f.item, f.v0, f.v1, f.v2⟩ : CfgItem)) :: b.offers.filter fun x => !(x.1 = ch && x.2.item = f.item)).any
      (fun x => x.1 != ch && decide (x.2 = ⟨f.item, f.v0, f.v1, f.v2⟩)) = true :=
    List.any_eq_true.mpr ⟨x, List.mem_cons_of_mem _ (List.mem_filter.mpr ⟨hx, by simp [hne]⟩), by simp [hne, he]⟩
  rw [BankHw.takeConfig, if_neg (by simp [hc]), if_neg (by simp [hb, ht, hsrc, hown, hte]), if_neg hi, if_neg (by simp [hok])]
  simp only [hany, if_true]
  exact ⟨List.mem_cons_self .., hb⟩

/-- A list with an entry beside another one is two long. -/
theorem two_le_length {α : Type} {l : List α} {x y : α} (hx : x ∈ l) (hy : y ∈ l) (h : x ≠ y) : 2 ≤ l.length := by
  match l, hx, hy with
  | [a], hx, hy => exact absurd ((List.mem_singleton.mp hx).trans (List.mem_singleton.mp hy).symm) h
  | _ :: _ :: _, _, _ => simp

/-- The second COMMIT with every item held ends CONFIG (R213). -/
theorem takeConfig_commit {b : BankHw} {own : Nat} {ch : Ch} {f : CfgFrame} (hc : CfgFrame.crcOk f = true) (hb : b.config = true)
    (ht : f.typ = 2) (hte : f.test.toNat < 2) (hsrc : f.src.toNat = ch.idx) (hown : f.bank.toNat = own) (hi : f.item = 0xFF)
    (h0 : f.v0 = 28) (h1 : f.v1 = 0) (h2 : f.v2 = 0) (hl : b.items.length = 28) (h : ∃ x ∈ b.commits, x ≠ ch) :
    (b.takeConfig own ch f).config = false ∧ (b.takeConfig own ch f).items = b.items := by
  obtain ⟨x, hx, hne⟩ := h
  have hlen : 2 ≤ (if b.commits.contains ch then b.commits else ch :: b.commits).length := by
    split
    · rename_i hm
      exact two_le_length hx (List.contains_iff_mem.mp hm) hne
    · exact two_le_length (List.mem_cons_of_mem _ hx) (List.mem_cons_self ..) hne
  rw [BankHw.takeConfig, if_neg (by simp [hc]), if_neg (by simp [hb, ht, hsrc, hown, hte]), if_pos hi,
    if_neg (by simp [h0, h1, h2, cfgItemCount])]
  simp only [hlen, hl, cfgItemCount, decide_true, Bool.and_self, if_true]
  exact ⟨rfl, rfl⟩

/-- Settles O42: a bank configuration needs two lines. -/
theorem bankConfigurationNeedsTwoLines : Obligations.BankConfigurationNeedsTwoLines := by
  intro s bk ch f hs hu hc ht hte hsrc hown
  refine ⟨fun hb hi hok h => ⟨_, bankRow_on hs hu _, takeConfig_item hc hb ht hte hsrc hown hi hok h⟩,
    fun hb hi h0 h1 h2 hl h => ⟨_, bankRow_on hs hu _, takeConfig_commit hc hb ht hte hsrc hown hi h0 h1 h2 hl h⟩,
    fun hi h => bankRow_to hs hu _ ?_, fun hb => bankRow_to hs hu _ ?_⟩
  · have hv : (f.v0.toNat != cfgItemCount || f.v1 != 0 || f.v2 != 0) = true := by
      have h28 : f.v0.toNat = 28 → f.v0 = 28 := fun h => BitVec.eq_of_toNat_eq h
      simp only [Bool.or_eq_true, bne_iff_ne, cfgItemCount, or_assoc]
      exact h.imp_left (mt h28)
    rw [BankHw.takeConfig, if_neg (by simp [hc]), if_pos hi, if_pos hv, ite_self]
  · rw [BankHw.takeConfig, if_neg (by simp [hc]), if_pos (by simp [hb])]

/-! ## Inputs and outputs -/

/-- A switch that its current limit opens is open (R222). -/
theorem opened_off (p o : Byte) {n : Nat} (hn : n < 8) : (p &&& ~~~(setBit o n true &&& p)).getLsbD n = false := by
  simp only [BitVec.getLsbD_and, BitVec.getLsbD_not, setBit_getLsbD o n true n hn hn, if_true, Bool.true_and, hn, decide_true]
  exact Bool.and_not_self _

theorem revote_pOpen (b : BankHw) {n : Nat} (hn : n < 8) :
    (BankHw.revote { b with pOpen := setBit b.pOpen n true }).pSw.getLsbD n = false := by
  simp only [BankHw.revote]
  split
  · exact opened_off _ _ hn
  · exact BitVec.getLsbD_zero

theorem revote_mOpen (b : BankHw) {n : Nat} (hn : n < 8) :
    (BankHw.revote { b with mOpen := setBit b.mOpen n true }).mSw.getLsbD n = false := by
  simp only [BankHw.revote]
  split
  · exact opened_off _ _ hn
  · exact BitVec.getLsbD_zero

/-- Settles O43: the inputs and the outputs of a bank. -/
theorem bankInputsAndOutputsAct : Obligations.BankInputsAndOutputsAct := by
  refine ⟨fun s bk inp h hs hu h1 h24 => ?_, fun s bk hs hu => ⟨fun out ho hb => ?_, fun out h1 h4 hc hv => ⟨fun x hx hne => ?_, fun x hx he => ?_⟩⟩⟩
  · have hin : inRange inp = true := by simp [inRange, h1, h24]
    refine ⟨fun hf hd => ?_, fun hf p => bankRow_to hs hu _ (if_pos ?_), fun hf => ⟨fun hw => bankRow_to hs hu _ (if_pos (by simp [hw, hf])),
      bankRow_to hs hu _ (if_pos (by simp [hin, hf]))⟩, fun w i v hi => setBit_getLsbD w _ v i hi (by omega), fun src carrying hp => bankRow_to hs hu _ ?_⟩
    · have hneg : ¬ (!inRange inp || (s.hw bk).frozen (inp - 1) || h.heldUs < (s.hw bk).debounceUs (inp - 1)) = true := by
        simp [hin, hf, hd]
      exact ⟨bankRow_to hs hu _ (if_neg hneg), bankRow_to hs hu _ (if_neg hneg), bankRow_to hs hu _ (if_neg hneg)⟩
    · obtain hf | hf := hf <;> simp [hf]
    · rw [hp, List.foldl_cons, List.foldl_nil, Nat.sub_add_cancel h1]
  · subst hb
    have hn : out % 8 < 8 := Nat.mod_lt _ (by decide)
    exact ⟨⟨_, (row_on hs _).trans (congrArg _ ((if_neg (by omega)).trans (begin_modHw hu _))), revote_pOpen _ hn, revote_line _⟩,
      ⟨_, (row_on hs _).trans (congrArg _ ((if_neg (by omega)).trans (begin_modHw hu _))), revote_mOpen _ hn, revote_line _⟩⟩
  · refine bankRow_to hs hu _ ((if_neg ?_).trans ?_)
    · simp [hc, hv]; omega
    · simp only [hx]
      exact if_neg hne
  · refine bankRow_to hs hu _ ((if_neg ?_).trans ?_)
    · simp [hc, hv]; omega
    · simp only [hx]
      exact if_pos he

/-! ## Frames of the barrier -/

theorem bankTo_modHw {s : State} {bk : Bank} (hu : s.bankUp bk = true) (b : BankHw) (o : List Out) (f : BankHw → BankHw) :
    (s.bankTo bk b o).modHw bk f = s.bankTo bk (f b) o := by
  have h : (s.bankTo bk b o).bankUp bk = true := hu
  rw [State.modHw, if_pos h]
  simp [State.bankTo, quad_modify_eq]

/-- Settles O44: the frames between the banks and the channels. -/
theorem barrierFramesGoOutAndAreLatched : Obligations.BarrierFramesGoOutAndAreLatched := by
  intro s i bk ch f hs
  refine ⟨fun hu => ?_, fun hc ht hd hb => ?_, fun h => ?_, fun hm he hr => ?_⟩
  · have hu' : s.begin.bankUp i.bank = true := hu
    intro b x
    refine ⟨(row_on hs _).trans (congrArg _ ((if_neg (by simp [hu'])).trans ?_)), testSent_last b x⟩
    rw [begin_modHw hu]
    simp only [bankTo_hw]
    exact bankTo_modHw hu _ _ _
  · refine (row_on hs _).trans (congrArg _ ((if_pos (by simp [hc, ht, hd, hb])).trans ?_))
    cases ch <;> rfl
  · refine (row_on hs _).trans (congrArg _ (if_neg ?_))
    simp only [Bool.and_eq_true, decide_eq_true_eq, and_assoc]
    rintro ⟨hc, ht, hd, hb⟩
    obtain h | h | h | h := h
    · exact absurd hc (by simp [h])
    · exact h ht
    · exact h hd
    · exact h hb
  · refine (row_on hs _).trans (congrArg _ ((if_pos (by simp [State.runs, hm, he, hr])).trans ?_))
    simp only [begin_modCh, chTo_ch]
    rfl

end Sys2Proof.Machine
end

section
/-! PROOFS. The two networks: the switch and the addresses (O45), the PTP clocks (O46). -/
namespace Sys2Proof.Machine

/-! ## One network -/

theorem modNet_side (s : State) (net : Net) (f : NetSide → NetSide) : (s.modNet net f).nets.side net = f (s.nets.side net) := by
  cases net <;> rfl

/-- Two changes of a network that come to the same on it. -/
theorem modNet_congr {s : State} {net : Net} {f g : NetSide → NetSide} (h : f (s.nets.side net) = g (s.nets.side net)) :
    s.modNet net f = s.modNet net g := by
  cases net
  · exact congrArg (fun x => { s with nets := { s.nets with a := x } }) h
  · exact congrArg (fun x => { s with nets := { s.nets with b := x } }) h

/-- A change that leaves the network as it is leaves the state as it is. -/
theorem modNet_self {s : State} {net : Net} {f : NetSide → NetSide} (h : f (s.nets.side net) = s.nets.side net) :
    s.modNet net f = s := by
  refine (modNet_congr (g := id) h).trans ?_
  cases net <;> rfl

/-! ## The switch -/

theorem learn_ports (n : NetSide) (mac port now : Nat) :
    (n.learn mac port now).port1 = n.port1 ∧ (n.learn mac port now).port2 = n.port2 := by
  unfold NetSide.learn
  simp only []
  split <;> exact ⟨rfl, rfl⟩

/-- An address that a table with room learns has one entry, the newest (R261). -/
theorem learn_learned {n : NetSide} {mac : Nat} (port now : Nat) (hm : bitAt mac 40 = false) (hl : n.macs.length < 1024) :
    (⟨mac, port, now⟩ : MacEntry) ∈ (n.learn mac port now).macs
      ∧ ∀ x ∈ (n.learn mac port now).macs, x.mac = mac → x = ⟨mac, port, now⟩ := by
  have hrest : (n.macs.filter (·.mac != mac)).length < 1024 := Nat.lt_of_le_of_lt (List.length_filter_le ..) hl
  have h : (n.learn mac port now).macs = n.macs.filter (·.mac != mac) ++ [⟨mac, port, now⟩] := by
    simp only [NetSide.learn]
    rw [if_neg (by simpa [hm] using hrest)]
  rw [h]
  refine ⟨by simp, fun x hx he => ?_⟩
  obtain hx | hx := List.mem_append.mp hx
  · exact absurd he (by simpa using (List.mem_filter.mp hx).2)
  · exact List.mem_singleton.mp hx

/-- A frame that is no group frame, not for the module and not for the side it came from goes on (R261). -/
theorem forwardEth_good {s : State} {net : Net} {port : Nat} {f : EthFrame} (hp : (s.nets.side net).port (3 - port) ≠ 0)
    (hc : f.pcp < 6) (hf : f.fcsOk = true) : s.forwardEth net port f = s.emit (.eth net (3 - port) f) := by
  have hcut : ¬ (6 ≤ f.pcp && (s.nets.side net).port 1 = 2 && (s.nets.side net).port 2 = 2 && f.idle) = true := by
    simp [Nat.not_le.mpr hc]
  simp only [State.forwardEth, if_neg hp, if_neg hcut, if_pos hf]

/-- A good frame for one address, not the module's own, that a live port takes up (R261). -/
theorem ethFrame_single {s : State} {net : Net} {port : Nat} {f : EthFrame} (hs : s.supply.on = true) (hp : port = 1 ∨ port = 2)
    (hup : (s.nets.side net).port port ≠ 0) (hpause : f.pause = false) (hl : f.len ≤ 1522) (hf : f.fcsOk = true)
    (hg : bitAt f.dst 40 = false) (hd : f.dst ≠ Config.mac (netNo net)) :
    ethFrame net port f s = (((s.nets.side net).learn f.src port s.svc.ms).macs.find? (·.mac == f.dst)).elim
      ((s.modNet net (·.learn f.src port s.svc.ms)).forwardEth net port f)
      fun x => if x.port = port then s.modNet net (·.learn f.src port s.svc.ms)
        else (s.modNet net (·.learn f.src port s.svc.ms)).forwardEth net port f := by
  have h0 : ¬ (!s.supply.on || (port != 1 && port != 2) || (s.nets.side net).port port = 0 || f.pause) = true := by
    obtain rfl | rfl := hp <;> simp [hs, hup, hpause]
  simp only [ethFrame, if_neg h0, if_neg (Nat.not_lt.mpr hl), hf, if_true, hg, Bool.false_eq_true, if_false, if_neg hd, modNet_side]
  cases ((s.nets.side net).learn f.src port s.svc.ms).macs.find? (·.mac == f.dst) <;> rfl

/-- A row of the network side whose second holds. -/
theorem swRow {s : State} {net : Net} {f : NetSide → NetSide} (hs : Supplied s) (g : State → NetSide → NetSide)
    (h : g s.begin (s.nets.side net) = f (s.nets.side net)) :
    (.next (s.live fun s => s.modNet net (g s)) : Host.Outcome State Fault Refusal) = .next (s.begin.modNet net f) :=
  (row_on hs _).trans (congrArg _ (modNet_congr (s := s.begin) h))

theorem exec_macAgeing {s : State} (hs : Supplied s) (net : Net) (mac : Nat) :
    exec (.macAgeing net mac) s = .next (s.begin.modNet net fun n =>
      { n with macs := n.macs.filter fun (x : MacEntry) => !(x.mac == mac && x.since + 300000 ≤ s.svc.ms) }) :=
  row_on hs _

theorem exec_icmpEcho {s : State} (hs : Supplied s) (net : Net) (ip : W32) :
    exec (.icmpEcho net ip) s = .next
      (if ip.toNat != 0 && ip.toNat = s.maintIp net
          && (if (s.nets.side net).icmpSec = s.svc.ms / 1000 then (s.nets.side net).icmp else 0) < 10 then
        (s.begin.modNet net fun n => { n with
          icmpSec := s.svc.ms / 1000, icmp := (if (s.nets.side net).icmpSec = s.svc.ms / 1000 then (s.nets.side net).icmp else 0) + 1 }).emit
            (.icmp net ip)
      else s.begin) :=
  row_on hs _

/-- Settles O45: the switch forwards, and addresses answer. -/
theorem switchForwardsAndAddressesAnswer : Obligations.SwitchForwardsAndAddressesAnswer := by
  intro s net port speed mac f ip hs n
  have hon : s.begin.supply.on = true := hs
  refine ⟨fun hp hf => ?_, fun hp hf => ?_, fun p since hm => ⟨fun ht => ?_, fun ht => ?_⟩, fun x hx ht hm => ?_, fun hp hup hpa hl => ?_,
    fun hp hup ho hpa hl hf hg hd hc hfind => ?_, fun x hp hup hpa hl hf hg hd hfind hx => ?_, fun now hb hl => learn_learned port now hb hl,
    fun h => ?_, fun h0 h => ?_, fun h h1 => ?_, fun h0 h hsec => ?_, fun hsec hn => ?_, fun hsv hg hip => ⟨fun ht => ?_, fun ht => ?_⟩⟩
  · subst hp
    refine swRow hs _ ((if_pos rfl).trans ?_)
    rw [show bitAt (pstNat s.begin.pstLive 0x2880 13 0) (2 * netNo net + (1 - 1)) = false from hf]
    rfl
  · subst hp
    refine swRow hs _ ((if_neg (by decide)).trans ((if_pos rfl).trans ?_))
    rw [show bitAt (pstNat s.begin.pstLive 0x2880 13 0) (2 * netNo net + (2 - 1)) = true from hf]
    rfl
  · rw [exec_macAgeing hs]
    exact congrArg _ (modNet_congr (s := s.begin) (congrArg (fun l => { n with macs := l }) (by
      rw [show (s.begin.nets.side net).macs = _ from hm]
      simp [ht])))
  · rw [exec_macAgeing hs]
    have hkeep : List.filter (fun (x : MacEntry) => !(x.mac == mac && x.since + 300000 ≤ s.svc.ms)) n.macs = n.macs := by
      rw [hm]
      simp [ht]
    exact congrArg _ (modNet_self (s := s.begin) (congrArg (fun l => { n with macs := l }) hkeep))
  · refine ⟨_, exec_macAgeing hs .., ?_⟩
    rw [modNet_side]
    exact List.mem_filter.mpr ⟨hm, by simpa [hx] using ht⟩
  · refine (row_on hs _).trans (congrArg _ ((if_neg ?_).trans (if_pos hl)))
    have hup' : (s.begin.nets.side net).port port ≠ 0 := hup
    obtain rfl | rfl := hp <;> simp only [hon, hpa, hup', decide_false, Bool.not_true, Bool.or_false, bne_self_eq_false, Bool.false_and, Bool.and_false, Bool.false_eq_true, not_false_eq_true]
  · refine (row_on hs _).trans (congrArg _ ((ethFrame_single hon hp hup hpa hl hf hg hd).trans ?_))
    rw [show (((s.begin.nets.side net).learn f.src port s.begin.svc.ms).macs.find? (·.mac == f.dst)) = none from hfind]
    refine forwardEth_good ?_ hc hf
    rw [modNet_side, NetSide.port, (learn_ports _ _ _ _).1, (learn_ports _ _ _ _).2]
    exact ho
  · refine (row_on hs _).trans (congrArg _ ((ethFrame_single hon hp hup hpa hl hf hg hd).trans ?_))
    rw [show (((s.begin.nets.side net).learn f.src port s.begin.svc.ms).macs.find? (·.mac == f.dst)) = some x from hfind]
    exact if_pos hx
  · refine (row_on hs _).trans (congrArg _ (if_pos ?_))
    obtain h | h := h
    · simp only [show (s.begin.nets.side net).port port = 0 from h, decide_true, Bool.or_true, Bool.true_or]
    · simp [h]
  · have hown : (ip.toNat != 0 && (ip.toNat = s.maintIp net || ((s.nets.side net).service && ip.toNat = s.serviceIp net))) = true := by
      simp [h, h ▸ h0]
    exact (row_on hs _).trans (congrArg _ (if_pos hown))
  · have hother : ¬ (ip.toNat != 0 && (ip.toNat = s.maintIp net || ((s.nets.side net).service && ip.toNat = s.serviceIp net))) = true := by
      simp [h, show (s.nets.side net).service = false from h1]
    exact (row_on hs _).trans (congrArg _ (if_neg hother))
  · rw [exec_icmpEcho hs, if_neg hsec, if_pos (by simp [h, h ▸ h0])]
  · have hn' : 10 ≤ (s.nets.side net).icmp := hn
    rw [exec_icmpEcho hs, if_pos hsec, if_neg (by simp only [Bool.and_eq_true, decide_eq_true_eq, not_and]; omega)]
  · have hdue : (n.service && 0 < n.garpLeft && s.serviceIp net != 0 && n.garpAt + 10 ≤ s.svc.ms) = true := by
      simp [hsv, hg, hip, ht]
    exact (row_on hs _).trans (congrArg _ (if_pos hdue))
  · have hwait : ¬ (n.service && 0 < n.garpLeft && s.serviceIp net != 0 && n.garpAt + 10 ≤ s.svc.ms) = true := by
      simp [ht]
    exact (row_on hs _).trans (congrArg _ (if_neg hwait))

/-! ## PTP -/

/-- A message of the clock's domain over its transport that carries no event stamp (R266). -/
theorem ptp_general {s : State} {net : Net} {x : PtpIn} {st : W32} (hs : Supplied s) (ho : s.ptpOwn x = true) {y : PtpMsg}
    (hm : (∃ p better uv o, y = .announce p better uv o) ∨ ∃ p q o, y = .followUp p q o) :
    exec (.ptpSlaveMessage net { x with msg := y } st) s = .next (s.begin.modNet net (·.slave y)) := by
  refine (row_on hs _).trans (congrArg _ ((if_neg (by simp [show s.begin.ptpOwn { x with msg := y } = true from ho])).trans ?_))
  obtain ⟨p, better, uv, o, rfl⟩ | ⟨p, q, o, rfl⟩ := hm <;> rfl

/-- A stamp leaves the networks and what goes out as they are. -/
theorem stamp_nets (s : State) (t : TsuSt) (st : W32) : (s.stamp t st).1.nets = s.nets := by
  unfold State.stamp
  (repeat' split) <;> rfl

/-- An event message of the clock's domain over its transport whose stamp SVC takes (R266, R310). -/
theorem ptp_event {s : State} {net : Net} {x : PtpIn} {st : W32} (hs : Supplied s) (ho : s.ptpOwn x = true) {y : PtpMsg}
    (hm : (∃ p q two o, y = .sync p q two o) ∨ ∃ p q o, y = .delayResp p q o)
    (hst : (s.begin.stamp (netTsu s net) st).2 = true) :
    exec (.ptpSlaveMessage net { x with msg := y } st) s = .next (if (s.nets.side net).asksDelay y then
      ((s.begin.stamp (netTsu s net) st).1.modNet net (·.slave y)).emit (.delayReq net)
      else (s.begin.stamp (netTsu s net) st).1.modNet net (·.slave y)) := by
  have hst' : (s.begin.stamp (netTsu s.begin net) st).2 = true := hst
  have hn : (s.begin.stamp (netTsu s.begin net) st).1.nets.side net = s.nets.side net := congrArg (·.side net) (stamp_nets ..)
  refine (row_on hs _).trans (congrArg _ ((if_neg (by simp [show s.begin.ptpOwn { x with msg := y } = true from ho])).trans ?_))
  obtain ⟨p, q, two, o, rfl⟩ | ⟨p, q, o, rfl⟩ := hm
  · simp only [if_true, hst', hn]
    rfl
  · simp only [if_true, hst', hn]
    rfl

theorem exec_residenceHoldExpiry {s : State} (hs : Supplied s) (net : Net) (port seq : Nat) :
    exec (.residenceHoldExpiry net port seq) s = .next (s.begin.modNet net fun n => 
      { n with residences := n.residences.filter fun (x : Residence) =>
          !(x.port == port && x.seq == seq && x.since + 1000 ≤ s.svc.ms) }) :=
  row_on hs _

/-- Settles O46: how the PTP clocks follow and correct. -/
theorem ptpClocksFollowAndCorrect : Obligations.PtpClocksFollowAndCorrect := by
  intro s net x m p q ns o better uv st r hs n ptp fwd
  refine ⟨fun h => ?_, fun h => ⟨fun hm => ?_, fun hm => ?_, fun hm hq => ?_, fun hm hst => ?_, fun hm hu hst => ?_⟩,
    row_on hs _, row_on hs _, row_on hs _, ⟨_, row_on hs _, ?_, ?_⟩, fun h => ?_, fun h => ?_, fun h ht => ?_, fun h ht => ?_⟩
  · exact (row_on hs _).trans (congrArg _ (if_pos (by simp [show s.begin.ptpOwn x = false from h])))
  · refine (ptp_general hs h (.inl ⟨m, better, uv, o, rfl⟩)).trans (congrArg _ (modNet_congr ?_))
    simp only [NetSide.slave, NetSide.announce, show (s.begin.nets.side net).master = none from hm]
  · refine (ptp_general hs h (.inl ⟨m, better, uv, o, rfl⟩)).trans (congrArg _ (modNet_congr ?_))
    simp only [NetSide.slave, NetSide.announce, show (s.begin.nets.side net).master = some m from hm, if_true]
  · refine (ptp_general hs h (.inr ⟨m, q, o, rfl⟩)).trans (congrArg _ (modNet_congr ?_))
    exact if_pos (by simp [show (s.nets.side net).master = some m from hm, show (s.nets.side net).syncSeq = some q from hq])
  · have hask : (s.nets.side net).asksDelay (.sync m q true o) = true := beq_iff_eq.mpr hm
    have hside : (s.begin.stamp (netTsu s net) st).1.nets.side net = n := congrArg (·.side net) (stamp_nets ..)
    rw [show ptp (.sync m q true o) = _ from ptp_event hs h (.inl ⟨m, q, true, o, rfl⟩) hst, if_pos hask]
    exact congrArg (fun u : State => Host.Outcome.next (u.emit (.delayReq net)))
      (modNet_congr (if_pos ((congrArg NetSide.master hside).trans hm)))
  · rw [show ptp (.delayResp m q o) = _ from ptp_event hs h (.inr ⟨m, q, o, rfl⟩) hst]
    have hside : (s.begin.stamp (netTsu s net) st).1.nets.side net = n := congrArg (·.side net) (stamp_nets ..)
    refine congrArg _ ((if_neg (by simp [NetSide.asksDelay])).trans (modNet_congr ?_))
    rw [hside]
    exact if_pos (by simp [hm, hu])
  · cases net <;> rfl
  · rw [show (ptpForward net { x with msg := .sync p q true o } ns s.begin).nets.side net = _ from
      modNet_side s.begin net (·.hold ⟨x.inPort, s.svc.ms, p, q, ns⟩)]
    exact List.mem_append_right _ (List.mem_singleton_self _)
  · refine (row_on hs _).trans (congrArg _ ?_)
    simp only [ptpForward, show (s.begin.nets.side net).residences.find? _ = some r from h]
    rfl
  · refine (row_on hs _).trans (congrArg _ ?_)
    simp only [ptpForward, show (s.begin.nets.side net).residences.find? _ = none from h]
  · rw [exec_residenceHoldExpiry hs]
    exact congrArg _ (modNet_congr (s := s.begin) (congrArg (fun l => { n with residences := l }) (by
      rw [show (s.begin.nets.side net).residences = _ from h]
      simp [ht])))
  · rw [exec_residenceHoldExpiry hs]
    have hkeep : List.filter (fun (y : Residence) => !(y.port == r.port && y.seq == r.seq && y.since + 1000 ≤ s.svc.ms)) n.residences
        = n.residences := by
      rw [h]
      simp [ht]
    exact congrArg _ (modNet_self (s := s.begin) (congrArg (fun l => { n with residences := l }) hkeep))

end Sys2Proof.Machine
end

section
/-! PROOFS. Received copies, the egress queues and the repeats of entries (O47). -/
namespace Sys2Proof.Machine

/-! ## Copies -/

/-- The checks of a copy leave the module's state, the pairing table and the count of CLK_SVC as they are. -/
theorem prefilter_mstate (s : State) (net : Net) (d : Datagram) : (s.prefilter net d).1.mstate = s.mstate := by
  unfold State.prefilter
  simp only []
  (repeat' split) <;> rfl

/-- A whole datagram with a good checksum goes through the checks (R265). -/
theorem netDatagram_good {s : State} {net : Net} {d : Datagram} (hf : d.frag = false) (ho : d.opts = false) (hsum : d.sumOk = true)
    {k : State} {p : Partner} (h : s.prefilter net d = (k, some p)) (hm : s.mstate = .run) :
    netDatagram net d s = (k.modNet net fun n => { n with rxValid := n.rxValid + 1 }).pairCopy net p d.tel := by
  have hk : k.mstate = .run := by
    rw [show k = (s.prefilter net d).1 by rw [h], prefilter_mstate, hm]
  have hu : (k.modNet net fun n => { n with rxValid := n.rxValid + 1 }).mstate = .run := by
    cases net <;> exact hk
  rw [netDatagram, if_neg (by simp [hf, ho, hsum])]
  simp only [h, hu]
  exact congrArg (fun u => State.pairCopy u net p d.tel) (if_neg (by simp))

/-- A copy whose port is another's is rejected (R273). -/
theorem prefilter_port {s : State} {net : Net} {d : Datagram} (h : d.port ≠ pstNat s.pstLive 0x2880 9 30712) :
    s.prefilter net d = (s, none) :=
  if_pos (by simp [h])

theorem pairCopy_first {s : State} {net : Net} {p : Partner} {t : Telegram}
    (h : s.nets.keys.find? (fun k => k.partner == p.index && k.session == t.session && k.seq == t.seq) = none) :
    s.pairCopy net p t = (s.addKey ⟨s.svc.ms, p.index, t.session, t.seq, t, false, false⟩).routeCopy net p t := by
  simp only [State.pairCopy, h]

theorem pairCopy_second {s : State} {net : Net} {p : Partner} {t : Telegram} {k : PairKey}
    (h : s.nets.keys.find? (fun k => k.partner == p.index && k.session == t.session && k.seq == t.seq) = some k)
    (hs : k.second = false) (hd : k.done = false) (ht : k.tel = t) :
    s.pairCopy net p t = s.modNets fun y => { y with
      keys := y.keys.map fun (z : PairKey) =>
        if z.partner == p.index && z.session == t.session && z.seq == t.seq then { z with second := true } else z
      dual := y.dual + 1 } := by
  simp only [State.pairCopy, h, hs, hd, ht, Bool.false_eq_true, if_false, if_true]
  rfl

theorem pairCopy_third {s : State} {net : Net} {p : Partner} {t : Telegram} {k : PairKey}
    (h : s.nets.keys.find? (fun k => k.partner == p.index && k.session == t.session && k.seq == t.seq) = some k)
    (hs : k.second = true) : s.pairCopy net p t = s := by
  simp only [State.pairCopy, h, hs, if_true]

/-! ## Egress queues -/

theorem setEgress_egress (n : Nets) (eng : Egress) (l : List EgEntry) : (n.setEgress eng l).egress eng = l := by
  cases eng <;> rfl

/-- The first copy of an entry waits in its engine's queue (R65). -/
theorem egressEntry_first {s : State} {eng : Egress} {ch : Ch} (e : List Byte) (hm : s.mstate = .run) (hr : (s.ch ch).role = .voting)
    (h : s.nets.egress eng = []) : egressEntry eng ch e s =
      (s.modCh ch (·.readEgress eng e)).modNets (·.setEgress eng [⟨e, [ch], false, s.vital.cycle⟩]) := by
  have h' : (s.modCh ch (·.readEgress eng e)).nets.egress eng = [] := h
  rw [egressEntry, if_neg (by simp [hm, hr])]
  simp only [h', List.filter_nil, List.find?_nil]
  rfl

/-- The second identical copy of an entry, from another channel, has it sent (R65). -/
theorem egressEntry_second {s : State} {eng : Egress} {ch c : Ch} (e : List Byte) (hm : s.mstate = .run) (hr : (s.ch ch).role = .voting)
    (hne : c ≠ ch) (h : s.nets.egress eng = [⟨e, [c], false, s.vital.cycle⟩]) : egressEntry eng ch e s =
      ((s.modCh ch (·.readEgress eng e)).modNets (·.setEgress eng [⟨e, [ch, c], true, s.vital.cycle⟩])).transmit eng e := by
  have h' : (s.modCh ch (·.readEgress eng e)).nets.egress eng = [⟨e, [c], false, s.vital.cycle⟩] := h
  have hc : (s.modCh ch (·.readEgress eng e)).vital.cycle = s.vital.cycle := rfl
  have hw : ¬ [c].contains ch = true := by simpa using fun h => hne h.symm
  rw [egressEntry, if_neg (by simp [hm, hr])]
  simp only [h', hc, List.filter_cons, List.find?_cons, List.map_cons, List.map_nil, beq_self_eq_true, Bool.true_or, Bool.and_self,
    if_true, if_neg hw, Bool.false_eq_true, if_false, List.filter_nil]
  rfl

/-- An engine whose senders have ended drops what stands alone (R65). -/
theorem egressTimeout_lost {s : State} {eng : Egress} (h : ∃ x ∈ s.nets.egress eng, x.sent = false) (hn : eng = .str ∨ eng = .twin) :
    egressTimeout eng s = (s.modNets (·.setEgress eng ((s.nets.egress eng).filter (·.sent)))).raise (egressSrc eng) := by
  obtain ⟨x, hx, hsent⟩ := h
  have hl : ¬ ((s.nets.egress eng).filter fun x => !x.sent).isEmpty = true := by simpa using ⟨x, hx, hsent⟩
  obtain rfl | rfl := hn <;> exact if_neg hl

theorem egressTimeout_net {s : State} {eng : Egress} (h : ∃ x ∈ s.nets.egress eng, x.sent = false) (hn : eng = .netA ∨ eng = .netB) :
    egressTimeout eng s = (s.modNets fun y => { y.setEgress eng ((y.egress eng).filter (·.sent)) with
      drops := y.drops + ((y.egress eng).filter (!·.sent)).length }).raise (egressSrc eng) := by
  obtain ⟨x, hx, hsent⟩ := h
  have hl : ¬ ((s.nets.egress eng).filter fun x => !x.sent).isEmpty = true := by simpa using ⟨x, hx, hsent⟩
  obtain rfl | rfl := hn <;> exact if_neg hl

/-! ## Repeats -/

/-- The last repeat of a record is the end of it (R58). -/
theorem repeatRec_last {s : State} {sp : Sp} {r : SensorRec} {l : List (SensorRec × Nat)} (h : (s.proc sp).sent = (r, 1) :: l)
    (hpos : ∀ y ∈ l, 0 < y.2) : s.repeatRec sp 0 = (s.modSent sp fun _ => l).putRec sp r := by
  have hl : countRepeat ((r, 1) :: l) 0 = l := by
    rw [countRepeat, modNth, List.filter_cons_of_neg (by simp)]
    exact List.filter_eq_self.mpr fun y hy => decide_eq_true (hpos y hy)
  cases sp
  · have h' : s.sens.x.sent = (r, 1) :: l := h
    simp only [State.repeatRec, State.modSent, h', List.getElem?_cons_zero, hl]
  · have h' : s.sens.y.sent = (r, 1) :: l := h
    simp only [State.repeatRec, State.modSent, h', List.getElem?_cons_zero, hl]

/-- Settles O47: copies meet, and egress needs two channels. -/
theorem copiesMeetAndEgressNeedsTwo : Obligations.CopiesMeetAndEgressNeedsTwo := by
  intro s net d e eng ch sp hs good put
  refine ⟨fun h => ?_, fun ⟨hf, ho, hsum⟩ hp => ?_, fun k p hk ⟨hf, ho, hsum⟩ hm => ?_, fun k p => ?_, fun hm hr he => ?_,
    fun c hm hr hne he => ?_, fun he => ?_, fun heng hx => ?_, fun heng hx => ?_, fun r l hl hpos => ?_⟩
  · refine (row_on hs _).trans (congrArg _ (if_pos ?_))
    obtain h | h | h := h <;> simp [h]
  · refine (row_on hs _).trans (congrArg _ ((if_neg (by simp [hf, ho, hsum])).trans ?_))
    simp only [prefilter_port (s := s.begin) (net := net) hp]
  · intro u mine
    have hrow : exec (.netDatagramReceive net d) s = .next (u.pairCopy net p d.tel) :=
      (row_on hs _).trans (congrArg _ (netDatagram_good (s := s.begin) hf ho hsum hk hm))
    refine ⟨fun h => ?_, fun x h h1 h2 h3 => ?_, fun x h h1 => ?_⟩
    · rw [hrow, pairCopy_first h]
    · rw [hrow, pairCopy_second h h1 h2 h3]
    · rw [hrow, pairCopy_third h h1]
  · intro mine hk hp hd u
    have hrow : exec (.skewTimerExpiry k.partner k.session k.seq) s = .next
        (if s.svc.ms < k.since + p.skewMs then s.begin else if k.second then u else u.singlePath k) := by
      have hk' : s.begin.nets.keys.find? mine = some k := hk
      have hp' : s.begin.dat.partner k.partner = some p := hp
      refine (row_on hs _).trans (congrArg _ ?_)
      simp only [hk', hp', hd, mine, Bool.false_or, decide_eq_true_eq]
      rfl
    refine ⟨fun ht h2 => ?_, fun ht h2 => ?_, fun ht => ?_⟩
    · rw [hrow, if_neg (Nat.not_lt.mpr ht), if_pos h2]
    · rw [hrow, if_neg (Nat.not_lt.mpr ht), if_neg (by simp [h2])]
    · rw [hrow, if_pos ht]
  · exact (row_on hs _).trans (congrArg _ (egressEntry_first (s := s.begin) e hm hr he))
  · exact (row_on hs _).trans (congrArg _ (egressEntry_second (s := s.begin) e hm hr hne he))
  · refine (row_on hs _).trans (congrArg _ (if_pos ?_))
    rw [show s.begin.nets.egress eng = [] from he]
    rfl
  · exact (row_on hs _).trans (congrArg _ (egressTimeout_lost (s := s.begin) hx heng))
  · exact (row_on hs _).trans (congrArg _ (egressTimeout_net (s := s.begin) hx heng))
  · refine (row_on hs _).trans (congrArg _ ?_)
    cases sp <;> exact repeatRec_last (s := s.begin) hl hpos

end Sys2Proof.Machine
end

section
/-! PROOFS. The ring node: its states and its clock (O48), its loops and its slots (O49). -/
namespace Sys2Proof.Machine

/-! ## States and clock -/

/-- A command that changes the ring node makes of it what it is then. -/
theorem ringRow_to {s : State} {f : Ring → Ring} {r : Ring} (hs : Supplied s) (h : f s.ring = r) :
    (.next (s.live fun s => s.modRing f) : Host.Outcome State Fault Refusal) = .next (s.ringTo r []) :=
  (row_on hs _).trans (congrArg (fun r => Host.Outcome.next (s.ringTo r [])) h)

/-- A correction leaves the ring cycle as it is (R248). -/
theorem correct_cycle (r : Ring) : r.correct.cycle = r.cycle := by
  unfold Ring.correct
  cases r.sched with
  | none => rfl
  | some c =>
    simp only []
    cases r.state with
    | synced => simp only []; (repeat' split) <;> rfl
    | integrating => simp only []; split <;> rfl
    | coldstart => simp only []; split <;> rfl
    | _ => rfl

/-- Too few values at the end of a double cycle (R248): the first time it is noted, the second time the node is `SILENT`. -/
theorem correct_short {r : Ring} {c : Schedule} (hc : r.sched = some c) (hst : r.state = .synced)
    (h : r.voff.length < 2 * c.k + 1 ∨ r.vrate.length < 2 * c.k + 1) : r.correct =
      { (if 1 ≤ r.short then r.silent else { r with short := r.short + 1 }) with devEven := [], devOdd := [] } := by
  have h' : (r.voff.length < 2 * c.k + 1 || r.vrate.length < 2 * c.k + 1) = true := by simpa using h
  simp only [Ring.correct, hc, hst, if_pos h']

/-- Enough values at the end of a double cycle (R248): the averages, applied within the limits. -/
theorem correct_full {r : Ring} {c : Schedule} (hc : r.sched = some c) (hst : r.state = .synced)
    (h1 : 2 * c.k + 1 ≤ r.voff.length) (h2 : 2 * c.k + 1 ≤ r.vrate.length) : r.correct =
      { (if c.within (fta c.k r.voff) (r.rate + fta c.k r.vrate) then ({ r with short := 0 } : Ring).average c.k
          else { (({ r with short := 0 } : Ring).average c.k).silent with offset := r.offset }) with devEven := [], devOdd := [] } := by
  have h' : ¬ (r.voff.length < 2 * c.k + 1 || r.vrate.length < 2 * c.k + 1) = true := by
    simp only [Bool.or_eq_true, decide_eq_true_eq]
    omega
  cases r
  cases hc
  cases hst
  exact congrArg (fun x : Ring => { x with devEven := [], devOdd := [] }) (if_neg h')

/-- Settles O48: the ring node by its state table, and its corrections. -/
theorem ringNodeFollowsItsStateTable : Obligations.RingNodeFollowsItsStateTable := by
  refine ⟨fun s up node hs => ?_, fun r c hc hst => ⟨fun h h1 => ?_, fun h h0 => ?_, fun h1 h2 => ⟨fun ho hr => ?_, fun h => ?_⟩⟩⟩
  · dsimp only
    refine ⟨fun c n hst hc hn hcold => ringRow_to hs (if_pos ?_), fun h => ringRow_to hs (if_neg ?_), fun h => ringRow_to hs (if_neg ?_),
      fun h => ⟨ringRow_to hs (if_pos h), correct_cycle s.ring⟩, fun hst h => ringRow_to hs (if_pos ?_), fun hst h => ringRow_to hs (if_pos ?_),
      fun h => ringRow_to hs (if_neg ?_), fun h => ringRow_to hs (if_neg ?_), fun hst h hm => ringRow_to hs (if_pos ?_),
      fun h => ringRow_to hs (if_neg ?_), fun hst h => ringRow_to hs (if_pos ?_), fun h => ringRow_to hs (if_neg ?_),
      fun hst h1 h2 => ?_, fun h => ?_, fun hst hn => ringRow_to hs (if_pos ?_), ringRow_to hs (if_neg ?_), ringRow_to hs rfl, ringRow_to hs rfl⟩
    · simp only [hst, hc, Option.bind_some, hn, hcold, beq_self_eq_true, Bool.and_self]
    · simp [h]
    · omega
    · simpa [hst] using h
    · simpa [hst] using h
    · simp [h]
    · simp [h]
    · simp [hst, h, hm]
    · simp [Nat.not_le.mpr h]
    · simp [hst, h]
    · simp [h]
    · exact (row_on hs _).trans (congrArg _ (if_pos (by simp [hst, h1, h2])))
    · exact (row_on hs _).trans (congrArg _ (if_neg (by simp [h])))
    · obtain hst | hst := hst <;> simp [Ring.guards, hst, hn]
    · simp
  · rw [correct_short hc hst h, if_pos h1]
    rfl
  · rw [correct_short hc hst h, if_neg (by omega), h0]
  · rw [correct_full hc hst h1 h2, if_pos (by simp [Schedule.within, ho, hr])]
    exact ⟨hst, rfl, rfl⟩
  · rw [correct_full hc hst h1 h2, if_neg (by simp only [Schedule.within, Bool.and_eq_true, decide_eq_true_eq]; omega)]
    exact ⟨rfl, rfl, rfl, rfl⟩

/-! ## Loops and slots -/

/-- A frame that goes out leaves the node as it is (R253). -/
theorem ringOut_ring (s : State) (port : RingPort) (typ : BitVec 3) (dir : Bool) (slot : Nat) (payload : List Byte) :
    (s.ringOut port typ dir slot payload).ring = s.ring := by
  simp only [State.ringOut]
  (repeat' split) <;> rfl

theorem keyExtras_ring (s : State) : s.keyExtras.ring = s.ring := by
  simp only [State.keyExtras]
  (repeat' split) <;> simp only [ringOut_ring]

/-- Acting on a break leaves the cycle and the state as they are (R250). -/
theorem loopBack_leaves (r : Ring) : r.loopBack.cycle = r.cycle ∧ r.loopBack.state = r.state ∧ r.loopBack.attempts = r.attempts := by
  unfold Ring.loopBack
  split
  · exact ⟨rfl, rfl, rfl⟩
  · simp only []
    split <;> exact ⟨rfl, rfl, rfl⟩

theorem loopBack_some {r : Ring} {p : RingPort} (h : r.breakAt = some p) :
    r.loopBack.heals = r.heals + 1 ∧ (p = .e → r.loopBack.loopRole = 1 ∧ r.loopBack.loopE = some r.own)
      ∧ (p = .w → r.loopBack.loopRole = 2 ∧ r.loopBack.loopW = some r.own) := by
  unfold Ring.loopBack
  rw [h]
  cases p
  · exact ⟨rfl, fun _ => ⟨rfl, rfl⟩, fun h => nomatch h⟩
  · exact ⟨rfl, fun h => (nomatch h), fun _ => ⟨rfl, rfl⟩⟩

/-- The counts and the cycle of a node at its key slot, before it acts on a break (R249, R250). -/
def Ring.newCycle (r : Ring) : Ring := { r.forgetLoops with
  cycle := if r.keyDone then (r.cycle + 1) % 2 ^ 32 else r.cycle, keyDone := true
  coldCycles := r.coldCycles + 1, noReturn := r.noReturn + 1, syncMiss := r.syncMiss + 1, missE := r.missE + 1, missW := r.missW + 1
  probeRun := if r.probeSeen then r.probeRun else 0, probeSeen := false }

theorem keyStart_eq (r : Ring) : r.keyStart = r.newCycle.loopBack := rfl

theorem keyStart_leaves (r : Ring) : r.keyStart.state = r.state ∧ r.keyStart.attempts = r.attempts
    ∧ r.keyStart.cycle = if r.keyDone then (r.cycle + 1) % 2 ^ 32 else r.cycle := by
  obtain ⟨h1, h2, h3⟩ := loopBack_leaves r.newCycle
  exact ⟨h2, h3, h1⟩

theorem keyStart_loops {r : Ring} {p : RingPort} (h : r.breakAt = some p) :
    r.keyStart.heals = r.heals + 1 ∧ (p = .e → r.keyStart.loopRole = 1 ∧ r.keyStart.loopE = some r.own)
      ∧ (p = .w → r.keyStart.loopRole = 2 ∧ r.keyStart.loopW = some r.own) :=
  loopBack_some (r := r.newCycle) h

/-- What a due LOOP_OPEN makes of a node (R251). -/
def Ring.opened (r : Ring) : Ring :=
  { r with loopRole := 0, openAt := none, probeRun := 0, probeSeen := false, peerRun := 0
           loopE := if r.loopE = some r.own then none else r.loopE, loopW := if r.loopW = some r.own then none else r.loopW }

theorem opened_loops (r : Ring) : r.opened.loopE ≠ some r.own ∧ r.opened.loopW ≠ some r.own := by
  constructor <;> simp only [Ring.opened] <;> split <;> simp_all

theorem exec_loopOpen {s : State} (hs : Supplied s) : exec .loopOpen s = .next (s.ringTo
    (s.ring.openAt.elim s.ring fun n => if s.ring.loopRole != 0 && n ≤ s.ring.cycle + 1 then s.ring.opened else s.ring) []) := by
  refine ringRow_to hs ?_
  cases s.ring.openAt <;> rfl

/-- What a node sends in a slot of its own (R249, R253). -/
def State.slotStarts (s : State) (c : Schedule) (x : SchedSlot) (sync : Bool) : State :=
  match s.ring.state with
  | .synced => if x.key && sync then s.ringOut s.ring.outPort 2 false x.slot s.ring.syncPayload else s.dataSlot c x
  | .coldstart => if x.key then s.ringOut s.ring.outPort 3 false x.slot (byteOf s.ring.attempts :: List.replicate 15 0) else s
  | _ => s

theorem exec_slotStart {s : State} {c : Schedule} {x : SchedSlot} (hs : Supplied s) (hc : s.ring.sched = some c)
    (hx : c.slot x.slot = some x) (ho : x.owner = s.ring.own) : exec (.stratusSlotStart x.slot) s =
      .next (State.slotStarts (if x.key then State.keyExtras { s.begin with ring := s.ring.keyStart } else s.begin) c x s.ring.ownSync) := by
  have hc' : s.begin.ring.sched = some c := hc
  have hsync : s.ring.ownSync = ((c.node s.ring.own).elim false (·.sync)) := by
    simp only [Ring.ownSync, hc, Option.bind_some]
    cases c.node s.ring.own <;> rfl
  refine (row_on hs _).trans (congrArg _ ?_)
  rw [hsync]
  simp only [hc', hx, show s.begin.ring.own = s.ring.own from rfl]
  rw [if_neg (by simp [ho])]
  cases c.node s.ring.own <;> rfl

/-- A slot whose entry is due carries it with its SAFETY (R239, R253). -/
theorem dataSlot_due {s : State} {c : Schedule} {x : SchedSlot} {p : List Byte}
    (h : s.ring.ready.find? (·.1 == x.slot) = some (x.slot, p)) : s.dataSlot c x =
      (s.modRing fun r => { r with ready := r.ready.filter (·.1 != x.slot), sentAt := assocSet r.sentAt x.slot r.cycle
                                   lastVseq := if x.status then beAt p 0 4 else r.lastVseq }).ringOut s.ring.outPort 0 false x.slot
        (p ++ be 4 (ringSafety s.ring.own x.slot s.ring.cycle c.id p).toNat) := by
  simp only [State.dataSlot, h]

/-- Settles O49: how the loops close and open and the slots are served. -/
theorem ringLoopsAndSlotsAreServed : Obligations.RingLoopsAndSlotsAreServed := by
  intro s c x p hs hc
  dsimp only
  refine ⟨fun hl hb => ⟨fun h => ringRow_to hs (if_neg ?_), fun h => ringRow_to hs (if_neg ?_), fun h => ringRow_to hs (if_pos ?_)⟩,
    fun h => ringRow_to hs (if_pos ?_), fun h => ?_, fun h => ?_, fun h => ?_, fun n ho hl hn => ?_, fun h => ?_, fun h1 h2 => ?_,
    fun h => ?_, fun h hf => ?_, fun hx => ⟨fun ho => ?_, fun ho hk hst hr => ?_, fun ho hk hst hsy => ?_, fun ho hk hst => ?_⟩⟩
  · simp [hc, hl, hb, Nat.not_lt.mpr h]
  · simp [hc, hl, hb, Nat.not_lt.mpr h]
  · simp [h]
  · have hl : (s.ring.loopRole != 0) = true := by simpa using h
    rw [hl, Bool.or_true, Bool.true_or, Bool.true_or]
  · obtain ⟨h1, h2, -⟩ := keyStart_loops h
    exact ⟨(h2 rfl).1, (h2 rfl).2, h1⟩
  · obtain ⟨h1, -, h2⟩ := keyStart_loops h
    exact ⟨(h2 rfl).1, (h2 rfl).2, h1⟩
  · rw [(keyStart_leaves s.ring).2.2, if_pos h]
  · obtain ⟨h1, h2⟩ := opened_loops s.ring
    refine ⟨s.ring.opened, ?_, rfl, rfl, h1, h2, rfl⟩
    rw [exec_loopOpen hs, ho]
    exact congrArg (fun r => Host.Outcome.next (s.ringTo r [])) (if_pos (by
      rw [Bool.and_eq_true, bne_iff_ne, decide_eq_true_eq]
      exact ⟨hl, hn⟩))
  · rw [exec_loopOpen hs, h]
    rfl
  · refine (row_on hs _).trans (congrArg _ (if_pos ?_))
    unfold Ring.timed
    split
    · exact absurd ‹_› h1
    · exact absurd ‹_› h2
    · rfl
  · exact (row_on hs _).trans (congrArg _ (if_pos (by simp [h])))
  · refine (row_on hs _).trans (congrArg _ ((if_neg (by simp [h])).trans ?_))
    have hf' : (s.begin.ring.sched.bind fun c => c.slots.find? fun x => x.owner == s.begin.ring.own && x.status) = some x := by
      rw [show s.begin.ring.sched = some c from hc]
      exact hf
    simp only [hf']
    rfl
  · refine (row_on hs _).trans (congrArg _ ?_)
    simp only [show s.begin.ring.sched = some c from hc, hx]
    exact if_pos (by simpa using ho)
  · rw [exec_slotStart hs hc hx ho, if_neg (by simp [hk])]
    simp only [State.slotStarts, show s.begin.ring.state = .synced from hst, hk, Bool.false_and, Bool.false_eq_true, if_false]
    rw [dataSlot_due (s := s.begin) hr]
    rfl
  · rw [exec_slotStart hs hc hx ho, if_pos hk, hsy]
    simp only [State.slotStarts, keyExtras_ring, (keyStart_leaves s.ring).1, hst, hk, Bool.and_self, if_true]
  · rw [exec_slotStart hs hc hx ho, if_pos hk]
    simp only [State.slotStarts, keyExtras_ring, (keyStart_leaves s.ring).1, (keyStart_leaves s.ring).2.1, hst, hk, if_true]

end Sys2Proof.Machine
end

section
/-! PROOFS. The frames of the ring, judged before they act (O50). -/
namespace Sys2Proof.Machine

/-! ## Reception -/

/-- A node that reads the LOOP field of a frame it has heard (R250). -/
def Ring.reads (r : Ring) (f : RingFrame) : Ring := (r.readLoop f).heard f

/-- A forwarded frame changes nothing of the node but the count of those it dropped. -/
theorem ringForward_ring (s : State) (f : RingFrame) : ∃ n, (s.ringForward f).ring = { s.ring with fwdDrops := n } := by
  unfold State.ringForward
  cases s.ring.forwardPort f with
  | none => exact ⟨s.ring.fwdDrops, rfl⟩
  | some p =>
    simp only []
    split
    · exact ⟨_, rfl⟩
    · exact ⟨s.ring.fwdDrops, rfl⟩

/-- What a good frame changes of a node that hears it (R249, R250). -/
theorem heard_good (r : Ring) {f : RingFrame} (hf : RingFrame.fcsOk f = true) : r.heard f = { r with
    missE := if f.port = .e then 0 else r.missE, missW := if f.port = .w then 0 else r.missW
    noReturn := if f.node == r.own && f.typ = 3 && f.port == r.primary then 0 else r.noReturn } := by
  unfold Ring.heard
  rw [if_neg (by simp [hf])]
  cases f.port
  · by_cases h : (f.node == r.own && f.typ = 3 && RingPort.e == r.primary) = true
    · exact (if_pos h).trans (by rw [if_pos h]; rfl)
    · exact (if_neg h).trans (by rw [if_neg h]; rfl)
  · by_cases h : (f.node == r.own && f.typ = 3 && RingPort.w == r.primary) = true
    · exact (if_pos h).trans (by rw [if_pos h]; rfl)
    · exact (if_neg h).trans (by rw [if_neg h]; rfl)

theorem reads_bad (r : Ring) {f : RingFrame} (hf : RingFrame.fcsOk f = false) : r.reads f = r := by
  have hb : (!(RingFrame.fcsOk f)) = true := by simp [hf]
  simp only [Ring.reads, Ring.heard, Ring.readLoop, if_pos hb]

/-- Reading a frame does not look at the count of the dropped ones. -/
theorem reads_drops (r : Ring) (n : Nat) (f : RingFrame) : ({ r with fwdDrops := n } : Ring).reads f = { r.reads f with fwdDrops := n } := by
  cases hf : RingFrame.fcsOk f
  · rw [reads_bad _ hf, reads_bad _ hf]
  · have hb : ¬ (!(RingFrame.fcsOk f)) = true := by simp [hf]
    simp only [Ring.reads, heard_good _ hf, Ring.readLoop, if_neg hb]
    rfl

/-- A frame read after it was forwarded is accepted as one that was only read. -/
theorem forwarded_takes {s : State} {f : RingFrame} {c : Schedule} {w : Bool} (h : (s.ring.reads f).Takes c f w) :
    ((s.ringForward f).ring.reads f).Takes c f w := by
  obtain ⟨n, hn⟩ := ringForward_ring s f
  rw [hn, reads_drops]
  exact h

/-- Reading leaves the state and the identity of a node as they are. -/
theorem reads_leaves (r : Ring) (f : RingFrame) :
    (r.reads f).state = r.state ∧ (r.reads f).own = r.own ∧ (r.reads f).sched = r.sched ∧ (r.reads f).loopRole = r.loopRole
      ∧ (r.reads f).probeRun = r.probeRun ∧ (r.reads f).probeSeen = r.probeSeen ∧ (r.reads f).openAt = r.openAt
      ∧ (r.reads f).asked = r.asked ∧ (r.reads f).echoes = r.echoes ∧ (r.reads f).cycle = r.cycle := by
  cases hf : RingFrame.fcsOk f
  · simp only [reads_bad _ hf, and_self]
  · have hb : ¬ (!(RingFrame.fcsOk f)) = true := by simp [hf]
    simp only [Ring.reads, heard_good _ hf, Ring.readLoop, if_neg hb, and_self]

/-- A frame that the node accepts (R241, R245). -/
theorem receive_takes {r : Ring} {f : RingFrame} {c : Schedule} {w : Bool} (h : (r.reads f).Takes c f w) :
    r.receive f w = ((r.reads f).accept f, true) := by
  obtain ⟨hc, hd, hn, hp, hf, hw⟩ := h
  have hc' : ((r.readLoop f).heard f).sched = some c := hc
  have hn' : (f.node == (r.reads f).own) = false := by simpa using hn
  have hp' : (f.port != (r.reads f).primary) = false := by simpa using hp
  have h1 : ¬ (f.dir || f.node == (r.reads f).own || f.port != (r.reads f).primary || (w && !(r.reads f).timed)) = true := by
    cases w
    · simp [hd, hn', hp']
    · simp [hd, hn', hp', (hw rfl).1]
  have h2 : ¬ (w && !(r.reads f).inWindow c f) = true := by
    cases w
    · simp
    · simpa [Ring.inWindow] using (hw rfl).2
  simp only [Ring.receive, hc']
  exact (if_neg h1).trans ((if_neg (by simp [hf])).trans (if_neg h2))

/-- A frame in counter direction is only read (R241). -/
theorem receive_counter {r : Ring} {f : RingFrame} {w : Bool} (hd : f.dir = true) (hf : RingFrame.fcsOk f = true) :
    r.receive f w = (r.reads f, false) := by
  cases h : (r.reads f).sched with
  | none =>
    simp only [Ring.receive, show ((r.readLoop f).heard f).sched = none from h]
    rw [if_pos hf]
    rfl
  | some c =>
    simp only [Ring.receive, show ((r.readLoop f).heard f).sched = some c from h]
    rw [if_pos (by simp [hd]), if_pos hf]
    rfl

/-- A frame whose FCS fails is only counted (R241). -/
theorem receive_bad {r : Ring} {f : RingFrame} {w : Bool} (hf : RingFrame.fcsOk f = false) :
    r.receive f w = ({ r with fcsErrors := r.fcsErrors + 1 }, false) := by
  have hr : (r.readLoop f).heard f = r := reads_bad r hf
  have hrej : r.reject f false = { r with fcsErrors := r.fcsErrors + 1 } := if_pos (by simp [hf])
  simp only [Ring.receive, hr]
  split
  · simp only [hf, hrej, Bool.false_eq_true, if_false]
  · simp only [hf, Ring.formatOk, hrej, Bool.false_and, Bool.not_false, Bool.false_eq_true, if_false, if_true, ite_self]

/-- A marked frame fails its FCS (R393). -/
theorem marked_bad (f : RingFrame) : RingFrame.fcsOk (RingFrame.marked f) = false := by
  have h : ~~~crc32c f.bytes ≠ crc32c f.bytes := fun h => by
    have h0 := congrArg (·.getLsbD 0) h
    simp at h0
  exact beq_eq_false_iff_ne.mpr h

/-! ## Rows -/

/-- While T6 holds the ports down no frame comes in (R382). -/
theorem fromRing_down {s : State} (h : s.loopTest = true) (f : RingFrame) (g : RingFrame → State → State) : s.fromRing f g = s :=
  if_pos h

theorem fromRing_good {s : State} {f : RingFrame} (h : s.loopTest = false)
    (hc : (s.cvuStrip 4 (RingFrame.bytes f ++ be 4 f.fcs.toNat)).2 = true) (g : RingFrame → State → State) :
    s.fromRing f g = g f (s.cvuStrip 4 (RingFrame.bytes f ++ be 4 f.fcs.toNat)).1 := by
  refine (if_neg (by simp [h])).trans ?_
  generalize s.cvuStrip 4 (RingFrame.bytes f ++ be 4 f.fcs.toNat) = p at hc ⊢
  obtain ⟨u, ok⟩ := p
  cases hc
  rfl

theorem fromRing_bad {s : State} {f : RingFrame} (h : s.loopTest = false)
    (hc : (s.cvuStrip 4 (RingFrame.bytes f ++ be 4 f.fcs.toNat)).2 = false) (g : RingFrame → State → State) :
    s.fromRing f g = g (RingFrame.marked f) (s.cvuStrip 4 (RingFrame.bytes f ++ be 4 f.fcs.toNat)).1 := by
  refine (if_neg (by simp [h])).trans ?_
  generalize s.cvuStrip 4 (RingFrame.bytes f ++ be 4 f.fcs.toNat) = p at hc ⊢
  obtain ⟨u, ok⟩ := p
  cases hc
  rfl

/-- A node with a frame that it has accepted (R241). -/
def State.accepts (s : State) (f : RingFrame) : State :=
  { s.ringForward f with ring := ((s.ringForward f).ring.reads f).accept f }

theorem ringRow_takes {s : State} {f : RingFrame} {c : Schedule} {w : Bool} (h : (s.ring.reads f).Takes c f w) (g : State → State) :
    s.ringRow f w g = g (s.accepts f) := by
  simp only [State.ringRow, receive_takes (forwarded_takes h), if_true]
  rfl

theorem accepts_state (s : State) (f : RingFrame) : (s.accepts f).ring.state = s.ring.state ∧ (s.accepts f).ring.own = s.ring.own := by
  obtain ⟨n, hn⟩ := ringForward_ring s f
  obtain ⟨h1, h2, -⟩ := reads_leaves (s.ringForward f).ring f
  exact ⟨h1.trans (by rw [hn]), h2.trans (by rw [hn])⟩

theorem ringRow_counter {s : State} {f : RingFrame} {w : Bool} (hd : f.dir = true) (hf : RingFrame.fcsOk f = true) (g : State → State) :
    s.ringRow f w g = { s with ring := s.ring.reads f } := by
  have hfwd : s.ringForward f = s := by
    simp [State.ringForward, Ring.forwardPort, hd]
  simp only [State.ringRow, hfwd, receive_counter hd hf, Bool.false_eq_true, if_false]

theorem ringRow_bad (s : State) (f : RingFrame) (w : Bool) (g : State → State) : s.ringRow (RingFrame.marked f) w g =
    { s.ringForward (RingFrame.marked f) with ring :=
      { (s.ringForward (RingFrame.marked f)).ring with fcsErrors := (s.ringForward (RingFrame.marked f)).ring.fcsErrors + 1 } } := by
  simp only [State.ringRow, receive_bad (marked_bad f), Bool.false_eq_true, if_false]

/-! ## LOOP frames -/

/-- A LOOP frame of good format acts once it is forwarded and read (R237, R247). -/
theorem loopRow_good {s : State} {f : RingFrame} {kind : Nat} (h : s.loopOk f kind = true) (g : State → State) :
    s.loopRow f kind g = g { s.ringForward f with ring := (s.ringForward f).ring.reads f } := by
  obtain ⟨n, hn⟩ := ringForward_ring s f
  obtain ⟨-, h2, h3, -⟩ := reads_leaves (s.ringForward f).ring f
  rw [hn] at h2 h3
  have hok : State.loopOk { s.ringForward f with ring := (s.ringForward f).ring.reads f } f kind = s.loopOk f kind := by
    simp only [State.loopOk, hn, h2, h3]
  exact if_pos (hok.trans h)

theorem takeSync_synced {s : State} (h : s.ring.state = .synced) (f : RingFrame) : s.takeSync f = { s with ring := s.ring.keepDev f } := by
  simp only [State.takeSync, h]
  rfl

/-- A node with a PROBE that crossed its broken link (R251). -/
def Ring.probed (r : Ring) (f : RingFrame) : Ring :=
  let r := { r with probeRun := if r.probeSeen then r.probeRun else r.probeRun + 1, probeSeen := true
                    peerRun := (byteAt f.payload 1).toNat }
  if r.loopRole = 2 then
    (if 8 ≤ r.probeRun && 8 ≤ r.peerRun && r.openAt.isNone then { r with openAt := some (r.cycle + 4) } else r)
  else if beAt f.payload 4 4 = 0 then r else { r with openAt := some (beAt f.payload 4 4) }

/-- A node that loops at its E port opens when the PROBE says (R251). -/
theorem probed_told {r : Ring} {f : RingFrame} (hr : r.loopRole = 1) (hs : r.probeSeen = false) (hn : beAt f.payload 4 4 ≠ 0) :
    r.probed f = { r with probeRun := r.probeRun + 1, probeSeen := true, peerRun := (byteAt f.payload 1).toNat
                          openAt := some (beAt f.payload 4 4) } := by
  have h2 : ¬ r.loopRole = 2 := by simp [hr]
  simp only [Ring.probed, hs, if_neg h2, if_neg hn, Bool.false_eq_true, if_false]

/-- A node that loops at its W port opens four cycles after the eighth PROBE (R251). -/
theorem probed_tells {r : Ring} {f : RingFrame} (hr : r.loopRole = 2) (hs : r.probeSeen = false) (h7 : 7 ≤ r.probeRun)
    (h8 : 8 ≤ (byteAt f.payload 1).toNat) (ho : r.openAt = none) :
    r.probed f = { r with probeRun := r.probeRun + 1, probeSeen := true, peerRun := (byteAt f.payload 1).toNat
                          openAt := some (r.cycle + 4) } := by
  have h : (8 ≤ r.probeRun + 1 && 8 ≤ (byteAt f.payload 1).toNat && r.openAt.isNone) = true := by
    simp only [ho, Option.isNone_none, Bool.and_true, Bool.and_eq_true, decide_eq_true_eq]
    exact ⟨by omega, h8⟩
  simp only [Ring.probed, hs, if_pos hr, h, Bool.false_eq_true, if_false, if_true]

/-- What a forwarded and read frame leaves of a node (R237, R247). -/
theorem forwarded_leaves (s : State) (f : RingFrame) :
    let q := (s.ringForward f).ring.reads f
    q.keySlot = s.ring.keySlot ∧ q.loopRole = s.ring.loopRole ∧ q.probeRun = s.ring.probeRun ∧ q.probeSeen = s.ring.probeSeen
      ∧ q.openAt = s.ring.openAt ∧ q.asked = s.ring.asked ∧ q.echoes = s.ring.echoes ∧ q.cycle = s.ring.cycle := by
  obtain ⟨n, hn⟩ := ringForward_ring s f
  obtain ⟨-, h2, h3, h4, h5, h6, h7, h8, h9, h10⟩ := reads_leaves (s.ringForward f).ring f
  rw [hn] at h2 h3 h4 h5 h6 h7 h8 h9 h10 ⊢
  exact ⟨by simp only [Ring.keySlot, h2, h3], h4, h5, h6, h7, h8, h9, h10⟩

/-- Settles O50: the frames of the ring are judged before they act. -/
theorem ringFramesAreJudgedBeforeTheyAct : Obligations.RingFramesAreJudgedBeforeTheyAct := by
  refine ⟨fun s f c hs => ⟨fun ht => ?_, fun ht => ?_⟩, fun s f rt hs ht hc => ?_⟩
  · refine (row_on hs _).trans (congrArg _ ?_)
    rw [fromRing_down (s := s.begin) ht, ite_self]
  · intro v read acc
    have ht' : s.begin.loopTest = false := ht
    refine ⟨fun hc => ⟨fun h1 hd hf => ?_, fun hk => ⟨fun h1 => ?_, fun h0 => ?_, fun h2 hst => ?_, fun h3 hst => ?_⟩,
      fun hk => ⟨fun h2 hst => ?_, fun h3 hst => ?_, fun h3 hst hlt => ?_, fun h3 hst hlt => ?_⟩⟩, fun hc => ?_⟩
    · refine (row_on hs _).trans (congrArg _ ((if_neg (by simp [h1])).trans ?_))
      rw [fromRing_good ht' hc]
      exact ringRow_counter hd hf _
    · refine (row_on hs _).trans (congrArg _ ((if_neg (by simp [h1])).trans ?_))
      rw [fromRing_good ht' hc]
      exact ringRow_takes (s := v) hk _
    · refine (row_on hs _).trans (congrArg _ ((if_neg (by simp [h0])).trans ?_))
      rw [fromRing_good ht' hc]
      exact ringRow_takes (s := v) hk _
    · refine (row_on hs _).trans (congrArg _ ((if_neg (by simp [h2])).trans ?_))
      rw [fromRing_good ht' hc]
      have hv : ¬ (v.ring.state == .listen) = true := by simp [show v.ring.state = .synced from hst]
      exact (if_neg hv).trans ((ringRow_takes (s := v) hk _).trans (takeSync_synced ((accepts_state v f).1.trans hst) f))
    · refine (row_on hs _).trans (congrArg _ ((if_neg (by simp [h3])).trans ?_))
      rw [fromRing_good ht' hc]
      simp only [show (s.begin.cvuStrip 4 (f.bytes ++ be 4 (BitVec.toNat f.fcs))).1.ring.state = .synced from hst]
      exact (ringRow_takes (s := v) hk _).trans (takeSync_synced ((accepts_state v f).1.trans hst) f)
    · refine (row_on hs _).trans (congrArg _ ((if_neg (by simp [h2])).trans ?_))
      rw [fromRing_good ht' hc]
      have hv : (v.ring.state == .listen) = true := by simp [show v.ring.state = .listen from hst]
      exact (if_pos hv).trans (ringRow_takes (s := v) hk _)
    · refine (row_on hs _).trans (congrArg _ ((if_neg (by simp [h3])).trans ?_))
      rw [fromRing_good ht' hc]
      simp only [show (s.begin.cvuStrip 4 (f.bytes ++ be 4 (BitVec.toNat f.fcs))).1.ring.state = .listen from hst]
      exact ringRow_takes (s := v) hk _
    · refine (row_on hs _).trans (congrArg _ ((if_neg (by simp [h3])).trans ?_))
      rw [fromRing_good ht' hc]
      simp only [show (s.begin.cvuStrip 4 (f.bytes ++ be 4 (BitVec.toNat f.fcs))).1.ring.state = .coldstart from hst]
      exact (ringRow_takes (s := v) hk _).trans (if_pos ((accepts_state v f).2.symm ▸ hlt))
    · refine (row_on hs _).trans (congrArg _ ((if_neg (by simp [h3])).trans ?_))
      rw [fromRing_good ht' hc]
      simp only [show (s.begin.cvuStrip 4 (f.bytes ++ be 4 (BitVec.toNat f.fcs))).1.ring.state = .coldstart from hst]
      exact (ringRow_takes (s := v) hk _).trans (if_neg (Nat.not_lt.mpr (Nat.le_of_lt ((accepts_state v f).2.symm ▸ hlt))))
    · intro w bad
      have hbad : ∀ window g, v.ringRow (RingFrame.marked f) window g = { w with ring := { w.ring with fcsErrors := w.ring.fcsErrors + 1 } } :=
        fun window g => ringRow_bad v f window g
      refine ⟨fun h0 => ?_, fun h1 => ?_, fun h2 => ?_, fun h3 => ?_⟩
      · refine (row_on hs _).trans (congrArg _ ((if_neg (by simp [h0])).trans ?_))
        rw [fromRing_bad ht' hc]
        exact hbad _ _
      · refine (row_on hs _).trans (congrArg _ ((if_neg (by simp [h1])).trans ?_))
        rw [fromRing_bad ht' hc]
        exact hbad _ _
      · refine (row_on hs _).trans (congrArg _ ((if_neg (by simp [h2])).trans ?_))
        rw [fromRing_bad ht' hc]
        split
        · exact hbad _ _
        · exact hbad _ _
      · refine (row_on hs _).trans (congrArg _ ((if_neg (by simp [h3])).trans ?_))
        rw [fromRing_bad ht' hc]
        split
        · exact hbad _ _
        · exact hbad _ _
        · exact hbad _ _
  · intro v w
    have ht' : s.begin.loopTest = false := ht
    obtain ⟨wkey, wrole, wrun, wseen, wopen, wask, wecho, wcyc⟩ := forwarded_leaves v f
    have hecho : s.loopOk f 2 = true → exec (.echo f rt) s = .next (if f.port != .w || !w.ring.asked then w
        else if 4 ≤ (w.ring.echoes ++ [rt - 2000]).length then w.modRing fun r =>
          { r with echoes := [], asked := false, linkNs := (w.ring.echoes ++ [rt - 2000]).sum / (2 * (w.ring.echoes ++ [rt - 2000]).length)
                   measured := true }
        else (w.modRing fun r => { r with echoes := w.ring.echoes ++ [rt - 2000] }).askEcho) := fun hk => by
      refine (row_on hs _).trans (congrArg _ ?_)
      rw [fromRing_good ht' hc]
      exact loopRow_good (s := v) hk _
    have hprobe : s.loopOk f 3 = true → exec (.probe f) s = .next
        (if w.ring.loopRole = 0 || f.port != (if w.ring.loopRole = 1 then .e else .w) then w else w.modRing (·.probed f)) := fun hk => by
      refine (row_on hs _).trans (congrArg _ ?_)
      rw [fromRing_good ht' hc]
      exact loopRow_good (s := v) hk _
    refine ⟨fun hk hp => ?_, fun hk hp => ?_, fun hk hp ha hl => ?_, fun hk hp ha hl => ?_, fun hk ha => ?_, fun hk hr => ?_,
      fun hk hr hp hseen hn => ?_, fun hk hr hp hseen h7 h8 hn => ?_⟩
    · refine (row_on hs _).trans (congrArg _ ?_)
      rw [fromRing_good ht' hc]
      refine (loopRow_good (s := v) hk _).trans ((if_neg (by simp [hp])).trans ?_)
      exact congrArg (fun k => w.ringOut .e 4 false k (loopPayload 2 0 0)) wkey
    · refine (row_on hs _).trans (congrArg _ ?_)
      rw [fromRing_good ht' hc]
      exact (loopRow_good (s := v) hk _).trans (if_pos (by simp [hp]))
    · have hw : w.ring.echoes = s.ring.echoes := wecho
      rw [hecho hk, hw, if_neg (by simp [hp, show w.ring.asked = true from wask.trans ha]), if_pos (by simp [hl])]
      simp only [List.length_append, List.length_singleton, hl]
      rfl
    · have hw : w.ring.echoes = s.ring.echoes := wecho
      rw [hecho hk, hw, if_neg (by simp [hp, show w.ring.asked = true from wask.trans ha]), if_neg (by simp; omega)]
      rfl
    · rw [hecho hk, if_pos (by simp [show w.ring.asked = false from wask.trans ha])]
    · rw [hprobe hk, if_pos (by rw [show w.ring.loopRole = 0 from wrole.trans hr]; rfl)]
    · have hrole : w.ring.loopRole = 1 := wrole.trans hr
      have hrun : w.ring.probeRun = s.ring.probeRun := wrun
      rw [hprobe hk, if_neg (by simp [hrole, hp]), State.modRing, probed_told hrole (wseen.trans hseen) hn, hrun]
    · have hrole : w.ring.loopRole = 2 := wrole.trans hr
      have hrun : w.ring.probeRun = s.ring.probeRun := wrun
      rw [hprobe hk, if_neg (by simp [hrole, hp]), State.modRing,
        probed_tells hrole (wseen.trans hseen) (hrun ▸ h7) h8 (wopen.trans hn), hrun]
      exact congrArg (fun n => Host.Outcome.next { w with ring := { w.ring with
        probeRun := s.ring.probeRun + 1, probeSeen := true, peerRun := (byteAt f.payload 1).toNat, openAt := some (n + 4) } }) wcyc

end Sys2Proof.Machine
end

section
/-! PROOFS. The CAN engine: transmission, reception, its link states and the time role (O51). -/
namespace Sys2Proof.Machine

/-! ## Transmission -/

/-- Counts below 128 leave the engine error active (R291). -/
theorem canCount_active {s : State} {tec rec_ : Nat} (ht : tec < 128) (hr : rec_ < 128) :
    s.canCount tec rec_ = s.modCan fun c => { c with tec := tec, rec_ := rec_, passive := false } := by
  have h : (128 ≤ tec || 128 ≤ rec_) = false := by
    simp only [Bool.or_eq_false_iff, decide_eq_false_iff_not]
    omega
  simp only [State.canCount, h, Bool.false_and, Bool.false_eq_true, if_false]
  rfl

/-- An error passive engine stays so at a count of 128 or more (R291). -/
theorem canCount_passive {s : State} {tec rec_ : Nat} (ht : 128 ≤ tec) (hp : s.can.passive = true) :
    s.canCount tec rec_ = s.modCan fun c => { c with tec := tec, rec_ := rec_, passive := true } := by
  have h : (128 ≤ tec || 128 ≤ rec_) = true := by simp [ht]
  have hp' : (s.modCan fun c => { c with tec := tec, rec_ := rec_ }).can.passive = true := hp
  simp only [State.canCount, h, hp', Bool.not_true, Bool.and_false, Bool.false_eq_true, if_false]
  rfl

theorem canHead_none {s : State} (h : s.can.queue = []) : s.canHead = s := by
  simp only [State.canHead, h]

/-- A frame at the head that is no reference goes on the line (R291). -/
theorem canHead_plain {s : State} {f : CanOut} {l : List CanOut} (h : s.can.queue = f :: l) (hf : f.isRef = false) :
    s.canHead = s.emit (s.canLine f) := by
  simp only [State.canHead, h]
  cases f with
  | reference => cases hf
  | _ => rfl

theorem canQueue_first {s : State} {f : CanOut} (h : s.can.queue = []) (hl : f.bytes.length ≤ 2048) :
    s.canQueue f = (s.modCan fun c => { c with queue := [f] }).canHead := by
  have hm : (s.modCan fun c => { c with queue := c.queue ++ [f] }) = s.modCan fun c => { c with queue := [f] } :=
    congrArg (fun l : List CanOut => { s with can := { s.can with queue := l ++ [f] } }) h
  simp only [State.canQueue, hm, h, List.map_nil, List.sum_nil, Nat.zero_add, if_neg (Nat.not_lt.mpr hl), List.isEmpty_nil, if_true]

/-- A frame that is no reference and finds the queue empty goes on the line (R291). -/
theorem canQueue_plain {s : State} {f : CanOut} (h : s.can.queue = []) (hl : f.bytes.length ≤ 2048) (hf : f.isRef = false) :
    s.canQueue f = (s.modCan fun c => { c with queue := [f] }).emit (s.canLine f) := by
  rw [canQueue_first h hl]
  exact canHead_plain rfl hf

/-- The heartbeat of a link that is up finds its way (R292, R296). -/
theorem canBeatSend_online {s : State} (hl : s.can.link = .online) (hq : s.can.queue = []) : s.canBeatSend =
    (s.modCan fun c => { c with beatAt := some s.svc.ms, queue := [.heartbeat s.can.stopped] }).emit
      (s.canLine (.heartbeat s.can.stopped)) := by
  have hl' : (s.modCan fun c => { c with beatAt := some s.svc.ms }).can.link = .online := hl
  simp only [State.canBeatSend, State.canSend, hl']
  exact canQueue_plain hq (by simp [State.canBeat, CanOut.bytes]) rfl

/-- A change of the CAN engine that comes to a known one. -/
theorem modCan_to {s : State} {f : Can → Can} {c : Can} (h : f s.can = c) : s.modCan f = { s with can := c } :=
  congrArg (fun c => { s with can := c }) h

/-! ## Transmissions that end -/

theorem canAcked_last {s : State} {b : Bool} (st : Nat) (hq : s.can.queue = [.heartbeat b]) (ht : s.can.tec - 1 < 128)
    (hr : s.can.rec_ < 128) : s.canAcked st = s.modCan fun c =>
      { c with tec := c.tec - 1, passive := false, queue := [], attempts := 0, noAckRun := 0 } := by
  rw [State.canAcked, canCount_active ht hr]
  have hq' : (s.modCan fun c => { c with tec := s.can.tec - 1, rec_ := s.can.rec_, passive := false }).can.queue = [.heartbeat b] := hq
  simp only [hq']
  exact canHead_none rfl

/-- A failed attempt of an error active engine whose frame has attempts left (R291). -/
theorem canFailed_again {s : State} {f : CanOut} {l : List CanOut} {ack : Bool} {tec : Nat} (hq : s.can.queue = f :: l) (hf : f.isRef = false)
    (ht : tec < 128) (hr : s.can.rec_ < 128) (hl : s.can.link = .online) (ha : s.can.attempts < s.retryLimit) :
    s.canFailed ack tec = (s.modCan fun c =>
      { c with tec := tec, passive := false, attempts := c.attempts + 1 }).emit (s.canLine f) := by
  rw [State.canFailed, canCount_active ht hr]
  refine (if_neg (by omega)).trans ((if_neg ?_).trans ((if_neg ?_).trans ?_))
  · simp [State.modCan, hq]
  · show ¬ (if s.can.link == .alone then 0 else s.retryLimit) ≤ s.can.attempts
    rw [hl]
    exact Nat.not_le.mpr ha
  · exact canHead_plain hq hf

/-- A failed attempt of an error active engine that was the frame's last (R291). -/
theorem canFailed_last {s : State} {f : CanOut} {l : List CanOut} {ack : Bool} {tec : Nat} (hq : s.can.queue = f :: l)
    (ht : tec < 128) (hr : s.can.rec_ < 128) (hl : s.can.link = .online) (ha : s.retryLimit ≤ s.can.attempts) :
    s.canFailed ack tec = (s.modCan fun c => { c with tec := tec, passive := false }).canDrop ack := by
  rw [State.canFailed, canCount_active ht hr]
  refine (if_neg (by omega)).trans ((if_neg ?_).trans (if_pos ?_))
  · simp [State.modCan, hq]
  · show (if s.can.link == .alone then 0 else s.retryLimit) ≤ s.can.attempts
    rw [hl]
    exact ha

/-- The last frame dropped for want of an acknowledgement (R291, R292): the eighth in a row takes the engine `ALONE`. -/
theorem canDrop_last {s : State} {b : Bool} (hq : s.can.queue = [.heartbeat b]) (hl : s.can.link = .online) :
    s.canDrop true = (if 7 ≤ s.can.noAckRun then s.modCan fun c => { c with
        queue := [], attempts := 0, noAck := c.noAck + 1, noAckRun := c.noAckRun + 1
        link := .alone, alones := c.alones + 1, aloneAt := s.svc.ms }
      else s.modCan fun c => { c with queue := [], attempts := 0, noAck := c.noAck + 1, noAckRun := c.noAckRun + 1 }) := by
  unfold State.canDrop
  by_cases h7 : 7 ≤ s.can.noAckRun
  · rw [if_pos h7]
    refine (if_pos ?_).trans ?_
    · show (true && 8 ≤ s.can.noAckRun + 1 && s.can.link == .online) = true
      simpa [hl] using h7
    · simp only [State.goAlone, State.modCan, hq]
      rfl
  · rw [if_neg h7]
    refine (if_neg ?_).trans ((canHead_none ?_).trans ?_)
    · show ¬ (true && 8 ≤ s.can.noAckRun + 1 && s.can.link == .online) = true
      simp only [Bool.and_eq_true, decide_eq_true_eq]
      omega
    · simp only [State.modCan, hq, List.tail_cons]
    · simp only [State.modCan, hq]
      rfl

/-- A transmit error count beyond 255 is `BUS_OFF` (R291, R292). -/
theorem canFailed_busOff {s : State} {q : CanOut} {ack : Bool} {tec : Nat} (hq : s.can.queue = [q]) (ht : 255 < tec)
    (hp : s.can.passive = true) : s.canFailed ack tec = s.modCan fun c => { c with
      tec := tec, link := .busOff, errLimit := c.errLimit + 1, queue := [], attempts := 0, prevStamp := none } := by
  rw [State.canFailed, canCount_passive (by omega) hp]
  refine (if_pos ht).trans ?_
  simp only [State.modCan, hq, ← hp]
  rfl

/-! ## Reception -/

/-- The engine with the error counters after a frame (R291). -/
def State.counted (s : State) (rec_ : Nat) : State :=
  { s with can := { s.can with rec_ := rec_, passive := false }, svc := { s.svc with fresh := s.svc.fresh + 1 } }

/-- Where a valid frame goes (R290). -/
def State.sortCan (s : State) (f : CanFrame) : State :=
  if f.remote then s
  else match s.can.action s.nodeId s.refBase f.ext f.ident with
    | 1 =>
      if f.ext || !s.served f then s.canReject
      else if 2048 < frameBytes s.can.service + f.data.length then s.raise 0x6B
      else s.modCan fun c => { c with service := c.service ++ [f] }
    | 2 =>
      if 2048 < frameBytes s.can.timeq + f.data.length then s.raise 0x6B
      else s.modCan fun c => { c with timeq := c.timeq ++ [f] }
    | _ => s.canReject

theorem canReceive_good {s : State} {f : CanFrame} (hl : s.can.link ≠ .busOff) (ht : s.can.tec < 128) (hr : s.can.rec_ < 128)
    (he : f.error = none) (hi : f.ident < 0x800) : canReceive f s = ((s.counted (s.can.rec_ - 1)).endAlone).sortCan f := by
  have hrec : s.recAfter f = s.can.rec_ - 1 := by
    simp only [State.recAfter, he, if_neg (Nat.not_lt.mpr (Nat.lt_succ_iff.mp hr))]
  have hb : ¬ (s.can.link == .busOff || 0x20000000 ≤ f.ident || (!f.ext && 0x800 ≤ f.ident)) = true := by
    simp only [Bool.or_eq_true, Bool.and_eq_true, beq_iff_eq, decide_eq_true_eq]
    rintro ((h | h) | h)
    · exact hl h
    · omega
    · omega
  rw [canReceive, if_neg hb, hrec, canCount_active ht (by omega), if_neg (by simp [he])]
  rfl

/-- A frame with an error whose flag another node answered counts nine (R291). -/
theorem canReceive_error {s : State} {f : CanFrame} (hl : s.can.link ≠ .busOff) (ht : s.can.tec < 128) (hr : s.can.rec_ + 9 < 128)
    (he : f.error = some true) (hi : f.ident < 0x800) : canReceive f s = s.counted (s.can.rec_ + 9) := by
  have hrec : s.recAfter f = s.can.rec_ + 9 := by
    simp only [State.recAfter, he, bit, if_true]
  have hb : ¬ (s.can.link == .busOff || 0x20000000 ≤ f.ident || (!f.ext && 0x800 ≤ f.ident)) = true := by
    simp only [Bool.or_eq_true, Bool.and_eq_true, beq_iff_eq, decide_eq_true_eq]
    rintro ((h | h) | h)
    · exact hl h
    · omega
    · omega
  rw [canReceive, if_neg hb, hrec, canCount_active ht hr, if_pos (by simp [he])]
  rfl

theorem endAlone_online {s : State} (h : s.can.link = .online) : s.endAlone = s := if_neg (by simp [h])

/-- A frame ends `ALONE`: the link is up again, with a heartbeat (R292). -/
theorem endAlone_alone {s : State} (h : s.can.link = .alone) (hq : s.can.queue = []) : s.endAlone = (s.modCan fun c => { c with
    link := .online, noAckRun := 0, refDue := s.svc.ms + s.refPeriod, beatAt := some s.svc.ms, queue := [.heartbeat c.stopped] }).emit
      (s.canLine (.heartbeat s.can.stopped)) := by
  refine (if_pos (by simp [h])).trans ?_
  exact canBeatSend_online rfl hq

theorem sortCan_remote {s : State} {f : CanFrame} (h : f.remote = true) : s.sortCan f = s := if_pos h

theorem sortCan_rejected {s : State} {f : CanFrame} (h : f.remote = false) (ha : s.can.action s.nodeId s.refBase f.ext f.ident = 0) :
    s.sortCan f = s.canReject := by
  simp only [State.sortCan, h, ha, Bool.false_eq_true, if_false]

theorem sortCan_service {s : State} {f : CanFrame} (h : f.remote = false) (ha : s.can.action s.nodeId s.refBase f.ext f.ident = 1)
    (he : f.ext = false) (hs : s.served f = true) (hl : frameBytes s.can.service + f.data.length ≤ 2048) :
    s.sortCan f = s.modCan fun c => { c with service := c.service ++ [f] } := by
  simp only [State.sortCan, h, ha, Bool.false_eq_true, if_false]
  rw [if_neg (by simp [he, hs]), if_neg (Nat.not_lt.mpr hl)]

theorem sortCan_unserved {s : State} {f : CanFrame} (h : f.remote = false) (ha : s.can.action s.nodeId s.refBase f.ext f.ident = 1)
    (hs : s.served f = false) : s.sortCan f = s.canReject := by
  simp only [State.sortCan, h, ha, hs, Bool.not_false, Bool.or_true, Bool.false_eq_true, if_false, if_true]

theorem sortCan_time {s : State} {f : CanFrame} (h : f.remote = false) (ha : s.can.action s.nodeId s.refBase f.ext f.ident = 2)
    (hl : frameBytes s.can.timeq + f.data.length ≤ 2048) : s.sortCan f = s.modCan fun c => { c with timeq := c.timeq ++ [f] } := by
  simp only [State.sortCan, h, ha, if_neg (Nat.not_lt.mpr hl), Bool.false_eq_true, if_false]

end Sys2Proof.Machine
end

section
/-! PROOFS. The rows of the CAN engine (O51). -/
namespace Sys2Proof.Machine

/-! ## Rows of the engine -/

/-- A command of the CAN engine that comes to a known one. -/
theorem canRow_to {s : State} {f : State → State} {c : Can} {o : List Out} (hs : Supplied s) (h : f s.begin = s.canTo c o) :
    (.next (s.live f) : Host.Outcome State Fault Refusal) = .next (s.canTo c o) :=
  (row_on hs f).trans (congrArg _ h)

theorem exec_receive_off {s : State} (hs : Supplied s) (f : CanFrame) (st : Nat) (h : s.can.link = .busOff) :
    exec (.canFrameReceive f st) s = .next s.begin :=
  (row_on hs _).trans (congrArg _ (if_pos (by simp [h])))

theorem exec_transmit_off {s : State} (hs : Supplied s) (r : TxResult) (h : s.can.link = .busOff) :
    exec (.canTransmitComplete r) s = .next s.begin :=
  (row_on hs _).trans (congrArg _ (if_pos (by simp [h])))

/-- What an attempt that ends on a link that is up comes to (R291). -/
theorem canTransmit_online {s : State} (h : s.can.link = .online) :
    (∀ st, canTransmit (.acked st) s = s.canAcked st)
      ∧ (∀ b, canTransmit (.ackError b) s = s.canFailed true (s.can.failTec (.ackError b)))
      ∧ (∀ b, canTransmit (.otherError b) s = s.canFailed false (s.can.failTec (.otherError b)))
      ∧ canTransmit .lostArbitration s = s.canHead := by
  have hb : ¬ (s.can.link == .busOff) = true := by simp [h]
  exact ⟨fun _ => if_neg hb, fun _ => if_neg hb, fun _ => if_neg hb, if_neg hb⟩

/-- An error active transmitter counts eight for a missing acknowledgement (R291). -/
theorem failTec_active {c : Can} (h : c.tec + 8 < 128) (b : Bool) : c.failTec (.ackError b) = c.tec + 8 := by
  simp [Can.failTec, show ¬ 128 ≤ c.tec by omega]

theorem unacked_again {s : State} {b : Bool} (hl : s.can.link = .online) (hq : s.can.queue = [.heartbeat b]) (ht : s.can.tec + 8 < 128)
    (hr : s.can.rec_ < 128) (ha : s.can.attempts < s.retryLimit) : canTransmit (.ackError b) s =
      (s.modCan fun c => { c with tec := c.tec + 8, passive := false, attempts := c.attempts + 1 }).emit (s.canLine (.heartbeat b)) := by
  rw [(canTransmit_online hl).2.1, failTec_active ht]
  exact canFailed_again hq rfl ht hr hl ha

theorem unacked_last {s : State} {b : Bool} (hl : s.can.link = .online) (hq : s.can.queue = [.heartbeat b]) (ht : s.can.tec + 8 < 128)
    (hr : s.can.rec_ < 128) (ha : s.retryLimit ≤ s.can.attempts) : canTransmit (.ackError b) s =
      (if 7 ≤ s.can.noAckRun then s.modCan fun c => { c with 
        tec := c.tec + 8, passive := false, queue := [], attempts := 0, noAck := c.noAck + 1, noAckRun := c.noAckRun + 1
        link := .alone, alones := c.alones + 1, aloneAt := s.svc.ms }
      else s.modCan fun c => { c with
        tec := c.tec + 8, passive := false, queue := [], attempts := 0, noAck := c.noAck + 1, noAckRun := c.noAckRun + 1 }) := by
  rw [(canTransmit_online hl).2.1, failTec_active ht, canFailed_last hq ht hr hl ha]
  exact canDrop_last hq hl

theorem failed_busOff {s : State} {q : CanOut} (hl : s.can.link = .online) (hq : s.can.queue = [q]) (hp : s.can.passive = true)
    (ht : 247 < s.can.tec) : canTransmit (.otherError false) s = s.modCan fun c => { c with
      tec := c.tec + 8, link := .busOff, errLimit := c.errLimit + 1, queue := [], attempts := 0, prevStamp := none } := by
  have htec : 255 < s.can.failTec (.otherError false) := by
    show 255 < s.can.tec + 8
    omega
  rw [(canTransmit_online hl).2.2.1]
  exact canFailed_busOff hq htec hp

theorem acked_last {s : State} {b : Bool} (st : Nat) (hl : s.can.link = .online) (hq : s.can.queue = [.heartbeat b])
    (ht : s.can.tec + 8 < 128) (hr : s.can.rec_ < 128) : canTransmit (.acked st) s = s.modCan fun c =>
      { c with tec := c.tec - 1, passive := false, queue := [], attempts := 0, noAckRun := 0 } := by
  rw [(canTransmit_online hl).1]
  exact canAcked_last st hq (by omega) hr

/-- A beat from an engine that goes on the line again (R292). -/
theorem exec_aloneSend {s : State} (hs : Supplied s) (hl : s.can.link = .alone) (hdue : s.can.aloneAt + 1000 ≤ s.svc.ms)
    (hrole : s.can.role ≠ .master) (hq : s.can.queue = []) : exec .aloneSend s = .next (s.canTo { s.can with
      aloneAt := s.svc.ms, queue := [.heartbeat s.can.stopped] } [s.canLine (.heartbeat s.can.stopped)]) := by
  have hq' : (s.begin.modCan fun c => { c with aloneAt := s.begin.svc.ms }).can.queue = [] := hq
  refine (row_on hs _).trans (congrArg _ ((if_pos (by simp [hl, hdue])).trans ?_))
  rw [canQueue_plain (f := State.canBeat _) hq' (by simp [State.canBeat, CanOut.bytes]) rfl]
  refine if_neg ?_
  show ¬ (s.can.role == .master && !s.can.stopped) = true
  simp [hrole]

/-- The recovery from `BUS_OFF` starts anew, with a heartbeat and its EMCY (R292, R304). -/
theorem exec_busOffRecovery {s : State} (hs : Supplied s) (hl : s.can.link = .busOff) (hq : s.can.queue = []) :
    exec .busOffRecovery s = .next ((s.canTo { s.can with
        link := .online, busOffs := s.can.busOffs + 1, tec := 0, rec_ := 0, passive := false, noAckRun := 0
        beatAt := some s.svc.ms, queue := [.heartbeat s.can.stopped] } [s.canLine (.heartbeat s.can.stopped)]).queueEmcy 0x8140 0xFFFF) := by
  refine (row_on hs _).trans (congrArg _ ((if_pos (by simp [hl])).trans (congrArg (fun u => State.queueEmcy u 0x8140 0xFFFF) ?_)))
  exact canBeatSend_online rfl hq

theorem exec_canHeartbeat {s : State} (hs : Supplied s) (hl : s.can.link = .online) (hq : s.can.queue = []) (hd : s.beatDue = true) :
    exec .canHeartbeat s = .next (s.canTo { s.can with
      beatAt := some s.svc.ms, queue := [.heartbeat s.can.stopped] } [s.canLine (.heartbeat s.can.stopped)]) :=
  (row_on hs _).trans (congrArg _ ((if_pos (by simp [hl, show s.begin.beatDue = true from hd])).trans
    (canBeatSend_online (s := s.begin) hl hq)))

/-- The next EMCY that may be sent goes to the CAN engine and to the tunnel clients (R304). -/
theorem exec_emcySend {s : State} {e : Emcy} {l : List Emcy} (hs : Supplied s) (hd : s.emcyDue = true) (he : s.can.emcys = e :: l) :
    exec .emcySend s = .next (((s.begin.modCan fun c => { c with emcys := l, emcyAt := some s.svc.ms }).canSend (.emcy e)).emits
      (s.tunnels.map fun ip => .tunnelEmcy (BitVec.ofNat 32 ip) (tunnelBytes 3 0 e.bytes))) := by
  have he' : s.begin.can.emcys = e :: l := he
  refine (row_on hs _).trans (congrArg _ ((if_pos (by exact hd)).trans ?_))
  simp only [he']
  rfl

theorem canSend_alone {s : State} (f : CanOut) (hl : s.can.link = .alone) :
    s.canSend f = s.modCan fun c => { c with noAck := c.noAck + 1 } := by
  simp only [State.canSend, hl]

theorem canSend_plain {s : State} {f : CanOut} (hl : s.can.link = .online) (hq : s.can.queue = []) (hlen : f.bytes.length ≤ 2048)
    (hf : f.isRef = false) : s.canSend f = (s.modCan fun c => { c with queue := [f] }).emit (s.canLine f) := by
  simp only [State.canSend, hl]
  exact canQueue_plain hq hlen hf

theorem emcy_length (e : Emcy) : (CanOut.bytes (.emcy e)).length ≤ 2048 := by
  simp [CanOut.bytes, Emcy.bytes, le]

/-! ## NMT and the time role -/

/-- An NMT command that waits leaves the service queue as it acts (R292). -/
theorem nmtServed_front {s : State} {f : CanFrame} {cs : Nat} (h : s.can.service = [f]) (hi : f.ident = 0)
    (hb : (byteAt f.data 0).toNat = cs) : s.nmtServed cs = s.modCan fun c => { c with service := [] } := by
  simp only [State.nmtServed, State.modCan, h]
  simp [List.findIdx?_cons, hi, hb]

theorem nmtServed_none {s : State} (h : s.can.service = []) (cs : Nat) : s.nmtServed cs = s := by
  have hc : ({ s.can with service := [] } : Can) = s.can := by rw [← h]
  simp only [State.nmtServed, State.modCan, h, List.findIdx?_nil, hc]

/-- The engine after a restart without a fault of its filters (R290, R292). -/
theorem canStart_good {s : State} (h : (pstFilters s.pstLive).any filterBad = false) : s.canStart = State.emit { s with
      can := { Can.reset with
        role := if s.masterCapable then .backup else .slave
        wStart := s.svc.ms, emcys := s.can.emcys, filters := pstFilters s.pstLive, beatAt := some s.svc.ms
        queue := [.heartbeat false] } } (s.canLine (.heartbeat false)) := by
  have hmap : (pstFilters s.pstLive).map (fun w => if filterBad w then 0 else w) = pstFilters s.pstLive := by
    refine (List.map_congr_left fun w hw => if_neg ?_).trans (List.map_id _)
    exact fun hb => Bool.eq_false_iff.mp h (List.any_eq_true.mpr ⟨w, hw, hb⟩)
  simp only [State.canStart, h, hmap, Bool.false_eq_true, if_false]
  exact canBeatSend_online rfl rfl

/-- A reference that goes on the line keeps its SEQ (R306). -/
theorem canHead_ref {s : State} {prio q ns sec : Nat} {v ptp : Bool} {l : List CanOut}
    (h : s.can.queue = .reference prio q v ptp ns sec :: l) :
    s.canHead = (s.modCan fun c => { c with refSeq := q }).emit (s.canLine (.reference prio q v ptp ns sec)) := by
  simp only [State.canHead, h]
  rfl

/-- The reference that a master sends next (R293). -/
def State.nextRef (s : State) : CanOut :=
  .reference s.masterPrio s.can.refNext s.can.prevStamp.isSome (isPtp s.time.source) (s.can.prevStamp.getD DTime.zero).ns
    (s.can.prevStamp.getD DTime.zero).s

/-- A reference that finds the queue of a link that is up empty goes on the line (R293). -/
theorem sendRef_first {s : State} (hl : s.can.link = .online) (hq : s.can.queue = []) : s.sendRef =
    (s.modCan fun c => { c with
      refNext := (c.refNext + 1) % 256, refDue := s.svc.ms + s.refPeriod, queue := [s.nextRef], refSeq := c.refNext }).emit
        (s.canLine s.nextRef) := by
  have hlen : s.nextRef.bytes.length ≤ 2048 := by simp [State.nextRef, CanOut.bytes, le]
  have hl' : (s.modCan fun c => { c with refNext := (c.refNext + 1) % 256, refDue := s.svc.ms + s.refPeriod }).can.link = .online := hl
  have h : s.sendRef = ((s.modCan fun c => { c with
    refNext := (c.refNext + 1) % 256, refDue := s.svc.ms + s.refPeriod }).canSend s.nextRef) := rfl
  rw [h]
  simp only [State.canSend, hl']
  rw [canQueue_first (s := s.modCan fun c => { c with refNext := (c.refNext + 1) % 256, refDue := s.svc.ms + s.refPeriod }) hq hlen]
  exact canHead_ref rfl

theorem stamp_taken {s : State} {t : TsuSt} {x : W32} (hv : t.valid = true) (he : (t.extend x s.svc.ms).isSome = true) :
    s.stamp t x = (s, true) := by
  rw [State.stamp, if_neg (by simp [hv]), if_pos he]

/-- The engine with a valid reference, the pair it completes, if any, and what its role then does (R294, R295). -/
def State.referred (s : State) (m : RefMsg) (pair : Option (DTime × DTime)) : State :=
  let u := s.modCan fun c => { c with
    timeq := c.timeq.tail, masterSeen := m.priority
    lastRef := some (m, s.time.can.deviceAt (s.refStamp m.stamp false) s.svc.ms)
    pairMs := if pair.isSome then some s.svc.ms else c.pairMs, pair := if pair.isSome then pair else c.pair }
  match s.can.role with
  | .slave => u
  | .backup => u.modCan fun c => { c with wStart := s.svc.ms }
  | .master => if m.priority < s.masterPrio then u.toBackup else u

/-- The pair of times that a message completes (R294). -/
def Can.pairOf (c : Can) (m : RefMsg) : Option (DTime × DTime) :=
  match c.lastRef with
  | some (k, t) => if pairs k m then some (t, ⟨m.prevS, m.prevNs⟩) else none
  | none => none

/-- A valid reference as the time role takes it (R294, R295). -/
theorem referenceReceive_valid {s : State} {m : RefMsg} (hf : s.frameMode ≠ 0) (hp : m.priority < 8) (hq : m.seq < 256)
    (hv : s.time.can.valid = true) (he : (s.time.can.extend (s.refStamp m.stamp false) s.svc.ms).isSome = true) :
    referenceReceive m s = s.referred m (s.can.pairOf m) := by
  have h0 : ¬ ((s.modCan fun c => { c with timeq := c.timeq.tail }).frameMode = 0 || 8 ≤ m.priority || 256 ≤ m.seq) = true := by
    rw [show (s.modCan fun c => { c with timeq := c.timeq.tail }).frameMode = s.frameMode from rfl]
    simp only [Bool.or_eq_true, decide_eq_true_eq]
    omega
  have hst : ∀ u, u = s.modCan (fun c => { c with timeq := c.timeq.tail }) → u.stamp u.time.can (u.refStamp m.stamp false) = (u, true) := by
    rintro _ rfl
    exact stamp_taken hv he
  simp only [referenceReceive, if_neg h0, hst _ rfl, if_true]
  rfl

theorem exec_reference {s : State} {m : RefMsg} (hs : Supplied s) (hf : s.frameMode ≠ 0) (hp : m.priority < 8) (hq : m.seq < 256)
    (hv : s.time.can.valid = true) (he : (s.time.can.extend (s.refStamp m.stamp false) s.svc.ms).isSome = true) :
    exec (.referenceMessageReceive m) s = .next (s.begin.referred m (s.can.pairOf m)) :=
  (row_on hs _).trans (congrArg _ (referenceReceive_valid (s := s.begin) hf hp hq hv he))

/-- Timer W of a backup that ends (R295). -/
theorem exec_wExpiry {s : State} (hs : Supplied s) (hr : s.can.role = .backup) (hdue : s.can.wStart + s.wTime ≤ s.svc.ms) :
    exec .timeRoleWExpiry s = .next (if s.ownTime then
        (if s.can.link == .online && !s.can.stopped then
          (s.begin.modCan fun c => { c with role := .master, prevStamp := none }).sendRef
        else s.begin.modCan fun c => { c with role := .master, prevStamp := none })
      else s.begin.modCan fun c => { c with wStart := s.svc.ms }) := by
  have h : (s.can.role == .backup && s.can.wStart + s.wTime ≤ s.svc.ms) = true := by
    simp only [Bool.and_eq_true, beq_iff_eq, decide_eq_true_eq]
    exact ⟨hr, hdue⟩
  exact (row_on hs _).trans (congrArg _ (if_pos h))

/-- Settles O51: the CAN engine follows its link state and its time role. -/
theorem canEngineFollowsItsLinkState : Obligations.CanEngineFollowsItsLinkState := by
  refine ⟨fun s f st q b e l hs => ?_, fun s m k t0 cl ip cs f hs => ?_⟩
  · intro c beat got heard act
    have hrec : ∀ {x : Can}, s.can.link ≠ .busOff → s.can.tec < 128 → s.can.rec_ < 128 → f.error = none → f.ident < 0x800 →
        (s.begin.counted (s.can.rec_ - 1)).endAlone.sortCan f = { s.canTo x [] with svc := { s.svc with fresh := s.svc.fresh + 1 } } →
        exec (.canFrameReceive f st) s = got x := fun hl ht hr he hi h =>
      (row_on hs _).trans (congrArg _ ((canReceive_good (s := s.begin) hl ht hr he hi).trans h))
    refine ⟨fun hl ht hr he hi => ?_, fun hl ht hr hi he => ?_, fun hl hq ht hr he hi hrem => ?_, fun hl => ⟨?_, fun r => ?_⟩,
      fun hl hq ht hr => ⟨?_, fun ha => ?_, fun ha hn => ?_, fun ha hn => ?_, ?_⟩, fun hl hq hr hp ht => ?_, fun hl hdue hrole hq => ?_,
      fun hl => ?_, fun hl hq => ?_, fun hl hq hdue => ?_, fun hdue => ?_, fun hem hdue => ?_, fun h => ?_⟩
    · have hon : (s.begin.counted (s.can.rec_ - 1)).endAlone = s.begin.counted (s.can.rec_ - 1) := endAlone_online hl
      have hne : s.can.link ≠ .busOff := by simp [show s.can.link = .online from hl]
      refine ⟨fun hrem => hrec hne ht hr he hi ?_, fun hrem ha => hrec hne ht hr he hi ?_, fun hrem ha hx hsv hlen => hrec hne ht hr he hi ?_,
        fun hrem ha hsv => hrec hne ht hr he hi ?_, fun hrem ha hlen => hrec hne ht hr he hi ?_⟩
      · rw [hon]
        exact sortCan_remote (s := s.begin.counted (s.can.rec_ - 1)) hrem
      · rw [hon]
        exact sortCan_rejected (s := s.begin.counted (s.can.rec_ - 1)) hrem ha
      · rw [hon]
        exact sortCan_service (s := s.begin.counted (s.can.rec_ - 1)) hrem ha hx hsv hlen
      · rw [hon]
        exact sortCan_unserved (s := s.begin.counted (s.can.rec_ - 1)) hrem ha hsv
      · rw [hon]
        exact sortCan_time (s := s.begin.counted (s.can.rec_ - 1)) hrem ha hlen
    · have hne : s.can.link ≠ .busOff := by simp [show s.can.link = .online from hl]
      exact (row_on hs _).trans (congrArg _ (canReceive_error (s := s.begin) hne ht hr he hi))
    · have hne : s.can.link ≠ .busOff := by simp [show s.can.link = .alone from hl]
      refine ⟨_, (row_on hs _).trans (congrArg _ ((canReceive_good (s := s.begin) hne ht hr he hi).trans (sortCan_remote hrem))), ?_⟩
      rw [endAlone_alone (s := s.begin.counted (s.begin.can.rec_ - 1)) hl hq]
      exact ⟨rfl, rfl, rfl⟩
    · exact exec_receive_off hs f st hl
    · exact exec_transmit_off hs r hl
    · exact (row_on hs _).trans (congrArg _ (acked_last (s := s.begin) st hl hq ht hr))
    · exact (row_on hs _).trans (congrArg _ (unacked_again (s := s.begin) hl hq ht hr ha))
    · exact (row_on hs _).trans (congrArg _ ((unacked_last (s := s.begin) hl hq ht hr ha).trans (if_neg (Nat.not_le.mpr hn))))
    · exact (row_on hs _).trans (congrArg _ ((unacked_last (s := s.begin) hl hq ht hr ha).trans (if_pos hn)))
    · exact (row_on hs _).trans (congrArg _ ((canTransmit_online (s := s.begin) hl).2.2.2.trans (canHead_plain (s := s.begin) hq rfl)))
    · exact (row_on hs _).trans (congrArg _ (failed_busOff (s := s.begin) hl hq hp ht))
    · exact exec_aloneSend hs hl hdue hrole hq
    · exact (row_on hs _).trans (congrArg _ (if_neg (by simp [show s.can.link ≠ .alone from hl])))
    · exact exec_busOffRecovery hs hl hq
    · exact exec_canHeartbeat hs hl hq hdue
    · exact (row_on hs _).trans (congrArg _ (if_neg (by simp [show s.begin.beatDue = false from hdue])))
    · intro tuns
      rw [exec_emcySend hs hdue hem]
      refine ⟨fun hl => ?_, fun hl hq => ?_⟩
      · exact congrArg (fun u : State => Host.Outcome.next (u.emits tuns)) (canSend_alone
          (s := s.begin.modCan fun c => { c with emcys := l, emcyAt := some s.svc.ms }) (.emcy e) hl)
      · exact congrArg (fun u : State => Host.Outcome.next (u.emits tuns)) (canSend_plain
          (s := s.begin.modCan fun c => { c with emcys := l, emcyAt := some s.svc.ms }) hl hq (emcy_length e) rfl)
    · refine (row_on hs _).trans (congrArg _ ?_)
      obtain h | h := h
      · exact if_neg (by simp [show s.begin.emcyDue = false from h])
      · simp only [show s.begin.can.emcys = [] from h, ite_self]
  · intro c x p ref sent now
    refine ⟨fun hsv hi hb => ⟨fun h1 => ?_, fun h2 => ?_⟩, fun hsv => ⟨?_, ?_⟩, fun hst hi => ?_, fun hbad => ?_,
      fun hf hp hq hv he => ⟨fun hr hlast => ?_, fun hr hlast hpair => ?_, fun hr hlast hprio => ?_⟩, fun hf => ?_, fun hr ho => ?_,
      fun hr ho hl hst hdue hq => ?_, fun h => ?_, ⟨rfl, rfl⟩, fun hr hdue => ⟨fun ho hl hst => ?_, fun ho hst => ?_, fun ho => ?_⟩,
      fun h => ?_, row_on hs _, row_on hs _⟩
    · exact (row_on hs _).trans (congrArg (fun u : State => Host.Outcome.next (u.modCan fun c => { c with stopped := false }))
        (nmtServed_front (s := s.begin) hsv hi (hb.trans h1)))
    · exact (row_on hs _).trans (congrArg (fun u : State => Host.Outcome.next (u.modCan fun c => { c with stopped := true }))
        (nmtServed_front (s := s.begin) hsv hi (hb.trans h2)))
    · exact (row_on hs _).trans (congrArg (fun u : State => Host.Outcome.next (u.modCan fun c => { c with stopped := false }))
        (nmtServed_none (s := s.begin) hsv 1))
    · exact (row_on hs _).trans (congrArg (fun u : State => Host.Outcome.next (u.modCan fun c => { c with stopped := true }))
        (nmtServed_none (s := s.begin) hsv 2))
    · exact (if_neg hi).trans (by simp [show s.can.stopped = true from hst])
    · intro fresh
      have h := canStart_good (s := s.begin) hbad
      exact ⟨(row_on hs _).trans (congrArg _ h), (row_on hs _).trans (congrArg _ h)⟩
    · rw [exec_reference hs hf hp hq hv he, Can.pairOf, show s.can.lastRef = none from hlast]
      simp only [State.referred, show s.begin.can.role = .backup from hr]
      rfl
    · rw [exec_reference hs hf hp hq hv he, Can.pairOf, show s.can.lastRef = some (k, t0) from hlast]
      simp only [State.referred, show s.begin.can.role = .slave from hr, hpair]
      rfl
    · rw [exec_reference hs hf hp hq hv he, Can.pairOf, show s.can.lastRef = none from hlast]
      simp only [State.referred, show s.begin.can.role = .master from hr]
      exact congrArg _ (if_pos hprio)
    · exact (row_on hs _).trans (congrArg _ (if_pos (by
        rw [show (s.begin.modCan fun c => { c with timeq := c.timeq.tail }).frameMode = 0 from hf]
        rfl)))
    · refine (row_on hs _).trans (congrArg _ ((if_neg ?_).trans (if_pos ?_)))
      · simp [show s.can.role = .master from hr]
      · simp [show s.begin.ownTime = false from ho]
    · refine (row_on hs _).trans (congrArg _ ((if_neg ?_).trans ((if_neg ?_).trans ((if_pos ?_).trans ?_))))
      · simp [show s.can.role = .master from hr]
      · simp [show s.begin.ownTime = true from ho]
      · simp [show s.can.link = .online from hl, show s.can.stopped = false from hst, show s.can.refDue ≤ s.svc.ms from hdue]
      · exact sendRef_first (s := s.begin) hl hq
    · refine (row_on hs _).trans (congrArg _ ?_)
      by_cases hr : s.can.role = .master
      · obtain h | ⟨ho, hst⟩ := h
        · exact absurd hr h
        · refine (if_neg (by simp [hr])).trans ((if_neg (by simp [show s.begin.ownTime = true from ho])).trans (if_neg ?_))
          simp [show s.can.stopped = true from hst]
      · exact if_pos (by simp [hr])
    · rw [exec_wExpiry hs hr hdue, if_pos ho, if_pos (by
        rw [show s.can.link = .online from hl, show s.can.stopped = false from hst]
        rfl)]
      rfl
    · rw [exec_wExpiry hs hr hdue, if_pos ho, if_neg (by
        rw [show s.can.stopped = true from hst, Bool.not_true, Bool.and_false]
        exact Bool.false_ne_true)]
      rfl
    · rw [exec_wExpiry hs hr hdue, if_neg (by simp [ho])]
      rfl
    · refine (row_on hs _).trans (congrArg _ (if_neg ?_))
      simp only [Bool.and_eq_true, decide_eq_true_eq, not_and]
      exact fun _ => Nat.not_le.mpr h

end Sys2Proof.Machine
end

section
/-! PROOFS. Writes of objects, checked in order (O52). -/
namespace Sys2Proof.Machine

/-! ## The write of an object -/

/-- An object whose access refuses every write (R301). -/
theorem objectWrite_error {s : State} {idx sub : Nat} {e : W32} (h : s.access idx sub = .error e) (cl : Client) (d : List Byte) :
    objectWrite cl idx sub d s = (s.touch cl).abort cl e := by
  simp only [objectWrite, h]

/-- An object that may be written and has no row of its own (R301). -/
theorem objectWrite_of {s : State} {cl : Client} {idx sub : Nat} {d : List Byte} {acc : Acc} {w : Write}
    (h : s.access idx sub = .ok acc) (hc : acc ≠ .const) (hr : acc ≠ .ro) (ho : ownRow idx sub d = false)
    (hw : writeOf cl idx sub d = some w) : objectWrite cl idx sub d s = s.write cl w.need w.lenOk w.rangeOk w.effect := by
  cases acc with
  | const => exact absurd rfl hc
  | ro => exact absurd rfl hr
  | _ => simp only [objectWrite, h, ho, hw, Bool.false_eq_true, if_false]

/-- The CAN filters are stored parameters (R307). -/
theorem writeOf_filter (cl : Client) (sub : Nat) (d : List Byte) :
    writeOf cl 0x2981 sub d = some ((storing .rwc 8 anyVal 0x2981 sub d).accepted cl) := rfl

/-- An element command is an operator's (R120). -/
theorem writeOf_elem (cl : Client) (d : List Byte) : writeOf cl 0x2330 1 d = some ⟨.operate, d.length == 4,
    among 1 5 (leAt d 3 1) && leAt d 0 3 < 4096, postElem cl (leAt d 3 1) (leAt d 0 3)⟩ := rfl

/-- A launch is judged as such (R144, R145). -/
theorem writeOf_launch (cl : Client) (d : List Byte) :
    writeOf cl 0x3100 1 d = some ⟨.view, among 12 64 d.length, true, postLaunch cl d⟩ := rfl

/-- A slot control is an operator's (R149). -/
theorem writeOf_control (cl : Client) {n : Nat} (hn : n < 96) (d : List Byte) :
    writeOf cl (0x3000 + n) 3 d = some ⟨.operate, d.length == 1, among 1 4 (ofLe d), postControl cl n (ofLe d)⟩ := by
  have hcfg : writeConfig (0x3000 + n) 3 d = none := by
    unfold writeConfig
    split
    iterate 4 omega
    rfl
  have hcal : writeCal (0x3000 + n) 3 d = none := by
    unfold writeCal
    rw [if_neg (by simp only [among, Bool.and_eq_true, decide_eq_true_eq]; omega)]
    split
    iterate 3 omega
    rfl
  have hpar : writeParam (0x3000 + n) 3 d = none := by
    unfold writeParam
    split
    iterate 9 omega
    rfl
  have hwin : writeWindow cl (0x3000 + n) 3 d = none := by
    unfold writeWindow
    split
    iterate 5 omega
    rfl
  have hoth : writeOther cl (0x3000 + n) 3 d = some ⟨.operate, d.length == 1, among 1 4 (ofLe d), postControl cl n (ofLe d)⟩ := by
    unfold writeOther
    rw [if_pos (by simp only [among, Bool.and_eq_true, decide_eq_true_eq]; omega), Nat.add_sub_cancel_left]
  simp only [writeOf, hcfg, hcal, hpar, hwin, hoth]
  rfl

theorem ownRow_control {n : Nat} (hn : n < 96) (d : List Byte) : ownRow (0x3000 + n) 3 d = false := by
  have h : among 0x3000 0x305F (0x3000 + n) = true := by
    simp only [among, Bool.and_eq_true, decide_eq_true_eq]
    omega
  simp only [ownRow, h, Bool.not_true, Bool.and_false, Bool.false_and]

/-! ## Checks -/

theorem check_view {s : State} (cl : Client) : s.check cl .view true true = none := by
  simp [State.check, Need.level, Need.lifeOk, Need.inPst]

/-- A write of a commissioner's object below his level (R301). -/
theorem check_low {s : State} {cl : Client} {n : Need} (h : (s.client cl).level < n.level) (lenOk rangeOk : Bool) :
    (s.asked cl).check cl n lenOk rangeOk = some 0x06010000 := by
  rw [State.check, asked_level, if_pos h]

/-- Outside the life-cycle states of a commissioner's object (R301, R377). -/
theorem check_life {s : State} {cl : Client} (h : 3 ≤ (s.client cl).level) (hst : 2 ≤ s.life.state) (lenOk rangeOk : Bool) :
    (s.asked cl).check cl .rwc lenOk rangeOk = some 0x08000021 := by
  have hlife : Need.lifeOk .rwc s.life.state = false := by
    simp only [Need.lifeOk, Bool.or_eq_false_iff, beq_eq_false_iff_ne]
    omega
  rw [State.check, asked_level, asked_life, hlife, if_neg (show ¬ (s.client cl).level < Need.rwc.level from Nat.not_lt.mpr h)]
  rfl

/-- A commissioner's object at its level, in its state and with its switch (R301): its length and range are judged. -/
theorem check_store {s : State} {cl : Client} (h : 3 ≤ (s.client cl).level) (hst : s.life.state < 2) (hsw : s.sw 4 = true)
    (lenOk rangeOk : Bool) : (s.asked cl).check cl .rwc lenOk rangeOk =
      if !lenOk then some 0x06070010 else if !rangeOk then some 0x06090030 else none := by
  have hlife : Need.lifeOk .rwc s.life.state = true := by
    simp only [Need.lifeOk, Bool.or_eq_true, beq_iff_eq]
    omega
  rw [State.check, asked_level, asked_life, hlife, if_neg (show ¬ (s.client cl).level < Need.rwc.level from Nat.not_lt.mpr h), show (s.asked cl).sw 4 = true from hsw]
  rfl

theorem exec_objectWrite {s : State} {cl : Client} {idx sub : Nat} {d : List Byte} {acc : Acc} {w : Write} (hs : Supplied s)
    (h : s.begin.access idx sub = .ok acc) (hc : acc ≠ .const) (hr : acc ≠ .ro) (ho : ownRow idx sub d = false)
    (hw : writeOf cl idx sub d = some w) : exec (.objectWrite cl idx sub d) s =
      .next (s.begin.write cl w.need w.lenOk w.rangeOk w.effect) :=
  (row_on hs _).trans (congrArg _ (objectWrite_of h hc hr ho hw))

/-- Settles O52: writes are checked in order. -/
theorem writesAreCheckedInOrder : Obligations.WritesAreCheckedInOrder := by
  intro s cl idx sub n d v acc hs a
  refine ⟨fun e he => ?_, fun hacc => ⟨fun hl => ?_, fun hl hst => ?_, fun hl hst hsw hd => ?_, fun hl hst hsw hd => ?_⟩,
    fun hm hc hr => ⟨fun hacc hl hd h1 h5 hel => ?_, fun hacc hn hl hd h1 h4 => ?_, fun hacc h12 h64 => ⟨fun hb => ?_, fun e hb => ?_⟩⟩,
    fun hl => ?_, fun hl => ?_, fun hl => ⟨?_, ?_⟩, fun hl hv => ?_⟩
  · exact (row_on hs _).trans (congrArg _ (objectWrite_error he cl d))
  · rw [exec_objectWrite hs hacc (by decide) (by decide) rfl (writeOf_filter cl sub d)]
    exact congrArg _ (write_bad cl _ _ _ _ _ (check_low hl _ _))
  · rw [exec_objectWrite hs hacc (by decide) (by decide) rfl (writeOf_filter cl sub d)]
    exact congrArg _ (write_bad cl _ _ _ _ _ (check_life hl hst _ _))
  · rw [exec_objectWrite hs hacc (by decide) (by decide) rfl (writeOf_filter cl sub d)]
    refine congrArg _ (write_bad cl _ _ _ _ _ ((check_store hl hst hsw _ _).trans (if_pos ?_)))
    simpa [storing, Write.accepted] using hd
  · rw [exec_objectWrite hs hacc (by decide) (by decide) rfl (writeOf_filter cl sub d)]
    refine congrArg _ ((write_ok cl _ _ _ _ ((check_store hl hst hsw _ _).trans ?_)).trans rfl)
    simp [storing, Write.accepted, anyVal, hd]
  · rw [exec_objectWrite hs hacc hc hr rfl (writeOf_elem cl d)]
    have hlen : (d.length == 4) = true := beq_iff_eq.mpr hd
    have hrange : (among 1 5 (leAt d 3 1) && decide (leAt d 0 3 < 4096)) = true := by simp [among, h1, h5, hel]
    simp only [hlen, hrange]
    exact congrArg _ ((write_ok cl _ _ _ _ (check_operate hl)).trans (congrArg (State.accept · cl) (if_pos hm)))
  · rw [exec_objectWrite hs hacc hc hr (ownRow_control hn d) (writeOf_control cl hn d)]
    have hlen : (d.length == 1) = true := beq_iff_eq.mpr hd
    have hrange : among 1 4 (ofLe d) = true := by simp [among, h1, h4]
    simp only [hlen, hrange]
    exact congrArg _ ((write_ok cl _ _ _ _ (check_operate hl)).trans (if_pos hm))
  · rw [exec_objectWrite hs hacc hc hr rfl (writeOf_launch cl d)]
    have hlen : among 12 64 d.length = true := by simp [among, h12, h64]
    simp only [hlen]
    refine congrArg _ ((write_ok cl _ _ _ _ (check_view cl)).trans ((if_pos hm).trans ?_))
    simp only [show (s.asked cl).launchBar (leAt d 0 2) (launchOf cl d) = none from hb]
    rfl
  · rw [exec_objectWrite hs hacc hc hr rfl (writeOf_launch cl d)]
    have hlen : among 12 64 d.length = true := by simp [among, h12, h64]
    simp only [hlen]
    refine congrArg _ ((write_ok cl _ _ _ _ (check_view cl)).trans ((if_pos hm).trans ?_))
    simp only [show (s.asked cl).launchBar (leAt d 0 2) (launchOf cl d) = some e from hb]
    rfl
  · exact writeRow_on hs (check_operate hl) rfl
  · exact writeRow_on hs (check_operate hl) rfl
  · exact (row_on hs _).trans (congrArg _ (write_bad cl _ _ _ _ _ (check_low (by simp [hl, Need.level]) _ _)))
  · exact (row_on hs _).trans (congrArg _ (write_bad cl _ _ _ _ _ (check_low (by simp [hl, Need.level]) _ _)))
  · refine (row_on hs _).trans (congrArg _ (write_bad cl _ _ _ _ _ ?_))
    have hv1 : ¬ v = 1#8 := hv
    simp [State.check, Need.level, Need.lifeOk, Need.inPst, hv1, Nat.pos_iff_ne_zero.mp hl]

end Sys2Proof.Machine
end

section
/-! PROOFS. Logging in to the object dictionary (O53). -/
namespace Sys2Proof.Machine

/-! ## A client's record -/

theorem modClient_client {f : ClientSt → ClientSt} (s : State) (cl : Client) (hf : ∀ c, (f c).client = c.client) :
    (s.modClient cl f).client cl = f (s.client cl) := by
  have h : (f (s.client cl)).client = cl := (hf _).trans (client_name s cl)
  have hc := setClient_client s (f (s.client cl))
  rwa [h] at hc

theorem accept_client (s : State) (cl e : Client) : (s.accept cl).client e = s.client e := by
  obtain ⟨-, -, -, -, -, -, hms⟩ := answerCan_kept (s.emit (.confirm cl)) cl none
  exact client_congr (answerCan_clients _ cl _) hms e

theorem record_client (s : State) (code src flags : Nat) (cl : Client) : (s.record code src flags).client cl = s.client cl := by
  obtain ⟨r, hr⟩ := record_eq s code src flags
  rw [hr]
  rfl

/-- A granted or refused login keeps the client's record but for the result (R302). -/
theorem loginResult_client (s : State) (cl : Client) (code : Nat) :
    (s.loginResult cl code).client cl = { s.client cl with result := code } :=
  (accept_client _ cl cl).trans ((record_client _ 5 code 0 cl).trans (modClient_client s cl fun _ => rfl))

/-! ## Blocks and challenges -/

theorem asked_blocked (s : State) (cl : Client) : ((s.asked cl).client cl).blocked = (s.client cl).blocked := by
  rw [asked_client]

theorem asked_challenge (s : State) (cl : Client) : ((s.asked cl).client cl).challenge = (s.client cl).challenge := by
  rw [asked_client]

theorem isBlocked_eq (s : State) (cl : Client) :
    s.isBlocked cl = (s.client cl).blocked.elim false fun t => decide (s.svc.ms < t) := by
  unfold State.isBlocked
  cases (s.client cl).blocked <;> rfl

theorem asked_free {s : State} {cl : Client} (h : (s.client cl).blocked = none) : (s.asked cl).isBlocked cl = false := by
  rw [isBlocked_eq, asked_blocked, h, Option.elim_none]

theorem asked_blocks {s : State} {cl : Client} {t : Nat} (h : (s.client cl).blocked = some t) (ht : s.svc.ms < t) :
    (s.asked cl).isBlocked cl = true := by
  rw [isBlocked_eq, asked_blocked, h, Option.elim_some]
  exact decide_eq_true ht

/-- A response to a challenge that stands (R302, R303). -/
theorem loginResponse_of {s : State} {cl : Client} {l : Nat} {k : List Byte} {t : Nat} (hb : (s.client cl).blocked = none)
    (hc : (s.client cl).challenge = some (l, k, t)) (resp : W64) : loginResponse cl resp s.begin =
      let b := (s.asked cl).modClient cl fun c => { c with challenge := none }
      if k.isEmpty || decide (t + 30000 < s.svc.ms) then b.loginResult cl 0x0F02
      else if (l != 3 && noKey (s.levelKey l)) || resp != s.loginWord cl l k then b.wrongResponse cl
      else if !b.levelSwitch cl l then b.loginResult cl 0x0F03
      else (b.modClient cl fun c => { c with level := l }).loginResult cl 0 := by
  have hx : loginResponse cl resp s.begin = if (s.asked cl).isBlocked cl then (s.asked cl).loginResult cl 0x0F04
    else _ := rfl
  rw [hx, asked_free hb, if_neg Bool.false_ne_true,
    show ((s.begin.touch cl).client cl).challenge = some (l, k, t) from (asked_challenge s cl).trans hc]
  rfl

/-- The third wrong response within 60 s blocks the identity (R302). -/
theorem wrongResponse_blocked {t : State} {cl : Client}
    (h : 2 ≤ ((t.client cl).wrong.filter fun x => t.svc.ms < x + 60000).length) :
    ((t.wrongResponse cl).client cl).blocked = some (t.svc.ms + 60000) := by
  rw [State.wrongResponse, loginResult_client, modClient_client t cl (by exact fun _ => rfl)]
  refine if_pos ?_
  rw [List.length_cons]
  omega

/-- Settles O53: a login grants its level or blocks the client. -/
theorem loginGrantsAndBlocks : Obligations.LoginGrantsAndBlocks := by
  intro s cl n resp hs a now
  refine ⟨fun h => ?_, fun h => ?_, fun h1 h3 hb => ?_, fun t hb ht => ?_, fun hb hc => ?_,
    fun l k t hb hc => ?_,
    fun t hb ht => ?_, fun hb => ?_, fun ht => ?_, fun ht => ?_, fun t h => wrongResponse_blocked h⟩
  · subst h
    exact row_on hs _
  · have h0 : n.toNat ≠ 0 := by omega
    exact (row_on hs _).trans (congrArg _ ((if_neg h0).trans (if_pos h)))
  · have h0 : n.toNat ≠ 0 := by omega
    refine (row_on hs _).trans (congrArg _ ((if_neg h0).trans ((if_neg (Nat.not_lt.mpr h3)).trans (if_neg ?_))))
    exact Bool.eq_false_iff.mp (asked_free hb)
  · exact (row_on hs _).trans (congrArg _ (if_pos (asked_blocks hb ht)))
  · refine (row_on hs _).trans (congrArg _ ((if_neg (Bool.eq_false_iff.mp (asked_free hb))).trans ?_))
    rw [show ((s.begin.touch cl).client cl).challenge = none from (asked_challenge s cl).trans hc]
    rfl
  · intro b
    refine ⟨fun ht => ?_, fun hk ht hr => ?_, fun hk ht _ hkey hr hsw => ?_, fun ht => ?_⟩
    · refine (row_on hs _).trans (congrArg _ ((loginResponse_of hb hc resp).trans (if_pos ?_)))
      simpa using Or.inr ht
    · have hin : ¬ (k.isEmpty || decide (t + 30000 < s.svc.ms)) = true := by simpa [hk] using ht
      refine (row_on hs _).trans (congrArg _ ((loginResponse_of hb hc resp).trans ((if_neg hin).trans (if_pos ?_))))
      simp [hr]
    · have hin : ¬ (k.isEmpty || decide (t + 30000 < s.svc.ms)) = true := by simpa [hk] using ht
      have hright : ¬ ((l != 3 && noKey (s.levelKey l)) || resp != s.loginWord cl l k) = true := by simp [hkey, hr]
      have hon : ¬ (!b.levelSwitch cl l) = true := by simp [hsw]
      exact (row_on hs _).trans (congrArg _ ((loginResponse_of hb hc resp).trans
        ((if_neg hin).trans ((if_neg hright).trans (if_neg hon)))))
    · refine (row_on hs _).trans (congrArg _ ?_)
      rw [show (s.begin.client cl).challenge = some (l, k, t) from hc]
      exact if_pos ht
  · refine (row_on hs _).trans (congrArg _ ?_)
    rw [show (s.begin.client cl).blocked = some t from hb]
    exact if_pos ht
  · refine (row_on hs _).trans (congrArg _ ?_)
    rw [show (s.begin.client cl).blocked = none from hb]
  · exact (row_on hs _).trans (congrArg _ (if_pos ht))
  · exact (row_on hs _).trans (congrArg _ (if_neg (Nat.not_le.mpr ht)))

end Sys2Proof.Machine
end

section
/-! PROOFS. Device time, its measurements and its sources (O54). -/
namespace Sys2Proof.Machine

/-! ## Records and roles leave device time -/

/-- A record with given values goes to the recorder and changes nothing else (R365). -/
theorem recordVals_eq (s : State) (code src flags : Nat) (vals : List (Option W32)) :
    ∃ r, s.recordVals code src flags vals = { s with rcd := r } := by
  simp only [State.recordVals]
  repeat' split
  all_goals exact ⟨_, rfl⟩

theorem roleCheck_time (s : State) : s.roleCheck.time = s.time := by
  unfold State.roleCheck
  split <;> rfl

theorem record_time (s : State) (code src flags : Nat) : (s.record code src flags).time = s.time := by
  obtain ⟨r, hr⟩ := record_eq s code src flags
  rw [hr]

/-- A step of device time changes the time, its count and the recorder (R313). -/
theorem stepTime_eq (s : State) (t : DTime) :
    ∃ r, s.stepTime t = { s with time := { s.time with now := t, steps := s.time.steps + 1 }, rcd := r } :=
  (recordVals_eq _ 3 0 0 _).imp fun _ h => h

/-- The selected source is the new one, and device time runs on (R312). -/
theorem selectSource_time {s : State} {src : TimeSource} (h : src ≠ s.time.source) :
    (s.selectSource src).time.source = src ∧ (s.selectSource src).time.switches = s.time.switches + 1
      ∧ (s.selectSource src).time.now = s.time.now := by
  rw [State.selectSource, if_neg h, roleCheck_time, record_time]
  exact ⟨rfl, rfl, rfl⟩

/-! ## The checks of SET_TIME -/

/-- A client at EXPERT passes the checks of an EXPERT write with a good length and range (R301). -/
theorem check_expert {s : State} {cl : Client} (h : 2 ≤ (s.client cl).level) {rangeOk : Bool} (hr : rangeOk = true) :
    (s.asked cl).check cl .expert true rangeOk = none := by
  have : ¬ (s.client cl).level < 2 := Nat.not_lt.mpr h
  simp [State.check, Need.level, Need.lifeOk, Need.inPst, this, hr]

/-! ## Measurements and sources -/

/-- A measurement within 1 ms is slewed (R313). -/
theorem timeMeasurement_near {s : State} {off : Int} (h : s.time.source ≠ .none) (hl : -1000000 ≤ off) (hh : off ≤ 1000000) :
    timeMeasurement off s = { s with
      svc := { s.svc with fresh := s.svc.fresh + 1 }
      time := { s.time with offset := off, rate := Config.rateCorr s.svc.fresh, slew := -off } } := by
  have hn : ¬ (decide (off > 1000000) || decide (off < -1000000)) = true := by
    simp only [Bool.or_eq_true, decide_eq_true_eq]
    omega
  exact (if_neg h).trans (if_neg hn)

/-- A measurement beyond 1 ms steps device time (R313). -/
theorem timeMeasurement_far {s : State} {off : Int} (h : s.time.source ≠ .none) (hf : 1000000 < off ∨ off < -1000000) :
    (timeMeasurement off s).time.now = s.time.now.add (-off) ∧ (timeMeasurement off s).time.slew = 0
      ∧ (timeMeasurement off s).time.steps = s.time.steps + 1 ∧ (timeMeasurement off s).kernel = s.kernel := by
  have hy : (decide (off > 1000000) || decide (off < -1000000)) = true := by
    simpa only [Bool.or_eq_true, decide_eq_true_eq] using hf
  obtain ⟨r, hr⟩ := stepTime_eq { s with
    svc := { s.svc with fresh := s.svc.fresh + 1 }
    time := { s.time with offset := off, rate := Config.rateCorr s.svc.fresh } } (s.time.now.add (-off))
  have hm : timeMeasurement off s = _ := (if_neg h).trans (if_pos hy)
  rw [hm, hr]
  exact ⟨rfl, rfl, rfl, rfl⟩

/-- The rows of the hold and of a better source say what `track` leaves (R312). -/
theorem exec_hold {s : State} (hs : Supplied s) : exec .sourceHoldExpiry s =
    .next (s.begin.track.time.lostMs.elim s.begin.track fun m =>
      if m + 2000 ≤ s.svc.ms then s.begin.track.selectSource s.begin.track.nextSource else s.begin.track) := by
  refine (row_on hs _).trans (congrArg _ ?_)
  dsimp only
  cases s.begin.track.time.lostMs <;> rfl

theorem exec_qualified {s : State} (hs : Supplied s) (src : TimeSource) : exec (.sourceQualified src) s =
    .next ((s.begin.track.usableFor src).elim s.begin.track fun m =>
      if 10000 ≤ m && prio src < prio s.time.source then s.begin.track.selectSource src else s.begin.track) := by
  refine (row_on hs _).trans (congrArg _ ?_)
  dsimp only
  cases s.begin.track.usableFor src <;> rfl

/-- The calendar row (R315) over the state itself. -/
theorem exec_calendar {s : State} (hs : Supplied s) (cal : Nat) : exec (.calendarCompare cal) s =
    .next (if (isPtp s.time.source || s.time.source == .can)
        && (decide (cal + 61000 < s.time.now.nanos) || decide (s.time.now.nanos + 61000 < cal)) then
      s.timeTo { s.time with calendar := s.time.now.nanos, calValid := true } []
    else s.timeTo { s.time with calendar := cal } []) :=
  row_on hs _

/-- Settles O54: device time is measured, stepped and set; sources change and calibrate. -/
theorem deviceTimeIsMeasuredAndChanged : Obligations.DeviceTimeIsMeasuredAndChanged := by
  refine ⟨fun s u n a off cl ns sec hs => ?_, fun s src cal m err hs => ?_⟩
  · intro x now ppb
    refine ⟨row_on hs _, fun hr hl => ?_, fun hl => ?_, fun h => ?_, fun h hlo hhi => ?_, fun h hf => ?_,
      fun h hlv hns hsec => ?_, fun h hlv hns hsec => ?_⟩
    · exact (row_on hs _).trans (congrArg _ (if_pos (Bool.and_eq_true_iff.mpr ⟨decide_eq_true hr, decide_eq_true hl⟩)))
    · exact (row_on hs _).trans (congrArg _ (if_neg fun hc => Nat.not_le.mpr hl (of_decide_eq_true (Bool.and_eq_true_iff.mp hc).2)))
    · exact (row_on hs _).trans (congrArg _ (if_pos h))
    · exact ⟨_, (row_on hs _).trans (congrArg _ (timeMeasurement_near (s := s.begin) h hlo hhi)), rfl, rfl, rfl, rfl, rfl, rfl, rfl⟩
    · exact ⟨_, row_on hs _, timeMeasurement_far (s := s.begin) h hf⟩
    · obtain ⟨r, hr⟩ := stepTime_eq (s.asked cl) ⟨sec, ns⟩
      have hrange : (decide (ns < 1000000000) && decide (sec < 2 ^ 48)) = true :=
        Bool.and_eq_true_iff.mpr ⟨decide_eq_true hns, decide_eq_true hsec⟩
      have hsrc : (decide ((s.asked cl).time.source = .calendar) || decide ((s.asked cl).time.source = .none)) = true :=
        Bool.or_eq_true_iff.mpr (h.imp decide_eq_true decide_eq_true)
      refine ⟨_, writeRow_on hs (check_expert hlv hrange) (if_pos hsrc), ?_⟩
      rw [hr]
      exact ⟨rfl, rfl, rfl, rfl⟩
    · have hrange : (decide (ns < 1000000000) && decide (sec < 2 ^ 48)) = true :=
        Bool.and_eq_true_iff.mpr ⟨decide_eq_true hns, decide_eq_true hsec⟩
      have hn : ¬ (decide ((s.asked cl).time.source = .calendar) || decide ((s.asked cl).time.source = .none)) = true := by
        rw [show (s.asked cl).time.source = .ptpA from h]
        decide
      exact writeRow_on hs (check_expert hlv hrange) (if_neg hn)
  · intro t
    refine ⟨fun h hm => ?_, fun h => ?_, fun h hm hp => ?_, fun h hp => ?_, fun h => selectSource_time (s := t) h, fun h hc => ?_,
      fun hl hh => ?_, fun h hm hp => ?_, fun h => ?_⟩
    · rw [exec_hold hs, show s.begin.track.time.lostMs = some m from h]
      exact congrArg _ (if_pos hm)
    · rw [exec_hold hs, show s.begin.track.time.lostMs = none from h]
      rfl
    · rw [exec_qualified hs, show s.begin.track.usableFor src = some m from h]
      exact congrArg _ (if_pos (by simp [hm, hp]))
    · rw [exec_qualified hs, show s.begin.track.usableFor src = some m from h]
      exact congrArg _ (if_neg (by simp [Nat.not_lt.mpr hp]))
    · have hsrc : (isPtp s.time.source || s.time.source == .can) = true := by simpa using h
      exact (exec_calendar hs cal).trans (congrArg _ (if_pos (by simp [hsrc, hc])))
    · exact (exec_calendar hs cal).trans (congrArg _ (if_neg (by simp [Nat.not_lt.mpr hl, Nat.not_lt.mpr hh])))
    · refine (row_on hs _).trans (congrArg _ ?_)
      rw [show s.begin.time.ptpMs = some m from h]
      exact if_pos (Bool.and_eq_true_iff.mpr ⟨decide_eq_true hm, decide_eq_true hp⟩)
    · refine (row_on hs _).trans (congrArg _ ?_)
      rw [show s.begin.time.ptpMs = none from h]

end Sys2Proof.Machine
end

section
/-! PROOFS. The recorder: its buckets, its fences and the cursors that read it (O55). -/
namespace Sys2Proof.Machine

/-! ## Token buckets -/

theorem find?_setTokens (r : Recorder) (code n ms : Nat) :
    (r.setTokens code n ms).buckets.find? (·.code == code) = some ⟨code, n, ms⟩ := by
  simp [Recorder.setTokens]

theorem find?_setTokens_ne (r : Recorder) {code c : Nat} (h : c ≠ code) (n ms : Nat) :
    (r.setTokens code n ms).buckets.find? (·.code == c) = r.buckets.find? (·.code == c) := by
  have hc : (code == c) = false := beq_eq_false_iff_ne.mpr h.symm
  rw [Recorder.setTokens, List.find?_cons_of_neg (by simp [hc]), List.find?_filter]
  refine congrArg (List.find? · r.buckets) (funext fun b => ?_)
  by_cases hb : b.code = c <;> simp [hb, h]

theorem bucketCfg_setTokens (r : Recorder) (code n ms c : Nat) : (r.setTokens code n ms).bucketCfg c = r.bucketCfg c := rfl

theorem tokens_of_find {r : Recorder} {code : Nat} {b : Bucket} (h : r.buckets.find? (·.code == code) = some b) :
    r.tokens code = b.tokens := by
  simp only [Recorder.tokens, h]

theorem tokens_setTokens (r : Recorder) (code n ms : Nat) : (r.setTokens code n ms).tokens code = n :=
  tokens_of_find (find?_setTokens r code n ms)

theorem tokens_setTokens_ne (r : Recorder) {code c : Nat} (h : c ≠ code) (n ms : Nat) :
    (r.setTokens code n ms).tokens c = r.tokens c := by
  rw [Recorder.tokens, find?_setTokens_ne r h, bucketCfg_setTokens]
  rfl

theorem refill_none {r : Recorder} {code : Nat} (h : r.buckets.find? (·.code == code) = none) (ms : Nat) :
    r.refill code ms = r := by
  simp only [Recorder.refill, h]

/-- What the refill of a bucket comes to (R367). -/
theorem refill_some {r : Recorder} {code : Nat} {b : Bucket} (h : r.buckets.find? (·.code == code) = some b) (ms : Nat) :
    r.refill code ms = if b.tokens < (r.bucketCfg code).1 ∧ b.at_ + (r.bucketCfg code).2 ≤ ms
      then r.setTokens code (b.tokens + 1) (b.at_ + (r.bucketCfg code).2) else r := by
  simp only [Recorder.refill, h, Bool.and_eq_true, decide_eq_true_eq]

/-! ## Fences -/

/-- A place that is free for a record stands in no fenced region (R373). -/
theorem freePlace_open {r : Recorder} {fuel p q : Nat} (h : r.freePlace fuel p = some q) : r.fenced.contains (q / 64) = false := by
  induction fuel generalizing p with
  | zero => exact absurd h (Option.some_ne_none q).symm
  | succ fuel ih =>
    rw [Recorder.freePlace] at h
    split at h
    next => exact ih h
    next hf =>
      cases h
      exact Bool.eq_false_iff.mpr hf

/-- What a trigger may do to the ring: every record stands where one stood before or in no fenced region (R373), and the rest is
the fences, the last-resort registers, the corrected words and the pin as they were. -/
abbrev RingKept (r t : Recorder) : Prop :=
  t.fenced = r.fenced ∧ t.lrLast = r.lrLast ∧ t.corrected = r.corrected ∧ t.pin = r.pin
    ∧ ∀ x ∈ t.recs, (∃ y ∈ r.recs, y.1 = x.1) ∨ r.fenced.contains (x.1 / 64) = false

theorem ringKept_of_recs {r t : Recorder} (hf : t.fenced = r.fenced) (hl : t.lrLast = r.lrLast) (hc : t.corrected = r.corrected)
    (hp : t.pin = r.pin) (h : t.recs = r.recs) : RingKept r t :=
  ⟨hf, hl, hc, hp, fun x hx => .inl ⟨x, h ▸ hx, rfl⟩⟩

/-- A record put into the ring stands in no fenced region (R369, R373). -/
theorem put_ringKept (r : Recorder) (n : Rec) (epoch : Nat) : RingKept r (r.put n epoch) := by
  unfold Recorder.put
  split
  next => exact ringKept_of_recs rfl rfl rfl rfl rfl
  next p hp =>
    extract_lets old pinned
    split
    · exact ringKept_of_recs rfl rfl rfl rfl rfl
    · refine ⟨rfl, rfl, rfl, rfl, fun x hx => ?_⟩
      obtain hx | hx := List.mem_append.mp hx
      · exact .inl ⟨x, (List.mem_filter.mp hx).1, rfl⟩
      · cases List.mem_singleton.mp hx
        exact .inr (freePlace_open hp)

/-- A merged record stands where the newest stood (R368). -/
theorem merged_place {r : Recorder} {p : Nat} {c : Rec} (h : r.recs.getLast? = some (p, c)) (d : Rec) :
    ∀ x ∈ r.recs.dropLast ++ [(p, d)], ∃ y ∈ r.recs, y.1 = x.1 := by
  intro x hx
  obtain hx | hx := List.mem_append.mp hx
  · exact ⟨x, List.dropLast_subset _ hx, rfl⟩
  · cases List.mem_singleton.mp hx
    exact ⟨(p, c), List.mem_of_getLast? h, rfl⟩

/-- A trigger keeps the ring (R365 to R369). -/
theorem record_ringKept (s : State) (code src flags : Nat) : RingKept s.rcd (s.record code src flags).rcd := by
  simp only [State.record, State.recordVals]
  split
  · exact ringKept_of_recs rfl rfl rfl rfl rfl
  · split
    · split
      · exact ringKept_of_recs rfl rfl rfl rfl rfl
      · exact put_ringKept (s.rcd.takeToken code s.svc.ms) _ _
    · split
      next p c hl =>
        split
        · exact ⟨rfl, rfl, rfl, rfl, fun x hx => .inl (merged_place hl _ x hx)⟩
        · exact put_ringKept s.rcd _ _
      next => exact put_ringKept s.rcd _ _

theorem queueEmcy_rcd (s : State) (code src : Nat) : (s.queueEmcy code src).rcd = s.rcd := by
  unfold State.queueEmcy
  split <;> rfl

theorem settleSource_rcd (s : State) (src : Nat) : (s.settleSource src).rcd = s.rcd := by
  unfold State.settleSource State.deassert
  repeat' split
  all_goals rfl

theorem checkClear_rcd (s : State) : s.checkClear.rcd = s.rcd := by
  unfold State.checkClear
  split
  · exact queueEmcy_rcd _ _ _
  · rfl

/-- A failure of the recorder's memory writes no record of its own (assumption 135). -/
theorem memoryFault_rcd (s : State) (src : Nat) : (s.memoryFault src).rcd = s.rcd :=
  (checkClear_rcd _).trans ((settleSource_rcd _ src).trans ((queueEmcy_rcd _ _ src).trans rfl))

/-- A region that is not fenced yet is fenced under the next last-resort register, and holds no record from then on (R373). -/
theorem fenceRegion_fences {s : State} {g : Nat} (hf : s.rcd.fenced.contains g = false) (hp : g * 64 < recPlaces s.rcd.size) :
    g ∈ (fenceRegion s g).rcd.fenced ∧ (∀ x ∈ (fenceRegion s g).rcd.recs, x.1 / 64 ≠ g)
      ∧ (fenceRegion s g).rcd.lrLast = s.rcd.lrLast % 8 + 1 ∧ (fenceRegion s g).rcd.corrected = s.rcd.corrected := by
  have hn : ¬ (s.rcd.fenced.contains g || decide (recPlaces s.rcd.size ≤ g * 64)) = true := by
    simp only [hf, Bool.false_or, decide_eq_true_eq]
    omega
  rw [fenceRegion]
  extract_lets r lost n w r2 s2 s3
  rw [if_neg hn]
  have h3 : RingKept r2 s3.rcd := by
    have := record_ringKept s2 7 g 0
    rwa [show s2.rcd = r2 from memoryFault_rcd _ _] at this
  obtain ⟨hfen, hlr, hcor, -, hrecs⟩ := h3
  have hin : g ∈ s3.rcd.fenced := hfen ▸ List.mem_cons_self ..
  have hout : ∀ x ∈ s3.rcd.recs, x.1 / 64 ≠ g := by
    rintro x hx rfl
    obtain ⟨y, hy, hyx⟩ | hx := hrecs x hx
    · have := (List.mem_filter.mp hy).2
      simp [hyx] at this
    · simp [r2] at hx
  split
  · rw [memoryFault_rcd]
    exact ⟨hin, hout, hlr, hcor⟩
  · exact ⟨hin, hout, hlr, hcor⟩

/-! ## Snapshot lists -/

/-- A code whose PST replacement is dropped has the image's bucket (R375). -/
theorem bucketCfg_reverted {r : Recorder} {code : Nat} (h : vCode code = false) :
    ({ r with snaps := r.snaps.filter fun c => !(c.code == code) } : Recorder).bucketCfg code = (16, 1000) := by
  have hn : (r.snaps.filter fun c => !(c.code == code)).find? (·.code == code) = none := by
    simp [List.find?_eq_none]
  simp only [Recorder.bucketCfg, h, Bool.false_eq_true, if_false, hn]

theorem bucketCfg_reverted_ne (r : Recorder) {code c : Nat} (h : c ≠ code) :
    ({ r with snaps := r.snaps.filter fun x => !(x.code == code) } : Recorder).bucketCfg c = r.bucketCfg c := by
  have hs : (r.snaps.filter fun x => !(x.code == code)).find? (·.code == c) = r.snaps.find? (·.code == c) := by
    rw [List.find?_filter]
    refine congrArg (List.find? · r.snaps) (funext fun x => ?_)
    by_cases hx : x.code = c <;> simp [hx, h]
  simp only [Recorder.bucketCfg, hs]

/-! ## Cursors and what is read out by them -/

theorem cursorOf_setCursor (r : Recorder) (cl : Client) (n : Nat) : (r.setCursor cl n).cursorOf cl = n := by
  simp [Recorder.cursorOf, Recorder.setCursor]

/-- The records of ended operations go to the recorder and take their notes; the pin and the slots stand. -/
theorem slotRecords_slots (s : State) : s.slotRecords.kernel.slots = s.kernel.slots ∧ s.slotRecords.rcd.pin = s.rcd.pin := by
  have h : ∀ (l : List Note) (t : State), (l.foldl (fun s n => match n with
      | .slotFinal i op => s.record (0x100 + i) op 0
      | _ => s) t).kernel = t.kernel ∧ (l.foldl (fun s n => match n with
      | .slotFinal i op => s.record (0x100 + i) op 0
      | _ => s) t).rcd.pin = t.rcd.pin := by
    intro l
    induction l with
    | nil => exact fun _ => ⟨rfl, rfl⟩
    | cons a l ih =>
      intro t
      rw [List.foldl_cons]
      obtain ⟨hk, hp⟩ := ih (match a with
        | .slotFinal i op => t.record (0x100 + i) op 0
        | _ => t)
      rw [hk, hp]
      cases a with
      | slotFinal i op =>
        obtain ⟨-, -, -, hpin, -⟩ := record_ringKept t (0x100 + i) op 0
        exact ⟨record_kernel .., hpin⟩
      | _ => exact ⟨rfl, rfl⟩
  obtain ⟨hk, hp⟩ := h s.kernel.notes s
  exact ⟨congrArg (·.slots) hk, hp⟩

theorem le_len (k n : Nat) : (le k n).length = k := by
  induction k generalizing n with
  | zero => rfl
  | succ k ih => rw [le, List.length_cons, ih]

theorem exportData_length (lo count : Nat) (crc : W32) : (exportData lo count crc).length = 12 := by
  simp [exportData, le_len]

/-- Only the client of the pin moves what it reads out (R371). -/
theorem exportAdvance_other {s : State} {cl : Client} (h : ∀ p, s.rcd.pin = some p → p.client ≠ cl) (cur : Nat) :
    exportAdvance s cl cur = s := by
  unfold exportAdvance
  split
  next => rfl
  next p hp => exact if_neg (by simp [h p hp])

/-- A slot that ends in a state holds that state, its result and its data. -/
theorem finish_slot {k : Kernel} {n : Nat} (hn : n < k.slots.length) (h : (k.slot n).state.busy = true) (st : SlotState)
    (result : Nat) (data : List Byte) : ((k.finish n st result data).slot n) = SlotSt.end_ st result data k.vital (k.slot n) := by
  obtain ⟨hs, -⟩ := finish_busy h st result data
  rw [Kernel.slot, hs]
  exact modSlot_slot hn _

/-- An advance past the last record of the client's own range ends its slot with the range and its check value (R371, R394). -/
theorem exportAdvance_ends {s : State} {cl : Client} {p : Pin} {cur : Nat} (hp : s.rcd.pin = some p) (hc : p.client = cl)
    (hlo : p.lo ≤ cur) (hhi : p.hi < cur) : ∃ (u : State) (v lo n : Nat) (crc : W32), exportAdvance s cl cur = u.slotRecords
      ∧ u.kernel = (s.kernel.modSlot p.slot fun x => { x with percent := v }).finish p.slot .done 0 (exportData lo n crc)
      ∧ u.rcd.pin = none := by
  have hin : (decide (p.client = cl) && decide (p.lo ≤ cur)) = true := by simp [hc, hlo]
  simp only [exportAdvance, hp]
  exact ⟨_, _, _, _, _, (if_pos hin).trans (if_pos hhi), rfl, rfl⟩

theorem exportAdvance_done {s : State} {cl : Client} {p : Pin} {cur : Nat} (hp : s.rcd.pin = some p) (hc : p.client = cl)
    (hlo : p.lo ≤ cur) (hhi : p.hi < cur) (hn : p.slot < s.kernel.slots.length) (hr : (s.kernel.slot p.slot).state = .running) :
    ((exportAdvance s cl cur).kernel.slot p.slot).state = .done ∧ (exportAdvance s cl cur).rcd.pin = none
      ∧ ((exportAdvance s cl cur).kernel.slot p.slot).result = 0
      ∧ ((exportAdvance s cl cur).kernel.slot p.slot).data.length = 12 := by
  obtain ⟨u, v, lo, n, crc, ht, hk, hu⟩ := exportAdvance_ends hp hc hlo hhi
  obtain ⟨hs, hpin⟩ := slotRecords_slots u
  have hb : ((s.kernel.modSlot p.slot fun x => { x with percent := v }).slot p.slot).state.busy = true := by
    rw [modSlot_slot hn, hr]
    rfl
  have hslot : u.slotRecords.kernel.slot p.slot = u.kernel.slot p.slot := congrArg (·.getD p.slot SlotSt.free) hs
  rw [ht, hslot, hk, finish_slot (by simpa using hn) hb .done 0 (exportData lo n crc)]
  exact ⟨rfl, hpin.trans hu, rfl, exportData_length ..⟩

/-! ## The statement -/

/-- What a refill, a scrub, a marker and a revert come to (O55, first half). -/
theorem execs_recorder {s : State} (hs : Supplied s) (code n : Nat) (bad : List Nat) :
    exec (.tokenRefill code) s = .next { s.begin with rcd := s.rcd.refill code s.svc.ms }
      ∧ exec (.recorderScrub bad n) s = .next ((bad.map (· / 64)).foldl fenceRegion
        { s.begin with rcd := { s.rcd with corrected := s.rcd.corrected + n } }) :=
  ⟨row_on hs _, row_on hs _⟩

/-- Settles O55: the recorder is refilled, fenced, marked and read by cursors. -/
theorem recorderIsRefilledFencedAndRead : Obligations.RecorderIsRefilledFencedAndRead := by
  refine ⟨fun s cl hs => ⟨fun code => ⟨fun h => ?_, fun b h => ⟨fun hlt hdue => ?_, fun hno => ?_⟩⟩, fun p n hf hp => ?_,
    fun n => row_on hs _, fun v hl => writeRow_on hs (check_operate hl) rfl, fun hl => ?_⟩, fun s cl hs => ?_⟩
  · obtain ⟨hr, -⟩ := execs_recorder hs code 0 []
    rw [hr, refill_none h]
    rfl
  · obtain ⟨hr, -⟩ := execs_recorder hs code 0 []
    intro r
    rw [hr, refill_some h, if_pos ⟨hlt, hdue⟩, tokens_of_find h]
    exact ⟨rfl, tokens_setTokens .., fun c hc => tokens_setTokens_ne _ hc _ _⟩
  · obtain ⟨hr, -⟩ := execs_recorder hs code 0 []
    rw [hr, refill_some h, if_neg (by omega)]
    rfl
  · obtain ⟨-, hr⟩ := execs_recorder hs 0 n [p]
    exact ⟨_, hr, fenceRegion_fences (s := { s.begin with rcd := { s.rcd with corrected := s.rcd.corrected + n } }) hf hp⟩
  · exact ⟨_, writeRow_on hs (check_expert hl rfl) rfl, bucketCfg_reverted (r := s.rcd), fun c hc => bucketCfg_reverted_ne s.rcd hc⟩
  · intro sets c next
    refine ⟨fun r n => cursorOf_setCursor r cl n, fun hl => ⟨fun v => writeRow_on hs (check_operate hl) rfl,
      writeRow_on hs (check_operate hl) rfl, fun hp => ⟨?_, ?_⟩, fun p hp hc hlo hhi hn hr => ?_⟩, fun p hp hm => ?_,
      fun p hp hm => ?_, fun hp => ?_⟩
    · exact writeRow_on hs (check_operate hl) (congrArg (State.accept · cl) (exportAdvance_other (by exact hp) _))
    · exact writeRow_on hs (check_operate hl) (congrArg (State.accept · cl) (exportAdvance_other (by exact hp) _))
    · exact ⟨_, writeRow_on hs (check_operate hl) rfl,
        exportAdvance_done (s := { s.asked cl with rcd := s.rcd.setCursor cl next }) hp hc hlo hhi hn hr⟩
    · refine (row_on hs _).trans (congrArg _ ?_)
      rw [show s.begin.rcd.pin = some p from hp]
      exact if_pos hm
    · refine (row_on hs _).trans (congrArg _ ?_)
      rw [show s.begin.rcd.pin = some p from hp]
      exact if_neg (Nat.not_le.mpr hm)
    · refine (row_on hs _).trans (congrArg _ ?_)
      rw [show s.begin.rcd.pin = none from hp]

end Sys2Proof.Machine
end

section
/-! PROOFS. Life-cycle requests (O57). -/
namespace Sys2Proof.Machine

/-! ## The table of R378 -/

/-- The table holds transitions to another state of the life cycle only (R378). -/
theorem lcRule_some {s : State} {v : Nat} {x : Nat × Bool × Bool} (h : s.lcRule v = some x) : v ≤ 4 ∧ v ≠ s.life.state := by
  unfold State.lcRule at h
  split at h
  case h_9 => exact absurd h (Option.some_ne_none x).symm
  all_goals simp_all

/-- Nothing leads out of `RETIRED` (R378). -/
theorem lcRule_retired {s : State} (h : s.life.state = 4) (v : Nat) : s.lcRule v = none := by
  unfold State.lcRule
  rw [h]
  split <;> simp_all

/-- A request for another state is judged by the table (R378). -/
theorem lcRequest_judged {s : State} {cl : Client} {v : Nat} (hv : v ≤ 4) (hne : v ≠ s.life.state) :
    lcRequest cl v s.begin = (s.lcRule v).elim ((s.asked cl).lcRefuse cl 0x1001) fun x =>
      if (s.client cl).level < x.1 then (s.asked cl).abort cl 0x06010000
      else if !s.sw 6 || (x.2.1 && !s.sw 3) then (s.asked cl).lcRefuse cl 0x1002
      else if !x.2.2 then (s.asked cl).lcRefuse cl 0x1003
      else State.accept { s.asked cl with life := { s.life with pending := some v, result := 0 } } cl := by
  refine (if_neg (Nat.not_lt.mpr hv)).trans ((if_neg hne).trans ?_)
  rw [show (s.begin.touch cl).lcRule v = s.lcRule v from rfl,
    show ((s.begin.touch cl).client cl).level = (s.client cl).level from asked_level s cl]
  cases s.lcRule v <;> rfl

theorem lcRequest_ruled {s : State} {cl : Client} {v need : Nat} {three cond : Bool} (h : s.lcRule v = some (need, three, cond)) :
    lcRequest cl v s.begin = if (s.client cl).level < need then (s.asked cl).abort cl 0x06010000
      else if !s.sw 6 || (three && !s.sw 3) then (s.asked cl).lcRefuse cl 0x1002
      else if !cond then (s.asked cl).lcRefuse cl 0x1003
      else State.accept { s.asked cl with life := { s.life with pending := some v, result := 0 } } cl := by
  obtain ⟨hv, hne⟩ := lcRule_some h
  rw [lcRequest_judged hv hne, h, Option.elim_some]

/-- A transition that the table does not hold is refused (R378). -/
theorem lcRequest_unruled {s : State} {cl : Client} {v : Nat} (hv : v ≤ 4) (hne : v ≠ s.life.state) (h : s.lcRule v = none) :
    lcRequest cl v s.begin = (s.asked cl).lcRefuse cl 0x1001 := by
  rw [lcRequest_judged hv hne, h, Option.elim_none]

theorem exec_lcRequest {s t : State} {cl : Client} {v : Byte} (hs : Supplied s) (h : lcRequest cl v.toNat s.begin = t) :
    exec (.lcRequest cl v) s = .next t :=
  (row_on hs _).trans (congrArg _ h)

/-- Settles O57: life-cycle requests follow their table. -/
theorem lifeCycleRequestsFollowTheirTable : Obligations.LifeCycleRequestsFollowTheirTable := by
  intro s cl v hs go
  refine ⟨fun need three cond h => ⟨fun hl => ?_, fun hl hsw => ?_, fun hl h6 h3 hc => ?_, fun hl h6 h3 hc => ?_⟩,
    fun h hv hne => exec_lcRequest hs (lcRequest_unruled hv hne h), fun hv hst hl => ?_, fun hst hv => ?_⟩
  · exact exec_lcRequest hs ((lcRequest_ruled h).trans (if_pos hl))
  · have hbad : (!s.sw 6 || (three && !s.sw 3)) = true := by simpa using hsw
    exact exec_lcRequest hs ((lcRequest_ruled h).trans ((if_neg (Nat.not_lt.mpr hl)).trans (if_pos hbad)))
  · have hok : ¬ (!s.sw 6 || (three && !s.sw 3)) = true := by simpa [h6] using h3
    exact exec_lcRequest hs ((lcRequest_ruled h).trans ((if_neg (Nat.not_lt.mpr hl)).trans ((if_neg hok).trans
      (if_pos (by simp [hc])))))
  · have hok : ¬ (!s.sw 6 || (three && !s.sw 3)) = true := by simpa [h6] using h3
    exact exec_lcRequest hs ((lcRequest_ruled h).trans ((if_neg (Nat.not_lt.mpr hl)).trans ((if_neg hok).trans
      (if_neg (by simp [hc])))))
  · have hv4 : ¬ 4 < v.toNat := by omega
    have hlv : ¬ ((s.begin.touch cl).client cl).level < 2 := Nat.not_lt.mpr ((asked_level s cl).symm ▸ hl)
    exact exec_lcRequest hs ((if_neg hv4).trans ((if_pos hv).trans ((if_neg (Nat.ne_of_lt hst)).trans (if_neg hlv))))
  · by_cases hv4 : v.toNat = 4
    · exact exec_lcRequest hs ((if_neg (Nat.not_lt.mpr hv)).trans ((if_pos (hv4.trans hst.symm)).trans (if_pos hst)))
    · exact exec_lcRequest hs (lcRequest_unruled hv (fun h => hv4 (h.trans hst)) (lcRule_retired hst _))

end Sys2Proof.Machine
end

section
/-! PROOFS. The sealed switch, the self-test and the known-answer tests (O58). -/
namespace Sys2Proof.Machine

/-! ## A reaction below L3 leaves the check-value units -/

@[simp] theorem record_cvus (s : State) (code src flags : Nat) : (s.record code src flags).cvus = s.cvus := by
  obtain ⟨r, hr⟩ := record_eq s code src flags
  rw [hr]

@[simp] theorem settleSource_cvus (s : State) (src : Nat) : (s.settleSource src).cvus = s.cvus := by
  unfold State.settleSource State.deassert
  repeat' split
  all_goals rfl

@[simp] theorem mergeInto_cvus (s : State) (n src : Nat) (forced : Bool) : (s.mergeInto n src forced).cvus = s.cvus := by
  unfold State.mergeInto
  split <;> simp

@[simp] theorem openRec_cvus (s : State) (src : Nat) (forced : Bool) : (s.openRec src forced).1.cvus = s.cvus := by
  unfold State.openRec
  split
  · simp
  · dsimp only
    split <;> simp

@[simp] theorem closeRec_cvus (s : State) (n : Nat) : (s.closeRec n).cvus = s.cvus := by
  unfold State.closeRec
  split <;> simp

@[simp] theorem queueEmcy_cvus (s : State) (code src : Nat) : (s.queueEmcy code src).cvus = s.cvus := by
  unfold State.queueEmcy
  split <;> rfl

@[simp] theorem checkClear_cvus (s : State) : s.checkClear.cvus = s.cvus := by
  unfold State.checkClear
  split <;> simp

@[simp] theorem settle_cvus (s : State) (n : Option Nat) (src level : Nat) (acked : Bool) :
    (s.settle n src level acked).cvus = s.cvus := by
  simp only [State.settle]
  (repeat' split) <;> simp

theorem applyLevel_low_cvus {s : State} {level : Nat} (h : level ≤ 2) (again : State → State) (n : Option Nat) (src : Nat)
    (ch : Ch) (detail : W32) (forced acked : Bool) : (s.applyLevel again n src level ch detail forced acked).cvus = s.cvus := by
  match level, h with
  | 0, _ => exact settle_cvus ..
  | 1, _ => exact settle_cvus ..
  | 2, _ => exact settle_cvus ..

/-- Only the lock-out record works on a unit (assumption 140): an assertion below L3 leaves them all. -/
theorem raise_low_cvus {s : State} {src : Nat} (h : (s.srcCfg src).level ≤ 2) : (s.raise src).cvus = s.cvus := by
  have hc : (s.countAssert src).srcCfg src = s.srcCfg src := rfl
  have ho : ((s.countAssert src).openRec src false).1.cvus = s.cvus := (openRec_cvus ..).trans rfl
  simp only [State.raise, State.raiseWith, hc]
  split
  · exact (mergeInto_cvus ..).trans rfl
  · split
    · split
      · simp [State.countAssert]
      · exact (applyLevel_low_cvus h ..).trans ho
    · split
      · exact ho
      · rfl

/-! ## The known-answer test -/

theorem modCvu_cvu {s : State} {n : Nat} (h : n < s.cvus.length) (f : Cvu → Cvu) : (s.modCvu n f).cvu n = f (s.cvu n) :=
  modNth_getD s.cvus f _ h

theorem modCvu_cvu_ne (s : State) {n m : Nat} (h : m ≠ n) (f : Cvu → Cvu) : (s.modCvu n f).cvu m = s.cvu m :=
  modNth_getD_ne s.cvus n m f _ h

/-- A known-answer test works on its own unit (R395); its source is of class N and leaves them all. -/
theorem cvuKat_cvus {s : State} {n : Nat} (h : n < 12) (w : W64) : (cvuKat n w s).cvus = (s.modCvu n fun u =>
    { (if 8 ≤ n then u.castagnoli else u) with
      result := w, units := u.units + 1, pass := decide (w = katValue), failed := u.failed || !decide (w = katValue) }).cvus := by
  rw [cvuKat, if_neg (Nat.not_le.mpr h)]
  extract_lets ok t
  split
  · rfl
  · exact raise_low_cvus (srcCfg_low (by decide) (by decide) _)

/-! ## The sealed switch -/

theorem slotRecords_life (s : State) : s.slotRecords.life = s.life := by
  obtain ⟨-, -, -, -, -, -, -, -, h, -⟩ := slotRecords_aside s
  exact h

theorem finish_life (s : State) (n : Nat) (st : SlotState) (result : Nat) (data : List Byte) :
    (s.finish n st result data).life = s.life := slotRecords_life _

theorem raise_life (s : State) (src : Nat) : (s.raise src).life = s.life := by
  obtain ⟨-, -, -, -, -, -, -, h, -⟩ := raise_leaves s src
  exact h

theorem raisePath_life (s : State) (n : Nat) : (s.raisePath n).life = s.life :=
  (raise_life { s with col := { s.col with about := some (n, 0) } } 0x1E9).trans rfl

theorem dropTransfer_life (s : State) (n : Nat) (st : SlotState) (code : Nat) : (s.dropTransfer n st code).life = s.life := by
  unfold State.dropTransfer
  split
  · rfl
  · exact (finish_life ..).trans rfl

theorem transferSwitch_life (s : State) : s.transferSwitch.life = s.life := by
  unfold State.transferSwitch
  induction s.upd.transfers.filter fun t => !s.sw (ImageType.switch t.typ) generalizing s with
  | nil => rfl
  | cons t l ih => exact (ih _).trans (dropTransfer_life ..)

/-- What follows a contact's change, its path and the twin's strap (R379, R380), leaves the words read. -/
theorem sw1Tail_life (s : State) (path strap : Bool) (n : Nat) :
    (if strap then (if path then s.raisePath n else s).raise 0x1ED else if path then s.raisePath n else s).life = s.life := by
  have h : (if path then s.raisePath n else s).life = s.life := by
    cases path
    · rfl
    · exact raisePath_life s n
  cases strap
  · exact h
  · exact (raise_life ..).trans h

/-- What a contact's change leaves of the words read: one bit of its reader's (R379). -/
theorem sw1Change_life {pos : Nat} (h1 : 1 ≤ pos) (h8 : pos ≤ 8) (c : Contact) (s : State) :
    (sw1Change .svc pos c s).life = { s.life with sw1Svc := setBit s.life.sw1Svc (pos - 1) (c.no && !c.nc) }
      ∧ ∀ x, (sw1Change (.ch x) pos c s).life.sw1Ch = s.life.sw1Ch.set x (setBit (s.life.sw1Ch.get x) (pos - 1) (c.no && !c.nc))
        ∧ (sw1Change (.ch x) pos c s).life.sw1Svc = s.life.sw1Svc := by
  have hp : ¬ (decide (pos < 1) || decide (8 < pos)) = true := by
    simp only [Bool.or_eq_true, decide_eq_true_eq]
    omega
  refine ⟨?_, fun x => ?_⟩
  · rw [sw1Change, if_neg hp]
    exact (sw1Tail_life _ _ _ _).trans ((transferSwitch_life _).trans rfl)
  · rw [sw1Change, if_neg hp]
    refine ⟨?_, ?_⟩
    · exact (congrArg (·.sw1Ch) (sw1Tail_life _ _ _ _)).trans rfl
    · exact (congrArg (·.sw1Svc) (sw1Tail_life _ _ _ _)).trans rfl

/-- A difference that enough channels have read for 100 ms is agreed, and its source asserts while it lasts (R381). -/
theorem sw1Judge_agrees {s : State} (hn : (if s.vital.ladder == .dual then 1 else 2) ≤ s.sw1Raisers.length)
    (hm : s.life.mismatch = false) : s.sw1Judge.life.mismatch = true ∧ 0x1E8 ∈ s.sw1Judge.col.asserted := by
  have hno : ¬ s.life.mismatch = true := Bool.eq_false_iff.mp hm
  have he : s.sw1Judge = (State.switchLevels { s with life := { s.life with mismatch := true } }).raise 0x1E8 :=
    (if_pos hn).trans (if_neg hno)
  rw [he, raise_life]
  exact ⟨rfl, raise_lasts (by decide) ((by decide : (imageCfg 0x1E8).level ≤ 2))⟩

/-! ## The self-test -/

/-- The test of a run whose last slice has ended is over, and its slot ends with the run's result (R383, R384). -/
theorem testDone_ends {s : State} {n : Nat} (hn : n < s.kernel.slots.length) (hb : (s.kernel.slot n).state.busy = true)
    (ho : (s.kernel.slot n).op ≠ 0x0901) : (s.testDone n).life.test.slot = none
      ∧ ((s.testDone n).kernel.slot n).data = s.life.test.data
      ∧ ((s.testDone n).kernel.slot n).state = (if s.life.test.run = s.life.test.passed then .done else .failed)
      ∧ ((s.testDone n).kernel.slot n).result = (if s.life.test.run = s.life.test.passed then 0 else 0x0401) := by
  have hf {u : State} (hu : u.kernel = s.kernel) (hl : u.life.test.slot = none) (st : SlotState) (result : Nat) (data : List Byte) :
      (u.finish n st result data).life.test.slot = none
        ∧ (u.finish n st result data).kernel.slot n = SlotSt.end_ st result data s.kernel.vital (s.kernel.slot n) := by
    obtain ⟨hs, -⟩ := slotRecords_slots { u with kernel := u.kernel.finish n st result data }
    refine ⟨(congrArg (·.test.slot) (finish_life ..)).trans hl, (congrArg (·.getD n SlotSt.free) hs).trans ?_⟩
    rw [hu]
    exact finish_slot hn hb st result data
  unfold State.testDone
  extract_lets t ok u sealed v
  have hu : v.kernel = s.kernel ∧ v.life.test.slot = none := by
    cases hsl : sealed <;> simp only [v, hsl] <;> exact ⟨rfl, rfl⟩
  rw [if_neg (by exact ho)]
  obtain ⟨hk, hl⟩ := hu
  by_cases hr : s.life.test.run = s.life.test.passed
  · obtain ⟨h1, h2⟩ := hf hk hl .done 0 t.data
    rw [if_pos (by exact hr), h2, if_pos hr, if_pos hr]
    exact ⟨h1, rfl, rfl, rfl⟩
  · obtain ⟨h1, h2⟩ := hf hk hl .failed 0x0401 t.data
    rw [if_neg (by exact hr), h2, if_neg hr, if_neg hr]
    exact ⟨h1, rfl, rfl, rfl⟩

/-- `s` once a slice has entered the run, with the fault of one that failed (R382). -/
def State.sliced (s : State) (bt : Nat) (rest : List (Nat × Nat)) (r : SliceResult) : State :=
  let a : State := { s with life := { s.life with test := s.life.test.slice bt rest r } }
  if r.ok then a else a.raise 0x1EC

theorem sliced_test (s : State) (bt : Nat) (rest : List (Nat × Nat)) (r : SliceResult) :
    (s.sliced bt rest r).life.test = s.life.test.slice bt rest r := by
  by_cases h : r.ok = true
  · rw [State.sliced, if_pos h]
  · rw [State.sliced, if_neg h, raise_life]

theorem sliced_kernel {r : SliceResult} (h : r.ok = true) (s : State) (bt : Nat) (rest : List (Nat × Nat)) :
    (s.sliced bt rest r).kernel = s.kernel := by
  rw [State.sliced, if_pos h]

/-- A slice of a running test that nobody has cut enters the run, and the last one ends it (R382). -/
theorem sliceEnd_enters {s : State} {bt i n : Nat} {rest : List (Nat × Nat)} (ht : s.life.test.todo = (bt, i) :: rest)
    (hslot : s.life.test.slot = some n) (hr : (s.kernel.slot n).state = .running) (ha : s.life.test.abort = false)
    (hc : s.life.test.cancel = false) (r : SliceResult) : ∃ u : State, u.life.test = s.life.test.slice bt rest r
      ∧ sliceEnd r s = (if rest.isEmpty then u.testDone n else u)
      ∧ (r.ok = true → ∃ v, u.kernel = s.kernel.modSlot n fun x => { x with percent := v }) := by
  have hns : ¬ ((s.kernel.slot n).state == .suspended) = true := by simp [hr]
  have hx := sliced_test s bt rest r
  have hrest : (s.sliced bt rest r).life.test.todo = rest := congrArg SelfTest.todo hx
  have habort : ¬ (s.sliced bt rest r).life.test.abort = true := by
    rw [hx]
    exact Bool.eq_false_iff.mp ha
  have hcancel : ¬ (s.sliced bt rest r).life.test.cancel = true := by
    rw [hx]
    exact Bool.eq_false_iff.mp hc
  let v := (s.sliced bt rest r).life.test.slices * 100
    / max 1 ((s.sliced bt rest r).life.test.slices + (s.sliced bt rest r).life.test.todo.length)
  refine ⟨(s.sliced bt rest r).modSlot n fun x => { x with percent := v }, hx, ?_, fun hok => ⟨v, ?_⟩⟩
  · simp only [sliceEnd, ht, hslot]
    refine (if_neg hns).trans ((if_neg habort).trans ((if_neg hcancel).trans ?_))
    exact congrArg (fun l : List (Nat × Nat) => if l.isEmpty then
      State.testDone ((s.sliced bt rest r).modSlot n fun x => { x with percent := v }) n
      else (s.sliced bt rest r).modSlot n fun x => { x with percent := v }) hrest
  · exact congrArg (Kernel.modSlot · n _) (sliced_kernel hok s bt rest)

/-- Settles O58: SW1, the self-test and the check-value units. -/
theorem switchSelfTestAndUnitsAreRead : Obligations.SwitchSelfTestAndUnitsAreRead := by
  intro s hs
  refine ⟨fun rd pos c h1 h8 => ?_, row_on hs _, fun ch hm hch hn hmis => ?_, fun ch hno => ?_, fun n r hsl hst => ?_,
    fun bt i rest n r ht hsl hr ha hc => ?_, fun n w hn hlen => ?_⟩
  · obtain ⟨hsvc, hch⟩ := sw1Change_life h1 h8 c s.begin
    refine ⟨_, row_on hs _, ?_, ?_⟩
    · rintro rfl
      rw [hsvc]
      exact ⟨rfl, rfl⟩
    · rintro x rfl
      obtain ⟨hx, hv⟩ := hch x
      rw [hx, hv]
      exact ⟨Quad.get_set_same .., rfl⟩
  · have hin : (s.mstate == .run && s.sw1Raisers.contains ch) = true := by simp [hm, hch]
    exact ⟨_, (row_on hs _).trans (congrArg _ (if_pos hin)), sw1Judge_agrees (s := s.begin) hn hmis⟩
  · have hout : ¬ (s.mstate == .run && s.sw1Raisers.contains ch) = true := fun h =>
      Bool.false_ne_true (hno.symm.trans (Bool.and_eq_true_iff.mp h).2)
    exact (row_on hs _).trans (congrArg _ (if_neg hout))
  · refine (row_on hs _).trans (congrArg _ ?_)
    unfold sliceEnd
    split
    next bt i rest m ht hm =>
      obtain rfl : n = m := Option.some.inj (hsl.symm.trans hm)
      exact if_pos (by simp [hst])
    next => rfl
  · intro x
    obtain ⟨u, hu, he, hk⟩ := sliceEnd_enters (s := s.begin) ht hsl hr ha hc r
    refine ⟨fun hne => ⟨_, row_on hs _, ?_⟩, fun hnil hok hn hop => ⟨_, row_on hs _, ?_⟩⟩
    · rw [he, if_neg (by simp [hne])]
      exact hu
    · obtain ⟨v, hk⟩ := hk hok
      have hslot : u.kernel.slot n = { s.kernel.slot n with percent := v } := by
        rw [hk]
        exact modSlot_slot hn _
      have hlen : n < u.kernel.slots.length := by
        rw [hk]
        simpa using hn
      obtain ⟨h1, h2, h3, h4⟩ := testDone_ends hlen (by rw [hslot]; exact hr ▸ rfl) (by rw [hslot]; exact hop)
      rw [he, if_pos (by simp [hnil])]
      rw [hu] at h2 h3 h4
      exact ⟨h2, h1, h3, h4⟩
  · have hv : ∀ m, (cvuKat n w s.begin).cvu m = _ := fun m => congrArg (·.getD m (Cvu.make 0 false 0 1 0)) (cvuKat_cvus hn w)
    have hown : (cvuKat n w s.begin).cvu n = _ := (hv n).trans (modCvu_cvu (s := s.begin) (hlen ▸ hn) _)
    refine ⟨_, row_on hs _, ?_, ?_, ?_, ?_, fun m hm => (hv m).trans (modCvu_cvu_ne s.begin hm _)⟩
    · rw [hown]
      rfl
    · rw [hown]
    · rw [hown]
      rfl
    · rw [hown]
      have ho : ∀ f p : Bool, ((f || !p) && !p) = !p := by decide
      exact (ho _ _).trans (decide_not).symm

end Sys2Proof.Machine
end

section
/-! PROOFS. The blocks of an image transfer (O59). -/
namespace Sys2Proof.Machine

/-! ## The transfer window -/

theorem window_some {s : State} {cl : Client} {t : Transfer} (h : s.window cl = some t) :
    t.client = cl ∧ t.writing = false ∧ t ∈ s.upd.transfers := by
  have hp := List.find?_some h
  simp only [Bool.and_eq_true, decide_eq_true_eq, Bool.not_eq_true'] at hp
  obtain ⟨⟨hc, hw⟩, -⟩ := hp
  exact ⟨hc, hw, List.mem_of_find?_eq_some h⟩

/-- No transfer of the client takes blocks (R401). -/
theorem window_none {s : State} {cl : Client}
    (h : ∀ t ∈ s.upd.transfers, t.client ≠ cl ∨ t.writing = true ∨ (s.kernel.slot t.slot).state = .suspended) :
    s.window cl = none := by
  refine List.find?_eq_none.mpr fun t ht hp => ?_
  simp only [Bool.and_eq_true, decide_eq_true_eq, Bool.not_eq_true', bne_iff_ne] at hp
  obtain ⟨⟨hc, hw⟩, hs⟩ := hp
  obtain h | h | h := h t ht
  · exact h hc
  · exact Bool.false_ne_true (hw.symm.trans h)
  · exact hs h

/-- Past its header a transfer grows by the block, and no header is judged again (R401, R402). -/
theorem appendBlock_upd {s : State} {t : Transfer} (h : 128 ≤ t.got.length) (data : List Byte) :
    (s.appendBlock t data).upd = s.upd.putTransfer { t with
      got := t.got ++ data, lastMs := s.svc.ms, writing := (t.got ++ data).length = t.len } := by
  unfold State.appendBlock
  extract_lets n at_ first n2 s2
  have hf : first = false := by
    have : ¬ t.got.length < at_ := by
      simp only [at_]
      omega
    simp [first, this]
  rw [hf]
  rfl

/-! ## The checks of a block -/

/-- An EXPERT's write fails on its length only, where its range is good (R301). -/
theorem check_expert_length {s : State} {cl : Client} (h : 2 ≤ (s.client cl).level) (lenOk : Bool) :
    (s.asked cl).check cl .expert lenOk true = if lenOk then none else some 0x06070010 := by
  have hl : ¬ (s.client cl).level < 2 := Nat.not_lt.mpr h
  cases lenOk <;> simp [State.check, Need.level, Need.lifeOk, Need.inPst, hl]

/-- What a block of a good length and offset comes to (R401). -/
theorem exec_blockWrite {s : State} {cl : Client} {offset : Nat} {data : List Byte} (hs : Supplied s)
    (hl : 2 ≤ (s.client cl).level) (ho : offset < 2 ^ 32) (h1 : 1 ≤ data.length) (hk : data.length ≤ 1024) :
    exec (.blockWrite cl offset data) s = .next ((s.window cl).elim ((s.asked cl).updRefuse cl 0x050A) fun t =>
      if offset = t.got.length && t.got.length + data.length ≤ t.len then ((s.asked cl).appendBlock t data).accept cl
      else if offset < t.got.length && slice t.got offset data.length == data then
        State.accept { s.asked cl with upd := s.upd.putTransfer { t with lastMs := s.svc.ms } } cl
      else (s.asked cl).updRefuse cl 0x050A) := by
  have hlen : (decide (1 ≤ data.length) && decide (data.length ≤ 1024) && decide (offset < 2 ^ 32)) = true := by
    simp only [Bool.and_eq_true, decide_eq_true_eq]
    exact ⟨⟨h1, hk⟩, ho⟩
  refine writeRow_on hs ((check_expert_length hl _).trans (if_pos hlen)) ?_
  rw [show (s.asked cl).window cl = s.window cl from rfl]
  cases s.window cl <;> rfl

/-- Settles O59: image blocks are taken in order. -/
theorem blocksAreTakenInOrder : Obligations.BlocksAreTakenInOrder := by
  intro s cl offset data hs hl ho h1 hk no
  have he := exec_blockWrite hs hl ho h1 hk
  refine ⟨fun h => ?_, fun t ht => ?_, fun n => ?_⟩
  · rw [he, window_none h]
    rfl
  · rw [ht, Option.elim_some] at he
    obtain ⟨hc, hw, hm⟩ := window_some ht
    refine ⟨fun heq hfit => ?_, fun heq hover => ?_, fun hlt hd => ?_, fun hgt => ?_, hc, hw, hm, fun h => appendBlock_upd h data⟩
    · exact he.trans (congrArg _ (if_pos (by simp [heq, hfit])))
    · exact he.trans (congrArg _ ((if_neg (by simp [hover])).trans (if_neg (by simp [heq]))))
    · exact he.trans (congrArg _ ((if_neg (by simp [Nat.ne_of_lt hlt])).trans (if_pos (by simp [hlt, hd]))))
    · exact he.trans (congrArg _ ((if_neg (by simp [Nat.ne_of_gt hgt])).trans (if_neg (by simp [Nat.not_lt_of_gt hgt]))))
  · rw [check_expert_length hl]
    simp only [h1, hk, decide_true, Bool.true_and, decide_eq_true_eq]

end Sys2Proof.Machine
end

section
/-! PROOFS. Written images, and the activation of a type (O60). -/
namespace Sys2Proof.Machine

/-! ## Images by their type and slot -/

theorem mod_img (u : Update) (t : ImageType) (f : Img → Img) : (u.mod t f).img t = f (u.img t) := by
  cases t <;> rfl

theorem mod_transfers (u : Update) (t : ImageType) (f : Img → Img) : (u.mod t f).transfers = u.transfers := by
  cases t <;> rfl

theorem modSlot_imgSlot (i : Img) (n : Nat) (f : ImgSlot → ImgSlot) : (i.modSlot n f).slot n = f (i.slot n) := by
  by_cases h : n = 0 <;> simp [Img.modSlot, Img.slot, h]

theorem withoutTransfer_img (u : Update) (n : Nat) (t : ImageType) : (u.withoutTransfer n).img t = u.img t := by
  cases t <;> rfl

theorem withoutTransfer_slots (u : Update) (n : Nat) : ∀ y ∈ (u.withoutTransfer n).transfers, y.slot ≠ n := fun y hy => by
  simpa using (List.mem_filter.mp hy).2

/-- A confirmed type has no activation left (R405). -/
theorem confirm_act (u : Update) (t : ImageType) : ((u.confirm t).img t).act = .none := by
  unfold Update.confirm
  extract_lets v d
  have hv : (v.img t).act = .none := congrArg Img.act (mod_img u t _)
  split
  · cases t
    case pst => exact hv
    all_goals exact hv
  · exact hv

/-! ## A slot that SVC ends -/

theorem finish_upd (s : State) (n : Nat) (st : SlotState) (result : Nat) (data : List Byte) :
    (s.finish n st result data).upd = s.upd := by
  obtain ⟨-, -, -, -, -, -, -, -, -, h, -⟩ := slotRecords_aside { s with kernel := s.kernel.finish n st result data }
  exact h

/-- A running slot that SVC ends stands in the state and with the result it ends with (R149, R364). -/
theorem finish_ends {s : State} {n : Nat} (hn : n < s.kernel.slots.length) (hr : (s.kernel.slot n).state = .running)
    (st : SlotState) (result : Nat) (data : List Byte) : ((s.finish n st result data).kernel.slot n).state = st
      ∧ ((s.finish n st result data).kernel.slot n).result = result := by
  obtain ⟨hs, -⟩ := slotRecords_slots { s with kernel := s.kernel.finish n st result data }
  have hslot : (s.finish n st result data).kernel.slot n = SlotSt.end_ st result data s.kernel.vital (s.kernel.slot n) :=
    (congrArg (·.getD n SlotSt.free) hs).trans (finish_slot hn (hr ▸ rfl) st result data)
  rw [hslot]
  exact ⟨rfl, rfl⟩

/-! ## The end of a transfer -/

section Written
variable {s : State} {t : Transfer} (hr : (s.kernel.slot t.slot).state = .running) (hn : t.slot < s.kernel.slots.length)
include hr hn

/-- An image that every package has written stands `UNCHECKED` in the inactive slot and is to be activated (R401, R403). -/
theorem writeComplete_staged (h : s.upd.transfers.find? (·.writing) = some t) {l : List SwReader} (hl : badPackages t.typ l = []) :
    (∀ y ∈ (writeComplete l s).upd.transfers, y.slot ≠ t.slot)
      ∧ (((writeComplete l s).upd.img t.typ).slot (s.upd.img t.typ).inactive).state = .unchecked
      ∧ (((writeComplete l s).upd.img t.typ).slot (s.upd.img t.typ).inactive).data = t.got
      ∧ ((writeComplete l s).upd.img t.typ).act = (if pstNat s.pst 0x2F80 1 0 = 0 then .pending else .staged)
      ∧ ((writeComplete l s).kernel.slot t.slot).state = .done ∧ ((writeComplete l s).kernel.slot t.slot).result = 0 := by
  simp only [writeComplete, h, hl, List.isEmpty_nil, if_true, finish_upd]
  refine ⟨?_, ?_, ?_, ?_, finish_ends (by exact hn) (by exact hr) ..⟩
  · exact fun y hy => withoutTransfer_slots s.upd t.slot y ((congrArg (y ∈ ·) (mod_transfers ..)).mp hy)
  all_goals simp only [State.cvuJob, State.modCvu, mod_img, withoutTransfer_img]
  · exact congrArg ImgSlot.state (modSlot_imgSlot ..)
  · exact congrArg ImgSlot.data (modSlot_imgSlot ..)

/-- An image that a package has not written leaves its slot without data (R402). -/
theorem writeComplete_failed (h : s.upd.transfers.find? (·.writing) = some t) {l : List SwReader} (hl : badPackages t.typ l ≠ []) :
    (∀ y ∈ (writeComplete l s).upd.transfers, y.slot ≠ t.slot)
      ∧ (((writeComplete l s).upd.img t.typ).slot (s.upd.img t.typ).inactive).data = []
      ∧ ((writeComplete l s).kernel.slot t.slot).state = .failed ∧ ((writeComplete l s).kernel.slot t.slot).result = 0x0507 := by
  have hb : (badPackages t.typ l).isEmpty = false := by simpa using hl
  simp only [writeComplete, h, hb, Bool.false_eq_true, if_false, finish_upd]
  refine ⟨?_, ?_, finish_ends (by exact hn) (by exact hr) ..⟩
  · exact fun y hy => withoutTransfer_slots s.upd t.slot y ((congrArg (y ∈ ·) (mod_transfers ..)).mp hy)
  · simp only [mod_img, withoutTransfer_img]
    exact congrArg ImgSlot.data (modSlot_imgSlot ..)

/-- A transfer that ends without an image is gone, and its slot ends with the code (R402). -/
theorem dropTransfer_ends (h : t ∈ s.upd.transfers) (st : SlotState) (code : Nat) :
    (∀ y ∈ (s.dropTransfer t.slot st code).upd.transfers, y.slot ≠ t.slot)
      ∧ ((s.dropTransfer t.slot st code).kernel.slot t.slot).state = st
      ∧ ((s.dropTransfer t.slot st code).kernel.slot t.slot).result = code := by
  unfold State.dropTransfer
  split
  next hnone => exact absurd (beq_self_eq_true t.slot) (List.find?_eq_none.mp hnone t h)
  next x hx =>
    rw [finish_upd]
    exact ⟨withoutTransfer_slots _ _, finish_ends (by exact hn) (by exact hr) ..⟩

end Written

/-! ## Confirming and withdrawing -/

theorem writeComplete_idle {s : State} (h : ∀ y ∈ s.upd.transfers, y.writing = false) (l : List SwReader) :
    writeComplete l s = s := by
  have hn : s.upd.transfers.find? (·.writing) = none := by
    simpa [List.find?_eq_none] using h
  simp only [writeComplete, hn]

section Confirm
variable {s : State} {cl : Client} {c : Byte} {t : ImageType} (hs : Supplied s) (hc : ImageType.ofCode c.toNat = some t)
  (hl : 2 ≤ (s.client cl).level)
include hs hc hl

theorem exec_imageConfirm : exec (.imageConfirm cl c) s =
    .next (if s.mstate == .run && (s.upd.img t).act == .unconfirmed then
      State.accept { s.asked cl with upd := s.upd.confirm t } cl else (s.asked cl).updRefuse cl 0x050B) := by
  refine writeRow_on hs (check_expert hl (by rw [hc]; rfl)) ?_
  simp only [hc]
  rfl

theorem exec_imageWithdraw : exec (.imageWithdraw cl c) s =
    .next (if (s.upd.img t).act = .staged ∨ (s.upd.img t).act = .pending then
      State.accept { s.asked cl with upd := s.upd.mod t fun i => { i with act := .none, event := 6 } } cl
      else (s.asked cl).updRefuse cl 0x050B) := by
  refine writeRow_on hs (check_expert hl (by rw [hc]; rfl)) ?_
  simp only [hc]
  rw [show ((s.asked cl).upd.img t).act = (s.upd.img t).act from rfl]
  cases (s.upd.img t).act <;> rfl

end Confirm

/-- The row of the confirmation by time (R405), over the state itself. -/
theorem exec_autoConfirm {s : State} (hs : Supplied s) (t : ImageType) : exec (.autoConfirm t) s =
    .next (if s.mstate == .run && pstNat s.pst 0x2F80 2 0 != 0 && decide (pstNat s.pst 0x2F80 2 0 * 3600000 ≤ s.upd.runMs)
        && (s.upd.img t).act == .unconfirmed then { s.begin with upd := s.upd.confirm t } else s.begin) :=
  row_on hs _

/-- The oldest transfer that takes blocks and has had none for 60 s ends (R402). -/
theorem exec_transferIdle {s : State} (hs : Supplied s) : exec .transferIdle s =
    .next ((s.upd.transfers.find? fun y => !y.writing && y.lastMs + 60000 ≤ s.svc.ms).elim s.begin fun t =>
      s.begin.dropTransfer t.slot .failed 0x0509) := by
  refine (row_on hs _).trans (congrArg _ ?_)
  generalize hx : (s.upd.transfers.find? fun y => !y.writing && decide (y.lastMs + 60000 ≤ s.svc.ms)) = x
  rw [show (s.begin.upd.transfers.find? fun y => !y.writing && decide (y.lastMs + 60000 ≤ s.begin.svc.ms)) = x from hx]
  cases x <;> rfl

/-- Settles O60: images are staged and confirmed. -/
theorem imagesAreStagedAndConfirmed : Obligations.ImagesAreStagedAndConfirmed := by
  refine ⟨fun s t hs hr hn => ⟨fun h => ⟨fun l hl => ?_, fun l hl => ?_⟩, fun h l => ?_, fun h => ?_, fun h => ?_⟩,
    fun s cl c t hs hc => ?_⟩
  · exact ⟨_, row_on hs _, writeComplete_staged (s := s.begin) hr hn h hl⟩
  · exact ⟨_, row_on hs _, writeComplete_failed (s := s.begin) hr hn h hl⟩
  · exact (row_on hs _).trans (congrArg _ (writeComplete_idle (s := s.begin) h l))
  · exact ⟨_, (exec_transferIdle hs).trans (by rw [h, Option.elim_some]),
      dropTransfer_ends (s := s.begin) hr hn (List.mem_of_find?_eq_some h) .failed 0x0509⟩
  · have hnone : s.upd.transfers.find? (fun y => !y.writing && y.lastMs + 60000 ≤ s.svc.ms) = none := by
      refine List.find?_eq_none.mpr fun y hy hp => ?_
      simp only [Bool.and_eq_true, Bool.not_eq_true', decide_eq_true_eq] at hp
      obtain ⟨hw, hm⟩ := hp
      obtain h | h := h y hy
      · exact Bool.false_ne_true (hw.symm.trans h)
      · omega
    rw [exec_transferIdle hs, hnone, Option.elim_none]
  · intro no
    refine ⟨fun hl => ⟨fun hm ha => ?_, fun h => ?_, fun h => ?_, fun h1 h2 => ?_⟩, confirm_act s.upd t, fun hm h0 hd ha => ?_,
      fun h0 => ?_⟩
    · exact (exec_imageConfirm hs hc hl).trans (congrArg _ (if_pos (by simp [hm, ha])))
    · refine (exec_imageConfirm hs hc hl).trans (congrArg _ (if_neg fun hb => ?_))
      simp only [Bool.and_eq_true, beq_iff_eq] at hb
      obtain ⟨hm, ha⟩ := hb
      exact h.elim (· hm) (· ha)
    · exact (exec_imageWithdraw hs hc hl).trans (congrArg _ (if_pos h))
    · exact (exec_imageWithdraw hs hc hl).trans (congrArg _ (if_neg (not_or.mpr ⟨h1, h2⟩)))
    · exact (exec_autoConfirm hs t).trans (congrArg _ (if_pos (by simp [hm, h0, hd, ha])))
    · exact (exec_autoConfirm hs t).trans (congrArg _ (if_neg (by simp [h0])))

end Sys2Proof.Machine
end
